-- ==== Sys2Proof/Word.lean ====
section
/-!
DEFINITION. The word types. A byte of memory, of scratch or of a frame is 8 bits (R9: multi-byte fields are
little-endian). Register fields are natural numbers below two to the field's width (log entry 1): the register store cuts
every value to its field's width when it is written.
-/
namespace Sys2Proof

/-- A byte. -/
abbrev Byte := BitVec 8

end Sys2Proof
end

