-- ==== Sys2Proof/Syntax.lean ====
section
/-!
DEFINITION. The commands of the block: one constructor for each row of spec/opcode_table.json, with the operands that the
row's rule gives it. A command is a happening at the module's edge or at one of its blocks: a register or doorbell
write or read, a frame received, an event on a pin, a tile that runs, a timer that expires. Operands carry what the
module does not decide itself: who issues the command, the values written, the contents of a frame, a measurement.
-/
namespace Sys2Proof

/-- R12: who accesses the register space: a tether session, a gondola hart, or the keel. -/
inductive Reader where
  | session (n : Nat)
  | hart (n : Nat)
  | keel
  deriving DecidableEq, Repr

/-- The number of a reader's own copy of the per-reader registers (R12, R273, R417, R443): sessions 0 to 63, harts 64 to
127, the keel 128. -/
def Reader.num : Reader → Nat
  | .session n => n
  | .hart n => 64 + n
  | .keel => 128

/-- R258: the agents that can wait on a tally: a cluster's task slot, a vector tile running on a cluster (R265), a Weavin
plan, a gondola hart, a sampler unit, a context of the sequencer. -/
inductive Agent where
  | taskSlot (cluster slot : Nat)
  | vector (cluster : Nat)
  | plan (engine plan : Nat)
  | hart (n : Nat)
  | sampler (u : Nat)
  | sequencer (ctx : Nat)
  deriving DecidableEq, Repr

/-- The processors that run the KC instructions (R109, R264): the vector unit of a cluster, or a gondola hart. -/
inductive CoreId where
  | vector (cluster : Nat)
  | hart (n : Nat)
  deriving DecidableEq, Repr

/-- What standard RISC-V instructions of a processor did between two happenings of the block (R36, R109): the spec names the
standard and not its instructions, so their effect comes with the command (log entry 48). Register writes are (number, value);
loads are (address, bytes read), stores (address, bytes written); `pc` is where execution stands. `bad` is an illegal instruction
or a misaligned access. -/
structure CoreEffect where
  pc : Nat
  x : List (Nat × Nat)
  f : List (Nat × Nat)
  v : List (Nat × Nat)
  vl : Nat
  vstart : Nat
  sew : Nat
  lmul : Nat
  cycles : Nat
  loads : List (Nat × Nat)
  stores : List (Nat × List Byte)
  bad : Bool
  deriving DecidableEq, Repr


/-- An entry (R316): its epoch, term, kind, proposer and body. -/
structure LedgerEntry where
  epoch : Nat
  term : Nat
  kind : Nat
  proposer : Nat
  body : List Byte
  deriving DecidableEq, Repr

/-- R297: why a lane is removed: it lost signal, lock or alignment; the corrected symbols of its 10 ms window; or the uncorrectable codewords it
delivered within 1 s. -/
inductive LaneFault where
  | lost
  | corrected (symbols : Nat)
  | uncorrectable (codewords : Nat)
  deriving DecidableEq, Repr

/-- R297: a lane and its fault. -/
structure FaultyLane where
  lane : Nat
  fault : LaneFault
  deriving DecidableEq, Repr

/-- What a ledger frame says: the spec gives these messages and not their bytes (log entry 44). -/
inductive LedgerMsg where
  /-- A proposal to the lead: kind and body. -/
  | proposal (kind : Nat) (body : List Byte)
  /-- The lead sends an entry to a steward, and a steward's acknowledgement: epoch and term. -/
  | store (e : LedgerEntry)
  | stored (epoch term : Nat)
  /-- A committed entry on its way down the distribution tree. -/
  | committed (e : LedgerEntry)
  /-- A request for the epochs from a first one on, to the parent; and the snapshot that may answer it: the member table as (member,
  state, identity hash, feed tag, manifest hash, epoch), the accepted set and the stewards. -/
  | request (first : Nat)
  | snapshot (epoch : Nat) (members : List (Nat × Nat × Nat × Nat × Nat × Nat)) (accepted stewards : List Nat)
  | keepAlive (term committed : Nat)
  /-- A candidate's request for a vote: term, and its last stored entry's term and epoch; and the grant. -/
  | voteRequest (term lastTerm lastEpoch : Nat)
  | voteGrant (term : Nat)
  /-- The lead refuses a proposal of a kind. -/
  | refused (kind : Nat)
  | barrierAnswer (epoch : Nat)
  /-- A candidate's hail, forwarded to the lead, and the lead's refusal of it. -/
  | hail (bytes : List Byte)
  | ground (idhash status : Nat)
  /-- Reports to the lead: risk level, run step, role and mirror (log entry 59); silence of a member; DONE; REWOUND; the replay's comparison (0 no comparison,
  1 match, 2 mismatch); the loss of staging; the heir's refusal. -/
  | risk (level runstep role : Nat) (mirror : Option Nat)
  | late (runstep : Nat)
  | silence (m : Nat)
  | probe (m : Nat)
  | done (step : Nat)
  | rewound
  | replayed (result : Nat)
  | stagingLost
  | heirLayout
  deriving DecidableEq, Repr

/-- R278, R287: an error in what a command reads, at a physical address: n bad symbols of a near granule (one is corrected, more are detected); data
from a wrong address, which is detected; or poison received for the 64-byte block at a CXL address. -/
inductive EccError where
  | symbols (n : Nat)
  | address
  | cxl
  deriving DecidableEq, Repr

/-- R287: a device found on a CXL port: it is a Type 3 device of a single logical device; the link's lanes and speed code; its capacity in units
of 2 MiB. -/
structure CxlDevice where
  type3 : Bool
  width : Nat
  speed : Nat
  units : Nat
  deriving DecidableEq, Repr

/-- R233: what the source of a COPY from another module answers: its rows' bytes followed by its scale rows, or why there are none. The spec gives
a read no frame of its own (log entry 55). -/
inductive RemoteRead where
  | data (bytes : List Byte)
  | refused
  | unmapped
  | access
  | uncorrectable
  deriving DecidableEq, Repr

/-- R37, R38, R166, R194: what a LEAD's boundary sends to a FOLLOWER (log entry 53): changed entries by table index, each with its 64 bytes (R146)
but for the deadline, and the budget that remains to its deadline (all ones: none); the manifest (R153; empty at an idle boundary), prefix handles
issued with the table index of their sequence, and released. -/
structure GroupUpdate where
  changes : List (Nat × List Byte × Nat)
  manifest : List Byte
  issues : List (Nat × Nat)
  releases : List Nat
  deriving DecidableEq, Repr

/-- R328: what the health monitor measures: corrected FEC symbols in 10 ms and the eye margin (SPN_MARGIN's code) of lanes, as (span, lane,
symbols, margin); each span's symbols corrected since the last evaluation; the least margin of any island to its throttle temperature and to
thermal trip, and the coolant inlet, in °C; whether an island throttles; and the input's voltage in mV and power in W. -/
structure HealthSample where
  lanes : List (Nat × Nat × Nat × Nat)
  corrected : List (Nat × Nat)
  therm : Nat
  trip : Nat
  inlet : Nat
  throttling : Bool
  vin : Nat
  pin : Nat
  deriving DecidableEq, Repr

/-- An operand of a command that reads near memory or the CXL tier, with the errors that these reads find, each at a physical address (R278 to R280,
R287). -/
structure Met (α : Type) where
  op : α
  ecc : List (Nat × EccError)
  deriving DecidableEq, Repr

/-- R44: what a gondola core accesses: a load of n bytes to an integer or a floating-point register, with or without sign extension; a store of n bytes;
the fetch of an instruction's n bytes; a read of the RISC-V `time` counter to an integer register (R35). -/
inductive HartAccess where
  | load (float : Bool) (rd n : Nat) (signed : Bool)
  | store (n v : Nat)
  | fetch (n : Nat)
  | time (rd : Nat)
  deriving DecidableEq, Repr

/-- The commands: one constructor for each row of the table. -/
inductive Instr where
  /-- REGISTER_WRITE (R14): A write to a register field that has no row of its own takes effect according to its access code. -/
  | registerWrite (rdr : Reader) (bell : Bool) (addr : Nat) (w : Nat)
  /-- LOW_WORD_READ (R12): A read of the low word of a 64-bit register replaces the reader's capture with the current high word. -/
  | lowWordRead (rdr : Reader) (addr : Nat)
  /-- HIGH_WORD_READ (R12): A read of the high word returns and uses up the reader's capture, or returns the current high word when there is no capture. -/
  | highWordRead (rdr : Reader) (addr : Nat)
  /-- PAGE_STATUS_READ (R462): A read of PAGE_STATUS that returns DEFAULTED as 1 clears that bit for every reader. -/
  | pageStatusRead (rdr : Reader) (page : Nat)
  /-- ERR_VALID_CLEAR (R472): Writing 1 to ERR_VALID clears ERR_CODE and ERR_INFO. -/
  | errValidClear (rdr : Reader) (page : Nat)
  /-- EVT_PENDING_CLEAR (R473): Writing 1s to EVT_PENDING clears the summary bits; it delivers and withdraws nothing. -/
  | evtPendingClear (rdr : Reader) (page : Nat) (v : Nat)
  /-- COMMIT (R381): Writing COMMIT to CFG_COMMIT commits the page's shadows at a new configuration epoch after the checks of R382. -/
  | commit (rdr : Reader) (page : Nat)
  /-- STAGE (R381): Writing STAGE adds the page to the module's staged set. -/
  | stage (rdr : Reader) (page : Nat)
  /-- DISCARD (R381): Writing DISCARD restores the shadows to their last committed values and removes the page from the staged set. -/
  | discard (rdr : Reader) (page : Nat)
  /-- COMMIT_STAGED (R381): Writing COMMIT_STAGED on page 0x0000 commits every staged page at one epoch, or commits none of them. -/
  | commitStaged (rdr : Reader)
  /-- EPOCH_ADOPT (R383): An affected island adopts a committed epoch at its next boundary; BUSY clears and CFG_EPOCH advances once every affected island has adopted it. -/
  | epochAdopt (isl : Nat) (ctx : Option Nat)
  /-- FREQUENCY_CHANGE (R22): A governor changes a variable island's frequency, and the change completes within 2 µs without stopping the island. -/
  | frequencyChange (isl : Nat) (freq : Nat) (volt : Nat)
  /-- DEVTIME_REF_FAULT (R36): The reference oscillator differs from the monitor oscillator by more than 1,000 ppm for 100 µs; the hub raises the status and device time runs from the monitor. -/
  | devtimeRefFault
  /-- DEVTIME_WRAP (R33): Device time passes 0xFFFF_FFFF_FFFF_FFFF and wraps to zero. -/
  | devtimeWrap
  /-- TASK_ENTRY_TAKE (R370): The module takes a TASK entry from a tile-work ring after its tail is published, reserving a completion slot if COMPLETE is set. -/
  | taskEntryTake (ring : Nat) (ecc : List (Nat × EccError))
  /-- TASK_PLACE (R83): A waiting task is placed on the lowest-numbered unfenced cluster of its mask whose slot for its context is empty. -/
  | taskPlace (ctx : Nat)
  /-- TILE_BOUNDARY (R114): At a tile boundary the cluster chooses a ready chain tile by weighted issue, or else the head of a deferred queue. -/
  | tileBoundary (clu : Nat) (ecc : List (Nat × EccError))
  /-- DEFERRED_TILE_RUN (R114): The head entry of a deferred queue runs on its cluster when no chain tile is ready. -/
  | deferredTileRun (clu : Nat) (ecc : List (Nat × EccError))
  /-- MATMUL (R92): A MATMUL tile runs its matrix product into an accumulator slot or half. -/
  | matmul (clu : Nat) (stop : Option Nat) (ecc : List (Nat × EccError))
  /-- ATTN (R184): An ATTN tile appends new keys and values, attends over the sequence's pages, updates scores and drains. -/
  | attn (clu : Nat) (stop : Option Nat) (ecc : List (Nat × EccError))
  /-- COPY_IN (R87): A COPY_IN tile copies rows from memory to scratch and may build a zero-block bitmap. -/
  | copyIn (clu : Nat) (ecc : List (Nat × EccError))
  /-- COPY_OUT (R87): A COPY_OUT tile copies rows from scratch to memory. -/
  | copyOut (clu : Nat) (ecc : List (Nat × EccError))
  /-- VECTOR (R109): A VECTOR tile runs a program on the vector unit from TD_AUX. -/
  | vector (clu : Nat) (eff : CoreEffect) (ecc : List (Nat × EccError))
  /-- TALLY_TILE (R87): A TALLY tile performs one tally SIGNAL, WAIT or TAKE, holding only its task slot. -/
  | tallyTile (clu : Nat) (slot : Nat)
  /-- FENCE_TILE (R87): A FENCE tile performs a fence under R28. -/
  | fenceTile (clu : Nat)
  /-- TILE_COMPLETE (R88): A tile completes: its writes are committed, TD_DONE is written, and it signals its tally if asked. -/
  | tileComplete (clu : Nat) (slot : Met (Option Nat))
  /-- EPILOGUE_DRAIN (R62): The epilogue converts a handed-over accumulator through steps 0–6 into the output format. -/
  | epilogueDrain (clu : Nat) (ecc : List (Nat × EccError))
  /-- CLU_FENCE_REQ (R111): Session 0 writes 1 to CLU_FENCE_REQ and the cluster is fenced at once. -/
  | cluFenceReq (rdr : Reader) (clu : Nat) (v : Nat)
  /-- CLU_VEC_TIMEOUT (R85): A VECTOR tile exceeding 262,144 cycles ends with CLU_VEC_TIMEOUT. -/
  | cluVecTimeout (clu : Nat)
  /-- VECTOR_ECALL (R109): ECALL ends the vector program; the tile completes if a0 is zero and fails with CLU_VEC_FAULT otherwise.
  `illegal`: the word of an illegal instruction in place of the ECALL. -/
  | vectorEcall (clu : Nat) (illegal : Option Nat)
  /-- KC_DACTCFG (R123): KC.DACTCFG loads and checks a 16-byte derivative descriptor. -/
  | kcDactcfg (clu : Nat) (rs1 : Nat) (cyc : Nat)
  /-- KC_VDACT (R124): KC.VDACT forms activation derivatives from incoming gradients and kept items. -/
  | kcVdact (clu : Nat) (vd : Nat) (rs1 : Nat) (vs2 : Nat) (rs2 : Nat)
  /-- KC_VDACTG (R124): KC.VDACTG forms gate and value derivatives for gated activations. -/
  | kcVdactg (clu : Nat) (vd : Nat) (rs1 : Nat) (vs2 : Nat) (rs2 : Nat)
  /-- KC_VRANDB (R211): KC.VRANDB writes uniform random bits into vector elements. -/
  | kcVrandb (clu : Nat) (vd : Nat)
  /-- KC_VRANDF (R211): KC.VRANDF writes FP32 uniforms into vector elements. -/
  | kcVrandf (clu : Nat) (vd : Nat)
  /-- KC_VRANDO (R211): KC.VRANDO writes FP32 open uniforms into vector elements. -/
  | kcVrando (clu : Nat) (vd : Nat)
  /-- KC_VRANDH (R211): KC.VRANDH writes BF16 uniforms into vector elements. -/
  | kcVrandh (clu : Nat) (vd : Nat)
  /-- KC_TSIGNAL (R264): KC.TSIGNAL signals a virtual tally and returns the status in rd. -/
  | kcTsignal (core : CoreId) (rd : Nat) (rs1 : Nat) (rs2 : Nat)
  /-- KC_TWAIT (R265): KC.TWAIT waits on a virtual tally, holding its agent until the wait completes. -/
  | kcTwait (core : CoreId) (rd : Nat) (rs1 : Nat) (rs2 : Nat)
  /-- KC_TTAKE (R264): KC.TTAKE subtracts from a virtual tally and returns the status in rd. -/
  | kcTtake (core : CoreId) (rd : Nat) (rs1 : Nat) (rs2 : Nat)
  /-- KC_TREAD (R264): KC.TREAD returns a tally's value, or a failure status, in rd. -/
  | kcTread (core : CoreId) (rd : Nat) (rs1 : Nat)
  /-- TWAIT_WITHDRAW (R265): An interrupt taken by a waiting gondola hart withdraws its KC.TWAIT from the queue. -/
  | twaitWithdraw (hart : Nat) (cause : Nat) (handler : Nat)
  /-- UPDATE_ENTRY_TAKE (R126): The module takes an UPDATE entry from a transfer ring and starts its descriptor chain. -/
  | updateEntryTake (ring : Nat) (ecc : List (Nat × EccError))
  /-- NORM (R135): A NORM descriptor sums the squared scaled gradients into a norm record with its non-finite flag. -/
  | norm (chain : Nat) (ecc : List (Nat × EccError))
  /-- ADAMW (R132): An ADAMW descriptor updates master weights and both moments and writes the working and generation copies. -/
  | adamw (chain : Nat) (ecc : List (Nat × EccError))
  /-- LION (R132): A LION descriptor updates master weights and momentum and writes the copies. -/
  | lion (chain : Nat) (ecc : List (Nat × EccError))
  /-- SGDM (R132): An SGDM descriptor updates master weights and momentum and writes the copies. -/
  | sgdm (chain : Nat) (ecc : List (Nat × EccError))
  /-- CONVERT (R133): A CONVERT descriptor rewrites the working and generation copies from the existing master. -/
  | convert (chain : Nat) (ecc : List (Nat × EccError))
  /-- STEP_CLOSE (R137): A STEP_CLOSE descriptor reads the reduced norm record and updates the step, skip and loss-scale registers as one update. -/
  | stepClose (chain : Nat) (ecc : List (Nat × EccError))
  /-- UPDATE_CHUNK (R127): An update unit processes one 4,096-element chunk of a descriptor. -/
  | updateChunk (chain : Nat) (ecc : List (Nat × EccError))
  /-- UPDATE_DESC_COMPLETE (R127): A descriptor completes when every chunk's writes are committed; it writes back UD_STEP and signals its tally. -/
  | updateDescComplete (chain : Nat)
  /-- LRN_LSINIT (R139): Writing LRN_LSINIT restores the starting loss scale for the current LRN_LSEN. -/
  | lrnLsinit (rdr : Reader) (ctx : Nat) (v : Nat)
  /-- LRN_NFSET (R134): Writing LRN_NFSET sets the context's pending non-finite flag. -/
  | lrnNfset (rdr : Reader) (ctx : Nat) (v : Nat)
  /-- SECURE_CAPTURE (R333): In the STEP_CLOSE after a securing step, dirty blocks, the learning block and loss-log entries are copied to staging. -/
  | secureCapture
  /-- SUBMIT (R148): A SUBMIT is checked and, if accepted, takes a FREE entry as QUEUED and is acknowledged with a handle. -/
  | submit (ring : Nat) (ecc : List (Nat × EccError))
  /-- CANCEL (R160): A CANCEL is read, sets SQ_CANCELPEND and is applied at the next boundary. -/
  | cancel (ring : Met Nat)
  /-- PAUSE (R160): A PAUSE is read and applied to the sequence at the next boundary. -/
  | pause (ring : Met Nat)
  /-- RESUME (R160): A RESUME is read and applied to a PAUSED sequence at the next boundary. -/
  | resume (ring : Met Nat)
  /-- RELEASE (R160): A RELEASE returns a DONE sequence to FREE at the next boundary and releases its pages. -/
  | release (ring : Met Nat)
  /-- LOAD_STOPSET (R164): LOAD_STOPSET reads a 1,088-byte stop-set image into a stop set. -/
  | loadStopset (ring : Met Nat)
  /-- SEQ_ENTRY_KIND (R147): A submission entry of a reserved kind is acknowledged with SEQ_ENTRY_KIND. -/
  | seqEntryKind (ring : Met Nat)
  /-- STEP_TALLY_DONE (R152): The sequencer's wait on SEQ_STEPTALLY completes and it hands the sampled rows to the samplers. -/
  | stepTallyDone (ctx : Nat)
  /-- STEP_BOUNDARY (R157): With every sampled token returned, the sequencer appends tokens, retires, applies commands, reserves and admits, writes records and starts the next step. -/
  | stepBoundary (ctx : Nat) (upd : Met (Option GroupUpdate))
  /-- IDLE_BOUNDARY (R152): A context with an empty batch performs a boundary within 2 µs of a command, a fill or a deadline. -/
  | idleBoundary (ctx : Met Nat)
  /-- HELD_STEP_RESUME (R149): When ring space appears, the held records are written and the step starts. -/
  | heldStepResume (ctx : Met Nat)
  /-- FOLLOWER_REPORT (R167): The LEAD receives a FOLLOWER's F and freed pages for the boundary. -/
  | followerReport (ctx : Nat) (member : Nat) (room : Nat) (freed : Nat)
  /-- FOLLOWER_REPORT_TIMEOUT (R167): A FOLLOWER report missing 20 ms after the LEAD's step tally is treated as a loss. -/
  | followerReportTimeout (ctx : Nat)
  /-- MIRROR_CONFIRMED (R348): Once the mirror confirms a boundary's writes, the mirrored LEAD writes that boundary's stream and completion records. -/
  | mirrorConfirmed (ctx : Met Nat)
  /-- LIST_CHANGES_COMMIT (R181): Once a boundary's list changes are committed, the allocator signals KV_LISTTALLY. -/
  | listChangesCommit (ctx : Nat)
  /-- KV_PFXREL (R194): Writing a handle to KV_PFXREL releases it at once and frees its list pages. -/
  | kvPfxrel (rdr : Reader) (ctx : Nat) (v : Met Nat)
  /-- COW_WAIT (R191): A tile that finds a head's copy started waits until its KM_COWDONE bit is set. -/
  | cowWait (clu : Nat)
  /-- SPILL_COMPLETE (R198): A page spill completes; the entry names the far page and the near reference drops. -/
  | spillComplete (idx : Nat) (entry : Met Nat)
  /-- FILL_COMPLETE (R198): A fill completes and frees the far pages, so the sequence can rejoin at the next boundary. -/
  | fillComplete (idx : Nat) (entry : Met Nat)
  /-- SAMPLER_ROW (R216): A sampler unit streams one row of logits, keeps candidates and draws the token, or sends candidates on a FOLLOWER. -/
  | samplerRow (u : Nat) (ctx : Nat) (row : Nat) (ecc : List (Nat × EccError))
  /-- SAMPLER_MERGE (R222): Once SMP_MERGETALLY reaches its count, the LEAD merges each row over every shard and draws. -/
  | samplerMerge (ctx : Nat) (ecc : List (Nat × EccError))
  /-- SMP_FENCE_REQ (R214): Session 0 writes SMP_FENCE_REQ and the sampler unit is fenced. -/
  | smpFenceReq (rdr : Reader) (u : Nat) (v : Nat)
  /-- WEAVE_PLAN_START (R228): A WEAVE plan starts when its engine has room; its header is checked and its epoch compared. -/
  | weavePlanStart (ring : Met Nat)
  /-- NOP (R232): A NOP entry does nothing and completes at issue. -/
  | nop (eng : Nat) (plan : Nat)
  /-- COPY (R235): A COPY entry moves the source to each destination with permutation and conversion. -/
  | copy (eng : Nat) (plan : Nat) (rem : RemoteRead) (ecc : List (Nat × EccError))
  /-- ACCUM (R237): An ACCUM entry adds the converted source into each destination. -/
  | accum (eng : Nat) (plan : Nat) (ecc : List (Nat × EccError))
  /-- WEAVE_WAIT (R232): A WAIT entry waits locally on a tally, and no later entry issues until it completes. -/
  | weaveWait (eng : Nat) (plan : Nat)
  /-- WEAVE_SIGNAL (R232): A SIGNAL entry signals a local tally, or a remote tally as a bare signal. -/
  | weaveSignal (eng : Nat) (plan : Nat)
  /-- DISPATCH (R240): A DISPATCH entry sends an expert's assigned token rows with side records to one destination. -/
  | dispatch (eng : Nat) (plan : Nat) (ecc : List (Nat × EccError))
  /-- COMBINE (R241): A COMBINE entry scales expert output rows by their weights and adds them into the token rows. -/
  | combine (eng : Nat) (plan : Nat) (ecc : List (Nat × EccError))
  /-- MANIFEST (R246): A MANIFEST entry stores, verifies and binds a weight-set manifest to a manifest slot. -/
  | manifest (eng : Nat) (plan : Nat) (ecc : List (Nat × EccError))
  /-- LOAD (R247): A LOAD entry decrypts one chunk, checks its tag and hash, and zeroes the destination on failure. -/
  | load (eng : Nat) (plan : Nat) (ecc : List (Nat × EccError))
  /-- WEAVE_ENTRY_COMPLETE (R229): An entry completes when its local writes are committed and every remote destination has confirmed. -/
  | weaveEntryComplete (eng : Nat) (plan : Nat) (idx : Nat)
  /-- WEAVE_PLAN_COMPLETE (R229): A plan completes: WP_DONETALLY is signalled and the transfer-ring completion is written. -/
  | weavePlanComplete (eng : Nat) (plan : Nat)
  /-- TALLY_SIGNAL (R255): A bank adds n to a tally and then serves queued waiters. -/
  | tallySignal (isl : Nat) (ctx : Nat) (vid : Nat) (n : Nat) (foreign : Bool)
  /-- TALLY_WAIT (R255): A bank completes a WAIT whose n the value covers, or queues it. -/
  | tallyWait (isl : Nat) (ctx : Nat) (vid : Nat) (n : Nat) (a : Agent)
  /-- TALLY_TAKE (R255): A bank subtracts n from a tally, or fails with TALLY_UNDERFLOW. -/
  | tallyTake (isl : Nat) (ctx : Nat) (vid : Nat) (n : Nat)
  /-- TALLY_READ (R255): A bank returns a tally's value. -/
  | tallyRead (isl : Nat) (ctx : Nat) (vid : Nat)
  /-- TALLY_WAIT_RETRY (R263): A failed sequencer, allocator or sampler wait is tried again every 1 ms. -/
  | tallyWaitRetry (a : Agent)
  /-- TLY_MAP (R261): The MAP command maps a range of virtual IDs to free physical tallies. -/
  | tlyMap (rdr : Reader)
  /-- TLY_UNMAP (R261): The UNMAP command returns a range's tallies to their bank. -/
  | tlyUnmap (rdr : Reader)
  /-- TLY_SET (R255): The SET command sets a tally's value and serves its waiters. -/
  | tlySet (rdr : Reader)
  /-- TLY_SIGNAL (R273): The SIGNAL command signals a tally from a session or hart. -/
  | tlySignal (rdr : Reader)
  /-- TLY_READ (R273): The READ command returns a tally's value in TLY_CMDVALUE. -/
  | tlyRead (rdr : Reader)
  /-- SCRUB_PASS (R282): A channel's scrubber reads its local addresses in order, treating errors as any reader does. -/
  | scrubPass (ch : Nat) (ecc : List (Nat × EccError))
  /-- COUNTING_WINDOW_START (R282): A counting window starts, resetting frame error counts and MEM_POISONED and starting a scrub pass. -/
  | countingWindowStart
  /-- FRAME_RETIRE_COMPLETE (R283): The copy completes, the frame pair enters the redirect table, and later accesses reach the new frame. -/
  | frameRetireComplete (frame : Met Nat)
  /-- MEM_FENCE_REQ (R286): Session 0 writes MEM_FENCE_REQ and the channel is fenced. -/
  | memFenceReq (rdr : Reader) (ch : Nat) (v : Nat)
  /-- MEM_RETRAIN (R384): A memory channel holds its requests for at most 50 µs while it retrains, then serves them in order. -/
  | memRetrain (ch : Nat) (ok : Bool)
  /-- CXL_LINK_UP (R287): A CXL link trains with a Type 3 device, or the port stays DISABLED or EMPTY. -/
  | cxlLinkUp (port : Nat) (dev : Option CxlDevice)
  /-- CXL_LINK_DOWN (R289): A CXL link goes down: accesses fail, pages on the port are lost, and the monitor is informed. -/
  | cxlLinkDown (port : Nat)
  /-- CXL_ENABLE (R289): Session 0 writes CXL_ENABLE to let in a device found after link loss. -/
  | cxlEnable (rdr : Reader) (port : Nat) (v : Nat)
  /-- SPAN_LIGHT (R307): Light appears on a span, and it enters TRAINING. -/
  | spanLight (n : Nat)
  /-- SPAN_FEC_LOCK (R307): A span achieves FEC lock and enters HAILING. -/
  | spanFecLock (n : Nat) (lanes : Nat)
  /-- SPAN_DARK (R307): After 1 ms without light or lock on every lane, a span goes DARK and its unacknowledged entries fail. -/
  | spanDark (n : Nat)
  /-- LANE_REMOVE (R297): A faulty lane is removed and the span enters DRAINING to retrain. -/
  | laneRemove (n : Nat) (lane : FaultyLane)
  /-- SPAN_RETRAIN_DONE (R297): The span finishes retraining, replays unacknowledged frames and returns UP at the new width. -/
  | spanRetrainDone (n : Nat)
  /-- SPAN_SILENT (R310): An UP span with no frame for 1 ms becomes SILENT. -/
  | spanSilent (n : Nat)
  /-- SPAN_HAIL_RETRY (R307): A REFUSED span repeats its HAIL every 1 s. -/
  | spanHailRetry (n : Nat)
  /-- HEARTBEAT_SEND (R312): Every UP span sends a HEARTBEAT every 250 µs. -/
  | heartbeatSend (n : Nat)
  /-- SPAN_LINK_FRAME (R300): A received LINK frame returns credits and may NAK, prompting a replay. -/
  | spanLinkFrame (n : Nat) (bytes : List Byte) (bad : Bool)
  /-- SPAN_DATA_FRAME (R239): A received DATA frame is checked, committed or forwarded, and counted toward its entry's total. -/
  | spanDataFrame (n : Nat) (bytes : List Byte) (bad : Bool) (ecc : List (Nat × EccError))
  /-- SPAN_SIGNAL_FRAME (R266): A received bare remote SIGNAL is checked and applied once. -/
  | spanSignalFrame (n : Nat) (bytes : List Byte) (bad : Bool)
  /-- SPAN_CONFIRM_FRAME (R233): A received CONFIRM reports commitment, or signal failure, of a remote write. -/
  | spanConfirmFrame (n : Nat) (bytes : List Byte) (bad : Bool)
  /-- SPAN_NOTICE_FRAME (R304): A NOTICE fails the originating entry with SPN_NO_ROUTE. -/
  | spanNoticeFrame (n : Nat) (bytes : List Byte) (bad : Bool)
  /-- SPAN_HEARTBEAT_FRAME (R312): A received HEARTBEAT gives the neighbour's risk level and epoch. -/
  | spanHeartbeatFrame (n : Nat) (bytes : List Byte) (bad : Bool)
  /-- SPAN_HAIL_FRAME (R308): A received HAIL prompts a HAIL_PROOF in reply. -/
  | spanHailFrame (n : Nat) (bytes : List Byte) (bad : Bool)
  /-- SPAN_HAIL_PROOF_FRAME (R308): A received HAIL_PROOF is checked; keys are derived and the span goes UP, or it is REFUSED. -/
  | spanHailProofFrame (n : Nat) (bytes : List Byte) (bad : Bool)
  /-- SPAN_KEY_UPDATE_FRAME (R303): A received KEY_UPDATE announces the next key phase on the link. -/
  | spanKeyUpdateFrame (n : Nat) (bytes : List Byte) (bad : Bool)
  /-- SPAN_LEDGER_FRAME (R317): A received LEDGER frame carries a proposal, entry, acknowledgement, vote or report to the ledger firmware. -/
  | spanLedgerFrame (n : Nat) (bytes : List Byte) (bad : Bool) (msg : Option LedgerMsg)
  /-- SPAN_REPLAY_TIMEOUT (R300): After 100 µs without acknowledgement, a span replays from its oldest unacknowledged frame. -/
  | spanReplayTimeout (n : Nat)
  /-- SPAN_KEY_ROLLOVER (R303): At counter 2^40 the sender sends KEY_UPDATE, derives the next key and flips the key phase. -/
  | spanKeyRollover (n : Nat)
  /-- SPAN_NO_ROUTE_TIMEOUT (R304): A frame with no usable next hop for 20 ms fails its entry, or is dropped. -/
  | spanNoRouteTimeout
  /-- SPN_FENCE_REQ (R307): Session 0 writes SPN_FENCE_REQ and the span is fenced. -/
  | spnFenceReq (rdr : Reader) (n : Nat) (v : Nat)
  /-- FLT_FOUND (R321): The FOUND command founds a flight locally, committing epoch 1. -/
  | fltFound (rdr : Reader)
  /-- FLT_PERMIT (R321): The PERMIT command proposes a PERMIT entry to the lead. -/
  | fltPermit (rdr : Reader)
  /-- FLT_REVOKE (R321): The REVOKE command proposes a REVOKE entry to the lead. -/
  | fltRevoke (rdr : Reader)
  /-- FLT_ACCEPT (R321): The ACCEPT command proposes a new accepted firmware set. -/
  | fltAccept (rdr : Reader)
  /-- FLT_LEAVE (R321): The LEAVE command makes the module LEAVING and proposes LEAVE. -/
  | fltLeave (rdr : Reader)
  /-- FLT_BARRIER (R321): The BARRIER command proposes a BARRIER entry. -/
  | fltBarrier (rdr : Reader)
  /-- FLT_ROUTE (R305): The ROUTE command writes route-table entries, which take effect at the next commit. -/
  | fltRoute (rdr : Reader)
  /-- LEDGER_PROPOSAL (R317): The lead receives a proposal, assigns the next epoch and sends it to the stewards. -/
  | ledgerProposal (p : Option (Nat × Nat × List Byte))
  /-- LEDGER_STORE (R317): A steward stores a proposed entry and acknowledges it. -/
  | ledgerStore (lead : Nat) (e : LedgerEntry)
  /-- LEDGER_STORE_ACK (R317): The lead receives a store acknowledgement, and at a majority commits the entry and sends it down the tree. -/
  | ledgerStoreAck (m : Nat) (epoch : Nat) (term : Nat)
  /-- LEDGER_FOUND (R316): Applying FOUND makes the founder member 0 and lead. -/
  | ledgerFound (e : LedgerEntry)
  /-- LEDGER_PERMIT (R316): Applying PERMIT lets an identity be admitted. -/
  | ledgerPermit (e : LedgerEntry)
  /-- LEDGER_REVOKE (R316): Applying REVOKE withdraws a permit. -/
  | ledgerRevoke (e : LedgerEntry)
  /-- LEDGER_ADMIT (R320): Applying ADMIT adds a member; the candidate sets FLT_MEMBER and becomes MEMBER. -/
  | ledgerAdmit (e : LedgerEntry)
  /-- LEDGER_LEAVE (R322): Applying LEAVE removes the member; it becomes ALONE, and others stop sending to it. -/
  | ledgerLeave (e : LedgerEntry)
  /-- LEDGER_FENCE (R322): Applying FENCE fences a member, fails entries needing it and starts rewinds. -/
  | ledgerFence (e : LedgerEntry)
  /-- LEDGER_ACCEPT (R316): Applying ACCEPT replaces the accepted firmware set. -/
  | ledgerAccept (e : LedgerEntry)
  /-- LEDGER_STEWARDS (R318): Applying STEWARDS replaces the steward set from the next epoch. -/
  | ledgerStewards (e : LedgerEntry)
  /-- LEDGER_BARRIER (R319): Applying BARRIER makes the member answer the lead with its applied epoch. -/
  | ledgerBarrier (e : LedgerEntry)
  /-- SECURE_SCHEDULE (R332): Applying SECURE SCHEDULE sets the securing base step, interval and K. -/
  | secureSchedule (e : LedgerEntry)
  /-- SECURE_POINT (R336): Applying SECURE POINT marks the partners' slots COMMITTED. -/
  | securePoint (e : LedgerEntry)
  /-- SECURE_PAIR (R338): Applying SECURE PAIR assigns partners and wards, possibly marking a member EXPOSED. -/
  | securePair (e : LedgerEntry)
  /-- LEDGER_REPLAN (R344): Applying REPLAN restores dirty blocks from P, sets FH_RUNSTEP and enters REPLAY; the heir takes over. -/
  | ledgerReplan (e : LedgerEntry)
  /-- LEDGER_LEAD (R318): Applying LEAD records the lead of a new term. -/
  | ledgerLead (e : LedgerEntry)
  /-- LEDGER_GAP_TIMEOUT (R317): After a 5 ms gap or 64 held entries, a member requests the missing epochs from its parent. -/
  | ledgerGapTimeout
  /-- LEDGER_SNAPSHOT (R317): A member receives a snapshot of member table, accepted set and stewards. -/
  | ledgerSnapshot (epoch : Nat) (members : List (Nat × Nat × Nat × Nat × Nat × Nat)) (accepted : List Nat) (stewards : List Nat)
  /-- LEAD_KEEPALIVE (R318): The lead sends a keep-alive to each steward every 2 ms. -/
  | leadKeepalive (k : Option (Nat × Nat × Nat))
  /-- ELECTION_TIMEOUT (R318): A steward hearing no lead for its timeout starts an election in the next term. -/
  | electionTimeout
  /-- VOTE_REQUEST (R318): A steward grants one vote per term to a candidate whose log is as recent as its own. -/
  | voteRequest (m : Nat) (term : Nat) (lastTerm : Nat) (lastEpoch : Nat)
  /-- VOTE_GRANT (R318): A candidate receiving a majority of votes becomes lead and commits LEAD. -/
  | voteGrant (m : Nat) (term : Nat)
  /-- FLT_NO_QUORUM (R318): With no committed entry or keep-alive for 100 ms, the member raises FLT_NO_QUORUM. -/
  | fltNoQuorum
  /-- BARRIER_ANSWER (R319): The lead receives a member's applied epoch, proposing FENCE for one ahead. -/
  | barrierAnswer (m : Nat) (epoch : Nat)
  /-- ADMISSION_REQUEST (R320): The lead checks a forwarded candidate hail, proposing ADMIT or replying GROUND. -/
  | admissionRequest (via : Nat) (hail : List Byte)
  /-- GROUND_REPLY (R320): A candidate receiving a GROUND reply becomes GROUNDED with its status. -/
  | groundReply (id : Nat) (status : Nat)
  /-- ADMISSION_RETRY (R313): A GROUNDED module retries admission every 1 s. -/
  | admissionRetry
  /-- RISK_REPORT (R332): The lead receives a member's risk level and run step and may commit a new schedule. -/
  | riskReport (m : Nat) (level : Nat) (runstep : Nat) (role : Nat) (mirror : Option Nat)
  /-- HEALTH_EVALUATE (R328): Every 1 ms the health monitor evaluates its inputs and sets the risk level. -/
  | healthEvaluate (x : HealthSample)
  /-- ISLAND_WATCHDOG (R330): An island making no progress for 100 ms is reset. -/
  | islandWatchdog (isl : Nat)
  /-- SILENCE_REPORT (R339): A peer that has heard nothing from a member for 20 ms reports silence to the lead. -/
  | silenceReport (n : Nat)
  /-- SILENCE_PROBE (R339): On a first silence report the lead routes a probe to the member. -/
  | silenceProbe (m : Nat)
  /-- PROBE_TIMEOUT (R339): With no frame from the member within 2 ms, the lead proposes FENCE with FH_SILENCE. -/
  | probeTimeout (m : Nat)
  /-- FH_ISOLATED (R339): A module with all spans and tether silent for 20 ms sets FH_ISOLATED and quiesces. -/
  | fhIsolated
  /-- BALLAST_COPY (R336): After a capture, captured blocks are copied from staging to every partner's slot. -/
  | ballastCopy
  /-- BALLAST_COPY_DONE (R336): Every partner's slot is COMPLETE and the member reports DONE to the lead. -/
  | ballastCopyDone
  /-- SECURE_DONE_REPORT (R336): Holding DONE from every worker, the lead commits SECURE POINT. -/
  | secureDoneReport (m : Nat) (step : Nat)
  /-- REWOUND_REPORT (R342): Once all its entries are confirmed or failed, a member reports REWOUND, and after all reports the lead commits REPLAN. -/
  | rewoundReport (m : Option Nat)
  /-- REWIND_TIMEOUT (R342): A survivor that has not reported REWOUND within 100 ms is fenced. -/
  | rewindTimeout
  /-- RESTORE_COMPLETE (R344): A member finishes restoring blocks for the restore point and enters REPLAY. -/
  | restoreComplete (hdr : List Byte) (blocks : List (Nat × List Byte))
  /-- REPLAY_REPORT (R346): The lead compares replayed losses, committing BARRIER, an older REPLAN or halting. -/
  | replayReport (m : Nat) (result : Nat)
  /-- FH_SETK (R355): The SETK command proposes FH_K as the flight's K. -/
  | fhSetk (rdr : Reader)
  /-- FH_DECLARE_FAULT (R340): The DECLARE_FAULT command makes the module declare its own fault. -/
  | fhDeclareFault (rdr : Reader)
  /-- FH_RESUME (R353): The RESUME command ends HALTED_UNHIDDEN so that UPDATE entries are taken again. -/
  | fhResume (rdr : Reader)
  /-- FH_RELEASE_WARD (R344): The RELEASE_WARD command unmaps a lost ward's slot from FH_WARDWINDOW. -/
  | fhReleaseWard (rdr : Reader)
  /-- CTX_CREATE (R358): CREATE makes an EMPTY context DEFINED with its class, owner and cleared table area. -/
  | ctxCreate (rdr : Reader) (ctx : Nat)
  /-- CTX_RESET (R378): RESET makes the context RESETTING and ends all of its work. -/
  | ctxReset (rdr : Reader) (ctx : Nat)
  /-- CTX_RESET_COMPLETE (R379): The reset's last row completes: fields return to reset values, rings are FREE and the context is EMPTY. -/
  | ctxResetComplete (ctx : Nat)
  /-- MAKE_RESIDENT (R363): MAKE_RESIDENT takes a free slot, clears the slices and computes generator keys. -/
  | makeResident (rdr : Reader) (ctx : Nat)
  /-- RELEASE_RESIDENCY (R364): RELEASE_RESIDENCY stops new placements of the context's tasks. -/
  | releaseResidency (rdr : Reader) (ctx : Nat)
  /-- RESIDENCY_RELEASED (R364): When the last slot is free, the slices are freed and the context becomes DEFINED. -/
  | residencyReleased (ctx : Nat)
  /-- MAP (R361): MAP checks and writes translation entries for a DVA range. -/
  | map (rdr : Reader) (ctx : Met Nat)
  /-- UNMAP (R361): UNMAP checks and invalidates translations for a DVA range. -/
  | unmap (rdr : Reader) (ctx : Met Nat)
  /-- UNMAP_COMPLETE (R43): An unmap completes once cached translations are discarded and old accesses have finished. -/
  | unmapComplete (ctx : Nat)
  /-- RING_CREATE (R368): RING_CREATE makes a ring ACTIVE for the context. -/
  | ringCreate (rdr : Reader) (ctx : Met Nat)
  /-- RING_DESTROY (R368): RING_DESTROY returns an idle owned ring to FREE. -/
  | ringDestroy (rdr : Reader) (ctx : Nat)
  /-- CLASS_CHANGE (R366): At the turn boundary a pending class change takes effect and CTX_CLASSPEND clears. -/
  | classChange (ctx : Nat)
  /-- DB_TAIL_WRITE (R369): A write of DB_TAIL publishes entries, or puts the ring in ERROR with RING_OVERRUN. -/
  | dbTailWrite (rdr : Reader) (ring : Nat) (v : Nat)
  /-- DB_HEAD_WRITE (R369): A write of DB_HEAD frees completion-ring slots. -/
  | dbHeadWrite (rdr : Reader) (ring : Nat) (v : Nat)
  /-- DB_RESUME (R369): Writing DB_RESUME returns an ERROR ring to ACTIVE and writes its held records. -/
  | dbResume (rdr : Reader) (ring : Met Nat)
  /-- EVENT_DELIVER (R377): A pending event is delivered when its bucket holds a token and its destination has room. -/
  | eventDeliver (list : Nat) (toRing : Met Bool)
  /-- TETHER_LIGHT (R388): Light returns on a tether port and it trains. -/
  | tetherLight (p : Nat)
  /-- TETHER_DOWN (R388): A port with no frame for 1 ms goes DOWN, and its sessions move to the other port. -/
  | tetherDown (p : Nat)
  /-- TETHER_LINK_SEND (R388): Each UP port sends a LINK frame at least every 100 µs. -/
  | tetherLinkSend (p : Nat)
  /-- TETHER_LINK_FRAME (R392): A received tether LINK frame returns credit and may NAK, prompting a replay. -/
  | tetherLinkFrame (p : Nat) (bytes : List Byte) (bad : Bool)
  /-- TETHER_REPLAY_TIMEOUT (R392): After 50 µs without acknowledgement, a port replays from its oldest unacknowledged frame. -/
  | tetherReplayTimeout (p : Nat)
  /-- SESSION_GAP_TIMEOUT (R393): A session gap still open after 100 ms closes the session with reason GAP. -/
  | sessionGapTimeout (session : Nat)
  /-- TETHER_KEY_ROLLOVER (R394): At counter 2^40 the sender sends KEY_UPDATE and moves to the next key phase. -/
  | tetherKeyRollover (session : Nat)
  /-- TETHER_KEY_UPDATE (R394): A received KEY_UPDATE announces the session's next key phase. -/
  | tetherKeyUpdate (p : Nat) (bytes : List Byte) (bad : Bool)
  /-- HANDSHAKE_OPEN (R395): An OPEN message starts a handshake, and the module answers with ACCEPT including a quote. -/
  | handshakeOpen (p : Nat) (bytes : List Byte) (bad : Bool)
  /-- HANDSHAKE_FINISH (R396): A FINISH message is checked; the module answers READY and the session opens or the handshake ends. -/
  | handshakeFinish (p : Nat) (bytes : List Byte) (bad : Bool)
  /-- HANDSHAKE_TIMEOUT (R396): A handshake whose FINISH has not arrived 1 s after ACCEPT ends without effect. -/
  | handshakeTimeout (session : Nat)
  /-- REQUEST (R400): A REQUEST's register and doorbell operations run in order and are answered by one RESPONSE. -/
  | request (p : Nat) (bytes : List Byte) (bad : Bool)
  /-- BULK_WRITE (R401): A BULK_WRITE writes data to context memory or the security buffer. -/
  | bulkWrite (p : Nat) (bytes : List Byte) (bad : Bool) (ecc : List (Nat × EccError))
  /-- BULK_READ (R401): A BULK_READ is answered by BULK_DATA frames in ascending address order. -/
  | bulkRead (p : Nat) (bytes : List Byte) (bad : Bool) (ecc : List (Nat × EccError))
  /-- ATTEST (R403): An ATTEST is answered by a QUOTE over the supplied report data. -/
  | attest (p : Nat) (bytes : List Byte) (bad : Bool)
  /-- SESSION_CLOSE (R398): A CLOSE closes the session; its operations complete and their responses are discarded. -/
  | sessionClose (p : Nat) (bytes : List Byte) (bad : Bool)
  /-- METROLOGY (R439): A METROLOGY frame is relayed byte for byte to the cartridge's readout port, or answered METER_ABSENT. -/
  | metrology (p : Nat) (bytes : List Byte) (bad : Bool)
  /-- TS_EVTACK (R402): Writing TS_EVTACK acknowledges delivered event records and frees window room. -/
  | tsEvtack (rdr : Reader) (session : Nat) (v : Nat)
  /-- OWNER_SET (R415): OWNER_SET burns a new owner key hash, clears bindings and keys, and closes every session. -/
  | ownerSet (session : Nat)
  /-- FW_LOAD (R412): FW_LOAD verifies a firmware image from the security buffer and starts it by warm reset. -/
  | fwLoad (session : Nat)
  /-- FW_EPOCH (R414): FW_EPOCH raises the fused anti-rollback epoch by one. -/
  | fwEpoch (session : Nat)
  /-- POWER_LOWER (R414): POWER_LOWER burns a lower module power ceiling. -/
  | powerLower (session : Nat)
  /-- PUB_ADD (R417): PUB_ADD adds a trusted publisher key from a certificate. -/
  | pubAdd (session : Nat)
  /-- PUB_REMOVE (R417): PUB_REMOVE removes a trusted publisher key. -/
  | pubRemove (session : Nat)
  /-- PSK_SET (R406): PSK_SET unwraps and installs a session's PSK and closes that session. -/
  | pskSet (session : Nat)
  /-- BIND (R417): BIND sets a session's rights and client key hash and closes that session. -/
  | bind (session : Nat)
  /-- KEY_INSTALL (R406): KEY_INSTALL unwraps a content key into a context's key slot. -/
  | keyInstall (session : Nat)
  /-- KEY_CLEAR (R407): KEY_CLEAR empties an unbound content-key slot. -/
  | keyClear (session : Nat)
  /-- ENTROPY_FAILURE (R405): The entropy source fails its health tests, and the module stops generating keys and raises SEC_ENTROPY. -/
  | entropyFailure
  /-- BRIDLE_VIOLATION (R413): A keel access outside the bridle's limits is blocked, counted and reported. -/
  | bridleViolation (addr : Nat) (kind : Nat)
  /-- KEEL_LOCKSTEP_MISMATCH (R412): A lockstep mismatch halts the keel. -/
  | keelLockstepMismatch
  /-- KEEL_WDKICK (R483): A keel write of KEEL_WDKICK restarts the keel watchdog. -/
  | keelWdkick (rdr : Reader) (v : Nat)
  /-- KEEL_WATCHDOG_EXPIRE (R483): The keel watchdog expires after KEEL_WDPERIOD without a kick. -/
  | keelWatchdogExpire
  /-- COUNTER_FRAME_SEND (R431): Every 10 ms the metering interface sends a counter frame for each metered stream and the aggregate. -/
  | counterFrameSend
  /-- STREAM_TAIL_END (R431): A closed metered instance leaves its tail 60 s after closure. -/
  | streamTailEnd (ctx : Nat) (inst : Nat)
  /-- MTR_LEARNTOK (R430): Writing MTR_LEARNTOK adds declared tokens to MTR_LEARNPEND. -/
  | mtrLearntok (rdr : Reader) (ctx : Nat) (n : Nat)
  /-- CARRIER_APPEAR (R425): The cartridge carrier appears, and MTR_STATE becomes SETTLING. -/
  | carrierAppear
  /-- CARRIER_SETTLED (R425): After 100 ms of uninterrupted carrier, MTR_STATE becomes VALID. -/
  | carrierSettled
  /-- CARRIER_LOSS (R425): An interruption of 1 ms makes MTR_STATE ABSENT and raises MTR_INVALID. -/
  | carrierLoss
  /-- CARTRIDGE_FRAME_ACCEPT (R432): The cartridge checks a counter frame and updates, closes or discards its stream. -/
  | cartridgeFrameAccept (frame : List Byte)
  /-- INTERVAL_RECORD (R433): Every 300 s the cartridge writes INTERVAL records. -/
  | intervalRecord (energy : Nat) (secs : Nat)
  /-- OVERCURRENT (R422): A second above Imax logs an OVERCURRENT event. -/
  | overcurrent (peak : Nat)
  /-- SEAL_BROKEN (R435): Opening the enclosure breaks the seal permanently and logs SEAL_BROKEN. -/
  | sealBroken
  /-- CARTRIDGE_REMOVED (R436): Withdrawal from the socket logs REMOVED. -/
  | cartridgeRemoved
  /-- CARTRIDGE_INSERTED (R436): Insertion into the socket logs INSERTED. -/
  | cartridgeInserted (serial : Nat) (calibrations : Nat) (energy : Nat) (clock : Nat)
  /-- IDENTIFY (R440): IDENTIFY returns the cartridge certificate, image hash, state and counts, signed. -/
  | identify
  /-- READ_RECORDS (R440): READ_RECORDS returns held records from a number, signed. -/
  | readRecords
  /-- READ_LOG (R440): READ_LOG returns event-log entries or the metrological log, signed. -/
  | readLog
  /-- READ_NOW (R440): READ_NOW returns an ENERGY record formed now. -/
  | readNow (energy : Nat) (secs : Nat)
  /-- CALIBRATE (R437): CALIBRATE checks a signed request and installs new calibration constants. -/
  | calibrate
  /-- TIME_SET (R438): TIME_SET moves the cartridge clock by at most 60 s under a signed request. -/
  | timeSet
  /-- ENTER_P2 (R449): ENTER_P2 checks quiescence and begins retaining the islands. -/
  | enterP2 (rdr : Reader)
  /-- P2_ENTRY_COMPLETE (R450): The remaining islands are retained, and PWR_STATE becomes P2. -/
  | p2EntryComplete
  /-- WAKE (R451): Wake activity is recognised, recorded in WAKE_SOURCE, and starts the wake sequence or aborts entry. -/
  | wake (src : Nat) (idx : Nat)
  /-- WAKE_COMPLETE (R453): The core islands run, PWR_STATE is P0 and session 0 receives PWR_WOKEN. -/
  | wakeComplete
  /-- SPAN_RELOCK_FALLBACK (R453): A span not relocked by 600 µs after wake falls back to full training. -/
  | spanRelockFallback (n : Nat)
  /-- PWR_LIFT (R452): Writing PWR_LIFT makes named DARK or REFUSED spans send the lift pattern for 1 ms. -/
  | pwrLift (rdr : Reader) (mask : Nat)
  /-- ISLAND_GATE (R446): An idle gateable island gates its clock after 1 µs with no queued work. -/
  | islandGate (isl : Nat)
  /-- ISLAND_UNGATE (R446): Work reaching a gated island restarts its clock within 100 ns. -/
  | islandUngate (isl : Nat)
  /-- POWER_EXCURSION (R448): Input power beyond the permitted excursion holds clusters at 0.6 GHz and raises PWR_EXCURSION. -/
  | powerExcursion (watts : Nat) (long : Bool)
  /-- POWER_ON (R498): The input rising through 40 V starts a power-on. -/
  | powerOn (straps : Nat) (hot : Bool)
  /-- POWER_OFF (R497): An undervoltage removes power within 20 µs. -/
  | powerOff (low : Bool)
  /-- OVERVOLTAGE_LOCKOUT (R497): An input above 62 V for 10 µs locks the module out. -/
  | overvoltageLockout
  /-- SUPPLY_DROOP (R497): A dip below 44 V for at least 1 µs counts as a droop. -/
  | supplyDroop
  /-- MODULE_RESET (R454): RST_CMD MODULE starts a module reset. -/
  | moduleReset (rdr : Reader)
  /-- RST_WARM (R456): A keel write of RST_WARM resets every context and island, keeping class W. -/
  | rstWarm (rdr : Reader)
  /-- RESET_COMPLETE (R454): A power-on, module or warm reset completes, and the module is in P0 with DEFAULTED set. -/
  | resetComplete (imageOk : Bool)
  /-- RESET_REQUEST_PIN (R494): RESET_REQUEST_N held low for at least 10 µs starts a module reset. -/
  | resetRequestPin (low : Nat)
  /-- THERMAL_THROTTLE (R502): An island at 95 °C makes its governor, or its die's clusters, give up clock. -/
  | thermalThrottle (isl : Nat) (freq : Nat)
  /-- THERMAL_TRIP (R502): An island at 105 °C makes the power stage remove island power and hold the module off. -/
  | thermalTrip
  /-- GQ_START (R487): GQ_START starts HELD harts at GQ_BOOTDVA. -/
  | gqStart (rdr : Reader) (quad : Nat) (v : Nat)
  /-- GQ_STOP (R487): GQ_STOP stops harts at their next instruction boundary. -/
  | gqStop (rdr : Reader) (quad : Nat) (v : Nat)
  /-- ENTDAA (R503): The I3C target takes a dynamic address under ENTDAA. -/
  | entdaa (addr : Nat)
  /-- SET_ENDPOINT_ID (R503): Set Endpoint ID sets the module's MCTP endpoint ID. -/
  | setEndpointId (eid : Nat)
  /-- GETTID (R503): GetTID returns the terminus ID. -/
  | gettid (known : Bool)
  /-- GETPLDMTYPES (R503): GetPLDMTypes returns the supported PLDM types. -/
  | getpldmtypes
  /-- GETPLDMCOMMANDS (R503): GetPLDMCommands returns the supported commands of a type. -/
  | getpldmcommands (ptype : Nat)
  /-- GETPLDMVERSION (R503): GetPLDMVersion returns a type's version. -/
  | getpldmversion (ptype : Nat)
  /-- PLDM_SENSOR_READ (R504): A sensor read returns a value updated every 1 ms, in every state. -/
  | pldmSensorRead (id : Nat) (measured : Nat)
  /-- PLDM_PDR_READ (R503): A PDR repository read returns the platform descriptors. -/
  | pldmPdrRead (record : Nat)
  /-- PLDM_FRU_READ (R503): A FRU read returns part, serial, stepping and cartridge data. -/
  | pldmFruRead
  /-- FEED_TAG_CONFIRM (R496): A write of the feed-tag effecter confirms the strapped feed tag or is refused. -/
  | feedTagConfirm (v : Nat)
  /-- RESET_EFFECTER (R504): Writing RESET to the reset effecter starts a module reset. -/
  | resetEffecter
  /-- POWER_EFFECTER_OFF (R504): Writing OFF to the power effecter holds the module off. -/
  | powerEffecterOff
  /-- POWER_EFFECTER_ON (R502): Writing ON releases a held-off module once every island is below 80 °C. -/
  | powerEffecterOn (straps : Nat) (hot : Bool)
  /-- FIRMWARE_UPDATE_ACTIVATE (R503): PLDM firmware-update activation of the keel image starts a warm reset. -/
  | firmwareUpdateActivate
  /-- TETHER_FEC_LOCK (R388): A TRAINING tether port achieves FEC lock and enters UP, carrying frames. -/
  | tetherFecLock (p : Nat)
  /-- CXL_LINK_DEGRADE (R289): A CXL link degrades in width or speed, keeps running and reports the new width and speed in CXL_LINK. -/
  | cxlLinkDegrade (port : Nat) (width : Nat) (speed : Nat)
  /-- ISLAND_RESET_COMPLETE (R459): An island reset completes 10–20 µs after it began and the island returns to RUNNING with its class I fields at reset values. -/
  | islandResetComplete (isl : Nat)
  /-- FAR_PAGE_RELEASE (R379): Far pages of a reset context are released after row 8, at the rate of the CXL ports, and then count in KV_FARFREE. -/
  | farPageRelease
  /-- LINK_LOST (R434): The cartridge logs LINK_LOST with the last CF_SEQ when counter frames stop arriving. -/
  | linkLost
  /-- SELFTEST_FAIL (R425): A cartridge self-test fails, SELFTEST_FAIL is logged and the validity carrier is no longer lit. -/
  | selftestFail (code : Nat)
  /-- PLDM_FIRMWARE_UPDATE (R412): The board management controller supplies a keel image through PLDM for Firmware Update, and the module checks it in the order of R412. -/
  | pldmFirmwareUpdate (image : List Byte)
  /-- GONDOLA_MEMORY_ACCESS (R44): A gondola core load, store or instruction fetch translates its DVA and may take an access or page fault, meet an uncorrectable error, or mark secured blocks dirty. -/
  | gondolaMemoryAccess (hart : Nat) (acc : HartAccess) (dva : Nat) (len : Nat) (handler : Nat) (ecc : List (Nat × EccError))
  deriving DecidableEq, Repr

end Sys2Proof
end

