-- ==== Sys2Proof/Decode.lean ====
section
/-!
DEFINITION. The command that a word spells. The rows of spec/opcode_table.json give no bits to any command, since the block takes commands from its
ports and pins and fetches none: no word of that table spells one. The spec gives bits to the module's own RISC-V instructions (R122, R211, R264):
kcCommand reads those.
-/
namespace Sys2Proof

/-- The command spelled by a word of nbits bits: none, for every word. -/
def decodeTableWord (_nbits _w : Nat) : Option Instr := none

/-- Bits [lo + w - 1 : lo] of an instruction word. -/
def wordField (i lo w : Nat) : Nat := i / 2 ^ lo % 2 ^ w

/-- R122: major opcode 0b1011011. `cyc`: the cycles that KC.DACTCFG takes. -/
def dactCommand (n cyc i : Nat) : Option Instr :=
  let vd := wordField i 7 5
  let rs1 := wordField i 15 5
  let vs2 := wordField i 20 5
  let rs2 := wordField i 27 5
  if wordField i 25 2 ≠ 0 then none
  else
    match wordField i 12 3 with
    | 0 => if vd = 0 ∧ vs2 = 0 ∧ rs2 = 0 then some (.kcDactcfg n rs1 cyc) else none
    | 1 => some (.kcVdact n vd rs1 vs2 rs2)
    | 2 => some (.kcVdactg n vd rs1 vs2 rs2)
    | _ => none

/-- R211: major opcode custom-1. -/
def randCommand (n i : Nat) : Option Instr :=
  let vd := wordField i 7 5
  if wordField i 15 17 ≠ 0 then none
  else
    match wordField i 12 3 with
    | 0 => some (.kcVrandb n vd)
    | 1 => some (.kcVrandf n vd)
    | 2 => some (.kcVrando n vd)
    | 3 => some (.kcVrandh n vd)
    | _ => none

/-- R264: major opcode custom-0. -/
def tallyCommand (k : CoreId) (i : Nat) : Option Instr :=
  let rd := wordField i 7 5
  let rs1 := wordField i 15 5
  let rs2 := wordField i 20 5
  if wordField i 25 7 ≠ 0 then none
  else
    match wordField i 12 3 with
    | 0 => some (.kcTsignal k rd rs1 rs2)
    | 1 => some (.kcTwait k rd rs1 rs2)
    | 2 => some (.kcTtake k rd rs1 rs2)
    | 3 => if rs2 = 0 then some (.kcTread k rd rs1) else none
    | _ => none

/-- R122, R211, R264: the command that a 32-bit instruction word of the module's own spells on a processor; none: the word is illegal under these
opcodes, or is none of theirs. -/
def kcCommand (k : CoreId) (cyc w : Nat) : Option Instr :=
  if 2 ^ 32 ≤ w then none
  else
    match k, w % 128 with
    | _, 0b0001011 => tallyCommand k w
    | .vector n, 0b0101011 => randCommand n w
    | .vector n, 0b1011011 => dactCommand n cyc w
    | _, _ => none

end Sys2Proof
end

