-- ==== Sys2Proof/Config.lean ====
section
/-!
DEFINITION. What the spec leaves open: values with no body, so that a statement about them holds whatever they are.
Each is named in the assumption log. The cryptographic functions are those of published standards that the spec names
and does not define; they are left without a body too (log entry 20).
-/
namespace Sys2Proof

/-- Free value number n, of w bits: every use reads and advances State.freeCount (log entry 2). -/
opaque Config.free (w n : Nat) : BitVec w

/-- R66, R124, R185, R216: which of the FP32 results within the spec's bound of 2 units in the last place a function takes: the function's code and
the FP32 operand (log entry 15). -/
opaque Config.within (f : Nat) (x : BitVec 32) : Nat

/-- A function that the spec neither defines bit for bit nor bounds: 1 is the natural logarithm (R185, R217, R219, R221); 0 and 6 are exp and σ
of the router (R104, R105) (log entry 15). -/
opaque Config.transcend (f : Nat) (x : BitVec 32) : BitVec 32

/-- R104, R105: the sum of exp(logit - maximum) over a row of FP32 logits: the spec gives neither the order nor the rounding of
the running sum (log entry 15). -/
opaque Config.expSum : List Nat → BitVec 32

/-- R131: the order of repeated squaring, which the spec does not give: from the exponent's top bit down, or from its lowest bit up (log entry 15). -/
opaque Config.squaresFromTop : Bool

/-- What the allocator takes for a part of a metadata record that does not read, at a physical address: the spec does not say (log entry 102). -/
opaque Config.unread (pa : Nat) : BitVec 64

/-! Cryptographic functions of published standards (log entry 20). -/

/-- SHA-384 (FIPS 180-4). -/
opaque Config.sha384 : List Byte → BitVec 384

/-- HMAC-SHA-384 of a message under a key. -/
opaque Config.hmac : List Byte → List Byte → BitVec 384

/-- HKDF-Expand to n bytes: the pseudorandom key and the info. -/
opaque Config.hkdfExpand (n : Nat) : List Byte → List Byte → BitVec (8 * n)

/-- HKDF-Extract: the salt and the input key material. -/
opaque Config.hkdfExtract : List Byte → List Byte → BitVec 384

/-- ECDH on P-384: the number of the module's ephemeral or identity private key, and the peer's public key. -/
opaque Config.ecdh : Nat → List Byte → BitVec 384

/-- The P-384 public key that belongs to a private key number: 97 bytes as a number. -/
opaque Config.publicKey : Nat → BitVec 776

/-- Does a signature block (R395: ECDSA and HSS both) verify under a key record over a digest? -/
opaque Config.verifies : List Byte → BitVec 384 → List Byte → Bool

/-- A signature block of one of the module's or the cartridge's keys: the signer, the signature index and the digest. -/
opaque Config.signs (who index : Nat) : BitVec 384 → List Byte

/-- AES-256-GCM sealing: the key, the 96-bit nonce, the associated data and the plaintext give ciphertext and tag. -/
opaque Config.gcmSeal : BitVec 256 → BitVec 96 → List Byte → List Byte → List Byte × BitVec 128

/-- AES-256-GCM opening: none where the tag does not match. -/
opaque Config.gcmOpen : BitVec 256 → BitVec 96 → List Byte → List Byte → BitVec 128 → Option (List Byte)

/-- The module's identity certificate (R409), the cartridge's certificate (R441), and the hash of the cartridge's legally
relevant image (R423). -/
opaque Config.identityCert : List Byte
opaque Config.cartridgeCert : List Byte
opaque Config.cartridgeImage : BitVec 384

/-- R437: the key record of the calibration authority fused into the cartridge. -/
opaque Config.calibrationAuthority : List Byte

/-- R409, R412: the key record published for a fused vendor key hash: key number 0 to 3, for identity (false) or firmware
(true). -/
opaque Config.vendorRecord (firmware : Bool) (k : Nat) : List Byte

/-- R437: the design bounds of a calibration constant: is constant i within them? -/
opaque Config.calibrationBound (i : Nat) (v : BitVec 32) : Bool

/-- R21: the frequency in MHz and the supply voltage in mV that the governors choose for an island when it starts: for the variable islands,
and the voltage of the fixed ones (log entry 68). -/
opaque Config.startFreq (isl : Nat) : BitVec 12
opaque Config.startVolt (isl : Nat) : BitVec 12

/-- R503: the terminus ID that GetTID returns, and for a PLDM type the version that GetPLDMVersion returns and the command bits that
GetPLDMCommands returns (log entry 66). -/
opaque Config.tid : BitVec 8
opaque Config.pldmVersion (type : Nat) : BitVec 32
opaque Config.pldmCommands (type : Nat) : BitVec 256

/-- The bytes of a message of the ledger firmware, whose layout the spec does not give (log entry 44). -/
opaque Config.ledgerBytes : LedgerMsg → List Byte

end Sys2Proof
end

