-- ==== Sys2Proof/Machine/Bits.lean ====
section
/-!
DEFINITION. Bit fields of numbers and little-endian byte lists (R8, R9).
-/
namespace Sys2Proof.Machine

/-- Bits [lo + w - 1 : lo] of v. -/
def bitsAt (v lo w : Nat) : Nat := v / 2 ^ lo % 2 ^ w

/-- Bit b of v. -/
def bitAt (v b : Nat) : Bool := v / 2 ^ b % 2 == 1

/-- v with bits [lo + w - 1 : lo] replaced by x. -/
def setBits (v lo w x : Nat) : Nat :=
  v % 2 ^ lo + x % 2 ^ w * 2 ^ lo + v / 2 ^ (lo + w) * 2 ^ (lo + w)

/-- 1 for true, 0 for false. -/
def b2n (b : Bool) : Nat := if b then 1 else 0

/-- R9: the number a little-endian byte list spells. -/
def leNat : List Byte → Nat
  | [] => 0
  | b :: t => b.toNat + 256 * leNat t

/-- R9: the n little-endian bytes of v. -/
def leBytes : Nat → Nat → List Byte
  | 0, _ => []
  | n + 1, v => BitVec.ofNat 8 v :: leBytes n (v / 256)

/-- The number a big-endian byte list spells. -/
def beNat (bs : List Byte) : Nat := leNat bs.reverse

/-- The n big-endian bytes of v. -/
def beBytes (n v : Nat) : List Byte := (leBytes n v).reverse

/-- The number in bytes o to o + n - 1 of a record. -/
def fieldAt (bs : List Byte) (o n : Nat) : Nat := leNat ((bs.drop o).take n)

/-- n bytes of zero. -/
def zeros (n : Nat) : List Byte := List.replicate n 0#8

/-- The bits set in v below n, in rising order. -/
def setBitsOf (v n : Nat) : List Nat := (List.range n).filter (fun b => bitAt v b)

/-- How many of the lowest n bits of v are set. -/
def popCount (v n : Nat) : Nat := (setBitsOf v n).length

/-- v as a two's-complement number of w bits. -/
def toSigned (v w : Nat) : Int := if v % 2 ^ w < 2 ^ (w - 1) then (v % 2 ^ w : Nat) else (v % 2 ^ w : Nat) - (2 ^ w : Nat)

/-- The w-bit two's-complement code of x. -/
def ofSigned (x : Int) (w : Nat) : Nat := (x % ((2 : Int) ^ w)).toNat

/-- v rounded up to a multiple of k. -/
def roundUp (v k : Nat) : Nat := (v + k - 1) / k * k

/-- The quotient rounded up. -/
def ceilDiv (v k : Nat) : Nat := (v + k - 1) / k

/-- Replace element i of a list. -/
def setAt {α : Type} (l : List α) (i : Nat) (v : α) : List α := l.set i v

/-- The element of a list with the greatest key; the first one of several. -/
def argMax {α : Type} (key : α → Nat) : List α → Option α
  | [] => none
  | a :: t => match argMax key t with
    | none => some a
    | some b => if key b > key a then some b else some a

/-- The element of a list with the least key; the first one of several. -/
def argMin {α : Type} (key : α → Nat) : List α → Option α
  | [] => none
  | a :: t => match argMin key t with
    | none => some a
    | some b => if key b < key a then some b else some a

end Sys2Proof.Machine
end

