-- ==== Sys2Proof/Machine/RegName.lean ====
section
/-!
DEFINITION. The names of the register fields: one constructor for each field of the register tables of the spec
(R45, R111, R141, R142, R169, R202 to R204, R223, R224, R251, R252, R272, R273, R291 to R293, R324, R325, R354, R355,
R369, R385, R418 to R420, R443, R463, R464, R472, R482 to R487). A field with one copy per page, context, session,
slot, ring or reader is ONE name here: the copy is chosen by an index (see Reg.info and Block in RegTable.lean).
Reserved bits have no name: they read as zero and discard what is written (R13).
-/
namespace Sys2Proof.Machine

/-- A register field of the spec. Each docstring gives the rule whose table holds it, its place, its access code
(R14), its reset value and its survival class (R15). -/
inductive Reg where
  /-- CLU_NUM, R111: 0x100 [7:0], RO, reset n, class F. -/
  | cluNum
  /-- CLU_DIE, R111: 0x100 [8], RO, reset die, class F. -/
  | cluDie
  /-- CLU_LANES, R111: 0x100 [17:9], RO, reset 256, class F. -/
  | cluLanes
  /-- CLU_RUN, R111: 0x104 [1:0], RO, reset 0, class I. -/
  | cluRun
  /-- CLU_CURCTX, R111: 0x104 [7:2], RO, reset 0, class I. -/
  | cluCurctx
  /-- CLU_FENCED, R111: 0x104 [8], RO, reset 0, class W. -/
  | cluFenced
  /-- CLU_FENCE_REASON, R111: 0x104 [23:16], RO, reset 0, class W. -/
  | cluFenceReason
  /-- CLU_SLOTCTX, R111: 0x110 + 4s [5:0], RO, reset 0, class C. -/
  | cluSlotctx
  /-- CLU_SLOTVALID, R111: 0x110 + 4s [6], RO, reset 0, class C. -/
  | cluSlotvalid
  /-- CLU_SLOTTASK, R111: 0x110 + 4s [7], RO, reset 0, class C. -/
  | cluSlottask
  /-- CLU_SLOTHELD, R111: 0x110 + 4s [11:8], RO, reset 0, class C. -/
  | cluSlotheld
  /-- CLU_SLOTSCR, R111: 0x110 + 4s [19:12], RO, reset 0, class C. -/
  | cluSlotscr
  /-- CLU_SLOTACC, R111: 0x110 + 4s [27:20], RO, reset 0, class C. -/
  | cluSlotacc
  /-- CLU_TILES, R111: 0x140–0x144 [63:0], RO, reset 0, class W. -/
  | cluTiles
  /-- CLU_BUSY, R111: 0x148–0x14C [63:0], RO, reset 0, class W. -/
  | cluBusy
  /-- CLU_SKIPPED, R111: 0x150 [31:0], RO, reset 0, class W. -/
  | cluSkipped
  /-- CLU_ACCSAT, R111: 0x154 [31:0], RO, reset 0, class W. -/
  | cluAccsat
  /-- CLU_RESIDUE_ERR, R111: 0x158 [31:0], RO, reset 0, class W. -/
  | cluResidueErr
  /-- CLU_FENCE_REQ, R111: 0x15C [0], WO, reset 0, class W. -/
  | cluFenceReq
  /-- LRN_LSCALE, R141: +0x00 [31:0], RO, reset 0x4780_0000, class C. -/
  | lrnLscale
  /-- LRN_USCALE, R141: +0x04 [31:0], RO, reset 0x4780_0000, class C. -/
  | lrnUscale
  /-- LRN_LSEN, R141: +0x08 [0], RWS, reset 1, class C. -/
  | lrnLsen
  /-- LRN_LSINIT, R141: +0x08 [1], WO, reset 0, class C. -/
  | lrnLsinit
  /-- LRN_NFSET, R141: +0x08 [2], WO, reset 0, class C. -/
  | lrnNfset
  /-- LRN_PENDNF, R141: +0x08 [3], RO, reset 0, class C. -/
  | lrnPendnf
  /-- LRN_STEPSKIP, R141: +0x08 [4], RO, reset 0, class C. -/
  | lrnStepskip
  /-- LRN_GROWTH, R141: +0x0C [15:0], RWS, reset 2,000, class C. -/
  | lrnGrowth
  /-- LRN_CLEAN, R141: +0x10 [15:0], RO, reset 0, class C. -/
  | lrnClean
  /-- LRN_STEP, R141: +0x14 [31:0], RO, reset 0, class C. -/
  | lrnStep
  /-- LRN_SKIPS, R141: +0x18 [31:0], RO, reset 0, class C. -/
  | lrnSkips
  /-- LRN_SAVESHIFT, R141: +0x1C [1:0], RWS, reset 0, class C. -/
  | lrnSaveshift
  /-- LRN_SAVECOARSE, R141: +0x20 [31:0], RWS, reset 0x3F80_0000, class C. -/
  | lrnSavecoarse
  /-- LRN_SAVEBASE, R141: +0x24 [26:0], RWS, reset 0, class C. -/
  | lrnSavebase
  /-- LRN_WINBASE, R141: +0x28 [26:0], RWS, reset 0, class C. -/
  | lrnWinbase
  /-- LRN_WINSIZE, R141: +0x2C [26:0], RWS, reset 0, class C. -/
  | lrnWinsize
  /-- LRN_DEFRUN, R141: +0x30 [31:0], RO, reset 0, class C. -/
  | lrnDefrun
  /-- LRN_DEFFORCED, R141: +0x34 [31:0], RO, reset 0, class C. -/
  | lrnDefforced
  /-- UPD_RUN, R142: 0x800 [1:0], RO, reset 0, class I. -/
  | updRun
  /-- UPD_CTX, R142: 0x800 [7:2], RO, reset 0, class I. -/
  | updCtx
  /-- UPD_DESC, R142: 0x804 [31:0], RO, reset 0, class W. -/
  | updDesc
  /-- UPD_ELEMS, R142: 0x808–0x80C [63:0], RO, reset 0, class W. -/
  | updElems
  /-- UPD_NONFIN, R142: 0x810 [31:0], RO, reset 0, class W. -/
  | updNonfin
  /-- SEQ_ROLE, R169: +0x00 [1:0], RWS, reset 0, class C. -/
  | seqRole
  /-- SEQ_LEADMBR, R169: +0x00 [29:16], RWS, reset 0, class C. -/
  | seqLeadmbr
  /-- SEQ_MAXSEQ, R169: +0x04 [16:0], RWS, reset 0, class C. -/
  | seqMaxseq
  /-- SEQ_MAXBATCH, R169: +0x08 [14:0], RWS, reset 256, class C. -/
  | seqMaxbatch
  /-- SEQ_LAYERS, R169: +0x08 [26:16], RWS, reset 1, class C. -/
  | seqLayers
  /-- SEQ_MAXTOK, R169: +0x0C [18:0], RWS, reset 4,096, class C. -/
  | seqMaxtok
  /-- SEQ_PFCHUNK, R169: +0x10 [16:0], RWS, reset 2,048, class C. -/
  | seqPfchunk
  /-- SEQ_STOPBASE, R169: +0x14 [11:0], RWS, reset 0, class C. -/
  | seqStopbase
  /-- SEQ_STOPCNT, R169: +0x14 [28:16], RWS, reset 0, class C. -/
  | seqStopcnt
  /-- SEQ_READYTALLY, R169: +0x18 [15:0], RWS, reset 0, class C. -/
  | seqReadytally
  /-- SEQ_STEPTALLY, R169: +0x18 [31:16], RWS, reset 0, class C. -/
  | seqSteptally
  /-- SEQ_DONETALLY, R169: +0x1C [15:0], RWS, reset 0, class C. -/
  | seqDonetally
  /-- SEQ_GROUPSIZE, R169: +0x1C [21:16], RWS, reset 0, class C. -/
  | seqGroupsize
  /-- SEQ_MANBASE, R169: +0x20–0x24 [63:0], RWS, reset 0, class C. -/
  | seqManbase
  /-- SEQ_GROUPLIST, R169: +0x28–0x2C [63:0], RWS, reset 0, class C. -/
  | seqGrouplist
  /-- SEQ_ACTIVE, R169: +0x30 [16:0], RO, reset 0, class C. -/
  | seqActive
  /-- SEQ_STEPNUM, R169: +0x34 [31:0], RO, reset 0, class C. -/
  | seqStepnum
  /-- SEQ_FREE, R169: 0xF00 [17:0], RO, reset 131,072, class W. -/
  | seqFree
  /-- SEQ_JOINDEF, R169: 0xF04 [31:0], RO, reset 0, class W. -/
  | seqJoindef
  /-- SEQ_MEMPAUSES, R169: 0xF08 [31:0], RO, reset 0, class W. -/
  | seqMempauses
  /-- SEQ_LATECNT, R169: 0xF0C [31:0], RO, reset 0, class W. -/
  | seqLatecnt
  /-- SEQ_REFUSED, R169: 0xF10 [31:0], RO, reset 0, class W. -/
  | seqRefused
  /-- SEQ_COMPLETIONS, R169: 0xF14–0xF18 [63:0], RO, reset 0, class W. -/
  | seqCompletions
  /-- SEQ_PEEKIDX, R169: 0xF20 [16:0], RW, reset 0, class W. -/
  | seqPeekidx
  /-- SEQ_PEEKDATA, R169: 0xF40–0xF7C [31:0], RO, reset 0, class W. -/
  | seqPeekdata
  /-- KV_NEARBASE, R202: 0x100–0x104 [63:0], RWS, reset 0, class W. -/
  | kvNearbase
  /-- KV_NEARPAGES, R202: 0x108 [22:0], RWS, reset 0, class W. -/
  | kvNearpages
  /-- KV_METABASE, R202: 0x10C–0x110 [63:0], RWS, reset 0, class W. -/
  | kvMetabase
  /-- KV_FARBASE, R202: 0x114–0x118 [63:0], RWS, reset 0, class W. -/
  | kvFarbase
  /-- KV_FARPAGES, R202: 0x11C [26:0], RWS, reset 0, class W. -/
  | kvFarpages
  /-- KV_FARMETABASE, R202: 0x120–0x124 [63:0], RWS, reset 0, class W. -/
  | kvFarmetabase
  /-- KV_NEARFREE, R202: 0x128 [22:0], RO, reset 0, class W. -/
  | kvNearfree
  /-- KV_FARFREE, R202: 0x12C [26:0], RO, reset 0, class W. -/
  | kvFarfree
  /-- KV_LOSTPAGES, R202: 0x130 [31:0], RO, reset 0, class W. -/
  | kvLostpages
  /-- KV_STALE, R202: 0x134 [31:0], RO, reset 0, class W. -/
  | kvStale
  /-- KV_SPILLS, R202: 0x138 [31:0], RO, reset 0, class W. -/
  | kvSpills
  /-- KV_FILLS, R202: 0x13C [31:0], RO, reset 0, class W. -/
  | kvFills
  /-- KV_COWS, R202: 0x140 [31:0], RO, reset 0, class W. -/
  | kvCows
  /-- KV_PAGEFMT, R203: +0x00 [4:0], RWS, reset 0x03, class C. -/
  | kvPagefmt
  /-- KV_APPFMT, R203: +0x00 [9:5], RWS, reset 0x03, class C. -/
  | kvAppfmt
  /-- KV_NARROW, R203: +0x00 [10], RWS, reset 0, class C. -/
  | kvNarrow
  /-- KV_HEADS, R203: +0x00 [20:16], RWS, reset 1, class C. -/
  | kvHeads
  /-- KV_HEADDIM, R203: +0x04 [8:0], RWS, reset 128, class C. -/
  | kvHeaddim
  /-- KV_TOKPAGE, R203: +0x04 [28:20], RO, reset 256, class C. -/
  | kvTokpage
  /-- KV_QUOTA, R203: +0x08 [22:0], RWS, reset 0, class C. -/
  | kvQuota
  /-- KV_BUDGET, R203: +0x0C [16:0], RWS, reset 0, class C. -/
  | kvBudget
  /-- KV_SINK, R203: +0x10 [19:0], RWS, reset 0, class C. -/
  | kvSink
  /-- KV_RECENT, R203: +0x14 [19:0], RWS, reset 0, class C. -/
  | kvRecent
  /-- KV_DECAY, R203: +0x18 [31:0], RWS, reset 0x3F7D_70A4, class C. -/
  | kvDecay
  /-- KV_LISTTALLY, R203: +0x1C [15:0], RWS, reset 0, class C. -/
  | kvListtally
  /-- KV_PFXMAX, R203: +0x1C [26:16], RWS, reset 0, class C. -/
  | kvPfxmax
  /-- KV_HELD, R203: +0x20 [22:0], RO, reset 0, class C. -/
  | kvHeld
  /-- KV_PFXLIVE, R203: +0x24 [10:0], RO, reset 0, class C. -/
  | kvPfxlive
  /-- KV_PFXREL, R203: +0x28 [31:0], WO, reset 0, class C. -/
  | kvPfxrel
  /-- KV_PFXSTATUS, R203: +0x2C [15:0], RO, reset 0, class C. -/
  | kvPfxstatus
  /-- KV_EVICTS, R203: +0x30 [31:0], RO, reset 0, class C. -/
  | kvEvicts
  /-- KV_WIDENS, R203: +0x34 [31:0], RO, reset 0, class C. -/
  | kvWidens
  /-- KV_RECOMPS, R204: +0x0 [31:0], RO, reset 0, class C. -/
  | kvRecomps
  /-- KV_BUDGETHELD, R204: +0x4 [31:0], RO, reset 0, class C. -/
  | kvBudgetheld
  /-- KV_FARHELD, R204: +0x8 [26:0], RO, reset 0, class C. -/
  | kvFarheld
  /-- KV_PAGELOSS, R204: +0xC [31:0], RO, reset 0, class C. -/
  | kvPageloss
  /-- SMP_RUN, R223: 0x100 [1:0], RO, reset 0, class I. -/
  | smpRun
  /-- SMP_CTX, R223: 0x100 [7:2], RO, reset 0, class I. -/
  | smpCtx
  /-- SMP_ROWS, R223: 0x104 [31:0], RO, reset 0, class W. -/
  | smpRows
  /-- SMP_LOGITS, R223: 0x108–0x10C [63:0], RO, reset 0, class W. -/
  | smpLogits
  /-- SMP_NANROWS, R223: 0x110 [31:0], RO, reset 0, class W. -/
  | smpNanrows
  /-- SMP_EMPTYROWS, R223: 0x114 [31:0], RO, reset 0, class W. -/
  | smpEmptyrows
  /-- SMP_NUCLEUSCUT, R223: 0x118 [31:0], RO, reset 0, class W. -/
  | smpNucleuscut
  /-- SMP_PARAMBAD, R223: 0x11C [31:0], RO, reset 0, class W. -/
  | smpParambad
  /-- SMP_FENCE_REQ, R223: 0x120 [0], WO, reset 0, class W. -/
  | smpFenceReq
  /-- SMP_FENCED, R223: 0x120 [1], RO, reset 0, class W. -/
  | smpFenced
  /-- SMP_FENCEREASON, R223: 0x120 [3:2], RO, reset 0, class W. -/
  | smpFencereason
  /-- SMP_SEED, R224: +0x00–0x04 [63:0], RWS, reset 0, class C. -/
  | smpSeed
  /-- SMP_PARAMBASE, R224: +0x08–0x0C [63:0], RWS, reset 0, class C. -/
  | smpParambase
  /-- SMP_LOGITBASE, R224: +0x10–0x14 [63:0], RWS, reset 0, class C. -/
  | smpLogitbase
  /-- SMP_MERGEBASE, R224: +0x18–0x1C [63:0], RWS, reset 0, class C. -/
  | smpMergebase
  /-- SMP_LOGITSTRIDE, R224: +0x20 [31:0], RWS, reset 0, class C. -/
  | smpLogitstride
  /-- SMP_VOCBASE, R224: +0x24 [19:0], RWS, reset 0, class C. -/
  | smpVocbase
  /-- SMP_VOCLEN, R224: +0x28 [20:0], RWS, reset 1, class C. -/
  | smpVoclen
  /-- SMP_PARAMCNT, R224: +0x2C [12:0], RWS, reset 0, class C. -/
  | smpParamcnt
  /-- SMP_KMAX, R224: +0x2C [26:16], RWS, reset 64, class C. -/
  | smpKmax
  /-- SMP_LOGITFMT, R224: +0x2C [27], RWS, reset 0, class C. -/
  | smpLogitfmt
  /-- SMP_MERGETALLY, R224: +0x30 [15:0], RWS, reset 0, class C. -/
  | smpMergetally
  /-- SMP_TPINDEX, R224: +0x30 [21:16], RWS, reset 0, class C. -/
  | smpTpindex
  /-- SMP_CTXROWS, R224: +0x34 [31:0], RO, reset 0, class C. -/
  | smpCtxrows
  /-- WV_RUN, R251: 0x100 [1:0], RO, reset 0, class I. -/
  | wvRun
  /-- WV_CTX, R251: 0x100 [7:2], RO, reset 0, class I. -/
  | wvCtx
  /-- WV_PLANS, R251: 0x100 [12:8], RO, reset 0, class I. -/
  | wvPlans
  /-- WV_ENTRIES, R251: 0x104 [31:0], RO, reset 0, class W. -/
  | wvEntries
  /-- WV_TXBYTES, R251: 0x108–0x10C [63:0], RO, reset 0, class W. -/
  | wvTxbytes
  /-- WV_RXBYTES, R251: 0x110–0x114 [63:0], RO, reset 0, class W. -/
  | wvRxbytes
  /-- WV_CONVELEMS, R251: 0x118–0x11C [63:0], RO, reset 0, class W. -/
  | wvConvelems
  /-- WV_TAGFAIL, R251: 0x120 [31:0], RO, reset 0, class W. -/
  | wvTagfail
  /-- WV_HASHFAIL, R251: 0x124 [31:0], RO, reset 0, class W. -/
  | wvHashfail
  /-- WV_REFUSED, R251: 0x128 [31:0], RO, reset 0, class W. -/
  | wvRefused
  /-- WV_MSTOREBASE, R251: 0x140–0x144 [63:0], RWS, reset 0, class W. -/
  | wvMstorebase
  /-- WV_MSTORESIZE, R251: 0x148 [15:0], RWS, reset 0, class W. -/
  | wvMstoresize
  /-- WV_MSTOREFREE, R251: 0x14C [15:0], RO, reset 0, class W. -/
  | wvMstorefree
  /-- WV_JOB, R252: +0x00 [31:0], RWS, reset 0, class C. -/
  | wvJob
  /-- WV_GATE, R252: +0x04 [1:0], RO, reset 0, class C. -/
  | wvGate
  /-- WV_MSLOTS, R252: +0x04 [5:2], RO, reset 0, class C. -/
  | wvMslots
  /-- WV_GATESTATUS, R252: +0x08 [15:0], RO, reset 0, class C. -/
  | wvGatestatus
  /-- WV_PLANSDONE, R252: +0x0C [31:0], RO, reset 0, class C. -/
  | wvPlansdone
  /-- WV_PLANSFAILED, R252: +0x10 [31:0], RO, reset 0, class C. -/
  | wvPlansfailed
  /-- WV_NFSENT, R252: +0x14 [31:0], RO, reset 0, class C. -/
  | wvNfsent
  /-- WV_NFRECV, R252: +0x18 [31:0], RO, reset 0, class C. -/
  | wvNfrecv
  /-- TLY_FREE, R272: 0x100 [18:0], RO, reset 262,144, class W. -/
  | tlyFree
  /-- TLY_WAITERS, R272: 0x104 [11:0], RO, reset 0, class I. -/
  | tlyWaiters
  /-- TLY_SIGNALS, R272: 0x108–0x10C [63:0], RO, reset 0, class W. -/
  | tlySignals
  /-- TLY_WAITS, R272: 0x110 [31:0], RO, reset 0, class W. -/
  | tlyWaits
  /-- TLY_REMOTE, R272: 0x114 [31:0], RO, reset 0, class W. -/
  | tlyRemote
  /-- TLY_ERRORS, R272: 0x118 [31:0], RO, reset 0, class W. -/
  | tlyErrors
  /-- TLY_REFUSED, R272: 0x11C [31:0], RO, reset 0, class W. -/
  | tlyRefused
  /-- TLY_CMDVID, R273: 0x200 [15:0], RW, reset 0, class W. -/
  | tlyCmdvid
  /-- TLY_CMDCTX, R273: 0x200 [21:16], RW, reset 0, class W. -/
  | tlyCmdctx
  /-- TLY_CMDBANK, R273: 0x200 [24:22], RW, reset 4, class W. -/
  | tlyCmdbank
  /-- TLY_CMDFOREIGN, R273: 0x200 [25], RW, reset 0, class W. -/
  | tlyCmdforeign
  /-- TLY_CMDARG, R273: 0x204 [31:0], RW, reset 0, class W. -/
  | tlyCmdarg
  /-- TLY_CMD, R273: 0x208 [2:0], WO, reset 0, class W. -/
  | tlyCmd
  /-- TLY_CMDSTATUS, R273: 0x20C [15:0], RO, reset 0, class W. -/
  | tlyCmdstatus
  /-- TLY_CMDVALUE, R273: 0x210 [31:0], RO, reset 0, class W. -/
  | tlyCmdvalue
  /-- MEM_NUM, R291: 0x100 [5:0], RO, reset c, class F. -/
  | memNum
  /-- MEM_STATE, R291: 0x100 [7:6], RO, reset 0, class W. -/
  | memState
  /-- MEM_FENCE_REQ, R291: 0x100 [8], WO, reset 0, class W. -/
  | memFenceReq
  /-- MEM_CE, R291: 0x104 [31:0], RO, reset 0, class W. -/
  | memCe
  /-- MEM_UE, R291: 0x108 [31:0], RO, reset 0, class W. -/
  | memUe
  /-- MEM_POISONED, R291: 0x10C [15:0], RO, reset 0, class W. -/
  | memPoisoned
  /-- MEM_CEADDR, R291: 0x110–0x114 [63:0], RO, reset 0, class W. -/
  | memCeaddr
  /-- MEM_RDBYTES, R291: 0x118–0x11C [63:0], RO, reset 0, class W. -/
  | memRdbytes
  /-- MEM_WRBYTES, R291: 0x120–0x124 [63:0], RO, reset 0, class W. -/
  | memWrbytes
  /-- MEM_SCRUBPASS, R291: 0x128 [31:0], RO, reset 0, class W. -/
  | memScrubpass
  /-- MEM_RMW, R291: 0x12C [31:0], RO, reset 0, class W. -/
  | memRmw
  /-- MEM_SCRUBHOURS, R292: 0xA00 [7:0], RWS, reset 12, class W. -/
  | memScrubhours
  /-- MEM_RETIRETHRESH, R292: 0xA00 [15:8], RWS, reset 16, class W. -/
  | memRetirethresh
  /-- MEM_RESVBASE, R292: 0xA04 [17:0], RWS, reset 0, class K. -/
  | memResvbase
  /-- MEM_RESVFRAMES, R292: 0xA08 [8:0], RWS, reset 0, class K. -/
  | memResvframes
  /-- MEM_RETIRED, R292: 0xA0C [8:0], RO, reset 0, class K. -/
  | memRetired
  /-- MEM_RETIRE_FULLF, R292: 0xA0C [9], RO, reset 0, class K. -/
  | memRetireFullf
  /-- MEM_RETIREIDX, R292: 0xA10 [7:0], RW, reset 0, class W. -/
  | memRetireidx
  /-- MEM_RETIRELIST, R292: 0xA14 [17:0], RO, reset 0, class K. -/
  | memRetirelist
  /-- CXL_STATE, R293: 0x100 [2:0], RO, reset 0, class I. -/
  | cxlState
  /-- CXL_WIDTH, R293: 0x100 [7:3], RO, reset 0, class I. -/
  | cxlWidth
  /-- CXL_SPEED, R293: 0x100 [9:8], RO, reset 0, class I. -/
  | cxlSpeed
  /-- CXL_ENABLE, R293: 0x100 [10], WO, reset 0, class I. -/
  | cxlEnable
  /-- CXL_IDE, R293: 0x100 [11], RWS, reset 0, class W. -/
  | cxlIde
  /-- CXL_CAPACITY, R293: 0x104 [28:0], RO, reset 0, class I. -/
  | cxlCapacity
  /-- CXL_POISON, R293: 0x108 [31:0], RO, reset 0, class W. -/
  | cxlPoison
  /-- CXL_DOWNS, R293: 0x10C [31:0], RO, reset 0, class W. -/
  | cxlDowns
  /-- CXL_RDBYTES, R293: 0x110–0x114 [63:0], RO, reset 0, class W. -/
  | cxlRdbytes
  /-- CXL_WRBYTES, R293: 0x118–0x11C [63:0], RO, reset 0, class W. -/
  | cxlWrbytes
  /-- SPN_NUM, R324: 0x100 [4:0], RO, reset s, class F. -/
  | spnNum
  /-- SPN_STATE, R324: 0x100 [7:5], RO, reset 0, class I. -/
  | spnState
  /-- SPN_WIDTH, R324: 0x100 [12:8], RO, reset 0, class I. -/
  | spnWidth
  /-- SPN_SILENT, R324: 0x100 [13], RO, reset 0, class I. -/
  | spnSilent
  /-- SPN_LANES, R324: 0x104 [15:0], RO, reset 0, class I. -/
  | spnLanes
  /-- SPN_LANESLOST, R324: 0x104 [31:16], RO, reset 0, class I. -/
  | spnLaneslost
  /-- SPN_PEER, R324: 0x108 [13:0], RO, reset 0, class I. -/
  | spnPeer
  /-- SPN_PEERVALID, R324: 0x108 [14], RO, reset 0, class I. -/
  | spnPeervalid
  /-- SPN_PEERSPAN, R324: 0x108 [20:16], RO, reset 0, class I. -/
  | spnPeerspan
  /-- SPN_PEERSTATE, R324: 0x108 [23:21], RO, reset 0, class I. -/
  | spnPeerstate
  /-- SPN_REFUSE, R324: 0x10C [15:0], RO, reset 0, class W. -/
  | spnRefuse
  /-- SPN_FENCE_REQ, R324: 0x110 [0], WO, reset 0, class W. -/
  | spnFenceReq
  /-- SPN_LANETHRESH, R324: 0x114 [31:0], RWS, reset 20,000, class W. -/
  | spnLanethresh
  /-- SPN_UNCORRTHRESH, R324: 0x118 [7:0], RWS, reset 16, class W. -/
  | spnUncorrthresh
  /-- SPN_MARGIN, R324: 0x11C–0x120 [63:0], RO, reset 0, class I. -/
  | spnMargin
  /-- SPN_FECCORR, R324: 0x124–0x128 [63:0], RO, reset 0, class W. -/
  | spnFeccorr
  /-- SPN_FECUNCORR, R324: 0x12C [31:0], RO, reset 0, class W. -/
  | spnFecuncorr
  /-- SPN_REPLAYS, R324: 0x130 [31:0], RO, reset 0, class W. -/
  | spnReplays
  /-- SPN_TAGFAIL, R324: 0x134 [31:0], RO, reset 0, class W. -/
  | spnTagfail
  /-- SPN_TXBYTES, R324: 0x138–0x13C [63:0], RO, reset 0, class W. -/
  | spnTxbytes
  /-- SPN_RXBYTES, R324: 0x140–0x144 [63:0], RO, reset 0, class W. -/
  | spnRxbytes
  /-- SPN_FWD, R324: 0x148 [31:0], RO, reset 0, class W. -/
  | spnFwd
  /-- SPN_DROPS, R324: 0x14C [31:0], RO, reset 0, class W. -/
  | spnDrops
  /-- SPN_WIDTHCHG, R324: 0x150 [31:0], RO, reset 0, class W. -/
  | spnWidthchg
  /-- SPN_KEYUPD, R324: 0x154 [31:0], RO, reset 0, class W. -/
  | spnKeyupd
  /-- FLT_ID, R325: 0x100–0x104 [63:0], RWS, reset 0, class K. -/
  | fltId
  /-- FLT_MEMBER, R325: 0x108 [13:0], RO, reset 0, class K. -/
  | fltMember
  /-- FLT_MEMBERVALID, R325: 0x108 [14], RO, reset 0, class K. -/
  | fltMembervalid
  /-- FLT_STATE, R325: 0x108 [18:16], RO, reset 0, class W. -/
  | fltState
  /-- FLT_GROUNDREASON, R325: 0x10C [15:0], RO, reset 0, class K. -/
  | fltGroundreason
  /-- FLT_EPOCH, R325: 0x110–0x114 [63:0], RO, reset 0, class K. -/
  | fltEpoch
  /-- FLT_COMMITTED, R325: 0x118–0x11C [63:0], RO, reset 0, class K. -/
  | fltCommitted
  /-- FLT_ISSTEWARD, R325: 0x120 [0], RO, reset 0, class K. -/
  | fltIssteward
  /-- FLT_ISLEAD, R325: 0x120 [1], RO, reset 0, class K. -/
  | fltIslead
  /-- FLT_STEWARDS, R325: 0x120 [4:2], RO, reset 0, class K. -/
  | fltStewards
  /-- FLT_STEWTARGET, R325: 0x120 [10:8], RO, reset 0, class K. -/
  | fltStewtarget
  /-- FLT_TERM, R325: 0x124 [31:0], RO, reset 0, class K. -/
  | fltTerm
  /-- FLT_LEAD, R325: 0x128 [13:0], RO, reset 0, class K. -/
  | fltLead
  /-- FLT_LEADVALID, R325: 0x128 [14], RO, reset 0, class K. -/
  | fltLeadvalid
  /-- FLT_SIZE, R325: 0x12C [14:0], RO, reset 0, class K. -/
  | fltSize
  /-- FLT_REGION, R325: 0x130–0x134 [63:0], RWS, reset 0, class K. -/
  | fltRegion
  /-- FLT_FEEDTAG, R325: 0x138 [15:0], RO, reset straps, class K. -/
  | fltFeedtag
  /-- FLT_FEEDOK, R325: 0x138 [16], RO, reset 0, class K. -/
  | fltFeedok
  /-- FLT_CMD, R325: 0x13C [3:0], WO, reset 0, class W. -/
  | fltCmd
  /-- FLT_CMDSTATUS, R325: 0x140 [15:0], RO, reset 0, class W. -/
  | fltCmdstatus
  /-- FLT_APPLIED, R325: 0x144 [31:0], RO, reset 0, class W. -/
  | fltApplied
  /-- FLT_ELECTIONS, R325: 0x148 [31:0], RO, reset 0, class W. -/
  | fltElections
  /-- FLT_CATCHUPS, R325: 0x14C [31:0], RO, reset 0, class W. -/
  | fltCatchups
  /-- FLT_CMDBODY, R325: 0x200–0x3FC [31:0], RW, reset 0, class W. -/
  | fltCmdbody
  /-- FH_LEVEL, R354: 0x100 [2:0], RO, reset 0, class W. -/
  | fhLevel
  /-- FH_LEVELSRC, R354: 0x100 [6:3], RO, reset 0, class W. -/
  | fhLevelsrc
  /-- FH_LEVELMIN, R354: 0x104 [2:0], RWS, reset 0, class W. -/
  | fhLevelmin
  /-- FH_INLEVELS, R354: 0x108 [26:0], RO, reset 0, class W. -/
  | fhInlevels
  /-- FH_NBRLEVEL, R354: 0x10C [2:0], RO, reset 0, class W. -/
  | fhNbrlevel
  /-- FH_THERMMARGIN, R354: 0x110 [7:0], RO, reset 0, class W. -/
  | fhThermmargin
  /-- FH_DROOPS, R354: 0x114 [31:0], RO, reset 0, class W. -/
  | fhDroops
  /-- FH_WATCHDOGS, R354: 0x118 [31:0], RO, reset 0, class W. -/
  | fhWatchdogs
  /-- FH_LEVELCHG, R354: 0x11C [31:0], RO, reset 0, class W. -/
  | fhLevelchg
  /-- FH_LASTCHG, R354: 0x120–0x124 [63:0], RO, reset 0, class W. -/
  | fhLastchg
  /-- FH_ARM, R355: 0x100 [0], RWS, reset 0, class W. -/
  | fhArm
  /-- FH_ARMCTX, R355: 0x100 [6:1], RWS, reset 0, class W. -/
  | fhArmctx
  /-- FH_ROLE, R355: 0x100 [8:7], RWS, reset 0, class W. -/
  | fhRole
  /-- FH_STAGETIER, R355: 0x100 [9], RWS, reset 0, class W. -/
  | fhStagetier
  /-- FH_STATE, R355: 0x104 [2:0], RO, reset 0, class W. -/
  | fhState
  /-- FH_EXPOSED, R355: 0x104 [3], RO, reset 0, class W. -/
  | fhExposed
  /-- FH_ISOLATED, R355: 0x104 [4], RO, reset 0, class W. -/
  | fhIsolated
  /-- FH_K, R355: 0x108 [6:0], RWS, reset 8, class W. -/
  | fhK
  /-- FH_MARGIN, R355: 0x108 [14:8], RWS, reset 2, class W. -/
  | fhMargin
  /-- FH_INTERVAL, R355: 0x10C [6:0], RO, reset 0, class W. -/
  | fhInterval
  /-- FH_KFLIGHT, R355: 0x10C [13:7], RO, reset 0, class W. -/
  | fhKflight
  /-- FH_BASE, R355: 0x110–0x114 [63:0], RO, reset 0, class W. -/
  | fhBase
  /-- FH_POINT, R355: 0x118–0x11C [63:0], RO, reset 0, class W. -/
  | fhPoint
  /-- FH_PREVPOINT, R355: 0x120–0x124 [63:0], RO, reset 0, class W. -/
  | fhPrevpoint
  /-- FH_REGIONS, R355: 0x128–0x12C [63:0], RWS, reset 0, class W. -/
  | fhRegions
  /-- FH_REGIONCNT, R355: 0x130 [8:0], RWS, reset 0, class W. -/
  | fhRegioncnt
  /-- FH_LOSSBASE, R355: 0x134–0x138 [63:0], RWS, reset 0, class W. -/
  | fhLossbase
  /-- FH_STAGEBASE, R355: 0x13C–0x140 [63:0], RWS, reset 0, class W. -/
  | fhStagebase
  /-- FH_STAGESIZE, R355: 0x144 [19:0], RWS, reset 0, class W. -/
  | fhStagesize
  /-- FH_BALLASTBASE, R355: 0x148–0x14C [63:0], RWS, reset 0, class W. -/
  | fhBallastbase
  /-- FH_SLOTSIZE, R355: 0x150 [19:0], RWS, reset 0, class W. -/
  | fhSlotsize
  /-- FH_PARTNERA, R355: 0x154 [13:0], RO, reset 0, class W. -/
  | fhPartnera
  /-- FH_PARTNERAV, R355: 0x154 [14], RO, reset 0, class W. -/
  | fhPartnerav
  /-- FH_PARTNERB, R355: 0x154 [29:16], RO, reset 0, class W. -/
  | fhPartnerb
  /-- FH_PARTNERBV, R355: 0x154 [30], RO, reset 0, class W. -/
  | fhPartnerbv
  /-- FH_WARD0, R355: 0x158 [13:0], RO, reset 0, class W. -/
  | fhWard0
  /-- FH_WARD0V, R355: 0x158 [14], RO, reset 0, class W. -/
  | fhWard0v
  /-- FH_WARD1, R355: 0x158 [29:16], RO, reset 0, class W. -/
  | fhWard1
  /-- FH_WARD1V, R355: 0x158 [30], RO, reset 0, class W. -/
  | fhWard1v
  /-- FH_MIRROR, R355: 0x15C [13:0], RWS, reset 0, class W. -/
  | fhMirror
  /-- FH_MIRRORVALID, R355: 0x15C [14], RWS, reset 0, class W. -/
  | fhMirrorvalid
  /-- FH_MIRRORCTX, R355: 0x15C [21:16], RWS, reset 0, class W. -/
  | fhMirrorctx
  /-- FH_EXPORTSTEP, R355: 0x160–0x164 [63:0], RW, reset 0, class K. -/
  | fhExportstep
  /-- FH_CMD, R355: 0x168 [2:0], WO, reset 0, class W. -/
  | fhCmd
  /-- FH_CMDSTATUS, R355: 0x16C [15:0], RO, reset 0, class W. -/
  | fhCmdstatus
  /-- FH_TOL, R355: 0x170 [31:0], RWS, reset 0x3A80_0000, class W. -/
  | fhTol
  /-- FH_MINCLUSTERS, R355: 0x174 [7:0], RWS, reset 176, class W. -/
  | fhMinclusters
  /-- FH_SECURES, R355: 0x178 [31:0], RO, reset 0, class W. -/
  | fhSecures
  /-- FH_RECOVERIES, R355: 0x17C [31:0], RO, reset 0, class W. -/
  | fhRecoveries
  /-- FH_MISMATCHES, R355: 0x180 [31:0], RO, reset 0, class W. -/
  | fhMismatches
  /-- FH_CAPTUREWAIT, R355: 0x184 [31:0], RO, reset 0, class W. -/
  | fhCapturewait
  /-- FH_WARDWINDOW, R355: 0x188–0x18C [63:0], RWS, reset 0, class W. -/
  | fhWardwindow
  /-- FH_STAGEPORTS, R355: 0x190 [7:0], RO, reset 0, class W. -/
  | fhStageports
  /-- FH_RUNSTEP, R355: 0x194–0x198 [63:0], RO, reset 0, class W. -/
  | fhRunstep
  /-- DB_TAIL, R369: +0x00 [31:0], RW for software-produced types; RO for COMPLETION, reset 0, class C. -/
  | dbTail
  /-- DB_HEAD, R369: +0x04 [31:0], RO for software-produced types; RW for COMPLETION, reset 0, class C. -/
  | dbHead
  /-- DB_STATE, R369: +0x08 [1:0], RO, reset 0, class C. -/
  | dbState
  /-- DB_TYPE, R369: +0x08 [3:2], RO, reset 0, class C. -/
  | dbType
  /-- DB_LOG2, R369: +0x08 [8:4], RO, reset 0, class C. -/
  | dbLog2
  /-- DB_CTX, R369: +0x08 [14:9], RO, reset 0, class C. -/
  | dbCtx
  /-- DB_ERR, R369: +0x0C [15:0], RO, reset 0, class C. -/
  | dbErr
  /-- DB_RESUME, R369: +0x0C [16], WO, reset 0, class C. -/
  | dbResume
  /-- CTX_STATE, R385: 0x100 [1:0], RO, reset 0, class C. -/
  | ctxState
  /-- CTX_CLASS, R385: 0x100 [2], RWS, reset 0, class C. -/
  | ctxClass
  /-- CTX_CLASSPEND, R385: 0x100 [3], RO, reset 0, class C. -/
  | ctxClasspend
  /-- CTX_OVFMODE, R385: 0x100 [5:4], RWS, reset 0, class C. -/
  | ctxOvfmode
  /-- CTX_METERED, R385: 0x100 [6], RO, reset 0, class C. -/
  | ctxMetered
  /-- CTX_FIXEDLANES, R385: 0x100 [7], RO, reset 0, class C. -/
  | ctxFixedlanes
  /-- CTX_LANESOK, R385: 0x100 [8], RO, reset 0, class C. -/
  | ctxLanesok
  /-- CTX_OWNER, R385: 0x100 [21:16], RO, reset 0, class C. -/
  | ctxOwner
  /-- CTX_SCRSLICE, R385: 0x104 [7:0], RWS, reset 0, class C. -/
  | ctxScrslice
  /-- CTX_ACCSLICE, R385: 0x104 [15:8], RWS, reset 0, class C. -/
  | ctxAccslice
  /-- CTX_SLOT, R385: 0x104 [18:16], RO, reset 0, class C. -/
  | ctxSlot
  /-- CTX_SLOTVALID, R385: 0x104 [19], RO, reset 0, class C. -/
  | ctxSlotvalid
  /-- CTX_MASK, R385: 0x108–0x11C [31:0], RWS, reset 0, class C. -/
  | ctxMask
  /-- CTX_EFFCLUSTERS, R385: 0x120 [7:0], RO, reset 0, class C. -/
  | ctxEffclusters
  /-- CTX_REQLANES, R385: 0x120 [31:16], RO, reset 0, class C. -/
  | ctxReqlanes
  /-- CTX_WEIGHT, R385: 0x124 [7:0], RWS, reset 16, class C. -/
  | ctxWeight
  /-- CTX_MEMSHARE, R385: 0x124 [18:8], RWS, reset 0, class C. -/
  | ctxMemshare
  /-- CTX_SPANSHARE, R385: 0x124 [29:19], RWS, reset 0, class C. -/
  | ctxSpanshare
  /-- CTX_MEMBURST, R385: 0x128 [15:0], RWS, reset 64, class C. -/
  | ctxMemburst
  /-- CTX_SPANBURST, R385: 0x128 [31:16], RWS, reset 64, class C. -/
  | ctxSpanburst
  /-- CTX_EVTRATE, R385: 0x12C [15:0], RWS, reset 100, class C. -/
  | ctxEvtrate
  /-- CTX_EVTBURST, R385: 0x12C [31:16], RWS, reset 64, class C. -/
  | ctxEvtburst
  /-- CTX_EVTDEST, R385: 0x130 [1:0], RWS, reset 0, class C. -/
  | ctxEvtdest
  /-- CTX_EVTHART, R385: 0x130 [7:2], RWS, reset 0, class C. -/
  | ctxEvthart
  /-- CTX_EVTRING, R385: 0x130 [31:16], RWS, reset 0, class C. -/
  | ctxEvtring
  /-- CTX_QUADS, R385: 0x134 [15:0], RWS, reset 0, class C. -/
  | ctxQuads
  /-- CTX_EVTLOST, R385: 0x138 [31:0], RO, reset 0, class C. -/
  | ctxEvtlost
  /-- CTX_EVTPEND, R385: 0x13C [6:0], RO, reset 0, class C. -/
  | ctxEvtpend
  /-- CTX_TABLEBASE, R385: 0x140–0x144 [63:0], RO, reset 0, class C. -/
  | ctxTablebase
  /-- CTX_TABLESIZE, R385: 0x148 [15:0], RO, reset 0, class C. -/
  | ctxTablesize
  /-- CTX_L2FREE, R385: 0x14C [31:0], RO, reset 0, class C. -/
  | ctxL2free
  /-- CTX_CMD, R385: 0x150 [3:0], WO, reset 0, class C. -/
  | ctxCmd
  /-- CTX_CMDSTATUS, R385: 0x154 [15:0], RO, reset 0, class C. -/
  | ctxCmdstatus
  /-- CTX_CMDARG, R385: 0x158–0x17C [31:0], RW, reset 0, class C. -/
  | ctxCmdarg
  /-- CTX_CYCLES, R385: 0x180–0x184 [63:0], RO, reset 0, class C. -/
  | ctxCycles
  /-- CTX_MEMBYTES, R385: 0x188–0x18C [63:0], RO, reset 0, class C. -/
  | ctxMembytes
  /-- CTX_RINGS, R385: 0x190 [16:0], RO, reset 0, class C. -/
  | ctxRings
  /-- CTX_SPILLWAIT, R385: 0x194 [31:0], RO, reset 0, class C. -/
  | ctxSpillwait
  /-- TETH_MODE, R418: 0x100 [0], RWS, reset 0, class K. -/
  | tethMode
  /-- TETH_PORTSTATE0, R418: 0x104 [2:0], RO, reset 0, class I. -/
  | tethPortstate0
  /-- TETH_HOME0, R418: 0x104 [3], RO, reset 0, class I. -/
  | tethHome0
  /-- TETH_PORTSTATE1, R418: 0x104 [10:8], RO, reset 0, class I. -/
  | tethPortstate1
  /-- TETH_HOME1, R418: 0x104 [11], RO, reset 0, class I. -/
  | tethHome1
  /-- TETH_OPEN, R418: 0x108–0x10C [63:0], RO, reset 0, class W. -/
  | tethOpen
  /-- TETH_RXFRAMES, R418: 0x110–0x114 [63:0], RO, reset 0, class W. -/
  | tethRxframes
  /-- TETH_TXFRAMES, R418: 0x118–0x11C [63:0], RO, reset 0, class W. -/
  | tethTxframes
  /-- TETH_TAGFAIL, R418: 0x120 [31:0], RO, reset 0, class W. -/
  | tethTagfail
  /-- TETH_REPLAYS, R418: 0x124 [31:0], RO, reset 0, class W. -/
  | tethReplays
  /-- TETH_FAILOVERS, R418: 0x128 [31:0], RO, reset 0, class W. -/
  | tethFailovers
  /-- TETH_CORRUPT, R418: 0x12C [31:0], RO, reset 0, class W. -/
  | tethCorrupt
  /-- SEC_CMD, R418: 0x130 [3:0], WO, reset 0, class W. -/
  | secCmd
  /-- SEC_CMDSTATUS, R418: 0x134 [15:0], RO, reset 0, class W. -/
  | secCmdstatus
  /-- SEC_PUBCOUNT, R418: 0x138 [4:0], RO, reset 0, class K. -/
  | secPubcount
  /-- SEC_OWNERSET, R418: 0x138 [5], RO, reset 0, class F. -/
  | secOwnerset
  /-- SEC_LMSLEFT, R418: 0x13C–0x140 [63:0], RO, reset 2^35, class F. -/
  | secLmsleft
  /-- SEC_BRDVIOL, R418: 0x144 [31:0], RO, reset 0, class W. -/
  | secBrdviol
  /-- SEC_IDCERTLEN, R418: 0x148 [31:0], RO, reset —, class F. -/
  | secIdcertlen
  /-- TS_STATE, R419: +0x00 [1:0], RO, reset 0, class W. -/
  | tsState
  /-- TS_MODE, R419: +0x00 [3:2], RO, reset 0, class W. -/
  | tsMode
  /-- TS_PORT, R419: +0x00 [4], RO, reset 0, class W. -/
  | tsPort
  /-- TS_KEYPHASE, R419: +0x00 [5], RO, reset 0, class W. -/
  | tsKeyphase
  /-- TS_CLOSEREASON, R419: +0x00 [10:8], RO, reset 0, class W. -/
  | tsClosereason
  /-- TS_ENABLED, R419: +0x04 [0], RO, reset 0, class K. -/
  | tsEnabled
  /-- TS_PSKOK, R419: +0x04 [1], RO, reset 0, class K. -/
  | tsPskok
  /-- TS_READALL, R419: +0x04 [2], RO, reset 0, class K. -/
  | tsReadall
  /-- TS_KEYS, R419: +0x04 [3], RO, reset 0, class K. -/
  | tsKeys
  /-- TS_PSKSET, R419: +0x04 [4], RO, reset 0, class K. -/
  | tsPskset
  /-- TS_EVTACK, R419: +0x08 [10:0], WO, reset 0, class W. -/
  | tsEvtack
  /-- TS_EVTWINDOW, R419: +0x0C [10:0], RO, reset 0, class W. -/
  | tsEvtwindow
  /-- TS_RXCTR, R419: +0x10–0x14 [63:0], RO, reset 0, class W. -/
  | tsRxctr
  /-- TS_TXCTR, R419: +0x18–0x1C [63:0], RO, reset 0, class W. -/
  | tsTxctr
  /-- TS_TAGFAIL, R419: +0x20 [31:0], RO, reset 0, class W. -/
  | tsTagfail
  /-- TS_OPENS, R419: +0x24 [31:0], RO, reset 0, class W. -/
  | tsOpens
  /-- MTR_STATE, R443: 0x100 [1:0], RO, reset 0, class W. -/
  | mtrState
  /-- MTR_BOOT, R443: 0x104 [31:0], RO, reset —, class F. -/
  | mtrBoot
  /-- MTR_INSTNEXT, R443: 0x108 [31:0], RO, reset 1, class W. -/
  | mtrInstnext
  /-- MTR_VALIDCHG, R443: 0x10C [31:0], RO, reset 0, class W. -/
  | mtrValidchg
  /-- MTR_SEQ, R443: 0x110–0x114 [63:0], RO, reset 0, class W. -/
  | mtrSeq
  /-- MTR_TAIL, R443: 0x118 [6:0], RO, reset 0, class W. -/
  | mtrTail
  /-- MTR_PEEKCTX, R443: 0x11C [6:0], RW, reset 0, class W. -/
  | mtrPeekctx
  /-- MTR_PEEK, R443: 0x120–0x187 [63:0], RO, reset 0, class W. -/
  | mtrPeek
  /-- MTR_INSTANCE, R443: 0x200 + 0x10c [31:0], RO, reset 0, class W. -/
  | mtrInstance
  /-- MTR_METERED, R443: 0x204 + 0x10c [0], RO, reset 0, class W. -/
  | mtrMetered
  /-- MTR_LEARNTOK, R443: 0x208 + 0x10c [31:0], WO, reset 0, class W. -/
  | mtrLearntok
  /-- MTR_LEARNPEND, R443: 0x20C + 0x10c [31:0], RO, reset 0, class W. -/
  | mtrLearnpend
  /-- PWR_STATE, R463: 0x100 [1:0], RO, reset 0, class W. -/
  | pwrState
  /-- PWR_GATEEN, R463: 0x100 [2], RWS, reset 1, class W. -/
  | pwrGateen
  /-- PWR_CMD, R463: 0x104 [2:0], WO, reset 0, class W. -/
  | pwrCmd
  /-- PWR_CMDSTATUS, R463: 0x108 [15:0], RO, reset 0, class W. -/
  | pwrCmdstatus
  /-- PWR_REFUSECOND, R463: 0x108 [19:16], RO, reset 0, class W. -/
  | pwrRefusecond
  /-- WAKE_SOURCE, R463: 0x10C [3:0], RO, reset 0, class K. -/
  | wakeSource
  /-- WAKE_INDEX, R463: 0x10C [9:4], RO, reset 0, class K. -/
  | wakeIndex
  /-- PWR_WAKETIME, R463: 0x110–0x114 [63:0], RO, reset 0, class K. -/
  | pwrWaketime
  /-- PWR_WAKEMASK, R463: 0x118 [5:0], RWS, reset 0x3F, class W. -/
  | pwrWakemask
  /-- PWR_LIFT, R463: 0x11C [31:0], WO, reset 0, class W. -/
  | pwrLift
  /-- PWR_P2COUNT, R463: 0x120 [31:0], RO, reset 0, class K. -/
  | pwrP2count
  /-- PWR_VIN, R463: 0x124 [15:0], RO, reset 0, class W. -/
  | pwrVin
  /-- PWR_PIN, R463: 0x124 [31:16], RO, reset 0, class W. -/
  | pwrPin
  /-- PWR_CEILING, R463: 0x128 [15:0], RO, reset 4,400, class F. -/
  | pwrCeiling
  /-- PWR_PEAK, R463: 0x128 [31:16], RO, reset 0, class W. -/
  | pwrPeak
  /-- PWR_EXCURSIONS, R463: 0x12C [31:0], RO, reset 0, class W. -/
  | pwrExcursions
  /-- PWR_LIMITED, R463: 0x130 [31:0], RO, reset 0, class W. -/
  | pwrLimited
  /-- PWR_GATED, R463: 0x134 [8:0], RO, reset 0, class W. -/
  | pwrGated
  /-- PWR_GATINGS, R463: 0x138 [31:0], RO, reset 0, class W. -/
  | pwrGatings
  /-- RST_CMD, R464: 0x100 [1:0], WO, reset 0, class W. -/
  | rstCmd
  /-- RST_LAST, R464: 0x104 [1:0], RO, reset 1, class K. -/
  | rstLast
  /-- RST_CAUSE, R464: 0x104 [5:2], RO, reset 1, class K. -/
  | rstCause
  /-- RST_TIME, R464: 0x108–0x10C [63:0], RO, reset 0, class K. -/
  | rstTime
  /-- RST_MODULES, R464: 0x110 [31:0], RO, reset 0, class K. -/
  | rstModules
  /-- RST_WARMS, R464: 0x114 [31:0], RO, reset 0, class K. -/
  | rstWarms
  /-- RST_ISLANDS, R464: 0x118 [31:0], RO, reset 0, class W. -/
  | rstIslands
  /-- RST_LASTISLAND, R464: 0x11C [8:0], RO, reset 0, class W. -/
  | rstLastisland
  /-- RST_CTXRESETS, R464: 0x120 [31:0], RO, reset 0, class W. -/
  | rstCtxresets
  /-- PAGE_TYPE, R472: 0x000 [7:0], RO, reset type, class F. -/
  | pageType
  /-- PAGE_INST, R472: 0x000 [19:8], RO, reset instance, class F. -/
  | pageInst
  /-- PAGE_LAYOUT, R472: 0x000 [23:20], RO, reset 1, class F. -/
  | pageLayout
  /-- CAP_SHADOW, R472: 0x004 [0], RO, reset R510, class F. -/
  | capShadow
  /-- CAP_PERCTX, R472: 0x004 [1], RO, reset R510, class F. -/
  | capPerctx
  /-- CAP_CMD, R472: 0x004 [2], RO, reset R510, class F. -/
  | capCmd
  /-- CAP_FENCE, R472: 0x004 [3], RO, reset R510, class F. -/
  | capFence
  /-- CAP_VIEW, R472: 0x004 [4], RO, reset R510, class F. -/
  | capView
  /-- CAP_SHARED, R472: 0x004 [5], RO, reset R510, class F. -/
  | capShared
  /-- DEFAULTED, R472: 0x008 [0], RO, reset 1, class K. -/
  | defaulted
  /-- BUSY, R472: 0x008 [1], RO, reset 0, class I. -/
  | busy
  /-- FENCED, R472: 0x008 [2], RO, reset 0, class W. -/
  | fenced
  /-- PAGE_SURVIVAL, R472: 0x00C [4:0], RO, reset —, class F. -/
  | pageSurvival
  /-- EVT_PENDING, R472: 0x010 [14:0], W1C, reset 0, class W. -/
  | evtPending
  /-- EVT_MASK, R472: 0x014 [14:0], RW, reset 0, class W. -/
  | evtMask
  /-- EVT_ROUTE, R472: 0x018 [1:0], RW, reset 0, class W. -/
  | evtRoute
  /-- EVT_COUNT, R472: 0x01C [31:0], RO, reset 0, class W. -/
  | evtCount
  /-- ERR_CODE, R472: 0x020 [15:0], RO, reset 0, class W. -/
  | errCode
  /-- ERR_VALID, R472: 0x020 [16], W1C, reset 0, class W. -/
  | errValid
  /-- ERR_INFO, R472: 0x024 [31:0], RO, reset 0, class W. -/
  | errInfo
  /-- ERR_COUNT, R472: 0x028 [31:0], RO, reset 0, class W. -/
  | errCount
  /-- CFG_EPOCH, R472: 0x030 [31:0], RO, reset 0, class W. -/
  | cfgEpoch
  /-- COMMIT, R472: 0x034 [0], WO, reset 0, class W. -/
  | commit
  /-- STAGE, R472: 0x034 [1], WO, reset 0, class W. -/
  | stage
  /-- DISCARD, R472: 0x034 [2], WO, reset 0, class W. -/
  | discard
  /-- COMMIT_STAGED, R472: 0x034 [3], WO, reset 0, class W. -/
  | commitStaged
  /-- STAGED, R472: 0x034 [4], RO, reset 0, class W. -/
  | staged
  /-- SHADOWDIRTY, R472: 0x034 [5], RO, reset 0, class W. -/
  | shadowdirty
  /-- GLB_PART, R482: 0x100 [15:0], RO, reset 0x9600, class F. -/
  | glbPart
  /-- GLB_STEPPING, R482: 0x100 [23:16], RO, reset —, class F. -/
  | glbStepping
  /-- GLB_LAYOUT, R482: 0x100 [31:24], RO, reset 1, class F. -/
  | glbLayout
  /-- GLB_SERIAL, R482: 0x104–0x108 [47:0], RO, reset —, class F. -/
  | glbSerial
  /-- GLB_DEVTIME, R482: 0x110–0x114 [63:0], RO, reset 0, class K. -/
  | glbDevtime
  /-- GLB_EPOCH, R482: 0x118 [31:0], RO, reset 0, class W. -/
  | glbEpoch
  /-- GLB_STAGED, R482: 0x11C [12:0], RO, reset 0, class W. -/
  | glbStaged
  /-- GLB_ISLANDS, R482: 0x120 [8:0], RO, reset 317, class F. -/
  | glbIslands
  /-- GLB_DEVTIMEMON, R482: 0x124 [0], RO, reset 0, class W. -/
  | glbDevtimemon
  /-- GLB_CLUSTERS, R482: 0x128 [7:0], RO, reset 192, class W. -/
  | glbClusters
  /-- GLB_CHANNELS, R482: 0x128 [13:8], RO, reset 48, class W. -/
  | glbChannels
  /-- KEEL_STATE, R483: 0x100 [1:0], RO, reset 0, class W. -/
  | keelState
  /-- KEEL_FWEPOCH, R483: 0x104 [6:0], RO, reset 0, class K. -/
  | keelFwepoch
  /-- KEEL_MISMATCH, R483: 0x108 [31:0], RO, reset 0, class K. -/
  | keelMismatch
  /-- KEEL_WDPERIOD, R483: 0x10C [15:0], RO, reset 100, class F. -/
  | keelWdperiod
  /-- KEEL_WDKICK, R483: 0x110 [0], WO, reset 0, class W. -/
  | keelWdkick
  /-- KEEL_FWHASH, R483: 0x114–0x140 [31:0], RO, reset 0, class K. -/
  | keelFwhash
  /-- BRD_LASTADDR, R484: 0x100–0x104 [63:0], RO, reset 0, class W. -/
  | brdLastaddr
  /-- BRD_LASTKIND, R484: 0x108 [3:0], RO, reset 0, class W. -/
  | brdLastkind
  /-- BRD_LASERMAX, R484: 0x10C [11:0], RO, reset —, class F. -/
  | brdLasermax
  /-- BRD_SPANRATE, R484: 0x110 [15:0], RO, reset 1,000, class F. -/
  | brdSpanrate
  /-- FUSE_OWNERUSED, R485: 0x100 [3:0], RWF, reset 0, class F. -/
  | fuseOwnerused
  /-- FUSE_FWEPOCH, R485: 0x100 [10:4], RWF, reset 0, class F. -/
  | fuseFwepoch
  /-- FUSE_CEILUSED, R485: 0x100 [13:11], RWF, reset 0, class F. -/
  | fuseCeilused
  /-- FUSE_LOGCOUNT, R485: 0x100 [21:14], RO, reset 0, class F. -/
  | fuseLogcount
  /-- FUSE_DEBUGCLOSED, R485: 0x100 [22], RO, reset —, class F. -/
  | fuseDebugclosed
  /-- FUSE_CEILING, R485: 0x104 [15:0], RWF, reset 4,400, class F. -/
  | fuseCeiling
  /-- FUSE_OWNERHASH, R485: 0x108–0x134 [31:0], RWF, reset 0, class F. -/
  | fuseOwnerhash
  /-- FUSE_VENDORIDS, R485: 0x138 [2:0], RO, reset —, class F. -/
  | fuseVendorids
  /-- FUSE_VENDORFW, R485: 0x138 [5:3], RO, reset —, class F. -/
  | fuseVendorfw
  /-- GQ_CTX, R487: 0x100 [5:0], RO, reset 0, class W. -/
  | gqCtx
  /-- GQ_CTXVALID, R487: 0x100 [6], RO, reset 0, class W. -/
  | gqCtxvalid
  /-- GQ_HARTS, R487: 0x104 [7:0], RO, reset 0, class I. -/
  | gqHarts
  /-- GQ_START, R487: 0x108 [3:0], WO, reset 0, class I. -/
  | gqStart
  /-- GQ_STOP, R487: 0x108 [7:4], WO, reset 0, class I. -/
  | gqStop
  /-- GQ_BOOTDVA, R487: 0x10C–0x110 [63:0], RWS, reset 0, class C. -/
  | gqBootdva
  /-- GQ_L2CE, R487: 0x114 [31:0], RO, reset 0, class W. -/
  | gqL2ce
  /-- GQ_STARTS, R487: 0x118 [31:0], RO, reset 0, class W. -/
  | gqStarts
  /-- ISL_FREQ, R45: 0x100 + 4n [11:0], RO, reset 0, class I. -/
  | islFreq
  /-- ISL_VOLT, R45: 0x100 + 4n [23:12], RO, reset 0, class I. -/
  | islVolt
  /-- ISL_STATE, R45: 0x100 + 4n [26:24], RO, reset 0, class I. -/
  | islState
  /-- FUSE_LOG, R486: 0x100 + 64e [31:0], RO, reset 0, class F. -/
  | fuseLog
  /-- SEC_ARG, R420: 0x100 + 0x1E0s [31:0], RW, reset 0, class W. -/
  | secArg
  /-- TS_BINDHASH, R420: 0x100 + 0x30s [31:0], RO, reset 0, class K. -/
  | tsBindhash
  /-- SEC_IDCERT, R420: 0x100 [31:0], RO, reset —, class F. -/
  | secIdcert
  deriving DecidableEq, Repr

/-- R14: the access codes. `dbi` is the doorbell index of R369: written by software on one side of the ring and by
the module on the other, by the ring's type. No field of the spec carries RWL. -/
inductive Access where
  | ro | rw | w1c | wo | rws | rwf | dbi
  deriving DecidableEq, Repr

/-- R15: the survival classes. -/
inductive Survival where
  | F | K | W | C | I
  deriving DecidableEq, Repr

/-- The blocks of registers of R471 and of the chapters: a block is a set of fields that repeat together. -/
inductive Block where
  | cluster
  | cluSlot
  | lrnCtx
  | upd
  | seqCtx
  | seq
  | kvPools
  | kvCtx
  | kvCnt
  | sampler
  | smpCtx
  | weavin
  | wvStore
  | wvCtx
  | tlyBank
  | tlyCmd
  | memChan
  | memAll
  | cxl
  | span
  | flight
  | health
  | secure
  | doorbell
  | ctx
  | tether
  | secCmd
  | sess
  | meter
  | mtrPeek
  | mtrCtx
  | power
  | rst
  | header
  | glob
  | keel
  | bridle
  | fuse
  | quad
  | island
  | fuseLog
  | secArg
  | bindHash
  | idCert
  deriving DecidableEq, Repr

end Sys2Proof.Machine
end

