-- ==== Sys2Proof/Machine/RegTable.lean ====
section
/-!
DEFINITION. The register tables of the spec: where each field lies, how it is accessed, what it holds after reset and
which resets it survives (R11, R14, R15, R471, R472, R478, R510 and the chapters' tables).
-/
namespace Sys2Proof.Machine

/-- One row of a register table. `off` is the byte offset of the field's first word within its block's copy, `words`
how many 32-bit words it spans, `lsb` its lowest bit in the first word, `width` its width in bits. -/
structure RegInfo where
  block : Block
  off : Nat
  words : Nat
  lsb : Nat
  width : Nat
  access : Access
  reset : Nat
  survives : Survival
  deriving DecidableEq, Repr

/-- The register tables, row by row. -/
def Reg.info : Reg → RegInfo
  | .cluNum => ⟨.cluster, 0x100, 1, 0, 8, .ro, 0, .F⟩
  | .cluDie => ⟨.cluster, 0x100, 1, 8, 1, .ro, 0, .F⟩
  | .cluLanes => ⟨.cluster, 0x100, 1, 9, 9, .ro, 256, .F⟩
  | .cluRun => ⟨.cluster, 0x104, 1, 0, 2, .ro, 0, .I⟩
  | .cluCurctx => ⟨.cluster, 0x104, 1, 2, 6, .ro, 0, .I⟩
  | .cluFenced => ⟨.cluster, 0x104, 1, 8, 1, .ro, 0, .W⟩
  | .cluFenceReason => ⟨.cluster, 0x104, 1, 16, 8, .ro, 0, .W⟩
  | .cluSlotctx => ⟨.cluSlot, 0x0, 1, 0, 6, .ro, 0, .C⟩
  | .cluSlotvalid => ⟨.cluSlot, 0x0, 1, 6, 1, .ro, 0, .C⟩
  | .cluSlottask => ⟨.cluSlot, 0x0, 1, 7, 1, .ro, 0, .C⟩
  | .cluSlotheld => ⟨.cluSlot, 0x0, 1, 8, 4, .ro, 0, .C⟩
  | .cluSlotscr => ⟨.cluSlot, 0x0, 1, 12, 8, .ro, 0, .C⟩
  | .cluSlotacc => ⟨.cluSlot, 0x0, 1, 20, 8, .ro, 0, .C⟩
  | .cluTiles => ⟨.cluster, 0x140, 2, 0, 64, .ro, 0, .W⟩
  | .cluBusy => ⟨.cluster, 0x148, 2, 0, 64, .ro, 0, .W⟩
  | .cluSkipped => ⟨.cluster, 0x150, 1, 0, 32, .ro, 0, .W⟩
  | .cluAccsat => ⟨.cluster, 0x154, 1, 0, 32, .ro, 0, .W⟩
  | .cluResidueErr => ⟨.cluster, 0x158, 1, 0, 32, .ro, 0, .W⟩
  | .cluFenceReq => ⟨.cluster, 0x15c, 1, 0, 1, .wo, 0, .W⟩
  | .lrnLscale => ⟨.lrnCtx, 0x0, 1, 0, 32, .ro, 0x47800000, .C⟩
  | .lrnUscale => ⟨.lrnCtx, 0x4, 1, 0, 32, .ro, 0x47800000, .C⟩
  | .lrnLsen => ⟨.lrnCtx, 0x8, 1, 0, 1, .rws, 1, .C⟩
  | .lrnLsinit => ⟨.lrnCtx, 0x8, 1, 1, 1, .wo, 0, .C⟩
  | .lrnNfset => ⟨.lrnCtx, 0x8, 1, 2, 1, .wo, 0, .C⟩
  | .lrnPendnf => ⟨.lrnCtx, 0x8, 1, 3, 1, .ro, 0, .C⟩
  | .lrnStepskip => ⟨.lrnCtx, 0x8, 1, 4, 1, .ro, 0, .C⟩
  | .lrnGrowth => ⟨.lrnCtx, 0xc, 1, 0, 16, .rws, 2000, .C⟩
  | .lrnClean => ⟨.lrnCtx, 0x10, 1, 0, 16, .ro, 0, .C⟩
  | .lrnStep => ⟨.lrnCtx, 0x14, 1, 0, 32, .ro, 0, .C⟩
  | .lrnSkips => ⟨.lrnCtx, 0x18, 1, 0, 32, .ro, 0, .C⟩
  | .lrnSaveshift => ⟨.lrnCtx, 0x1c, 1, 0, 2, .rws, 0, .C⟩
  | .lrnSavecoarse => ⟨.lrnCtx, 0x20, 1, 0, 32, .rws, 0x3f800000, .C⟩
  | .lrnSavebase => ⟨.lrnCtx, 0x24, 1, 0, 27, .rws, 0, .C⟩
  | .lrnWinbase => ⟨.lrnCtx, 0x28, 1, 0, 27, .rws, 0, .C⟩
  | .lrnWinsize => ⟨.lrnCtx, 0x2c, 1, 0, 27, .rws, 0, .C⟩
  | .lrnDefrun => ⟨.lrnCtx, 0x30, 1, 0, 32, .ro, 0, .C⟩
  | .lrnDefforced => ⟨.lrnCtx, 0x34, 1, 0, 32, .ro, 0, .C⟩
  | .updRun => ⟨.upd, 0x800, 1, 0, 2, .ro, 0, .I⟩
  | .updCtx => ⟨.upd, 0x800, 1, 2, 6, .ro, 0, .I⟩
  | .updDesc => ⟨.upd, 0x804, 1, 0, 32, .ro, 0, .W⟩
  | .updElems => ⟨.upd, 0x808, 2, 0, 64, .ro, 0, .W⟩
  | .updNonfin => ⟨.upd, 0x810, 1, 0, 32, .ro, 0, .W⟩
  | .seqRole => ⟨.seqCtx, 0x0, 1, 0, 2, .rws, 0, .C⟩
  | .seqLeadmbr => ⟨.seqCtx, 0x0, 1, 16, 14, .rws, 0, .C⟩
  | .seqMaxseq => ⟨.seqCtx, 0x4, 1, 0, 17, .rws, 0, .C⟩
  | .seqMaxbatch => ⟨.seqCtx, 0x8, 1, 0, 15, .rws, 256, .C⟩
  | .seqLayers => ⟨.seqCtx, 0x8, 1, 16, 11, .rws, 1, .C⟩
  | .seqMaxtok => ⟨.seqCtx, 0xc, 1, 0, 19, .rws, 4096, .C⟩
  | .seqPfchunk => ⟨.seqCtx, 0x10, 1, 0, 17, .rws, 2048, .C⟩
  | .seqStopbase => ⟨.seqCtx, 0x14, 1, 0, 12, .rws, 0, .C⟩
  | .seqStopcnt => ⟨.seqCtx, 0x14, 1, 16, 13, .rws, 0, .C⟩
  | .seqReadytally => ⟨.seqCtx, 0x18, 1, 0, 16, .rws, 0, .C⟩
  | .seqSteptally => ⟨.seqCtx, 0x18, 1, 16, 16, .rws, 0, .C⟩
  | .seqDonetally => ⟨.seqCtx, 0x1c, 1, 0, 16, .rws, 0, .C⟩
  | .seqGroupsize => ⟨.seqCtx, 0x1c, 1, 16, 6, .rws, 0, .C⟩
  | .seqManbase => ⟨.seqCtx, 0x20, 2, 0, 64, .rws, 0, .C⟩
  | .seqGrouplist => ⟨.seqCtx, 0x28, 2, 0, 64, .rws, 0, .C⟩
  | .seqActive => ⟨.seqCtx, 0x30, 1, 0, 17, .ro, 0, .C⟩
  | .seqStepnum => ⟨.seqCtx, 0x34, 1, 0, 32, .ro, 0, .C⟩
  | .seqFree => ⟨.seq, 0xf00, 1, 0, 18, .ro, 0x20000, .W⟩
  | .seqJoindef => ⟨.seq, 0xf04, 1, 0, 32, .ro, 0, .W⟩
  | .seqMempauses => ⟨.seq, 0xf08, 1, 0, 32, .ro, 0, .W⟩
  | .seqLatecnt => ⟨.seq, 0xf0c, 1, 0, 32, .ro, 0, .W⟩
  | .seqRefused => ⟨.seq, 0xf10, 1, 0, 32, .ro, 0, .W⟩
  | .seqCompletions => ⟨.seq, 0xf14, 2, 0, 64, .ro, 0, .W⟩
  | .seqPeekidx => ⟨.seq, 0xf20, 1, 0, 17, .rw, 0, .W⟩
  | .seqPeekdata => ⟨.seq, 0xf40, 16, 0, 512, .ro, 0, .W⟩
  | .kvNearbase => ⟨.kvPools, 0x100, 2, 0, 64, .rws, 0, .W⟩
  | .kvNearpages => ⟨.kvPools, 0x108, 1, 0, 23, .rws, 0, .W⟩
  | .kvMetabase => ⟨.kvPools, 0x10c, 2, 0, 64, .rws, 0, .W⟩
  | .kvFarbase => ⟨.kvPools, 0x114, 2, 0, 64, .rws, 0, .W⟩
  | .kvFarpages => ⟨.kvPools, 0x11c, 1, 0, 27, .rws, 0, .W⟩
  | .kvFarmetabase => ⟨.kvPools, 0x120, 2, 0, 64, .rws, 0, .W⟩
  | .kvNearfree => ⟨.kvPools, 0x128, 1, 0, 23, .ro, 0, .W⟩
  | .kvFarfree => ⟨.kvPools, 0x12c, 1, 0, 27, .ro, 0, .W⟩
  | .kvLostpages => ⟨.kvPools, 0x130, 1, 0, 32, .ro, 0, .W⟩
  | .kvStale => ⟨.kvPools, 0x134, 1, 0, 32, .ro, 0, .W⟩
  | .kvSpills => ⟨.kvPools, 0x138, 1, 0, 32, .ro, 0, .W⟩
  | .kvFills => ⟨.kvPools, 0x13c, 1, 0, 32, .ro, 0, .W⟩
  | .kvCows => ⟨.kvPools, 0x140, 1, 0, 32, .ro, 0, .W⟩
  | .kvPagefmt => ⟨.kvCtx, 0x0, 1, 0, 5, .rws, 3, .C⟩
  | .kvAppfmt => ⟨.kvCtx, 0x0, 1, 5, 5, .rws, 3, .C⟩
  | .kvNarrow => ⟨.kvCtx, 0x0, 1, 10, 1, .rws, 0, .C⟩
  | .kvHeads => ⟨.kvCtx, 0x0, 1, 16, 5, .rws, 1, .C⟩
  | .kvHeaddim => ⟨.kvCtx, 0x4, 1, 0, 9, .rws, 128, .C⟩
  | .kvTokpage => ⟨.kvCtx, 0x4, 1, 20, 9, .ro, 256, .C⟩
  | .kvQuota => ⟨.kvCtx, 0x8, 1, 0, 23, .rws, 0, .C⟩
  | .kvBudget => ⟨.kvCtx, 0xc, 1, 0, 17, .rws, 0, .C⟩
  | .kvSink => ⟨.kvCtx, 0x10, 1, 0, 20, .rws, 0, .C⟩
  | .kvRecent => ⟨.kvCtx, 0x14, 1, 0, 20, .rws, 0, .C⟩
  | .kvDecay => ⟨.kvCtx, 0x18, 1, 0, 32, .rws, 0x3f7d70a4, .C⟩
  | .kvListtally => ⟨.kvCtx, 0x1c, 1, 0, 16, .rws, 0, .C⟩
  | .kvPfxmax => ⟨.kvCtx, 0x1c, 1, 16, 11, .rws, 0, .C⟩
  | .kvHeld => ⟨.kvCtx, 0x20, 1, 0, 23, .ro, 0, .C⟩
  | .kvPfxlive => ⟨.kvCtx, 0x24, 1, 0, 11, .ro, 0, .C⟩
  | .kvPfxrel => ⟨.kvCtx, 0x28, 1, 0, 32, .wo, 0, .C⟩
  | .kvPfxstatus => ⟨.kvCtx, 0x2c, 1, 0, 16, .ro, 0, .C⟩
  | .kvEvicts => ⟨.kvCtx, 0x30, 1, 0, 32, .ro, 0, .C⟩
  | .kvWidens => ⟨.kvCtx, 0x34, 1, 0, 32, .ro, 0, .C⟩
  | .kvRecomps => ⟨.kvCnt, 0x0, 1, 0, 32, .ro, 0, .C⟩
  | .kvBudgetheld => ⟨.kvCnt, 0x4, 1, 0, 32, .ro, 0, .C⟩
  | .kvFarheld => ⟨.kvCnt, 0x8, 1, 0, 27, .ro, 0, .C⟩
  | .kvPageloss => ⟨.kvCnt, 0xc, 1, 0, 32, .ro, 0, .C⟩
  | .smpRun => ⟨.sampler, 0x100, 1, 0, 2, .ro, 0, .I⟩
  | .smpCtx => ⟨.sampler, 0x100, 1, 2, 6, .ro, 0, .I⟩
  | .smpRows => ⟨.sampler, 0x104, 1, 0, 32, .ro, 0, .W⟩
  | .smpLogits => ⟨.sampler, 0x108, 2, 0, 64, .ro, 0, .W⟩
  | .smpNanrows => ⟨.sampler, 0x110, 1, 0, 32, .ro, 0, .W⟩
  | .smpEmptyrows => ⟨.sampler, 0x114, 1, 0, 32, .ro, 0, .W⟩
  | .smpNucleuscut => ⟨.sampler, 0x118, 1, 0, 32, .ro, 0, .W⟩
  | .smpParambad => ⟨.sampler, 0x11c, 1, 0, 32, .ro, 0, .W⟩
  | .smpFenceReq => ⟨.sampler, 0x120, 1, 0, 1, .wo, 0, .W⟩
  | .smpFenced => ⟨.sampler, 0x120, 1, 1, 1, .ro, 0, .W⟩
  | .smpFencereason => ⟨.sampler, 0x120, 1, 2, 2, .ro, 0, .W⟩
  | .smpSeed => ⟨.smpCtx, 0x0, 2, 0, 64, .rws, 0, .C⟩
  | .smpParambase => ⟨.smpCtx, 0x8, 2, 0, 64, .rws, 0, .C⟩
  | .smpLogitbase => ⟨.smpCtx, 0x10, 2, 0, 64, .rws, 0, .C⟩
  | .smpMergebase => ⟨.smpCtx, 0x18, 2, 0, 64, .rws, 0, .C⟩
  | .smpLogitstride => ⟨.smpCtx, 0x20, 1, 0, 32, .rws, 0, .C⟩
  | .smpVocbase => ⟨.smpCtx, 0x24, 1, 0, 20, .rws, 0, .C⟩
  | .smpVoclen => ⟨.smpCtx, 0x28, 1, 0, 21, .rws, 1, .C⟩
  | .smpParamcnt => ⟨.smpCtx, 0x2c, 1, 0, 13, .rws, 0, .C⟩
  | .smpKmax => ⟨.smpCtx, 0x2c, 1, 16, 11, .rws, 64, .C⟩
  | .smpLogitfmt => ⟨.smpCtx, 0x2c, 1, 27, 1, .rws, 0, .C⟩
  | .smpMergetally => ⟨.smpCtx, 0x30, 1, 0, 16, .rws, 0, .C⟩
  | .smpTpindex => ⟨.smpCtx, 0x30, 1, 16, 6, .rws, 0, .C⟩
  | .smpCtxrows => ⟨.smpCtx, 0x34, 1, 0, 32, .ro, 0, .C⟩
  | .wvRun => ⟨.weavin, 0x100, 1, 0, 2, .ro, 0, .I⟩
  | .wvCtx => ⟨.weavin, 0x100, 1, 2, 6, .ro, 0, .I⟩
  | .wvPlans => ⟨.weavin, 0x100, 1, 8, 5, .ro, 0, .I⟩
  | .wvEntries => ⟨.weavin, 0x104, 1, 0, 32, .ro, 0, .W⟩
  | .wvTxbytes => ⟨.weavin, 0x108, 2, 0, 64, .ro, 0, .W⟩
  | .wvRxbytes => ⟨.weavin, 0x110, 2, 0, 64, .ro, 0, .W⟩
  | .wvConvelems => ⟨.weavin, 0x118, 2, 0, 64, .ro, 0, .W⟩
  | .wvTagfail => ⟨.weavin, 0x120, 1, 0, 32, .ro, 0, .W⟩
  | .wvHashfail => ⟨.weavin, 0x124, 1, 0, 32, .ro, 0, .W⟩
  | .wvRefused => ⟨.weavin, 0x128, 1, 0, 32, .ro, 0, .W⟩
  | .wvMstorebase => ⟨.wvStore, 0x140, 2, 0, 64, .rws, 0, .W⟩
  | .wvMstoresize => ⟨.wvStore, 0x148, 1, 0, 16, .rws, 0, .W⟩
  | .wvMstorefree => ⟨.wvStore, 0x14c, 1, 0, 16, .ro, 0, .W⟩
  | .wvJob => ⟨.wvCtx, 0x0, 1, 0, 32, .rws, 0, .C⟩
  | .wvGate => ⟨.wvCtx, 0x4, 1, 0, 2, .ro, 0, .C⟩
  | .wvMslots => ⟨.wvCtx, 0x4, 1, 2, 4, .ro, 0, .C⟩
  | .wvGatestatus => ⟨.wvCtx, 0x8, 1, 0, 16, .ro, 0, .C⟩
  | .wvPlansdone => ⟨.wvCtx, 0xc, 1, 0, 32, .ro, 0, .C⟩
  | .wvPlansfailed => ⟨.wvCtx, 0x10, 1, 0, 32, .ro, 0, .C⟩
  | .wvNfsent => ⟨.wvCtx, 0x14, 1, 0, 32, .ro, 0, .C⟩
  | .wvNfrecv => ⟨.wvCtx, 0x18, 1, 0, 32, .ro, 0, .C⟩
  | .tlyFree => ⟨.tlyBank, 0x100, 1, 0, 19, .ro, 0x40000, .W⟩
  | .tlyWaiters => ⟨.tlyBank, 0x104, 1, 0, 12, .ro, 0, .I⟩
  | .tlySignals => ⟨.tlyBank, 0x108, 2, 0, 64, .ro, 0, .W⟩
  | .tlyWaits => ⟨.tlyBank, 0x110, 1, 0, 32, .ro, 0, .W⟩
  | .tlyRemote => ⟨.tlyBank, 0x114, 1, 0, 32, .ro, 0, .W⟩
  | .tlyErrors => ⟨.tlyBank, 0x118, 1, 0, 32, .ro, 0, .W⟩
  | .tlyRefused => ⟨.tlyBank, 0x11c, 1, 0, 32, .ro, 0, .W⟩
  | .tlyCmdvid => ⟨.tlyCmd, 0x200, 1, 0, 16, .rw, 0, .W⟩
  | .tlyCmdctx => ⟨.tlyCmd, 0x200, 1, 16, 6, .rw, 0, .W⟩
  | .tlyCmdbank => ⟨.tlyCmd, 0x200, 1, 22, 3, .rw, 4, .W⟩
  | .tlyCmdforeign => ⟨.tlyCmd, 0x200, 1, 25, 1, .rw, 0, .W⟩
  | .tlyCmdarg => ⟨.tlyCmd, 0x204, 1, 0, 32, .rw, 0, .W⟩
  | .tlyCmd => ⟨.tlyCmd, 0x208, 1, 0, 3, .wo, 0, .W⟩
  | .tlyCmdstatus => ⟨.tlyCmd, 0x20c, 1, 0, 16, .ro, 0, .W⟩
  | .tlyCmdvalue => ⟨.tlyCmd, 0x210, 1, 0, 32, .ro, 0, .W⟩
  | .memNum => ⟨.memChan, 0x100, 1, 0, 6, .ro, 0, .F⟩
  | .memState => ⟨.memChan, 0x100, 1, 6, 2, .ro, 0, .W⟩
  | .memFenceReq => ⟨.memChan, 0x100, 1, 8, 1, .wo, 0, .W⟩
  | .memCe => ⟨.memChan, 0x104, 1, 0, 32, .ro, 0, .W⟩
  | .memUe => ⟨.memChan, 0x108, 1, 0, 32, .ro, 0, .W⟩
  | .memPoisoned => ⟨.memChan, 0x10c, 1, 0, 16, .ro, 0, .W⟩
  | .memCeaddr => ⟨.memChan, 0x110, 2, 0, 64, .ro, 0, .W⟩
  | .memRdbytes => ⟨.memChan, 0x118, 2, 0, 64, .ro, 0, .W⟩
  | .memWrbytes => ⟨.memChan, 0x120, 2, 0, 64, .ro, 0, .W⟩
  | .memScrubpass => ⟨.memChan, 0x128, 1, 0, 32, .ro, 0, .W⟩
  | .memRmw => ⟨.memChan, 0x12c, 1, 0, 32, .ro, 0, .W⟩
  | .memScrubhours => ⟨.memAll, 0xa00, 1, 0, 8, .rws, 12, .W⟩
  | .memRetirethresh => ⟨.memAll, 0xa00, 1, 8, 8, .rws, 16, .W⟩
  | .memResvbase => ⟨.memAll, 0xa04, 1, 0, 18, .rws, 0, .K⟩
  | .memResvframes => ⟨.memAll, 0xa08, 1, 0, 9, .rws, 0, .K⟩
  | .memRetired => ⟨.memAll, 0xa0c, 1, 0, 9, .ro, 0, .K⟩
  | .memRetireFullf => ⟨.memAll, 0xa0c, 1, 9, 1, .ro, 0, .K⟩
  | .memRetireidx => ⟨.memAll, 0xa10, 1, 0, 8, .rw, 0, .W⟩
  | .memRetirelist => ⟨.memAll, 0xa14, 1, 0, 18, .ro, 0, .K⟩
  | .cxlState => ⟨.cxl, 0x100, 1, 0, 3, .ro, 0, .I⟩
  | .cxlWidth => ⟨.cxl, 0x100, 1, 3, 5, .ro, 0, .I⟩
  | .cxlSpeed => ⟨.cxl, 0x100, 1, 8, 2, .ro, 0, .I⟩
  | .cxlEnable => ⟨.cxl, 0x100, 1, 10, 1, .wo, 0, .I⟩
  | .cxlIde => ⟨.cxl, 0x100, 1, 11, 1, .rws, 0, .W⟩
  | .cxlCapacity => ⟨.cxl, 0x104, 1, 0, 29, .ro, 0, .I⟩
  | .cxlPoison => ⟨.cxl, 0x108, 1, 0, 32, .ro, 0, .W⟩
  | .cxlDowns => ⟨.cxl, 0x10c, 1, 0, 32, .ro, 0, .W⟩
  | .cxlRdbytes => ⟨.cxl, 0x110, 2, 0, 64, .ro, 0, .W⟩
  | .cxlWrbytes => ⟨.cxl, 0x118, 2, 0, 64, .ro, 0, .W⟩
  | .spnNum => ⟨.span, 0x100, 1, 0, 5, .ro, 0, .F⟩
  | .spnState => ⟨.span, 0x100, 1, 5, 3, .ro, 0, .I⟩
  | .spnWidth => ⟨.span, 0x100, 1, 8, 5, .ro, 0, .I⟩
  | .spnSilent => ⟨.span, 0x100, 1, 13, 1, .ro, 0, .I⟩
  | .spnLanes => ⟨.span, 0x104, 1, 0, 16, .ro, 0, .I⟩
  | .spnLaneslost => ⟨.span, 0x104, 1, 16, 16, .ro, 0, .I⟩
  | .spnPeer => ⟨.span, 0x108, 1, 0, 14, .ro, 0, .I⟩
  | .spnPeervalid => ⟨.span, 0x108, 1, 14, 1, .ro, 0, .I⟩
  | .spnPeerspan => ⟨.span, 0x108, 1, 16, 5, .ro, 0, .I⟩
  | .spnPeerstate => ⟨.span, 0x108, 1, 21, 3, .ro, 0, .I⟩
  | .spnRefuse => ⟨.span, 0x10c, 1, 0, 16, .ro, 0, .W⟩
  | .spnFenceReq => ⟨.span, 0x110, 1, 0, 1, .wo, 0, .W⟩
  | .spnLanethresh => ⟨.span, 0x114, 1, 0, 32, .rws, 0x4e20, .W⟩
  | .spnUncorrthresh => ⟨.span, 0x118, 1, 0, 8, .rws, 16, .W⟩
  | .spnMargin => ⟨.span, 0x11c, 2, 0, 64, .ro, 0, .I⟩
  | .spnFeccorr => ⟨.span, 0x124, 2, 0, 64, .ro, 0, .W⟩
  | .spnFecuncorr => ⟨.span, 0x12c, 1, 0, 32, .ro, 0, .W⟩
  | .spnReplays => ⟨.span, 0x130, 1, 0, 32, .ro, 0, .W⟩
  | .spnTagfail => ⟨.span, 0x134, 1, 0, 32, .ro, 0, .W⟩
  | .spnTxbytes => ⟨.span, 0x138, 2, 0, 64, .ro, 0, .W⟩
  | .spnRxbytes => ⟨.span, 0x140, 2, 0, 64, .ro, 0, .W⟩
  | .spnFwd => ⟨.span, 0x148, 1, 0, 32, .ro, 0, .W⟩
  | .spnDrops => ⟨.span, 0x14c, 1, 0, 32, .ro, 0, .W⟩
  | .spnWidthchg => ⟨.span, 0x150, 1, 0, 32, .ro, 0, .W⟩
  | .spnKeyupd => ⟨.span, 0x154, 1, 0, 32, .ro, 0, .W⟩
  | .fltId => ⟨.flight, 0x100, 2, 0, 64, .rws, 0, .K⟩
  | .fltMember => ⟨.flight, 0x108, 1, 0, 14, .ro, 0, .K⟩
  | .fltMembervalid => ⟨.flight, 0x108, 1, 14, 1, .ro, 0, .K⟩
  | .fltState => ⟨.flight, 0x108, 1, 16, 3, .ro, 0, .W⟩
  | .fltGroundreason => ⟨.flight, 0x10c, 1, 0, 16, .ro, 0, .K⟩
  | .fltEpoch => ⟨.flight, 0x110, 2, 0, 64, .ro, 0, .K⟩
  | .fltCommitted => ⟨.flight, 0x118, 2, 0, 64, .ro, 0, .K⟩
  | .fltIssteward => ⟨.flight, 0x120, 1, 0, 1, .ro, 0, .K⟩
  | .fltIslead => ⟨.flight, 0x120, 1, 1, 1, .ro, 0, .K⟩
  | .fltStewards => ⟨.flight, 0x120, 1, 2, 3, .ro, 0, .K⟩
  | .fltStewtarget => ⟨.flight, 0x120, 1, 8, 3, .ro, 0, .K⟩
  | .fltTerm => ⟨.flight, 0x124, 1, 0, 32, .ro, 0, .K⟩
  | .fltLead => ⟨.flight, 0x128, 1, 0, 14, .ro, 0, .K⟩
  | .fltLeadvalid => ⟨.flight, 0x128, 1, 14, 1, .ro, 0, .K⟩
  | .fltSize => ⟨.flight, 0x12c, 1, 0, 15, .ro, 0, .K⟩
  | .fltRegion => ⟨.flight, 0x130, 2, 0, 64, .rws, 0, .K⟩
  | .fltFeedtag => ⟨.flight, 0x138, 1, 0, 16, .ro, 0, .K⟩
  | .fltFeedok => ⟨.flight, 0x138, 1, 16, 1, .ro, 0, .K⟩
  | .fltCmd => ⟨.flight, 0x13c, 1, 0, 4, .wo, 0, .W⟩
  | .fltCmdstatus => ⟨.flight, 0x140, 1, 0, 16, .ro, 0, .W⟩
  | .fltApplied => ⟨.flight, 0x144, 1, 0, 32, .ro, 0, .W⟩
  | .fltElections => ⟨.flight, 0x148, 1, 0, 32, .ro, 0, .W⟩
  | .fltCatchups => ⟨.flight, 0x14c, 1, 0, 32, .ro, 0, .W⟩
  | .fltCmdbody => ⟨.flight, 0x200, 128, 0, 4096, .rw, 0, .W⟩
  | .fhLevel => ⟨.health, 0x100, 1, 0, 3, .ro, 0, .W⟩
  | .fhLevelsrc => ⟨.health, 0x100, 1, 3, 4, .ro, 0, .W⟩
  | .fhLevelmin => ⟨.health, 0x104, 1, 0, 3, .rws, 0, .W⟩
  | .fhInlevels => ⟨.health, 0x108, 1, 0, 27, .ro, 0, .W⟩
  | .fhNbrlevel => ⟨.health, 0x10c, 1, 0, 3, .ro, 0, .W⟩
  | .fhThermmargin => ⟨.health, 0x110, 1, 0, 8, .ro, 0, .W⟩
  | .fhDroops => ⟨.health, 0x114, 1, 0, 32, .ro, 0, .W⟩
  | .fhWatchdogs => ⟨.health, 0x118, 1, 0, 32, .ro, 0, .W⟩
  | .fhLevelchg => ⟨.health, 0x11c, 1, 0, 32, .ro, 0, .W⟩
  | .fhLastchg => ⟨.health, 0x120, 2, 0, 64, .ro, 0, .W⟩
  | .fhArm => ⟨.secure, 0x100, 1, 0, 1, .rws, 0, .W⟩
  | .fhArmctx => ⟨.secure, 0x100, 1, 1, 6, .rws, 0, .W⟩
  | .fhRole => ⟨.secure, 0x100, 1, 7, 2, .rws, 0, .W⟩
  | .fhStagetier => ⟨.secure, 0x100, 1, 9, 1, .rws, 0, .W⟩
  | .fhState => ⟨.secure, 0x104, 1, 0, 3, .ro, 0, .W⟩
  | .fhExposed => ⟨.secure, 0x104, 1, 3, 1, .ro, 0, .W⟩
  | .fhIsolated => ⟨.secure, 0x104, 1, 4, 1, .ro, 0, .W⟩
  | .fhK => ⟨.secure, 0x108, 1, 0, 7, .rws, 8, .W⟩
  | .fhMargin => ⟨.secure, 0x108, 1, 8, 7, .rws, 2, .W⟩
  | .fhInterval => ⟨.secure, 0x10c, 1, 0, 7, .ro, 0, .W⟩
  | .fhKflight => ⟨.secure, 0x10c, 1, 7, 7, .ro, 0, .W⟩
  | .fhBase => ⟨.secure, 0x110, 2, 0, 64, .ro, 0, .W⟩
  | .fhPoint => ⟨.secure, 0x118, 2, 0, 64, .ro, 0, .W⟩
  | .fhPrevpoint => ⟨.secure, 0x120, 2, 0, 64, .ro, 0, .W⟩
  | .fhRegions => ⟨.secure, 0x128, 2, 0, 64, .rws, 0, .W⟩
  | .fhRegioncnt => ⟨.secure, 0x130, 1, 0, 9, .rws, 0, .W⟩
  | .fhLossbase => ⟨.secure, 0x134, 2, 0, 64, .rws, 0, .W⟩
  | .fhStagebase => ⟨.secure, 0x13c, 2, 0, 64, .rws, 0, .W⟩
  | .fhStagesize => ⟨.secure, 0x144, 1, 0, 20, .rws, 0, .W⟩
  | .fhBallastbase => ⟨.secure, 0x148, 2, 0, 64, .rws, 0, .W⟩
  | .fhSlotsize => ⟨.secure, 0x150, 1, 0, 20, .rws, 0, .W⟩
  | .fhPartnera => ⟨.secure, 0x154, 1, 0, 14, .ro, 0, .W⟩
  | .fhPartnerav => ⟨.secure, 0x154, 1, 14, 1, .ro, 0, .W⟩
  | .fhPartnerb => ⟨.secure, 0x154, 1, 16, 14, .ro, 0, .W⟩
  | .fhPartnerbv => ⟨.secure, 0x154, 1, 30, 1, .ro, 0, .W⟩
  | .fhWard0 => ⟨.secure, 0x158, 1, 0, 14, .ro, 0, .W⟩
  | .fhWard0v => ⟨.secure, 0x158, 1, 14, 1, .ro, 0, .W⟩
  | .fhWard1 => ⟨.secure, 0x158, 1, 16, 14, .ro, 0, .W⟩
  | .fhWard1v => ⟨.secure, 0x158, 1, 30, 1, .ro, 0, .W⟩
  | .fhMirror => ⟨.secure, 0x15c, 1, 0, 14, .rws, 0, .W⟩
  | .fhMirrorvalid => ⟨.secure, 0x15c, 1, 14, 1, .rws, 0, .W⟩
  | .fhMirrorctx => ⟨.secure, 0x15c, 1, 16, 6, .rws, 0, .W⟩
  | .fhExportstep => ⟨.secure, 0x160, 2, 0, 64, .rw, 0, .K⟩
  | .fhCmd => ⟨.secure, 0x168, 1, 0, 3, .wo, 0, .W⟩
  | .fhCmdstatus => ⟨.secure, 0x16c, 1, 0, 16, .ro, 0, .W⟩
  | .fhTol => ⟨.secure, 0x170, 1, 0, 32, .rws, 0x3a800000, .W⟩
  | .fhMinclusters => ⟨.secure, 0x174, 1, 0, 8, .rws, 176, .W⟩
  | .fhSecures => ⟨.secure, 0x178, 1, 0, 32, .ro, 0, .W⟩
  | .fhRecoveries => ⟨.secure, 0x17c, 1, 0, 32, .ro, 0, .W⟩
  | .fhMismatches => ⟨.secure, 0x180, 1, 0, 32, .ro, 0, .W⟩
  | .fhCapturewait => ⟨.secure, 0x184, 1, 0, 32, .ro, 0, .W⟩
  | .fhWardwindow => ⟨.secure, 0x188, 2, 0, 64, .rws, 0, .W⟩
  | .fhStageports => ⟨.secure, 0x190, 1, 0, 8, .ro, 0, .W⟩
  | .fhRunstep => ⟨.secure, 0x194, 2, 0, 64, .ro, 0, .W⟩
  | .dbTail => ⟨.doorbell, 0x0, 1, 0, 32, .dbi, 0, .C⟩
  | .dbHead => ⟨.doorbell, 0x4, 1, 0, 32, .dbi, 0, .C⟩
  | .dbState => ⟨.doorbell, 0x8, 1, 0, 2, .ro, 0, .C⟩
  | .dbType => ⟨.doorbell, 0x8, 1, 2, 2, .ro, 0, .C⟩
  | .dbLog2 => ⟨.doorbell, 0x8, 1, 4, 5, .ro, 0, .C⟩
  | .dbCtx => ⟨.doorbell, 0x8, 1, 9, 6, .ro, 0, .C⟩
  | .dbErr => ⟨.doorbell, 0xc, 1, 0, 16, .ro, 0, .C⟩
  | .dbResume => ⟨.doorbell, 0xc, 1, 16, 1, .wo, 0, .C⟩
  | .ctxState => ⟨.ctx, 0x100, 1, 0, 2, .ro, 0, .C⟩
  | .ctxClass => ⟨.ctx, 0x100, 1, 2, 1, .rws, 0, .C⟩
  | .ctxClasspend => ⟨.ctx, 0x100, 1, 3, 1, .ro, 0, .C⟩
  | .ctxOvfmode => ⟨.ctx, 0x100, 1, 4, 2, .rws, 0, .C⟩
  | .ctxMetered => ⟨.ctx, 0x100, 1, 6, 1, .ro, 0, .C⟩
  | .ctxFixedlanes => ⟨.ctx, 0x100, 1, 7, 1, .ro, 0, .C⟩
  | .ctxLanesok => ⟨.ctx, 0x100, 1, 8, 1, .ro, 0, .C⟩
  | .ctxOwner => ⟨.ctx, 0x100, 1, 16, 6, .ro, 0, .C⟩
  | .ctxScrslice => ⟨.ctx, 0x104, 1, 0, 8, .rws, 0, .C⟩
  | .ctxAccslice => ⟨.ctx, 0x104, 1, 8, 8, .rws, 0, .C⟩
  | .ctxSlot => ⟨.ctx, 0x104, 1, 16, 3, .ro, 0, .C⟩
  | .ctxSlotvalid => ⟨.ctx, 0x104, 1, 19, 1, .ro, 0, .C⟩
  | .ctxMask => ⟨.ctx, 0x108, 6, 0, 192, .rws, 0, .C⟩
  | .ctxEffclusters => ⟨.ctx, 0x120, 1, 0, 8, .ro, 0, .C⟩
  | .ctxReqlanes => ⟨.ctx, 0x120, 1, 16, 16, .ro, 0, .C⟩
  | .ctxWeight => ⟨.ctx, 0x124, 1, 0, 8, .rws, 16, .C⟩
  | .ctxMemshare => ⟨.ctx, 0x124, 1, 8, 11, .rws, 0, .C⟩
  | .ctxSpanshare => ⟨.ctx, 0x124, 1, 19, 11, .rws, 0, .C⟩
  | .ctxMemburst => ⟨.ctx, 0x128, 1, 0, 16, .rws, 64, .C⟩
  | .ctxSpanburst => ⟨.ctx, 0x128, 1, 16, 16, .rws, 64, .C⟩
  | .ctxEvtrate => ⟨.ctx, 0x12c, 1, 0, 16, .rws, 100, .C⟩
  | .ctxEvtburst => ⟨.ctx, 0x12c, 1, 16, 16, .rws, 64, .C⟩
  | .ctxEvtdest => ⟨.ctx, 0x130, 1, 0, 2, .rws, 0, .C⟩
  | .ctxEvthart => ⟨.ctx, 0x130, 1, 2, 6, .rws, 0, .C⟩
  | .ctxEvtring => ⟨.ctx, 0x130, 1, 16, 16, .rws, 0, .C⟩
  | .ctxQuads => ⟨.ctx, 0x134, 1, 0, 16, .rws, 0, .C⟩
  | .ctxEvtlost => ⟨.ctx, 0x138, 1, 0, 32, .ro, 0, .C⟩
  | .ctxEvtpend => ⟨.ctx, 0x13c, 1, 0, 7, .ro, 0, .C⟩
  | .ctxTablebase => ⟨.ctx, 0x140, 2, 0, 64, .ro, 0, .C⟩
  | .ctxTablesize => ⟨.ctx, 0x148, 1, 0, 16, .ro, 0, .C⟩
  | .ctxL2free => ⟨.ctx, 0x14c, 1, 0, 32, .ro, 0, .C⟩
  | .ctxCmd => ⟨.ctx, 0x150, 1, 0, 4, .wo, 0, .C⟩
  | .ctxCmdstatus => ⟨.ctx, 0x154, 1, 0, 16, .ro, 0, .C⟩
  | .ctxCmdarg => ⟨.ctx, 0x158, 10, 0, 320, .rw, 0, .C⟩
  | .ctxCycles => ⟨.ctx, 0x180, 2, 0, 64, .ro, 0, .C⟩
  | .ctxMembytes => ⟨.ctx, 0x188, 2, 0, 64, .ro, 0, .C⟩
  | .ctxRings => ⟨.ctx, 0x190, 1, 0, 17, .ro, 0, .C⟩
  | .ctxSpillwait => ⟨.ctx, 0x194, 1, 0, 32, .ro, 0, .C⟩
  | .tethMode => ⟨.tether, 0x100, 1, 0, 1, .rws, 0, .K⟩
  | .tethPortstate0 => ⟨.tether, 0x104, 1, 0, 3, .ro, 0, .I⟩
  | .tethHome0 => ⟨.tether, 0x104, 1, 3, 1, .ro, 0, .I⟩
  | .tethPortstate1 => ⟨.tether, 0x104, 1, 8, 3, .ro, 0, .I⟩
  | .tethHome1 => ⟨.tether, 0x104, 1, 11, 1, .ro, 0, .I⟩
  | .tethOpen => ⟨.tether, 0x108, 2, 0, 64, .ro, 0, .W⟩
  | .tethRxframes => ⟨.tether, 0x110, 2, 0, 64, .ro, 0, .W⟩
  | .tethTxframes => ⟨.tether, 0x118, 2, 0, 64, .ro, 0, .W⟩
  | .tethTagfail => ⟨.tether, 0x120, 1, 0, 32, .ro, 0, .W⟩
  | .tethReplays => ⟨.tether, 0x124, 1, 0, 32, .ro, 0, .W⟩
  | .tethFailovers => ⟨.tether, 0x128, 1, 0, 32, .ro, 0, .W⟩
  | .tethCorrupt => ⟨.tether, 0x12c, 1, 0, 32, .ro, 0, .W⟩
  | .secCmd => ⟨.secCmd, 0x130, 1, 0, 4, .wo, 0, .W⟩
  | .secCmdstatus => ⟨.secCmd, 0x134, 1, 0, 16, .ro, 0, .W⟩
  | .secPubcount => ⟨.tether, 0x138, 1, 0, 5, .ro, 0, .K⟩
  | .secOwnerset => ⟨.tether, 0x138, 1, 5, 1, .ro, 0, .F⟩
  | .secLmsleft => ⟨.tether, 0x13c, 2, 0, 64, .ro, 0x800000000, .F⟩
  | .secBrdviol => ⟨.tether, 0x144, 1, 0, 32, .ro, 0, .W⟩
  | .secIdcertlen => ⟨.tether, 0x148, 1, 0, 32, .ro, 0, .F⟩
  | .tsState => ⟨.sess, 0x0, 1, 0, 2, .ro, 0, .W⟩
  | .tsMode => ⟨.sess, 0x0, 1, 2, 2, .ro, 0, .W⟩
  | .tsPort => ⟨.sess, 0x0, 1, 4, 1, .ro, 0, .W⟩
  | .tsKeyphase => ⟨.sess, 0x0, 1, 5, 1, .ro, 0, .W⟩
  | .tsClosereason => ⟨.sess, 0x0, 1, 8, 3, .ro, 0, .W⟩
  | .tsEnabled => ⟨.sess, 0x4, 1, 0, 1, .ro, 0, .K⟩
  | .tsPskok => ⟨.sess, 0x4, 1, 1, 1, .ro, 0, .K⟩
  | .tsReadall => ⟨.sess, 0x4, 1, 2, 1, .ro, 0, .K⟩
  | .tsKeys => ⟨.sess, 0x4, 1, 3, 1, .ro, 0, .K⟩
  | .tsPskset => ⟨.sess, 0x4, 1, 4, 1, .ro, 0, .K⟩
  | .tsEvtack => ⟨.sess, 0x8, 1, 0, 11, .wo, 0, .W⟩
  | .tsEvtwindow => ⟨.sess, 0xc, 1, 0, 11, .ro, 0, .W⟩
  | .tsRxctr => ⟨.sess, 0x10, 2, 0, 64, .ro, 0, .W⟩
  | .tsTxctr => ⟨.sess, 0x18, 2, 0, 64, .ro, 0, .W⟩
  | .tsTagfail => ⟨.sess, 0x20, 1, 0, 32, .ro, 0, .W⟩
  | .tsOpens => ⟨.sess, 0x24, 1, 0, 32, .ro, 0, .W⟩
  | .mtrState => ⟨.meter, 0x100, 1, 0, 2, .ro, 0, .W⟩
  | .mtrBoot => ⟨.meter, 0x104, 1, 0, 32, .ro, 0, .F⟩
  | .mtrInstnext => ⟨.meter, 0x108, 1, 0, 32, .ro, 1, .W⟩
  | .mtrValidchg => ⟨.meter, 0x10c, 1, 0, 32, .ro, 0, .W⟩
  | .mtrSeq => ⟨.meter, 0x110, 2, 0, 64, .ro, 0, .W⟩
  | .mtrTail => ⟨.meter, 0x118, 1, 0, 7, .ro, 0, .W⟩
  | .mtrPeekctx => ⟨.mtrPeek, 0x11c, 1, 0, 7, .rw, 0, .W⟩
  | .mtrPeek => ⟨.mtrPeek, 0x120, 26, 0, 832, .ro, 0, .W⟩
  | .mtrInstance => ⟨.mtrCtx, 0x0, 1, 0, 32, .ro, 0, .W⟩
  | .mtrMetered => ⟨.mtrCtx, 0x4, 1, 0, 1, .ro, 0, .W⟩
  | .mtrLearntok => ⟨.mtrCtx, 0x8, 1, 0, 32, .wo, 0, .W⟩
  | .mtrLearnpend => ⟨.mtrCtx, 0xc, 1, 0, 32, .ro, 0, .W⟩
  | .pwrState => ⟨.power, 0x100, 1, 0, 2, .ro, 0, .W⟩
  | .pwrGateen => ⟨.power, 0x100, 1, 2, 1, .rws, 1, .W⟩
  | .pwrCmd => ⟨.power, 0x104, 1, 0, 3, .wo, 0, .W⟩
  | .pwrCmdstatus => ⟨.power, 0x108, 1, 0, 16, .ro, 0, .W⟩
  | .pwrRefusecond => ⟨.power, 0x108, 1, 16, 4, .ro, 0, .W⟩
  | .wakeSource => ⟨.power, 0x10c, 1, 0, 4, .ro, 0, .K⟩
  | .wakeIndex => ⟨.power, 0x10c, 1, 4, 6, .ro, 0, .K⟩
  | .pwrWaketime => ⟨.power, 0x110, 2, 0, 64, .ro, 0, .K⟩
  | .pwrWakemask => ⟨.power, 0x118, 1, 0, 6, .rws, 63, .W⟩
  | .pwrLift => ⟨.power, 0x11c, 1, 0, 32, .wo, 0, .W⟩
  | .pwrP2count => ⟨.power, 0x120, 1, 0, 32, .ro, 0, .K⟩
  | .pwrVin => ⟨.power, 0x124, 1, 0, 16, .ro, 0, .W⟩
  | .pwrPin => ⟨.power, 0x124, 1, 16, 16, .ro, 0, .W⟩
  | .pwrCeiling => ⟨.power, 0x128, 1, 0, 16, .ro, 4400, .F⟩
  | .pwrPeak => ⟨.power, 0x128, 1, 16, 16, .ro, 0, .W⟩
  | .pwrExcursions => ⟨.power, 0x12c, 1, 0, 32, .ro, 0, .W⟩
  | .pwrLimited => ⟨.power, 0x130, 1, 0, 32, .ro, 0, .W⟩
  | .pwrGated => ⟨.power, 0x134, 1, 0, 9, .ro, 0, .W⟩
  | .pwrGatings => ⟨.power, 0x138, 1, 0, 32, .ro, 0, .W⟩
  | .rstCmd => ⟨.rst, 0x100, 1, 0, 2, .wo, 0, .W⟩
  | .rstLast => ⟨.rst, 0x104, 1, 0, 2, .ro, 1, .K⟩
  | .rstCause => ⟨.rst, 0x104, 1, 2, 4, .ro, 1, .K⟩
  | .rstTime => ⟨.rst, 0x108, 2, 0, 64, .ro, 0, .K⟩
  | .rstModules => ⟨.rst, 0x110, 1, 0, 32, .ro, 0, .K⟩
  | .rstWarms => ⟨.rst, 0x114, 1, 0, 32, .ro, 0, .K⟩
  | .rstIslands => ⟨.rst, 0x118, 1, 0, 32, .ro, 0, .W⟩
  | .rstLastisland => ⟨.rst, 0x11c, 1, 0, 9, .ro, 0, .W⟩
  | .rstCtxresets => ⟨.rst, 0x120, 1, 0, 32, .ro, 0, .W⟩
  | .pageType => ⟨.header, 0x0, 1, 0, 8, .ro, 0, .F⟩
  | .pageInst => ⟨.header, 0x0, 1, 8, 12, .ro, 0, .F⟩
  | .pageLayout => ⟨.header, 0x0, 1, 20, 4, .ro, 1, .F⟩
  | .capShadow => ⟨.header, 0x4, 1, 0, 1, .ro, 0, .F⟩
  | .capPerctx => ⟨.header, 0x4, 1, 1, 1, .ro, 0, .F⟩
  | .capCmd => ⟨.header, 0x4, 1, 2, 1, .ro, 0, .F⟩
  | .capFence => ⟨.header, 0x4, 1, 3, 1, .ro, 0, .F⟩
  | .capView => ⟨.header, 0x4, 1, 4, 1, .ro, 0, .F⟩
  | .capShared => ⟨.header, 0x4, 1, 5, 1, .ro, 0, .F⟩
  | .defaulted => ⟨.header, 0x8, 1, 0, 1, .ro, 1, .K⟩
  | .busy => ⟨.header, 0x8, 1, 1, 1, .ro, 0, .I⟩
  | .fenced => ⟨.header, 0x8, 1, 2, 1, .ro, 0, .W⟩
  | .pageSurvival => ⟨.header, 0xc, 1, 0, 5, .ro, 0, .F⟩
  | .evtPending => ⟨.header, 0x10, 1, 0, 15, .w1c, 0, .W⟩
  | .evtMask => ⟨.header, 0x14, 1, 0, 15, .rw, 0, .W⟩
  | .evtRoute => ⟨.header, 0x18, 1, 0, 2, .rw, 0, .W⟩
  | .evtCount => ⟨.header, 0x1c, 1, 0, 32, .ro, 0, .W⟩
  | .errCode => ⟨.header, 0x20, 1, 0, 16, .ro, 0, .W⟩
  | .errValid => ⟨.header, 0x20, 1, 16, 1, .w1c, 0, .W⟩
  | .errInfo => ⟨.header, 0x24, 1, 0, 32, .ro, 0, .W⟩
  | .errCount => ⟨.header, 0x28, 1, 0, 32, .ro, 0, .W⟩
  | .cfgEpoch => ⟨.header, 0x30, 1, 0, 32, .ro, 0, .W⟩
  | .commit => ⟨.header, 0x34, 1, 0, 1, .wo, 0, .W⟩
  | .stage => ⟨.header, 0x34, 1, 1, 1, .wo, 0, .W⟩
  | .discard => ⟨.header, 0x34, 1, 2, 1, .wo, 0, .W⟩
  | .commitStaged => ⟨.header, 0x34, 1, 3, 1, .wo, 0, .W⟩
  | .staged => ⟨.header, 0x34, 1, 4, 1, .ro, 0, .W⟩
  | .shadowdirty => ⟨.header, 0x34, 1, 5, 1, .ro, 0, .W⟩
  | .glbPart => ⟨.glob, 0x100, 1, 0, 16, .ro, 0x9600, .F⟩
  | .glbStepping => ⟨.glob, 0x100, 1, 16, 8, .ro, 0, .F⟩
  | .glbLayout => ⟨.glob, 0x100, 1, 24, 8, .ro, 1, .F⟩
  | .glbSerial => ⟨.glob, 0x104, 2, 0, 48, .ro, 0, .F⟩
  | .glbDevtime => ⟨.glob, 0x110, 2, 0, 64, .ro, 0, .K⟩
  | .glbEpoch => ⟨.glob, 0x118, 1, 0, 32, .ro, 0, .W⟩
  | .glbStaged => ⟨.glob, 0x11c, 1, 0, 13, .ro, 0, .W⟩
  | .glbIslands => ⟨.glob, 0x120, 1, 0, 9, .ro, 317, .F⟩
  | .glbDevtimemon => ⟨.glob, 0x124, 1, 0, 1, .ro, 0, .W⟩
  | .glbClusters => ⟨.glob, 0x128, 1, 0, 8, .ro, 192, .W⟩
  | .glbChannels => ⟨.glob, 0x128, 1, 8, 6, .ro, 48, .W⟩
  | .keelState => ⟨.keel, 0x100, 1, 0, 2, .ro, 0, .W⟩
  | .keelFwepoch => ⟨.keel, 0x104, 1, 0, 7, .ro, 0, .K⟩
  | .keelMismatch => ⟨.keel, 0x108, 1, 0, 32, .ro, 0, .K⟩
  | .keelWdperiod => ⟨.keel, 0x10c, 1, 0, 16, .ro, 100, .F⟩
  | .keelWdkick => ⟨.keel, 0x110, 1, 0, 1, .wo, 0, .W⟩
  | .keelFwhash => ⟨.keel, 0x114, 12, 0, 384, .ro, 0, .K⟩
  | .brdLastaddr => ⟨.bridle, 0x100, 2, 0, 64, .ro, 0, .W⟩
  | .brdLastkind => ⟨.bridle, 0x108, 1, 0, 4, .ro, 0, .W⟩
  | .brdLasermax => ⟨.bridle, 0x10c, 1, 0, 12, .ro, 0, .F⟩
  | .brdSpanrate => ⟨.bridle, 0x110, 1, 0, 16, .ro, 1000, .F⟩
  | .fuseOwnerused => ⟨.fuse, 0x100, 1, 0, 4, .rwf, 0, .F⟩
  | .fuseFwepoch => ⟨.fuse, 0x100, 1, 4, 7, .rwf, 0, .F⟩
  | .fuseCeilused => ⟨.fuse, 0x100, 1, 11, 3, .rwf, 0, .F⟩
  | .fuseLogcount => ⟨.fuse, 0x100, 1, 14, 8, .ro, 0, .F⟩
  | .fuseDebugclosed => ⟨.fuse, 0x100, 1, 22, 1, .ro, 0, .F⟩
  | .fuseCeiling => ⟨.fuse, 0x104, 1, 0, 16, .rwf, 4400, .F⟩
  | .fuseOwnerhash => ⟨.fuse, 0x108, 12, 0, 384, .rwf, 0, .F⟩
  | .fuseVendorids => ⟨.fuse, 0x138, 1, 0, 3, .ro, 0, .F⟩
  | .fuseVendorfw => ⟨.fuse, 0x138, 1, 3, 3, .ro, 0, .F⟩
  | .gqCtx => ⟨.quad, 0x100, 1, 0, 6, .ro, 0, .W⟩
  | .gqCtxvalid => ⟨.quad, 0x100, 1, 6, 1, .ro, 0, .W⟩
  | .gqHarts => ⟨.quad, 0x104, 1, 0, 8, .ro, 0, .I⟩
  | .gqStart => ⟨.quad, 0x108, 1, 0, 4, .wo, 0, .I⟩
  | .gqStop => ⟨.quad, 0x108, 1, 4, 4, .wo, 0, .I⟩
  | .gqBootdva => ⟨.quad, 0x10c, 2, 0, 64, .rws, 0, .C⟩
  | .gqL2ce => ⟨.quad, 0x114, 1, 0, 32, .ro, 0, .W⟩
  | .gqStarts => ⟨.quad, 0x118, 1, 0, 32, .ro, 0, .W⟩
  | .islFreq => ⟨.island, 0x0, 1, 0, 12, .ro, 0, .I⟩
  | .islVolt => ⟨.island, 0x0, 1, 12, 12, .ro, 0, .I⟩
  | .islState => ⟨.island, 0x0, 1, 24, 3, .ro, 0, .I⟩
  | .fuseLog => ⟨.fuseLog, 0x0, 16, 0, 512, .ro, 0, .F⟩
  | .secArg => ⟨.secArg, 0x0, 120, 0, 3840, .rw, 0, .W⟩
  | .tsBindhash => ⟨.bindHash, 0x0, 12, 0, 384, .ro, 0, .K⟩
  | .secIdcert => ⟨.idCert, 0x0, 960, 0, 30720, .ro, 0, .F⟩

/-- Every register field, in the order of the tables. -/
def Reg.every : List Reg := (List.range 489).map Reg.ofNat

/-- Where the copies of a block lie: the first page, how many pages, how many copies a page holds, the offset of the
first copy and the distance of two copies on one page. A block of `shared` pages is one register set reached through
each of them (R224, R252). -/
structure BlockPlace where
  page : Nat
  pages : Nat
  perPage : Nat
  off : Nat
  stride : Nat
  shared : Bool := false
  deriving DecidableEq, Repr

/-- R471 and the chapters' page rules. The doorbell space is a space of its own (R478): its blocks lie on no page. The
blocks tlyCmd, secCmd and mtrPeek have one copy for each reader (R273, R417, R443), chosen by who accesses them. -/
def Block.place : Block → BlockPlace
  | .header => ⟨0, 8192, 1, 0, 0, false⟩
  | .glob => ⟨0x0000, 1, 1, 0, 0, false⟩
  | .keel => ⟨0x0001, 1, 1, 0, 0, false⟩
  | .bridle => ⟨0x0002, 1, 1, 0, 0, false⟩
  | .fuse => ⟨0x0003, 1, 1, 0, 0, false⟩
  | .island => ⟨0x0004, 1, 317, 0x100, 4, false⟩
  | .fuseLog => ⟨0x0005, 3, 60, 0x100, 64, false⟩
  | .power => ⟨0x0008, 1, 1, 0, 0, false⟩
  | .rst => ⟨0x0009, 1, 1, 0, 0, false⟩
  | .tether => ⟨0x0040, 1, 1, 0, 0, false⟩
  | .secCmd => ⟨0x0040, 1, 1, 0, 0, false⟩
  | .sess => ⟨0x0041, 1, 64, 0x100, 0x30, false⟩
  | .secArg => ⟨0x0042, 8, 8, 0x100, 0x1E0, false⟩
  | .bindHash => ⟨0x004A, 1, 64, 0x100, 0x30, false⟩
  | .idCert => ⟨0x004B, 1, 1, 0x100, 0, false⟩
  | .cluster => ⟨0x0100, 192, 1, 0, 0, false⟩
  | .cluSlot => ⟨0x0100, 192, 8, 0x110, 4, false⟩
  | .memChan => ⟨0x0200, 48, 1, 0, 0, false⟩
  | .upd => ⟨0x0200, 48, 1, 0, 0, false⟩
  | .memAll => ⟨0x0200, 1, 1, 0, 0, false⟩
  | .span => ⟨0x0300, 32, 1, 0, 0, false⟩
  | .cxl => ⟨0x0340, 8, 1, 0, 0, false⟩
  | .seqCtx => ⟨0x0400, 1, 64, 0x100, 0x38, false⟩
  | .seq => ⟨0x0400, 1, 1, 0, 0, false⟩
  | .kvPools => ⟨0x0401, 1, 1, 0, 0, false⟩
  | .kvCtx => ⟨0x0402, 1, 64, 0x100, 0x38, false⟩
  | .kvCnt => ⟨0x0403, 1, 64, 0x100, 0x10, false⟩
  | .sampler => ⟨0x0408, 6, 1, 0, 0, false⟩
  | .smpCtx => ⟨0x0408, 6, 64, 0x200, 0x38, true⟩
  | .weavin => ⟨0x0410, 4, 1, 0, 0, false⟩
  | .wvStore => ⟨0x0410, 1, 1, 0, 0, false⟩
  | .wvCtx => ⟨0x0410, 4, 64, 0x200, 0x38, true⟩
  | .tlyBank => ⟨0x0418, 4, 1, 0, 0, false⟩
  | .tlyCmd => ⟨0x0418, 1, 1, 0, 0, false⟩
  | .lrnCtx => ⟨0x0420, 1, 64, 0x100, 0x38, false⟩
  | .health => ⟨0x0428, 1, 1, 0, 0, false⟩
  | .secure => ⟨0x0429, 1, 1, 0, 0, false⟩
  | .flight => ⟨0x0430, 1, 1, 0, 0, false⟩
  | .meter => ⟨0x0438, 1, 1, 0, 0, false⟩
  | .mtrPeek => ⟨0x0438, 1, 1, 0, 0, false⟩
  | .mtrCtx => ⟨0x0438, 1, 64, 0x200, 0x10, false⟩
  | .quad => ⟨0x0440, 16, 1, 0, 0, false⟩
  | .ctx => ⟨0x1000, 64, 1, 0, 0, false⟩
  | .doorbell => ⟨0x2000, 0, 65536, 0, 64, false⟩

/-- R471: the slots that hold a page. -/
def pageExists (p : Nat) : Bool :=
  p ≤ 0x9 || (0x40 ≤ p && p ≤ 0x4F) || (0x100 ≤ p && p ≤ 0x1BF) || (0x200 ≤ p && p ≤ 0x22F)
    || (0x300 ≤ p && p ≤ 0x31F) || (0x340 ≤ p && p ≤ 0x347) || (0x400 ≤ p && p ≤ 0x403)
    || (0x408 ≤ p && p ≤ 0x40D) || (0x410 ≤ p && p ≤ 0x413) || (0x418 ≤ p && p ≤ 0x41B)
    || p == 0x420 || p == 0x428 || p == 0x429 || p == 0x430 || p == 0x438
    || (0x440 ≤ p && p ≤ 0x44F) || (0x1000 ≤ p && p ≤ 0x103F)

/-- R471: the block-type code and the number of a page among those of its type. -/
def pageTypeInst (p : Nat) : Nat × Nat :=
  if p ≤ 0x4 then (p + 1, 0) else if p ≤ 0x7 then (6, p - 5) else if p ≤ 0x9 then (p - 1, 0)
  else if p ≤ 0x41 then (p - 0x40 + 0x10, 0) else if p ≤ 0x49 then (0x12, p - 0x42)
  else if p ≤ 0x4B then (p - 0x4A + 0x13, 0) else if p ≤ 0x4F then (0x15, p - 0x4C)
  else if p ≤ 0x1BF then (0x20, p - 0x100) else if p ≤ 0x22F then (0x21, p - 0x200)
  else if p ≤ 0x31F then (0x22, p - 0x300) else if p ≤ 0x347 then (0x23, p - 0x340)
  else if p ≤ 0x403 then (p - 0x400 + 0x30, 0) else if p ≤ 0x40D then (0x34, p - 0x408)
  else if p ≤ 0x413 then (0x35, p - 0x410) else if p ≤ 0x41B then (0x36, p - 0x418)
  else if p == 0x420 then (0x37, 0) else if p == 0x428 then (0x38, 0) else if p == 0x429 then (0x39, 0)
  else if p == 0x430 then (0x3A, 0) else if p == 0x438 then (0x3B, 0)
  else if p ≤ 0x44F then (0x3C, p - 0x440) else (0x40, p - 0x1000)

/-- R510: bits [5:0] of PAGE_CAP of every page. -/
def pageCap (p : Nat) : Nat :=
  if p ≤ 0x7 then 0x00 else if p == 0x8 then 0x05 else if p == 0x9 then 0x04
  else if p == 0x40 then 0x05 else if p ≤ 0x4F then 0x00 else if p ≤ 0x1BF then 0x08
  else if p == 0x200 then 0x09 else if p ≤ 0x22F then 0x08 else if p ≤ 0x31F then 0x09
  else if p ≤ 0x347 then 0x01 else if p == 0x400 then 0x13 else if p == 0x401 then 0x01
  else if p == 0x402 then 0x17 else if p == 0x403 then 0x12 else if p == 0x408 then 0x3B
  else if p ≤ 0x40D then 0x2B else if p == 0x410 then 0x33 else if p ≤ 0x413 then 0x23
  else if p == 0x418 then 0x14 else if p ≤ 0x41B then 0x00 else if p == 0x420 then 0x13
  else if p == 0x428 then 0x01 else if p == 0x429 then 0x05 else if p == 0x430 then 0x05
  else if p == 0x438 then 0x12 else if p ≤ 0x44F then 0x01 else 0x15

/-- Does a copy of the block lie on page p? -/
def Block.onPage (b : Block) (p : Nat) : Bool :=
  b.place.page ≤ p && p < b.place.page + b.place.pages && pageExists p

/-- R472: on a context page the header's fields of class W have class C. -/
def Reg.survivesOn (r : Reg) (p : Nat) : Survival :=
  if r.info.block = .header ∧ 0x1000 ≤ p ∧ r.info.survives = .W then .C else r.info.survives

/-- PAGE_SURVIVAL (R472): bit 0 F, 1 K, 2 W, 3 C, 4 I, set where that class occurs on the page. -/
def pageClasses (p : Nat) : Nat :=
  let has (c : Survival) : Nat := if Reg.every.any (fun r => r.info.block.onPage p && r.survivesOn p == c) then 1 else 0
  has .F + 2 * has .K + 4 * has .W + 8 * has .C + 16 * has .I

/-- Fields whose reset value the spec does not state as a number (its tables show a dash): the module-specific fused
values, each a value this model names (log entry 3, DESIGN CHOICE). -/
def Reg.fusedValue : Reg → Option Nat
  | .glbStepping => some 0
  | .glbSerial => some 1
  | .brdLasermax => some 0xFFF
  | .fuseDebugclosed => some 1
  | .fuseVendorids => some 1
  | .fuseVendorfw => some 1
  | .mtrBoot => some 1
  | .secIdcertlen => some 0
  | .secIdcert => some 0
  | .fltFeedtag => some 0
  | _ => none

/-- The reset value of copy i of a field: the value of its table, or what the table says of the copy (its number, its
page's type, capabilities and classes). -/
def Reg.resetAt (r : Reg) (j : Nat) : Nat :=
  let i := j % 2 ^ 20
  match r with
  | .pageType => if pageExists i then (pageTypeInst i).1 else 0
  | .pageInst => if pageExists i then (pageTypeInst i).2 else 0
  | .capShadow => pageCap i % 2
  | .capPerctx => pageCap i / 2 % 2
  | .capCmd => pageCap i / 4 % 2
  | .capFence => pageCap i / 8 % 2
  | .capView => pageCap i / 16 % 2
  | .capShared => pageCap i / 32 % 2
  | .pageSurvival => pageClasses i
  | .cluNum => i
  | .cluDie => i / 96
  | .memNum => i
  | .spnNum => i
  | r => (r.fusedValue).getD r.info.reset

/-- The key of copy i of a field in the register store. Copies are numbered below 2^20. -/
def Reg.key (r : Reg) (i : Nat) : Nat := r.ctorIdx * 2 ^ 20 + i % 2 ^ 20

/-- The page and byte offset of copy i of a field's first word. -/
def Reg.pageOf (r : Reg) (i : Nat) : Nat :=
  let pl := r.info.block.place
  if r.info.block = .header then i
  else if pl.shared || pl.perPage == 0 then pl.page
  else if r.info.block = .tlyCmd ∨ r.info.block = .secCmd ∨ r.info.block = .mtrPeek then pl.page
  else pl.page + i / pl.perPage

/-- R10, R471: the copy of a block that lies at byte offset o of page p for a reader numbered rd, and the offset within
that copy. -/
def Block.copyAt (b : Block) (rd p o : Nat) : Option (Nat × Nat) :=
  let pl := b.place
  if !b.onPage p then none
  else if b = .header then some (p, o)
  else if b = .tlyCmd ∨ b = .secCmd ∨ b = .mtrPeek then some (rd, o)
  else if pl.perPage ≤ 1 then (if pl.off ≤ o then some (p - pl.page, o - pl.off) else none)
  else if o < pl.off then none
  else
    let k := (o - pl.off) / pl.stride
    if k < pl.perPage then
      some ((if pl.shared then 0 else (p - pl.page) * pl.perPage) + k, (o - pl.off) % pl.stride)
    else none

/-- One field's part of a 32-bit register word: the field, its copy, the lowest bit of the part in the word, the
lowest bit of the part in the field's value, and the part's width. -/
structure WordPart where
  reg : Reg
  idx : Nat
  wordLsb : Nat
  valLsb : Nat
  width : Nat
  deriving DecidableEq, Repr

/-- The part of a field that lies in the word at byte offset o of page p, if one does. -/
def Reg.partAt (r : Reg) (rd p o : Nat) : Option WordPart :=
  match r.info.block.copyAt rd p o with
  | none => none
  | some (i, off) =>
    if r.info.off ≤ off ∧ off < r.info.off + 4 * r.info.words then
      let j := (off - r.info.off) / 4
      some ⟨r, i, r.info.lsb, 32 * j, if r.info.words = 1 then r.info.width else min 32 (r.info.width - 32 * j)⟩
    else none

/-- The fields of the 32-bit register at byte offset o of page p, for reader rd. -/
def wordParts (rd p o : Nat) : List WordPart := Reg.every.filterMap (fun r => r.partAt rd p o)

end Sys2Proof.Machine
end

