-- ==== Sys2Proof/Machine/Sparse.lean ====
section
/-!
DEFINITION. Sparse tables: a list of (key, value) pairs with strictly rising keys in which no entry holds the value an
unlisted key reads as. Memory, the register store, the tallies and every other numbered collection of the state use it.
-/
namespace Sys2Proof.Machine

/-- A table of values by number. -/
abbrev Sparse (α : Type) := List (Nat × α)

/-- The value at key k, or d where k is not listed. -/
def sget {α : Type} (d : α) : Sparse α → Nat → α
  | [], _ => d
  | (a, v) :: t, k => if a = k then v else sget d t k

/-- Insert a pair before the first greater key. -/
def sinsert {α : Type} : Sparse α → Nat → α → Sparse α
  | [], k, v => [(k, v)]
  | (a, w) :: t, k, v => if k < a then (k, v) :: (a, w) :: t else (a, w) :: sinsert t k v

/-- Drop key k. -/
def sdrop {α : Type} : Sparse α → Nat → Sparse α
  | [], _ => []
  | (a, w) :: t, k => if a = k then sdrop t k else (a, w) :: sdrop t k

/-- Write value v at key k, where d is what k reads as when it is not listed. -/
def sput {α : Type} [DecidableEq α] (d : α) (m : Sparse α) (k : Nat) (v : α) : Sparse α :=
  if v = d then sdrop m k else sinsert (sdrop m k) k v

/-- Drop every key from lo to hi - 1. -/
def sclear {α : Type} (m : Sparse α) (lo hi : Nat) : Sparse α :=
  m.filter (fun p => !(lo ≤ p.1 && p.1 < hi))

/-- Keys strictly rising, each at least lo. -/
def srising {α : Type} : Nat → Sparse α → Bool
  | _, [] => true
  | lo, (a, _) :: t => lo ≤ a && srising (a + 1) t

/-- The canonical form: keys strictly rising and no entry at the value an unlisted key reads as. -/
def scanon {α : Type} [DecidableEq α] (d : Nat → α) (m : Sparse α) : Bool :=
  srising 0 m && m.all (fun p => p.2 ≠ d p.1)

end Sys2Proof.Machine
end

