-- ==== Sys2Proof/Machine/Status.lean ====
section
/-!
DEFINITION. The status codes of R488 and R489: every status the module reports, by name, with its 16-bit code.
-/
namespace Sys2Proof.Machine

/-- R489: every status the module reports. -/
inductive Status where
  /-- OK, 0x0 (success (R18)). -/
  | ok
  /-- GEN_ACCESS_SIZE, 0x1 (access not an aligned 32-bit access (R12)). -/
  | genAccessSize
  /-- GEN_ADDR_RANGE, 0x2 (address beyond the register or doorbell space). -/
  | genAddrRange
  /-- GEN_PAGE_ABSENT, 0x3 (page slot holds no page). -/
  | genPageAbsent
  /-- GEN_ID_RANGE, 0x4 (identifier outside its range (R10), in a block that names no status of its own). -/
  | genIdRange
  /-- GEN_CMD_BUSY, 0x5 (command written while the same issuer's previous command on that page still runs, where the page's chapter gives no other outcome). -/
  | genCmdBusy
  /-- GEN_CONFIG, 0x6 (value outside its range on a page whose chapter names no configuration status). -/
  | genConfig
  /-- DEVTIME_REF_FAULT, 0x20 (R36). -/
  | devtimeRefFault
  /-- FMT_RESERVED, 0x101 (R80). -/
  | fmtReserved
  /-- FMT_UNSUPPORTED, 0x102 (R80). -/
  | fmtUnsupported
  /-- FMT_CLASS_MIX, 0x103 (R80). -/
  | fmtClassMix
  /-- FMT_SCALE_INVALID, 0x104 (R80). -/
  | fmtScaleInvalid
  /-- FMT_BLOCK_AXIS, 0x105 (R80). -/
  | fmtBlockAxis
  /-- FMT_EPI_COMBO, 0x106 (R80). -/
  | fmtEpiCombo
  /-- FMT_PROPAGATE_TARGET, 0x107 (R80). -/
  | fmtPropagateTarget
  /-- FMT_CLIP_BOUNDS, 0x108 (R80). -/
  | fmtClipBounds
  /-- FMT_ZP_FORMAT, 0x109 (R80). -/
  | fmtZpFormat
  /-- CLU_KIND_RESERVED, 0x110 (R112). -/
  | cluKindReserved
  /-- CLU_SHAPE, 0x111 (R112). -/
  | cluShape
  /-- CLU_SCRATCH_RANGE, 0x112 (R112). -/
  | cluScratchRange
  /-- CLU_ACC_FORMAT, 0x113 (R112). -/
  | cluAccFormat
  /-- CLU_ACC_FOOTPRINT, 0x114 (R112). -/
  | cluAccFootprint
  /-- CLU_ACC_SLOT, 0x115 (R112). -/
  | cluAccSlot
  /-- CLU_ACC_HELD, 0x116 (R112). -/
  | cluAccHeld
  /-- CLU_SPARSE_TRANS, 0x117 (R112). -/
  | cluSparseTrans
  /-- CLU_SPMETA_INVALID, 0x118 (R112). -/
  | cluSpmetaInvalid
  /-- CLU_ZSKIP_TRANS, 0x119 (R112). -/
  | cluZskipTrans
  /-- CLU_ROUTE_CONFIG, 0x11a (R112). -/
  | cluRouteConfig
  /-- CLU_MASK_CONFIG, 0x11b (R112). -/
  | cluMaskConfig
  /-- CLU_VEC_FAULT, 0x11c (R112). -/
  | cluVecFault
  /-- CLU_VEC_TIMEOUT, 0x11d (R112). -/
  | cluVecTimeout
  /-- CLU_RESIDUE, 0x11e (R112). -/
  | cluResidue
  /-- CLU_CHAIN_LONG, 0x11f (R112). -/
  | cluChainLong
  /-- CLU_DEFER_CLASS, 0x120 (R112). -/
  | cluDeferClass
  /-- CLU_MASK_EMPTY, 0x121 (R112). -/
  | cluMaskEmpty
  /-- LRN_SAVE_FIT, 0x201 (R143). -/
  | lrnSaveFit
  /-- LRN_SAVE_WINDOW, 0x202 (R143). -/
  | lrnSaveWindow
  /-- LRN_DACT_CONFIG, 0x203 (R143). -/
  | lrnDactConfig
  /-- LRN_DEFER_LOST, 0x204 (R143). -/
  | lrnDeferLost
  /-- LRN_UPD_CLASS, 0x205 (R143). -/
  | lrnUpdClass
  /-- LRN_UPD_OP, 0x206 (R143). -/
  | lrnUpdOp
  /-- LRN_UPD_COUNT, 0x207 (R143). -/
  | lrnUpdCount
  /-- LRN_UPD_ALIGN, 0x208 (R143). -/
  | lrnUpdAlign
  /-- LRN_UPD_OVERLAP, 0x209 (R143). -/
  | lrnUpdOverlap
  /-- LRN_UPD_PARAM, 0x20a (R143). -/
  | lrnUpdParam
  /-- LRN_UPD_NONFINITE, 0x20b (R143). -/
  | lrnUpdNonfinite
  /-- LRN_UPD_CHAIN, 0x20c (R143). -/
  | lrnUpdChain
  /-- LRN_STEP_SKIPPED, 0x20d (R143). -/
  | lrnStepSkipped
  /-- LRN_LSCALE_FLOOR, 0x20e (R143). -/
  | lrnLscaleFloor
  /-- LRN_CONFIG, 0x20f (R143). -/
  | lrnConfig
  /-- SEQ_TABLE_FULL, 0x301 (R172). -/
  | seqTableFull
  /-- SEQ_CTX_LIMIT, 0x302 (R172). -/
  | seqCtxLimit
  /-- SEQ_CLASS, 0x303 (R172). -/
  | seqClass
  /-- SEQ_HANDLE_STALE, 0x304 (R172). -/
  | seqHandleStale
  /-- ALREADY_COMPLETE, 0x305 (R172). -/
  | alreadyComplete
  /-- SEQ_LENGTH, 0x306 (R172). -/
  | seqLength
  /-- SEQ_STOPSET_RANGE, 0x307 (R172). -/
  | seqStopsetRange
  /-- SEQ_ROLLOUT_MAP, 0x308 (R172). -/
  | seqRolloutMap
  /-- SEQ_ROLLOUT_FAULT, 0x309 (R172). -/
  | seqRolloutFault
  /-- SEQ_ENTRY_KIND, 0x30a (R172). -/
  | seqEntryKind
  /-- SEQ_NOT_PAUSED, 0x30b (R172). -/
  | seqNotPaused
  /-- SEQ_RELEASE_STATE, 0x30c (R172). -/
  | seqReleaseState
  /-- SEQ_STOPSET_FORMAT, 0x30d (R172). -/
  | seqStopsetFormat
  /-- SEQ_STOPSET_BUSY, 0x30e (R172). -/
  | seqStopsetBusy
  /-- SEQ_RING_FULL, 0x30f (R172). -/
  | seqRingFull
  /-- SEQ_CONFIG, 0x310 (R172). -/
  | seqConfig
  /-- KV_CONFIG, 0x401 (R205). -/
  | kvConfig
  /-- KV_GEOMETRY, 0x402 (R205). -/
  | kvGeometry
  /-- KV_ATTN_HEADER, 0x403 (R205). -/
  | kvAttnHeader
  /-- KV_STALE_PAGE, 0x404 (R205). -/
  | kvStalePage
  /-- KV_PAGE_LOST, 0x405 (R205). -/
  | kvPageLost
  /-- KV_PFX_INVALID, 0x406 (R205). -/
  | kvPfxInvalid
  /-- KV_FAR_PAGE, 0x407 (R205). -/
  | kvFarPage
  /-- KV_ENTRY_ABSENT, 0x408 (R205). -/
  | kvEntryAbsent
  /-- SMP_PARAM_INDEX, 0x501 (R225). -/
  | smpParamIndex
  /-- SMP_PARAM_INVALID, 0x502 (R225). -/
  | smpParamInvalid
  /-- SMP_ROW_EMPTY, 0x503 (R225). -/
  | smpRowEmpty
  /-- SMP_PARAM_CHANGED, 0x504 (R225). -/
  | smpParamChanged
  /-- SMP_CONFIG, 0x505 (R225). -/
  | smpConfig
  /-- SMP_MERGE_FORMAT, 0x506 (R225). -/
  | smpMergeFormat
  /-- SMP_LOGIT_FAULT, 0x507 (R225). -/
  | smpLogitFault
  /-- SMP_NO_UNIT, 0x508 (R225). -/
  | smpNoUnit
  /-- WV_PLAN_FORMAT, 0x601 (R253). -/
  | wvPlanFormat
  /-- WV_KIND_RESERVED, 0x602 (R253). -/
  | wvKindReserved
  /-- WV_SHAPE, 0x603 (R253). -/
  | wvShape
  /-- WV_ALIGN, 0x604 (R253). -/
  | wvAlign
  /-- WV_REMOTE_BOTH, 0x605 (R253). -/
  | wvRemoteBoth
  /-- WV_SELF, 0x606 (R253). -/
  | wvSelf
  /-- WV_REMOTE_REFUSED, 0x607 (R253). -/
  | wvRemoteRefused
  /-- WV_PEER_LOST, 0x608 (R253). -/
  | wvPeerLost
  /-- WV_EPOCH, 0x609 (R253). -/
  | wvEpoch
  /-- WV_GRAD_CLASS, 0x60a (R253). -/
  | wvGradClass
  /-- WV_ACCUM_FORMAT, 0x60b (R253). -/
  | wvAccumFormat
  /-- WV_WEIGHTS_PLAN, 0x60c (R253). -/
  | wvWeightsPlan
  /-- WV_MFST_FORMAT, 0x60d (R253). -/
  | wvMfstFormat
  /-- WV_MFST_KEY, 0x60e (R253). -/
  | wvMfstKey
  /-- WV_MFST_SIG, 0x60f (R253). -/
  | wvMfstSig
  /-- WV_MFST_SPACE, 0x610 (R253). -/
  | wvMfstSpace
  /-- WV_CHUNK_TAG, 0x611 (R253). -/
  | wvChunkTag
  /-- WV_CHUNK_HASH, 0x612 (R253). -/
  | wvChunkHash
  /-- WV_SHARED_DEST, 0x613 (R253). -/
  | wvSharedDest
  /-- WV_GATE_FAILED, 0x614 (R253). -/
  | wvGateFailed
  /-- WV_DST_LIST, 0x615 (R253). -/
  | wvDstList
  /-- WV_DISPATCH_CONFIG, 0x616 (R253). -/
  | wvDispatchConfig
  /-- WV_CONFIG, 0x617 (R253). -/
  | wvConfig
  /-- TALLY_UNDERFLOW, 0x701 (R274). -/
  | tallyUnderflow
  /-- TALLY_OVERFLOW, 0x702 (R274). -/
  | tallyOverflow
  /-- TALLY_UNMAPPED, 0x703 (R274). -/
  | tallyUnmapped
  /-- TALLY_FOREIGN, 0x704 (R274). -/
  | tallyForeign
  /-- TALLY_MAP_OVERLAP, 0x705 (R274). -/
  | tallyMapOverlap
  /-- TALLY_EXHAUSTED, 0x706 (R274). -/
  | tallyExhausted
  /-- TALLY_BUSY, 0x707 (R274). -/
  | tallyBusy
  /-- TALLY_CMD, 0x708 (R274). -/
  | tallyCmd
  /-- MEM_UNCORRECTABLE, 0x801 (R294). -/
  | memUncorrectable
  /-- MEM_POISON_WRITE, 0x802 (R294). -/
  | memPoisonWrite
  /-- MEM_PA_RANGE, 0x803 (R294). -/
  | memPaRange
  /-- MEM_RESERVED, 0x804 (R294). -/
  | memReserved
  /-- MEM_RETIRE_FULL, 0x805 (R294). -/
  | memRetireFull
  /-- MEM_CHANNEL_FENCED, 0x806 (R294). -/
  | memChannelFenced
  /-- CXL_LINK_DOWN, 0x807 (R294). -/
  | cxlLinkDown
  /-- MEM_CONFIG, 0x808 (R294). -/
  | memConfig
  /-- DVA_NONCANONICAL, 0x810 (R46). -/
  | dvaNoncanonical
  /-- DVA_UNMAPPED, 0x811 (R46). -/
  | dvaUnmapped
  /-- DVA_ACCESS, 0x812 (R46). -/
  | dvaAccess
  /-- DVA_TARGET, 0x813 (R46). -/
  | dvaTarget
  /-- MAP_OVERLAP, 0x814 (R46). -/
  | mapOverlap
  /-- SHARE_REFUSED, 0x815 (R46). -/
  | shareRefused
  /-- SPN_HAIL_FORMAT, 0x901 (R326). -/
  | spnHailFormat
  /-- SPN_HAIL_IDENTITY, 0x902 (R326). -/
  | spnHailIdentity
  /-- SPN_LOOPBACK, 0x903 (R326). -/
  | spnLoopback
  /-- SPN_TAG_FENCE, 0x904 (R326). -/
  | spnTagFence
  /-- SPN_NO_ROUTE, 0x905 (R326). -/
  | spnNoRoute
  /-- SPN_PATH_LOST, 0x906 (R326). -/
  | spnPathLost
  /-- FLT_UNCONFIGURED, 0x907 (R326). -/
  | fltUnconfigured
  /-- FLT_FOREIGN, 0x908 (R326). -/
  | fltForeign
  /-- FLT_NOT_PERMITTED, 0x909 (R326). -/
  | fltNotPermitted
  /-- FLT_FIRMWARE, 0x90a (R326). -/
  | fltFirmware
  /-- FLT_FEEDTAG_UNCONFIRMED, 0x90b (R326). -/
  | fltFeedtagUnconfirmed
  /-- FLT_FULL, 0x90c (R326). -/
  | fltFull
  /-- FLT_MEMBER_CONFLICT, 0x90d (R326). -/
  | fltMemberConflict
  /-- FLT_AHEAD, 0x90e (R326). -/
  | fltAhead
  /-- FLT_NO_QUORUM, 0x90f (R326). -/
  | fltNoQuorum
  /-- FLT_FENCED, 0x910 (R326). -/
  | fltFenced
  /-- FLT_CMD_REFUSED, 0x911 (R326). -/
  | fltCmdRefused
  /-- FLT_CONFIG, 0x912 (R326). -/
  | fltConfig
  /-- FH_CONFIG, 0xa01 (R356). -/
  | fhConfig
  /-- FH_STAGE_FULL, 0xa02 (R356). -/
  | fhStageFull
  /-- FH_SCHED_LATE, 0xa03 (R356). -/
  | fhSchedLate
  /-- FH_SILENCE, 0xa04 (R356). -/
  | fhSilence
  /-- FH_SELF_FAULT, 0xa05 (R356). -/
  | fhSelfFault
  /-- FH_EVACUATE, 0xa06 (R356). -/
  | fhEvacuate
  /-- FH_STEP_FAULT, 0xa07 (R356). -/
  | fhStepFault
  /-- FH_REWOUND, 0xa08 (R356). -/
  | fhRewound
  /-- FH_HEIR_LAYOUT, 0xa09 (R356). -/
  | fhHeirLayout
  /-- FH_REPLAY_MISMATCH, 0xa0a (R356). -/
  | fhReplayMismatch
  /-- UNHIDDEN_LOSS, 0xa0b (R356). -/
  | unhiddenLoss
  /-- FH_EXPOSED, 0xa0c (R356). -/
  | fhExposed
  /-- FH_ISOLATED, 0xa0d (R356). -/
  | fhIsolated
  /-- FH_ISLAND_RESET, 0xa0e (R356). -/
  | fhIslandReset
  /-- FH_CMD_REFUSED, 0xa0f (R356). -/
  | fhCmdRefused
  /-- CONTEXT_RESET, 0xb01 (R386). -/
  | contextReset
  /-- LANES_MISMATCH, 0xb02 (R386). -/
  | lanesMismatch
  /-- CTX_STATE, 0xb03 (R386). -/
  | ctxState
  /-- CTX_CMD, 0xb04 (R386). -/
  | ctxCmd
  /-- CTX_SLICE_SPACE, 0xb05 (R386). -/
  | ctxSliceSpace
  /-- CTX_RESIDENT_FULL, 0xb06 (R386). -/
  | ctxResidentFull
  /-- CTX_QOS_OVERCOMMIT, 0xb07 (R386). -/
  | ctxQosOvercommit
  /-- CTX_MAP_ALIGN, 0xb08 (R386). -/
  | ctxMapAlign
  /-- CTX_MAP_PROTECTED, 0xb09 (R386). -/
  | ctxMapProtected
  /-- CTX_TABLE_FULL, 0xb0a (R386). -/
  | ctxTableFull
  /-- RING_BUSY, 0xb0b (R386). -/
  | ringBusy
  /-- RING_MAP, 0xb0c (R386). -/
  | ringMap
  /-- RING_OVERRUN, 0xb0d (R386). -/
  | ringOverrun
  /-- RING_CRING_INVALID, 0xb0e (R386). -/
  | ringCringInvalid
  /-- RING_ENTRY, 0xb0f (R386). -/
  | ringEntry
  /-- CTX_CONFIG, 0xb10 (R386). -/
  | ctxConfig
  /-- SES_RIGHTS, 0xc01 (R421). -/
  | sesRights
  /-- SES_AUTH, 0xc02 (R421). -/
  | sesAuth
  /-- SES_CLOSED, 0xc03 (R421). -/
  | sesClosed
  /-- SES_OP_FORMAT, 0xc04 (R421). -/
  | sesOpFormat
  /-- SEC_BUDGET, 0xc05 (R421). -/
  | secBudget
  /-- SEC_VALUE, 0xc06 (R421). -/
  | secValue
  /-- SEC_RAISE, 0xc07 (R421). -/
  | secRaise
  /-- SEC_STATE, 0xc08 (R421). -/
  | secState
  /-- SEC_FW_FORMAT, 0xc09 (R421). -/
  | secFwFormat
  /-- SEC_FW_ROLLBACK, 0xc0a (R421). -/
  | secFwRollback
  /-- SEC_FW_SIG, 0xc0b (R421). -/
  | secFwSig
  /-- SEC_UNWRAP, 0xc0c (R421). -/
  | secUnwrap
  /-- SEC_KEYSLOT, 0xc0d (R421). -/
  | secKeyslot
  /-- SEC_PUB_FULL, 0xc0e (R421). -/
  | secPubFull
  /-- SEC_LMS_EXHAUSTED, 0xc0f (R421). -/
  | secLmsExhausted
  /-- SEC_ENTROPY, 0xc10 (R421). -/
  | secEntropy
  /-- BRIDLE_VIOLATION, 0xc11 (R421). -/
  | bridleViolation
  /-- MTR_NO_CARTRIDGE, 0xd01 (R444). -/
  | mtrNoCartridge
  /-- MTR_INVALID, 0xd02 (R444). -/
  | mtrInvalid
  /-- MTR_RESTORED, 0xd03 (R444). -/
  | mtrRestored
  /-- MTR_COUNTER_CAP, 0xd04 (R444). -/
  | mtrCounterCap
  /-- MTR_DECL_RANGE, 0xd05 (R444). -/
  | mtrDeclRange
  /-- METER_ABSENT, 0xd10 (R444). -/
  | meterAbsent
  /-- METER_BAD_REQUEST, 0xd11 (R444). -/
  | meterBadRequest
  /-- METER_AUTH, 0xd12 (R444). -/
  | meterAuth
  /-- METER_BUDGET, 0xd13 (R444). -/
  | meterBudget
  /-- METER_SIG_EXHAUSTED, 0xd14 (R444). -/
  | meterSigExhausted
  /-- PWR_NOT_QUIESCED, 0xe01 (R465). -/
  | pwrNotQuiesced
  /-- PWR_IN_FLIGHT, 0xe02 (R465). -/
  | pwrInFlight
  /-- PWR_ENTRY_ABORTED, 0xe03 (R465). -/
  | pwrEntryAborted
  /-- PWR_CMD_REFUSED, 0xe04 (R465). -/
  | pwrCmdRefused
  /-- PWR_WOKEN, 0xe05 (R465). -/
  | pwrWoken
  /-- PWR_EXCURSION, 0xe06 (R465). -/
  | pwrExcursion
  /-- RST_WARM_DONE, 0xe07 (R465). -/
  | rstWarmDone
  deriving DecidableEq, Repr

/-- R18, R488, R489: the 16-bit code of a status. -/
def Status.code : Status → Nat
  | .ok => 0x0000
  | .genAccessSize => 0x0001
  | .genAddrRange => 0x0002
  | .genPageAbsent => 0x0003
  | .genIdRange => 0x0004
  | .genCmdBusy => 0x0005
  | .genConfig => 0x0006
  | .devtimeRefFault => 0x0020
  | .fmtReserved => 0x0101
  | .fmtUnsupported => 0x0102
  | .fmtClassMix => 0x0103
  | .fmtScaleInvalid => 0x0104
  | .fmtBlockAxis => 0x0105
  | .fmtEpiCombo => 0x0106
  | .fmtPropagateTarget => 0x0107
  | .fmtClipBounds => 0x0108
  | .fmtZpFormat => 0x0109
  | .cluKindReserved => 0x0110
  | .cluShape => 0x0111
  | .cluScratchRange => 0x0112
  | .cluAccFormat => 0x0113
  | .cluAccFootprint => 0x0114
  | .cluAccSlot => 0x0115
  | .cluAccHeld => 0x0116
  | .cluSparseTrans => 0x0117
  | .cluSpmetaInvalid => 0x0118
  | .cluZskipTrans => 0x0119
  | .cluRouteConfig => 0x011A
  | .cluMaskConfig => 0x011B
  | .cluVecFault => 0x011C
  | .cluVecTimeout => 0x011D
  | .cluResidue => 0x011E
  | .cluChainLong => 0x011F
  | .cluDeferClass => 0x0120
  | .cluMaskEmpty => 0x0121
  | .lrnSaveFit => 0x0201
  | .lrnSaveWindow => 0x0202
  | .lrnDactConfig => 0x0203
  | .lrnDeferLost => 0x0204
  | .lrnUpdClass => 0x0205
  | .lrnUpdOp => 0x0206
  | .lrnUpdCount => 0x0207
  | .lrnUpdAlign => 0x0208
  | .lrnUpdOverlap => 0x0209
  | .lrnUpdParam => 0x020A
  | .lrnUpdNonfinite => 0x020B
  | .lrnUpdChain => 0x020C
  | .lrnStepSkipped => 0x020D
  | .lrnLscaleFloor => 0x020E
  | .lrnConfig => 0x020F
  | .seqTableFull => 0x0301
  | .seqCtxLimit => 0x0302
  | .seqClass => 0x0303
  | .seqHandleStale => 0x0304
  | .alreadyComplete => 0x0305
  | .seqLength => 0x0306
  | .seqStopsetRange => 0x0307
  | .seqRolloutMap => 0x0308
  | .seqRolloutFault => 0x0309
  | .seqEntryKind => 0x030A
  | .seqNotPaused => 0x030B
  | .seqReleaseState => 0x030C
  | .seqStopsetFormat => 0x030D
  | .seqStopsetBusy => 0x030E
  | .seqRingFull => 0x030F
  | .seqConfig => 0x0310
  | .kvConfig => 0x0401
  | .kvGeometry => 0x0402
  | .kvAttnHeader => 0x0403
  | .kvStalePage => 0x0404
  | .kvPageLost => 0x0405
  | .kvPfxInvalid => 0x0406
  | .kvFarPage => 0x0407
  | .kvEntryAbsent => 0x0408
  | .smpParamIndex => 0x0501
  | .smpParamInvalid => 0x0502
  | .smpRowEmpty => 0x0503
  | .smpParamChanged => 0x0504
  | .smpConfig => 0x0505
  | .smpMergeFormat => 0x0506
  | .smpLogitFault => 0x0507
  | .smpNoUnit => 0x0508
  | .wvPlanFormat => 0x0601
  | .wvKindReserved => 0x0602
  | .wvShape => 0x0603
  | .wvAlign => 0x0604
  | .wvRemoteBoth => 0x0605
  | .wvSelf => 0x0606
  | .wvRemoteRefused => 0x0607
  | .wvPeerLost => 0x0608
  | .wvEpoch => 0x0609
  | .wvGradClass => 0x060A
  | .wvAccumFormat => 0x060B
  | .wvWeightsPlan => 0x060C
  | .wvMfstFormat => 0x060D
  | .wvMfstKey => 0x060E
  | .wvMfstSig => 0x060F
  | .wvMfstSpace => 0x0610
  | .wvChunkTag => 0x0611
  | .wvChunkHash => 0x0612
  | .wvSharedDest => 0x0613
  | .wvGateFailed => 0x0614
  | .wvDstList => 0x0615
  | .wvDispatchConfig => 0x0616
  | .wvConfig => 0x0617
  | .tallyUnderflow => 0x0701
  | .tallyOverflow => 0x0702
  | .tallyUnmapped => 0x0703
  | .tallyForeign => 0x0704
  | .tallyMapOverlap => 0x0705
  | .tallyExhausted => 0x0706
  | .tallyBusy => 0x0707
  | .tallyCmd => 0x0708
  | .memUncorrectable => 0x0801
  | .memPoisonWrite => 0x0802
  | .memPaRange => 0x0803
  | .memReserved => 0x0804
  | .memRetireFull => 0x0805
  | .memChannelFenced => 0x0806
  | .cxlLinkDown => 0x0807
  | .memConfig => 0x0808
  | .dvaNoncanonical => 0x0810
  | .dvaUnmapped => 0x0811
  | .dvaAccess => 0x0812
  | .dvaTarget => 0x0813
  | .mapOverlap => 0x0814
  | .shareRefused => 0x0815
  | .spnHailFormat => 0x0901
  | .spnHailIdentity => 0x0902
  | .spnLoopback => 0x0903
  | .spnTagFence => 0x0904
  | .spnNoRoute => 0x0905
  | .spnPathLost => 0x0906
  | .fltUnconfigured => 0x0907
  | .fltForeign => 0x0908
  | .fltNotPermitted => 0x0909
  | .fltFirmware => 0x090A
  | .fltFeedtagUnconfirmed => 0x090B
  | .fltFull => 0x090C
  | .fltMemberConflict => 0x090D
  | .fltAhead => 0x090E
  | .fltNoQuorum => 0x090F
  | .fltFenced => 0x0910
  | .fltCmdRefused => 0x0911
  | .fltConfig => 0x0912
  | .fhConfig => 0x0A01
  | .fhStageFull => 0x0A02
  | .fhSchedLate => 0x0A03
  | .fhSilence => 0x0A04
  | .fhSelfFault => 0x0A05
  | .fhEvacuate => 0x0A06
  | .fhStepFault => 0x0A07
  | .fhRewound => 0x0A08
  | .fhHeirLayout => 0x0A09
  | .fhReplayMismatch => 0x0A0A
  | .unhiddenLoss => 0x0A0B
  | .fhExposed => 0x0A0C
  | .fhIsolated => 0x0A0D
  | .fhIslandReset => 0x0A0E
  | .fhCmdRefused => 0x0A0F
  | .contextReset => 0x0B01
  | .lanesMismatch => 0x0B02
  | .ctxState => 0x0B03
  | .ctxCmd => 0x0B04
  | .ctxSliceSpace => 0x0B05
  | .ctxResidentFull => 0x0B06
  | .ctxQosOvercommit => 0x0B07
  | .ctxMapAlign => 0x0B08
  | .ctxMapProtected => 0x0B09
  | .ctxTableFull => 0x0B0A
  | .ringBusy => 0x0B0B
  | .ringMap => 0x0B0C
  | .ringOverrun => 0x0B0D
  | .ringCringInvalid => 0x0B0E
  | .ringEntry => 0x0B0F
  | .ctxConfig => 0x0B10
  | .sesRights => 0x0C01
  | .sesAuth => 0x0C02
  | .sesClosed => 0x0C03
  | .sesOpFormat => 0x0C04
  | .secBudget => 0x0C05
  | .secValue => 0x0C06
  | .secRaise => 0x0C07
  | .secState => 0x0C08
  | .secFwFormat => 0x0C09
  | .secFwRollback => 0x0C0A
  | .secFwSig => 0x0C0B
  | .secUnwrap => 0x0C0C
  | .secKeyslot => 0x0C0D
  | .secPubFull => 0x0C0E
  | .secLmsExhausted => 0x0C0F
  | .secEntropy => 0x0C10
  | .bridleViolation => 0x0C11
  | .mtrNoCartridge => 0x0D01
  | .mtrInvalid => 0x0D02
  | .mtrRestored => 0x0D03
  | .mtrCounterCap => 0x0D04
  | .mtrDeclRange => 0x0D05
  | .meterAbsent => 0x0D10
  | .meterBadRequest => 0x0D11
  | .meterAuth => 0x0D12
  | .meterBudget => 0x0D13
  | .meterSigExhausted => 0x0D14
  | .pwrNotQuiesced => 0x0E01
  | .pwrInFlight => 0x0E02
  | .pwrEntryAborted => 0x0E03
  | .pwrCmdRefused => 0x0E04
  | .pwrWoken => 0x0E05
  | .pwrExcursion => 0x0E06
  | .rstWarmDone => 0x0E07

/-- The status of a code, where a chapter defines one. -/
def Status.ofCode (c : Nat) : Option Status := ((List.range 210).map Status.ofNat).find? (fun s => s.code = c)

/-- R18: the non-zero codes that their chapters name as completion statuses (work that completed as defined). -/
def Status.isCompletion : Status → Bool
  | .lrnUpdNonfinite => true
  | .lrnStepSkipped => true
  | _ => false

end Sys2Proof.Machine
end

