-- ==== Sys2Proof/Machine/StBase.lean ====
section
/-!
DEFINITION. The parts of the state that every block shares: memory, tallies, events and the configuration epochs.
-/
namespace Sys2Proof.Machine
open Sys2Proof

/-- Near memory and the CXL tier (chapter "Near Memory and the CXL Tier"). -/
structure MemState where
  /-- Near memory by physical address (R276). A byte not listed reads 0: R455 clears near memory to zeros at a reset. -/
  near : List (Nat × BitVec 8)
  /-- The CXL tier by CXL physical address (R288). A byte not listed reads 0 (log entry 5). -/
  far : List (Nat × BitVec 8)
  /-- R280: the poisoned granules of near memory, by granule number pa / 256. -/
  poison : Sparse Bool
  /-- R287: poisoned 64-byte blocks of the CXL tier, by address / 64. -/
  farPoison : Sparse Bool
  /-- R280, R281: the granules (false) and CXL blocks (true) whose errors the reads of the command under way have found and reported. -/
  fresh : List (Bool × Nat)
  /-- R283: the redirect table, oldest entry first: (old frame, new frame). -/
  redirect : List (Nat × Nat)
  /-- R283: retirements being copied: (old frame, reserve frame). -/
  copying : List (Nat × Nat)
  /-- R279, R282: corrected errors of each frame in the current counting window. -/
  frameCe : Sparse Nat
  /-- R285: reserve frames that have themselves been retired. -/
  worn : List Nat
  /-- R285: frames due for retirement that found no reserve frame, for which MEM_RETIRE_FULL has been raised. -/
  full : List Nat
  /-- R282: device time at which the current counting window started. -/
  window : Nat
  /-- R282: the channels with a scrub pass running. -/
  scrubbing : Sparse Bool
  /-- R282: scrub passes that wait for a channel's running pass to end. -/
  scrubDue : Sparse Nat
  /-- R289: ports whose new device has been found but not admitted by CXL_ENABLE. -/
  found : Sparse Bool
  /-- R289: ports whose link has gone down since their island was last reset: a new device waits for CXL_ENABLE. -/
  cxlLost : Sparse Bool
  /-- R335: the two dirty maps, one for each ballast slot: 64 KiB blocks of the armed context by DVA / 65,536. -/
  dirty0 : Sparse Bool
  dirty1 : Sparse Bool
  /-- R373: the token bucket of channel ch for context c, at ch * 64 + c: tokens in 1/64 byte, and when they were
  counted. -/
  buckets : Sparse (Nat × Nat)
  deriving DecidableEq, Repr

/-- A waiter in a tally's queue (R257): the agent and the n it waits for. -/
structure Waiter where
  agent : Agent
  n : Nat
  deriving DecidableEq, Repr

/-- A wait of the sequencer, the allocator or a sampler that failed and is tried again every 1 ms (R263). -/
structure RetryWait where
  agent : Agent
  bank : Nat
  ctx : Nat
  vid : Nat
  n : Nat
  /-- The device time of the last try. -/
  since : Nat
  deriving DecidableEq, Repr

/-- The tally banks (chapter "Tallies and Cross-Module Ordering"). -/
structure TallyState where
  /-- R254: the value of each physical tally. -/
  vals : Sparse Nat
  /-- R254: the context each physical tally belongs to; not listed: free. -/
  owner : Sparse (Option Nat)
  /-- R257: each tally's blocked waiters, the head first. -/
  queues : Sparse (List Waiter)
  /-- R512: the translations in each bank's cache, the most recently used first: (context, virtual ID) and the table's entry. -/
  caches : Sparse (List ((Nat × Nat) × Nat))
  /-- Waits completed and not yet taken up by the agent that waited, with their status. -/
  done : List (Agent × Status)
  /-- R263: waits to be tried again. -/
  retry : List RetryWait
  deriving DecidableEq, Repr

/-- An event waiting for delivery (R376, R377). -/
structure Event where
  status : Status
  page : Nat
  ctx : Option Nat
  count : Nat
  d1 : Nat
  d2 : Nat
  first : Nat
  last : Nat
  /-- R375: delivered to the session; delivered to the ring (delivery BOTH holds the entry until it has reached both). -/
  atSession : Bool
  atRing : Bool
  /-- R377: the record carries LOST, fixed at its first delivery. -/
  lost : Bool
  deriving DecidableEq, Repr

/-- A pending list with its bucket (R377). -/
structure EventList where
  items : List Event
  /-- The next record delivered carries LOST. -/
  lost : Bool
  /-- Tokens held, in millionths of a token, at the device time `at_`. -/
  tokens : Nat
  at_ : Nat
  deriving DecidableEq, Repr

/-- The registers of a processor that runs KC instructions (R109, R264): a cluster's vector unit, or a gondola hart. -/
structure Core where
  /-- The vector unit runs a program; the hart is not HELD. -/
  running : Bool
  pc : Nat
  /-- Integer registers x1 to x31, 64 bits; x0 is not kept and reads 0. -/
  x : Sparse Nat
  /-- Floating-point registers f0 to f31. -/
  f : Sparse Nat
  /-- Vector registers v0 to v31 as numbers of VLEN bits. -/
  v : Sparse Nat
  /-- The vector length and type in force: vl, the element width in bits, and the register group's size LMUL. -/
  vl : Nat
  vstart : Nat
  sew : Nat
  lmul : Nat
  /-- R265: the destination register of a KC.TWAIT that holds the processor. -/
  waitRd : Option Nat
  /-- The device time at which that KC.TWAIT began to hold it. -/
  waitAt : Nat
  /-- The exception or interrupt taken last: its RISC-V cause, the exception PC and the trap value (a hart, R44). -/
  trap : Option (Nat × Nat × Nat)
  /-- R375: an external interrupt is pending at the hart. -/
  interrupt : Bool
  /-- Vector cycles of the running tile. -/
  cycles : Nat
  /-- R123: the derivative descriptor in force. -/
  dact : Option Nat
  deriving DecidableEq, Repr

/-- A record held by a completion ring: its bytes, whether a slot is reserved for it (R370), and the sequence that it makes DONE
once it is written (R150). -/
structure HeldRecord where
  bytes : List Byte
  reserved : Bool
  fin : Option Nat
  deriving DecidableEq, Repr

/-- R367 to R371: what a ring holds besides its doorbell block: the DVA of its first entry, the slots reserved for
records, and the records that wait (R149, R369). A held record of a reserved slot keeps its slot. -/
structure Ring where
  base : Nat
  reserved : Nat
  held : List HeldRecord
  deriving DecidableEq, Repr

/-- A committed epoch that islands are still adopting (R383): the page, the new values, and who has still to adopt: an island, and for the sequencer the
context whose boundary it waits for. -/
structure Adopting where
  epoch : Nat
  page : Nat
  vals : Sparse Nat
  islands : List (Nat × Option Nat)
  deriving DecidableEq, Repr

/-- The outcome that a register or doorbell operation, or a command, returns to who issued it (R12, R400). -/
structure Answer where
  reader : Option Reader
  status : Status
  value : Nat
  deriving DecidableEq, Repr

/-- The register space's machinery besides the values in force (R12, R381 to R383, R475). -/
structure ConfigState where
  /-- R475: shadows that hold an uncommitted write, by register key. -/
  shadows : Sparse (Option Nat)
  /-- R381: the staged set, by page. -/
  staged : Sparse Bool
  /-- R383: commits being adopted, in commit order. -/
  adopting : List Adopting
  /-- R12: captured high words, by reader number * 2^40 + the register address of the low word. -/
  captures : Sparse (Option Nat)
  /-- The last operation's answer. -/
  answer : Option Answer
  deriving DecidableEq, Repr

end Sys2Proof.Machine
end

