-- ==== Sys2Proof/Machine/StCluster.lean ====
section
/-!
DEFINITION. The state of the compute clusters (chapter "Compute Clusters and Tile Programs"): tasks, tiles, scratch,
accumulators, the router's row band and the deferred queues.
-/
namespace Sys2Proof.Machine
open Sys2Proof

/-- A task (R82, R370): the ring entry it came from and where its chain stands. -/
structure Task where
  ctx : Nat
  ring : Nat
  /-- DVA of the ring entry. -/
  entry : Nat
  complete : Bool
  cring : Nat
  tag : Nat
  /-- DVA of the next descriptor in chain order. -/
  next : Nat
  /-- Descriptors reached in chain order, and descriptors completed. -/
  reached : Nat
  done : Nat
  /-- The chain is over: its TD_LAST descriptor has been reached, or a descriptor failed. -/
  ended : Bool
  /-- R115: the TD_LAST descriptor has completed, or the task has failed. -/
  lastDone : Bool
  /-- The first failure, with the DVA of its descriptor. -/
  fail : Option (Status × Nat)
  /-- DVA of the last descriptor completed (R371). -/
  last : Nat
  /-- R82: a descriptor with TD_LAST has been reached. -/
  sawLast : Bool
  deriving DecidableEq, Repr

/-- An accumulator (R93): its slot or half, shape, format (0 FP32, 1 INT32, 2 FP32C) and entries in row order: an FP32 code,
an INT32 code, or the FP32C pair s + 2^32 c. -/
structure Acc where
  slot : Nat
  m : Nat
  n : Nat
  fmt : Nat
  vals : List Nat
  /-- R98, R60: an entry saturated. -/
  sat : Bool
  deriving DecidableEq, Repr

/-- What has become of a tile that a cluster has chosen. -/
inductive Stage where
  /-- Checked and about to run. -/
  | chosen
  /-- A VECTOR program, or a TALLY wait, is under way. -/
  | under
  /-- Its accumulator is handed to the epilogue (R95, R97). -/
  | draining
  /-- All its work is done, or it failed, was refused or skipped: it completes next (R88). -/
  | ready
  deriving DecidableEq, Repr

/-- A tile in flight on a cluster. -/
structure Tile where
  slot : Nat
  ctx : Nat
  /-- DVA of its descriptor, and the 192 bytes read there. -/
  dva : Nat
  td : List Byte
  deferred : Bool
  last : Bool
  stage : Stage
  status : Status
  /-- ERR_INFO of a failure. -/
  info : Nat
  accSat : Bool
  /-- R107: the predication count has been read. -/
  pred : Bool
  skipped : Bool
  dispDrop : Bool
  routeNf : Bool
  attnEmpty : Bool
  cycles : Nat
  /-- R107: the rows written. -/
  written : Nat
  /-- R429: MAC-equivalents and their rate. -/
  macs : Nat
  rate : Nat
  acc : Option Acc
  /-- R184: each row's log-sum-exp and where AH_LSE says it goes, for an ATTN tile. -/
  lse : List Nat
  lseAt : Nat
  deriving DecidableEq, Repr

/-- One row of a router's row band (R104): its eight largest logits with their experts, in descending order; what the running
maximum and the running sum are formed from, the logits met in order; and whether a NaN or infinity was met. -/
structure BandRow where
  top : List (Nat × Nat)
  logits : List Nat
  bad : Bool
  deriving DecidableEq, Repr

/-- A router's row band under way (R104). -/
structure Band where
  m : Nat
  base : Nat
  rows : List BandRow
  deriving DecidableEq, Repr

/-- A context's part of a cluster: one task slot, slices and queues (R83, R91 to R97, R113, R372). -/
structure Slot where
  task : Option Task
  /-- R372: virtual time. -/
  v : Nat
  /-- The context had a ready tile at the last boundary (R372). -/
  wasReady : Bool
  scratch : Sparse Byte
  /-- Held accumulators: by slot in LEARN class, the filling half in GENERATE class. -/
  held : List Acc
  /-- R97: the half being filled. -/
  half : Nat
  band : Option Band
  /-- R113: the deferred queue, the head first. -/
  queue : List Nat
  /-- A TALLY tile, which holds only the task slot (R87). -/
  tally : Option Tile
  deriving DecidableEq, Repr

/-- A cluster: the tile on its matrix or vector unit or load engine, tiles whose drains or completions are outstanding, the
slots, and the device times of recent residue mismatches (R110). -/
structure Cluster where
  cur : Option Tile
  tiles : List Tile
  slots : Sparse Slot
  residues : List Nat
  deriving DecidableEq, Repr

/-- A task taken from its ring and not yet placed (R83). -/
structure Waiting where
  ring : Nat
  task : Task
  deriving DecidableEq, Repr

/-- The clusters, the tasks that wait for placement, and the ring each context took its last task from (R83). -/
structure ClusterState where
  clusters : Sparse Cluster
  waiting : Sparse (List Waiting)
  lastRing : Sparse Nat
  /-- R83: contexts told that their mask holds no unfenced cluster. -/
  maskEmpty : Sparse Bool
  deriving DecidableEq, Repr

/-- An update descriptor under way (R127, R129): its DVA and bytes, whether it has started, its status, the next chunk, and what its
chunks have left. -/
structure UpdDesc where
  dva : Nat
  ud : List Byte
  started : Bool
  ready : Bool
  status : Status
  chunk : Nat
  /-- R131: c, d, a1, a2, b1, b2 as FP32 codes; for NORM, c is s. -/
  consts : List Nat
  amaxW : Nat
  amaxM : Nat
  amaxV : Nat
  nclip : Nat
  nonfin : Nat
  capped : Bool
  /-- R135: each unit's sum, and whether a non-finite value was met. R127: the units that took part. -/
  sums : Sparse (Option Nat)
  bad : Bool
  units : List Nat
  /-- R130: results that are written once the descriptor has not failed: device virtual addresses and bytes. -/
  out : List (Nat × List Byte)
  deriving DecidableEq, Repr

/-- A chain of update descriptors (R126): the entry it came from, and where it stands. -/
structure Chain where
  id : Nat
  ctx : Nat
  ring : Nat
  entry : Nat
  complete : Bool
  cring : Nat
  tag : Nat
  next : Nat
  done : Nat
  /-- R371: the first completion status. -/
  noted : Status
  desc : Option UpdDesc
  deriving DecidableEq, Repr

/-- The update units: the chains under way, and the number of the next one. -/
structure UpdateState where
  chains : List Chain
  nextId : Nat
  deriving DecidableEq, Repr

def Slot.empty : Slot := ⟨none, 0, false, [], [], 0, none, [], none⟩
def Cluster.idle : Cluster := ⟨none, [], [], []⟩

end Sys2Proof.Machine
end

