-- ==== Sys2Proof/Machine/StFlight.lean ====
section
/-!
DEFINITION. The state of the spans, of the flight ledger, of the health monitor and of securing (chapters "Spans, Discovery and
Flights" and "Failure Hiding and Recovery").
-/
namespace Sys2Proof.Machine
open Sys2Proof

/-! ## Spans -/

/-- A frame that waits to be sent or acknowledged (R298, R299): its header fields, its plaintext payload, whether it is in transit, the
context whose span share it uses, the Weavin entry it belongs to (engine, plan sequence number, entry), and of a transit frame the span it
arrived on and the header it arrived with. -/
structure Frame where
  ty : Nat
  vc : Nat
  hops : Nat
  src : Nat
  dst : Nat
  payload : List Byte
  transit : Bool
  ctx : Option Nat
  entry : Option (Nat × Nat × Nat)
  via : Nat
  header : List Byte
  deriving DecidableEq, Repr

/-- An unacknowledged frame (R300): its counter, and the bytes it was sent as. -/
structure SentFrame where
  count : Nat
  frame : Frame
  bytes : List Byte
  deriving DecidableEq, Repr

/-- One direction's session key (R303): key, salt, phase and frame counter. -/
structure SpanKey where
  key : Nat
  salt : Nat
  phase : Bool
  count : Nat
  deriving DecidableEq, Repr

/-- A link (R298 to R312). -/
structure SpanLink where
  queue : List Frame
  sent : List SentFrame
  tx : SpanKey
  rx : SpanKey
  /-- R303: KEY_UPDATE has announced the peer's next key phase. -/
  rxUpdate : Bool
  /-- R301: credits held for each VC, and credits to be returned to the peer, in 64-byte units. -/
  credits : List Nat
  owed : List Nat
  /-- R301: frames sent since the last VC3 frame; whether the last frame of a VC was in transit. -/
  sinceVc3 : Nat
  lastTransit : List Bool
  /-- Device times: the last frame received, the last acknowledgement, and recent tag failures. -/
  lastRx : Nat
  lastAck : Nat
  tagFails : List Nat
  /-- R308: the number of the own key pair, the nonce, the own HAIL as sent, and the peer's HAIL. -/
  ownKey : Nat
  nonce : Nat
  hail : List Byte
  peerHail : List Byte
  /-- R374: each context's unspent credit of the round robin in 64-byte units, and the context whose turn it is. -/
  deficits : Sparse Nat
  turn : Nat
  /-- R312: the risk level in the peer's last HEARTBEAT. -/
  level : Nat
  deriving DecidableEq, Repr

def SpanKey.none : SpanKey := ⟨0, 0, false, 0⟩
def SpanLink.dark : SpanLink :=
  ⟨[], [], .none, .none, false, [512, 512, 16384, 4096], [0, 0, 0, 0], 0, [false, false, false, false], 0, 0, [], 0, 0, [], [], [], 0, 0⟩

/-- A frame without a usable next hop (R304): since when it waits. -/
structure StuckFrame where
  frame : Frame
  since : Nat
  deriving DecidableEq, Repr

/-- The spans' part of the state. -/
structure SpanState where
  links : Sparse SpanLink
  stuck : List StuckFrame
  /-- R304: spans take turns: the span used last for each destination member. -/
  turns : Sparse Nat
  /-- R301: the bits of keel frames each span may send, at a device time; 64 KiB where none is listed. -/
  keel : Sparse (Nat × Nat)
  deriving DecidableEq, Repr

/-! ## The ledger (R314 to R322) -/

/-- A member as the member table records it (R315): state, identity hash, feed tag, manifest hash, epoch of admission. -/
structure Member where
  state : Nat
  idhash : Nat
  tag : Nat
  mfst : Nat
  epoch : Nat
  deriving DecidableEq, Repr

/-- A proposal that waits for the lead's firmware: who proposed it, its kind and its body. -/
structure Proposal where
  proposer : Nat
  kind : Nat
  body : List Byte
  deriving DecidableEq, Repr

/-- R332: a member's latest risk report: level, run step, FH_ROLE, and its mirror where it has one (log entry 59). -/
structure RiskReport where
  level : Nat
  runstep : Nat
  role : Nat
  mirror : Option Nat
  deriving DecidableEq, Repr

/-- The ledger's part of the state. -/
structure FlightState where
  members : Sparse (Option Member)
  /-- PERMIT entries in force: identity hash and the member ID it names. -/
  permits : List (Nat × Option Nat)
  accepted : List Nat
  founder : Nat
  stewards : List Nat
  /-- Entries stored and not committed, and committed entries that arrived ahead of a gap. -/
  stored : List LedgerEntry
  held : List LedgerEntry
  gapAt : Option Nat
  /-- R318: the last stored or applied entry's term. -/
  lastTerm : Nat
  /-- The lead's: stewards that have stored each entry (epoch, member). -/
  acks : List (Nat × Nat)
  /-- R318: grants received, and the term in which this steward has granted its vote, or stands. -/
  votes : List Nat
  standing : Option Nat
  votedTerm : Nat
  /-- Proposals received by this module as lead, its own among them. -/
  inbox : List Proposal
  /-- Device time of the last committed entry or keep-alive, and whether FLT_NO_QUORUM has been raised since. -/
  heard : Nat
  quorumTold : Bool
  /-- R319: the epoch of the last BARRIER applied. -/
  barrier : Nat
  /-- R321: the command whose entry has not been applied: its kind and body. -/
  command : Option (Nat × List Byte)
  /-- R305: route entries written by ROUTE and not yet committed: member and entry. -/
  routes : List (Nat × Nat)
  /-- The lead's: each member's last risk report; the first silence report of a member and whether it is probed; DONE reports. -/
  reports : Sparse (Option RiskReport)
  silent : List (Nat × Nat × Bool)
  dones : List (Nat × Nat)
  /-- The recovery in progress at the lead: the faulty or lost member, whether it is a step fault, when it began, and who has
  reported REWOUND. -/
  recovery : Option (Nat × Bool × Nat)
  rewound : List Nat
  replays : List (Nat × Nat)
  /-- R346: mismatches of the replay in progress. -/
  mismatch : Nat
  /-- R338: wards and partners of every member as the SECURE PAIR entries give them: (member, partner). -/
  pairs : List (Nat × Nat)
  /-- R338, R343: the pairs whose partner holds the newest committed point: (member, partner). -/
  holders : List (Nat × Nat)
  /-- R343, R346: the heir of the last REPLAN that named a restore point. -/
  heir : Option Nat
  deriving DecidableEq, Repr

def FlightState.alone : FlightState :=
  ⟨[], [], [], 0, [], [], [], none, 0, [], [], none, 0, [], 0, false, 0, none, [], [], [], [], none, [], [], 0, [], [], none⟩

/-! ## The health monitor and securing (R327 to R353) -/

/-- What the health monitor remembers (R328, R329). Times are device times. -/
structure Health where
  /-- Samples of the channels' corrected errors of the last second: when, and how many of all channels. -/
  ce : List (Nat × Nat)
  retireFull : Bool
  ueAt : Option Nat
  laneAt : Option Nat
  /-- Droop events of the last second. -/
  droops : List Nat
  devtimeFault : Bool
  watchdogAt : Option Nat
  keelWatchdog : Bool
  /-- A cluster was fenced since power-on; when last; the last residue mismatch. -/
  fencedEver : Bool
  fencedAt : Option Nat
  residueAt : Option Nat
  /-- R329: since when each input has held level 6, and when an input last reached the current level. -/
  level6 : Sparse Nat
  reachedAt : Nat
  /-- R332: the required interval last reported. -/
  reported : Nat
  deriving DecidableEq, Repr

/-- A capture (R333) whose copy to the partners has not finished (R336): its step, its slot, the 64 KiB blocks of the image it sends, whether
the copy has begun, and the partners that have not confirmed the blocks, and the COMPLETE header. -/
structure Capture where
  step : Nat
  slot : Nat
  blocks : List Nat
  begun : Bool
  blocksTo : List Nat
  headTo : List Nat
  deriving DecidableEq, Repr

/-- Securing and recovery at this member. -/
structure Securing where
  copying : Option Capture
  /-- R333: the securing step whose capture the STEP_CLOSE under way has made. -/
  captured : Option Nat
  /-- R336: a capture that waits for the previous copy: since when its STEP_CLOSE is held. -/
  waitSince : Option Nat
  /-- The point each of the two slots at the partners holds. -/
  points : List (Option Nat)
  /-- R344: the step at which the staging area holds each block. -/
  staged : Sparse (Option Nat)
  /-- R334: staging has been lost: the next capture sends every block. -/
  sendAll : Bool
  /-- R342: rewinding; the rewind's steps after the tile boundary are done; reported REWOUND. -/
  rewinding : Bool
  swept : Bool
  reported : Bool
  /-- R343, R344: the REPLAN being carried out: restore point, lost member, and whether this member is the heir of another's state. -/
  replan : Option (Nat × Nat × Bool)
  /-- R346: the loss-log entry of the step to be replayed: FP32 loss and flags; none where this member has none. -/
  oldLoss : Option (Nat × Nat)
  /-- R344: the ward slot mapped at FH_WARDWINDOW: slot number and bytes. -/
  window : Option (Nat × Nat)
  /-- R340: it has declared its own fault: it sends no DATA frame. -/
  declared : Bool
  deriving DecidableEq, Repr

def Health.start : Health := ⟨[], false, none, none, [], false, none, false, false, none, none, [], 0, 0⟩
def Securing.start : Securing := ⟨none, none, none, [none, none], [], false, false, false, false, none, none, none, false⟩

end Sys2Proof.Machine
end

