-- ==== Sys2Proof/Machine/StMeter.lean ====
section
/-!
DEFINITION. The metering interface and the Assize cartridge (chapter "The Assize Metering Cartridge").
-/
namespace Sys2Proof.Machine
open Sys2Proof

/-- An instance of counters (R427, R428): its number, METERED, counters 0 to 12, and the remainders below one unit of 2^20. -/
structure MeterInstance where
  number : Nat
  metered : Bool
  counts : Sparse Nat
  rems : Sparse Nat
  deriving DecidableEq, Repr

/-- A closed METERED instance in its tail (R431). -/
structure MeterTail where
  ctx : Nat
  inst : MeterInstance
  closedAt : Nat
  deriving DecidableEq, Repr

/-- The metering interface: the open instance of each context, the aggregate at key 64, the tails, and when the carrier appeared. -/
structure Meter where
  open_ : Sparse MeterInstance
  tails : List MeterTail
  carrierAt : Option Nat
  /-- R426: MTR_INVALID was raised and MTR_RESTORED has not followed. -/
  invalid : Bool
  deriving DecidableEq, Repr

/-- A stream the cartridge keeps (R432): its name, the values of the last frame accepted, whether it is closed, whether it had a
frame in the running interval, whether it went more than 1 s without one in it, and the device time of its last frame (log entry 122). -/
structure MeterStream where
  serial : Nat
  boot : Nat
  inst : Nat
  ctx : Nat
  counts : List Nat
  seq : Nat
  closed : Bool
  heard : Bool
  gap : Bool
  at_ : Nat
  deriving DecidableEq, Repr

/-- A request held by the relay (R439): its session frame's fragments by index. -/
structure MeterRequest where
  frags : Sparse (List Byte)
  total : Nat
  deriving DecidableEq, Repr

/-- The cartridge (R422 to R441). -/
structure Cartridge where
  present : Bool
  serial : Nat
  sealIntact : Bool
  selfTests : Bool
  /-- R437: calibrations made, and the constants in force. -/
  calibrations : Nat
  constants : List Nat
  /-- R422: the energy register in µWh and the clock in seconds since 2000. -/
  energy : Nat
  clock : Nat
  /-- R433: the records held, by number, and the newest number. -/
  records : Sparse (List Byte)
  newest : Nat
  /-- R434: the event log, by number, its newest number, and the metrological log. -/
  log : Sparse (List Byte)
  newestLog : Nat
  metroLog : List (List Byte)
  streams : List MeterStream
  /-- R432: the highest boot seen from each serial, and the serial of the last frame accepted. -/
  boots : Sparse Nat
  lastSerial : Option Nat
  linkLost : Bool
  /-- R433: valid for the whole interval so far; calibration changed in it. -/
  intervalValid : Bool
  intervalCal : Bool
  /-- R438: the cartridge time of the last TIME_SET. -/
  lastTimeSet : Option Nat
  /-- R441: signatures left of 2^30. -/
  signatures : Nat
  /-- R439: requests held, oldest first. -/
  held : List MeterRequest
  deriving DecidableEq, Repr

def MeterInstance.fresh : MeterInstance := ⟨0, false, [], []⟩

/-- The socket with its blanking cover (R7): no cartridge. -/
def Cartridge.absent : Cartridge :=
  ⟨false, 0, true, true, 0, [], 0, 0, [], 0, [], 0, [], [], [], none, false, false, false, none, 2 ^ 30, []⟩

end Sys2Proof.Machine
end

