-- ==== Sys2Proof/Machine/StOut.lean ====
section
/-!
DEFINITION. What leaves the module: records, frames and replies, in the order the module sends them. The model keeps them as
plain data; nothing reads them back.
-/
namespace Sys2Proof.Machine

/-- How the sideband responder completes a command (R496, R502, R503). -/
inductive Completion where
  | success
  | invalidData
  | notReady
  | unsupportedCommand
  deriving DecidableEq, Repr

/-- Something that leaves the module. -/
inductive Out where
  /-- A frame on a tether port (R390): an EVENT frame, a RESPONSE, a QUOTE and every other one. -/
  | tether (port : Nat) (bytes : List Byte)
  /-- A counter frame on the counter link (R431). -/
  | counterFrame (bytes : List Byte)
  /-- A frame on a span (R298). -/
  | span (n : Nat) (bytes : List Byte)
  /-- R166, R221, R347: a remote write of the sequencer or a sampler: member, context, DVA, bytes, and the tally it signals with the
  count (log entry 53). -/
  | remote (dst ctx dva : Nat) (bytes : List Byte) (vid n : Nat)
  /-- R233: a read of rows of a context of another module, with the job tag that the source checks: member, context, tag, and the address and bytes of each
  row (log entry 55). -/
  | readRequest (member ctx job : Nat) (rows : List (Nat × Nat))
  /-- R166, R347: an entry change to a member of the group: context, table index, the entry's image and its remaining budget. -/
  | entryChange (dst ctx idx : Nat) (image : List Byte) (budget : Nat)
  /-- R194: a prefix handle's issue (true) or release in the group: context, handle, table index of its sequence. -/
  | prefixChange (dst ctx handle : Nat) (issue : Bool) (idx : Nat)
  /-- R347: a completion record sent to the mirror of a context. -/
  | mirrorRecord (dst ctx : Nat) (bytes : List Byte)
  /-- R167: a FOLLOWER's report of a boundary: its F and the pages it freed. -/
  | report (dst ctx room freed : Nat)
  /-- A message of the ledger firmware to this module itself, which needs no frame (R317, log entry 44). -/
  | ledger (dst : Nat) (m : LedgerMsg)
  /-- R452: the lift pattern, sent on a span for 1 ms. -/
  | lift (n : Nat)
  /-- R503: an answer of the sideband responder: its completion, and the data that the answer carries (log entry 66). -/
  | sideband (completion : Completion) (data : List Byte)
  deriving DecidableEq, Repr

end Sys2Proof.Machine
end

