-- ==== Sys2Proof/Machine/StPower.lean ====
section
/-!
DEFINITION. The state of the always-on domain besides its registers: power, resets, temperatures and the sideband (chapters "Power States, Wake
and Resets" and "Module Connectors, Power and Cooling").
-/
namespace Sys2Proof.Machine
open Sys2Proof

/-- The module-wide resets (R454). -/
inductive ResetKind where
  | powerOn
  | module
  | warm
  deriving DecidableEq, Repr

/-- A sideband command held until a wake is complete (R504), or the reset that the reset-request pin asks for (R460). -/
inductive SidebandAct where
  | feedTag (v : Nat)
  | reset
  | pin
  | setEid (v : Nat)
  | activate
  | update (image : List Byte)
  /-- A command whose answer changes nothing. -/
  | answer (completion : Completion) (data : List Byte)
  deriving DecidableEq, Repr

/-- A doorbell word written while the module enters, is in or leaves P2 (R450): who, the ring, the offset and the value. -/
structure HeldDoorbell where
  rdr : Reader
  ring : Nat
  off : Nat
  v : Nat
  deriving DecidableEq, Repr

/-- Power, resets and the sideband. -/
structure PowerState where
  /-- R497: the input powers the module; an overvoltage lockout holds it off. -/
  on : Bool
  lockout : Bool
  /-- R502: held off, and THERMAL_TRIP_N driven low. -/
  heldOff : Bool
  tripped : Bool
  /-- R454, R460: the module-wide reset in progress; a warm reset that waits for the module's FENCE (R456), with its RST_CAUSE. -/
  resetting : Option ResetKind
  warmWaits : Option Nat
  /-- R450, R453: when ENTER_P2 was accepted; wake activity held until the entry completes (source, index); the spans' states and the tether
  ports' states at entry; doorbell words and sideband commands that wait for the wake. -/
  enteredAt : Nat
  wakeHeld : Option (Nat × Nat)
  spans : Sparse Nat
  ports : Sparse Nat
  doorbells : List HeldDoorbell
  deferred : List SidebandAct
  /-- R448: the power stage holds the clusters at 0.6 GHz. -/
  limited : Bool
  /-- R503: the dynamic address given by ENTDAA, and the MCTP endpoint ID. -/
  address : Option Nat
  eid : Nat
  deriving DecidableEq, Repr

/-- Powered, with its power-on reset under way (R454), nothing held and no address on the sideband. -/
def PowerState.start : PowerState :=
  ⟨true, false, false, false, some .powerOn, none, 0, none, [], [], [], [], false, none, 0⟩

end Sys2Proof.Machine
end

