-- ==== Sys2Proof/Machine/StSec.lean ====
section
/-!
DEFINITION. The state of the tether ports, the sessions and the module's trust (chapter "The Tether, Sessions and Trust").
-/
namespace Sys2Proof.Machine
open Sys2Proof

/-- A frame sent on a port and not acknowledged (R392): its link number, its session, its session counter, and its bytes. -/
structure TetherSent where
  lseq : Nat
  session : Nat
  bytes : List Byte
  deriving DecidableEq, Repr

/-- A tether port (R388, R392): frames waiting, frames unacknowledged, the next number to send, the next expected, credits held and
to be returned in 64-byte units, the number to NAK, and the times of the last frame received and of the last acknowledgement. -/
structure TetherPort where
  queue : List (Nat × List Byte)
  sent : List TetherSent
  next : Nat
  expect : Nat
  credit : Nat
  owed : Nat
  nak : Option Nat
  lastRx : Nat
  lastAck : Nat
  lastLink : Nat
  deriving DecidableEq, Repr

/-- A handshake under way (R395, R396): its mode, the OPEN and ACCEPT messages, the number of the ephemeral key pair, and when
ACCEPT was sent. -/
structure Handshake where
  mode : Nat
  opened : List Byte
  accepted : List Byte
  eph : Nat
  at_ : Nat
  deriving DecidableEq, Repr

/-- A session besides its registers: the keys of both directions, the peer's announced key update, the certificate's subject, frames
held ahead of a gap, since when, recent tag failures, payloads that wait to be sent (type and bytes), its handshake, and the fragments
received of a handshake message (R395): its kind, its fragment count and the fragments by index. -/
structure Session where
  rx : SpanKey
  tx : SpanKey
  rxUpdate : Bool
  subject : Nat
  held : List (List Byte)
  gapAt : Option Nat
  tagFails : List Nat
  waiting : List (Nat × List Byte)
  hs : Option Handshake
  frags : Nat × Nat × Sparse (Option (List Byte))
  deriving DecidableEq, Repr

/-- A content key (R407): its label and the key. -/
structure ContentKey where
  label : List Byte
  key : Nat
  deriving DecidableEq, Repr

/-- Keys, trust, firmware and the fuse bank. -/
structure TrustState where
  ports : Sparse TetherPort
  sessions : Sparse Session
  /-- PSKs by session; content keys by context * 16 + slot; trusted publishers' key records (R405). -/
  psks : Sparse (Option Nat)
  content : Sparse (Option ContentKey)
  pubs : List (List Byte)
  /-- The current owner's key record (log entry 56). -/
  owner : List Byte
  /-- R411: the next signature index, and the end of the block reserved in the counter cell. -/
  sigNext : Nat
  sigEnd : Nat
  /-- R405: the entropy source has failed its health tests. -/
  entropyBad : Bool
  /-- R412: the running firmware: its manifest hash, its epoch and its body; and an image verified and not yet started. -/
  running : Option (Nat × Nat)
  staged : Option (Nat × Nat)
  /-- R415: OWNER_SET has succeeded in a REQUEST whose RESPONSE has not been sent yet. -/
  ownerClose : Bool
  /-- R483: device time of the last KEEL_WDKICK. -/
  kick : Nat
  deriving DecidableEq, Repr

def TetherPort.dark : TetherPort := ⟨[], [], 0, 0, 4096, 0, none, 0, 0, 0⟩
def Session.none : Session := ⟨.none, .none, false, 0, [], Option.none, [], [], Option.none, (0, 0, [])⟩

end Sys2Proof.Machine
end

