-- ==== Sys2Proof/Machine/StSeq.lean ====
section
/-!
DEFINITION. The state of the sequencer, the key-value allocator and the samplers (chapters "The Sequencer", "Key-Value Pages and the
Attention Path" and "Random Bits and Token Sampling").
-/
namespace Sys2Proof.Machine
open Sys2Proof

/-- A sequence table entry (R146) with what the sequencer keeps outside it. -/
structure Seq where
  /-- SQ_STATE: 0 FREE, 1 QUEUED, 2 PREFILL, 3 DECODE, 4 PAUSED, 5 DRAINING, 6 DONE. -/
  state : Nat
  prio : Nat
  ctx : Nat
  gen : Nat
  len : Nat
  stopset : Nat
  prompt : Nat
  maxgen : Nat
  sampidx : Nat
  pagehead : Nat
  prefix_ : Nat
  deadline : Nat
  late : Bool
  cancelpend : Bool
  toplp : Bool
  nostream : Bool
  widened : Bool
  recomputed : Bool
  mempause : Bool
  cmdpause : Bool
  spilled : Bool
  keeppfx : Bool
  autorel : Bool
  continued : Bool
  ret : Nat
  stopidx : Nat
  cring : Nat
  tag : Nat
  record : Nat
  gencnt : Nat
  admstep : Nat
  /-- R158: the last generated tokens since the stop-match state was zero, the latest first, at most 16. -/
  recent : List Nat
  /-- R154: the step in which the sequence last took part. -/
  laststep : Nat
  /-- R155: acceptance order; device time at acceptance (R171). -/
  order : Nat
  accepted : Nat
  /-- λ: the tokens a prefix supplied (RB_PFXLEN), and RB_LPSUM. -/
  pfxlen : Nat
  lpsum : Nat
  /-- The sequence holds a head list page (SQ_PAGEHEAD names it). -/
  hasList : Bool
  /-- R188, R193: until admission, the entries of its prefix's list, on whose pages it holds references: entry number and entry. -/
  pfxEntries : List (Nat × Nat)
  /-- R179, R187: its append format, which its head page holds. -/
  appfmt : Nat
  /-- R191: the pages kept as anchors. -/
  anchors : List Nat
  /-- R187: formats that RECOMPUTE marked it with in this step, and whether this step widened its keys. -/
  marks : List Nat
  stepWidened : Bool
  /-- R151, R174: it has lost a page. -/
  lost : Bool
  /-- R171: it was paused for memory at least once; a write to its record region faulted. -/
  memEver : Bool
  recFault : Bool
  /-- R196: the run scores computed for the boundary that ends the running step: (run, exact sum of scores in units of 2^-160). -/
  runScores : List (Nat × Nat)
  /-- R157: why it left; 0 until then. R156: a fill of it is under way. R168: its prefill counts as recovery work. -/
  reason : Nat
  filling : Bool
  recovery : Bool
  deriving DecidableEq, Repr

/-- A FREE entry of a generation count: every field at its reset value. -/
def Seq.free (gen : Nat) : Seq where
  state := 0
  prio := 0
  ctx := 0
  gen := gen
  len := 0
  stopset := 0
  prompt := 0
  maxgen := 0
  sampidx := 0
  pagehead := 0
  prefix_ := 0
  deadline := 2 ^ 64 - 1
  late := false
  cancelpend := false
  toplp := false
  nostream := false
  widened := false
  recomputed := false
  mempause := false
  cmdpause := false
  spilled := false
  keeppfx := false
  autorel := false
  continued := false
  ret := 0
  stopidx := 0
  cring := 0
  tag := 0
  record := 0
  gencnt := 0
  admstep := 0
  recent := []
  laststep := 0
  order := 0
  accepted := 0
  pfxlen := 0
  lpsum := 0
  hasList := false
  pfxEntries := []
  appfmt := 0
  anchors := []
  marks := []
  stepWidened := false
  lost := false
  memEver := false
  recFault := false
  runScores := []
  reason := 0
  filling := false
  recovery := false

/-- A sequence's part of a step (R153): its table index, first position, tokens, phase and sampled row. -/
structure StepEntry where
  idx : Nat
  pos : Nat
  n : Nat
  phase : Nat
  row : Option Nat
  deriving DecidableEq, Repr

/-- A sampled token of a row (R219): its log-probability and the 20 largest candidates. -/
structure RowResult where
  row : Nat
  token : Nat
  lp : Nat
  tops : List (Nat × Nat)
  deriving DecidableEq, Repr

/-- A sampler-parameter entry (R215). -/
structure SampParam where
  temp : Nat
  topp : Nat
  topk : Nat
  trunc : Bool
  deriving DecidableEq, Repr

/-- What a unit's pass over a row, or over a shard of it, leaves (R216, R221): the row and the unit that holds it, the entry it was read under, its
candidate count and SQ_TOPLP; m, Z and INFCNT; the candidates, of which the first `ninf` are logits of +infinity; the noise key; and whether every logit
is NaN or -infinity (R217). -/
structure RowPass where
  row : Nat
  unit : Nat
  param : SampParam
  kc : Nat
  toplp : Bool
  max : Nat
  sum : Nat
  infcnt : Nat
  ninf : Nat
  cands : List (Nat × Nat)
  gbest : Nat
  gtoken : Nat
  gy : Nat
  empty : Bool
  deriving DecidableEq, Repr

/-- Where a context's step stands (R152). -/
inductive StepStage where
  /-- No step: the batch is empty. -/
  | idle
  /-- The manifest is ready; the sequencer waits on SEQ_STEPTALLY. -/
  | running
  /-- The sampled rows are with the samplers. -/
  | sampling
  /-- The boundary is done and the next step waits for ring space, or for the mirror. -/
  | held
  deriving DecidableEq, Repr

/-- A command read from a submission ring and not yet applied (R152, R160). -/
structure SeqCmd where
  ring : Nat
  kind : Nat
  handle : Nat
  cring : Nat
  tag : Nat
  image : Nat
  deriving DecidableEq, Repr

/-- A FOLLOWER's report of a boundary (R167): its member ID, its F, and the pages it freed. -/
structure SeqReport where
  member : Nat
  room : Nat
  freed : Nat
  deriving DecidableEq, Repr

/-- A context's part of the sequencer. -/
structure StepState where
  stage : StepStage
  num : Nat
  entries : List StepEntry
  results : List RowResult
  passes : List RowPass
  /-- R222: the wait on SMP_MERGETALLY has completed for this step. -/
  merged : Bool
  cmds : List SeqCmd
  /-- R149: the event of the present hold has been raised. -/
  holdTold : Bool
  /-- R214: the context has been told that every sampler unit is fenced. -/
  noUnitTold : Bool
  /-- R348: the boundary's records that wait for the mirror: ring, bytes, and the sequence that a completion record makes DONE. -/
  mirror : List (Nat × List Byte × Option Nat)
  mirrorWait : Bool
  /-- R149: records whose ring is no COMPLETION ring of the context: they wait as for a full ring (log entry 52). -/
  stray : List (Nat × List Byte × Option Nat)
  /-- R167: device time of the step tally. R222: the sampler unit that waits on SMP_MERGETALLY. -/
  tallyAt : Nat
  /-- R167: pages this FOLLOWER freed at its last boundary. -/
  freed : Nat
  mergeUnit : Option Nat
  reports : List SeqReport
  /-- R152: an idle boundary is due. -/
  due : Bool
  /-- R350: from promotion until a SEQ_GROUPLIST is committed, no sequence is admitted. -/
  frozen : Bool
  /-- R181: list changes of a boundary whose KV_LISTTALLY signal is due. -/
  listDue : Bool
  /-- R222, R214: the group's count of this step has been taken from SMP_MERGETALLY. -/
  counted : Bool
  deriving DecidableEq, Repr

/-- A stop set (R164): end tokens with their valid bits as words, and the 16 slots' token lists. -/
structure StopSet where
  ends : List Nat
  slots : List (List Nat)
  deriving DecidableEq, Repr

/-- A prefix-handle slot (R192). -/
structure PfxSlot where
  gen : Nat
  live : Bool
  head : Nat
  len : Nat
  deriving DecidableEq, Repr

/-- A spill or fill under way (R198): the sequence, the list entry, and the two pages. -/
structure KvMove where
  idx : Nat
  fill : Bool
  entry : Nat
  src : Nat
  dst : Nat
  deriving DecidableEq, Repr

/-- The allocator's part of the state besides the metadata records in memory. -/
structure KvState where
  /-- R199: lost pages, withheld until a module reset. -/
  lost : Sparse Bool
  /-- R192: prefix-handle slot k of context c at c * 1024 + k. -/
  prefixes : Sparse PfxSlot
  moves : List KvMove
  /-- R191: pages whose copy is pending (KM_COWSRC 0 also names page 0). -/
  cow : Sparse Bool
  /-- R379: far pages of a reset context that are still to be released. -/
  farDue : List Nat
  deriving DecidableEq, Repr

/-- The sequencer's part of the state. -/
structure SeqState where
  table : Sparse Seq
  ctxs : Sparse StepState
  stopsets : Sparse StopSet
  /-- R155: acceptances so far, for acceptance order. -/
  accepts : Nat
  /-- R214: device times of recent island resets of each sampler unit. -/
  unitResets : Sparse (List Nat)
  /-- R166: the 64 bytes of entry i of a LEAD's context c as its group last had them sent, at c * 131072 + i. -/
  sent : Sparse (List Byte)
  deriving DecidableEq, Repr

def StepState.fresh : StepState := 
  ⟨.idle, 0, [], [], [], false, [], false, false, [], false, [], 0, 0, none, [], false, false, false, false⟩
def PfxSlot.none : PfxSlot := ⟨0, false, 0, 0⟩
def StopSet.empty : StopSet := ⟨[0, 0, 0, 0], List.replicate 16 []⟩

end Sys2Proof.Machine
end

