-- ==== Sys2Proof/Machine/StWeave.lean ====
section
/-!
DEFINITION. The state of the Weavin engines (chapter "Weavin: Re-sharding, Turns and Weight Delivery").
-/
namespace Sys2Proof.Machine
open Sys2Proof

/-- An entry in progress (R229): its index, kind, status so far, WD_NONFIN and WD_ROWS, whether it is a WAIT that has not completed,
and the destinations (member, context) that have not confirmed. -/
structure WvEntry where
  idx : Nat
  kind : Nat
  td : List Byte
  status : Status
  nonfin : Bool
  rows : Nat
  blocked : Bool
  waiting : List (Nat × Nat)
  deriving DecidableEq, Repr

/-- A plan under way (R227 to R230): its context, the ring entry it came from, its DVA and header, its sequence number (R239), the next
entry to issue, the entries in progress, and the first failure with its entry. -/
structure Plan where
  ctx : Nat
  ring : Nat
  entry : Nat
  complete : Bool
  cring : Nat
  tag : Nat
  dva : Nat
  hdr : List Byte
  seq : Nat
  next : Nat
  inprog : List WvEntry
  fail : Option (Status × Nat)
  deriving DecidableEq, Repr

/-- A manifest slot that is bound (R246): the stored copy's place in the manifest store, and its key slot. -/
structure Bound where
  off : Nat
  len : Nat
  keyslot : Nat
  deriving DecidableEq, Repr

/-- Bytes counted for an entry received (R239). -/
structure RxCount where
  src : Nat
  seq : Nat
  entry : Nat
  bytes : Nat
  deriving DecidableEq, Repr

/-- The four engines: the plans by engine * 16 + place, the next plan's sequence number, what is being received, the manifest slots by
context * 4 + slot, and the remote writes of plans abandoned by a rewind that are neither confirmed nor failed (R342): context, plan,
entry, destination member. -/
structure WeaveState where
  plans : Sparse (Option Plan)
  nextSeq : Nat
  rx : List RxCount
  bound : Sparse (Option Bound)
  orphans : List (Nat × Nat × Nat × Nat)
  deriving DecidableEq, Repr

end Sys2Proof.Machine
end

