-- ==== Sys2Proof/Machine/State.lean ====
section
/-!
DEFINITION. The state of the block: every register, memory, queue, engine and mode the spec gives it, as plain data, and the
queue of commands that wait.
-/
namespace Sys2Proof.Machine
open Sys2Proof

/-- The whole state. -/
structure State where
  /-- Every register field of the register and doorbell spaces, by key (Reg.key): a field not listed holds its reset value. -/
  regs : Sparse Nat
  cfg : ConfigState
  mem : MemState
  tly : TallyState
  /-- R377: the pending list of each context, and of events of no context at key 64. -/
  events : Sparse EventList
  /-- R367: each ring's base, reserved slots and held records. -/
  rings : Sparse Ring
  /-- The registers of each cluster's vector unit, and of each gondola hart. -/
  vectors : Sparse Core
  harts : Sparse Core
  clu : ClusterState
  upd : UpdateState
  /-- The sequencer with its samplers, and the key-value allocator. -/
  seq : SeqState
  kv : KvState
  /-- The Weavin engines, the spans, the flight ledger, the health monitor and securing. -/
  weave : WeaveState
  span : SpanState
  flt : FlightState
  health : Health
  fh : Securing
  /-- R357 to R364: the command of a context page that is under way: RESET, RELEASE_RESIDENCY or UNMAP by its code. -/
  ctxRunning : Sparse Nat
  /-- R375: events routed to the keel, for its firmware, oldest first. -/
  keelEvents : List Event
  meter : Meter
  cart : Cartridge
  /-- The tether, its sessions, keys and firmware. -/
  sec : TrustState
  /-- Power, resets and the sideband. -/
  pow : PowerState
  /-- R207: the draw counter Lo of each island's generators; not listed: 0. -/
  chosor : Sparse Nat
  /-- What has left the module, oldest first. -/
  out : List Out
  /-- The model's own: free values drawn so far (log entry 2). -/
  freeCount : Nat
  /-- The commands that wait, first in, first out. -/
  pending : List Instr
  deriving DecidableEq, Repr

/-- Why a step stops with a fault: no meaning of this model raises one. -/
inductive Fault where
  /-- Raised by nobody: the spec gives every command an effect. Safe: it is never answered. -/
  | none
  deriving DecidableEq, Repr

/-- Why a command is refused. -/
inductive Refusal where
  /-- A command whose meaning is not modelled yet, raised by exec's arm for it. Safe: the model stops. -/
  | notModelled (mnemonic : String)
  deriving DecidableEq, Repr

/-- R377: an event list before anything happened: the bucket of events of no context (key 64) is full. -/
def EventList.start (k : Nat) : EventList := ⟨[], false, if k = 64 then 256 * 1000000 else 0, 0⟩

/-- A processor that is not running: every register zero. -/
def Core.idle : Core := ⟨false, 0, [], [], [], 0, 0, 32, 1, none, 0, none, false, 0, none⟩

/-- A ring before RING_CREATE. -/
def Ring.none : Ring := ⟨0, 0, []⟩

/-- The machine right after reset: every register at its reset value, nothing in memory, nothing queued. -/
def State.reset : State where
  regs := []
  cfg := ⟨[], [], [], [], none⟩
  mem := ⟨[], [], [], [], [], [], [], [], [], [], 0, [], [], [], [], [], [], []⟩
  tly := ⟨[], [], [], [], [], []⟩
  events := []
  rings := []
  vectors := []
  harts := []
  clu := ⟨[], [], [], []⟩
  upd := ⟨[], 0⟩
  seq := ⟨[], [], [], 0, [], []⟩
  kv := ⟨[], [], [], [], []⟩
  weave := ⟨[], 0, [], [], []⟩
  span := ⟨[], [], [], []⟩
  flt := FlightState.alone
  health := Health.start
  fh := Securing.start
  ctxRunning := []
  keelEvents := []
  meter := ⟨[], [], none, false⟩
  cart := Cartridge.absent
  sec := ⟨[], [], [], [], [], [], 0, 0, false, none, none, false, 0⟩
  pow := .start
  chosor := []
  out := []
  freeCount := 0
  pending := []

end Sys2Proof.Machine
end

