-- ==== Sys2Proof/Machine/Ops.lean ====
section
/-!
DEFINITION. The named operations over the state that every chapter's commands share: register fields, device time, free
values, memory and translation, errors and events.
-/
namespace Sys2Proof.Machine
open Sys2Proof

/-! ## Register fields -/

/-- The value in force of copy i of a register field. -/
def State.rd (s : State) (r : Reg) (i : Nat) : Nat := sget (r.resetAt i) s.regs (r.key i)

/-- Write copy i of a register field: the value is cut to the field's width. -/
def State.wr (s : State) (r : Reg) (i v : Nat) : State :=
  { s with regs := sput (r.resetAt i) s.regs (r.key i) (v % 2 ^ r.info.width) }

/-- Add to a counter field, wrapping at its width. -/
def State.bump (s : State) (r : Reg) (i n : Nat) : State := s.wr r i (s.rd r i + n)

/-- A one-bit field as a truth value. -/
def State.flag (s : State) (r : Reg) (i : Nat) : Bool := s.rd r i % 2 == 1

/-- R381 to R383: the value of a field that island isl acts under: the value of the newest epoch it has adopted. -/
def State.rdAt (s : State) (isl : Nat) (r : Reg) (i : Nat) : Nat :=
  s.cfg.adopting.foldl (fun v a =>
    if a.islands.contains (isl, none) ∨ a.islands.contains (isl, some i) then v else sget v a.vals (r.key i)) (s.rd r i)

/-- R32, R34: device time, as every island reads it. R34 lets an island's reading lag the hub count by up to 50 ns; the model reads the hub count itself
everywhere, a lag of 0 (DESIGN CHOICE, log entry 101). -/
def State.now (s : State) : Nat := s.rd .glbDevtime 0

/-- The outcome returned to who issued an operation. -/
def State.reply (s : State) (rdr : Reader) (st : Status) (v : Nat) : State :=
  { s with cfg := { s.cfg with answer := some ⟨some rdr, st, v⟩ } }

/-- The outcome of an operation that no reader of the register space issued. -/
def State.replyAgent (s : State) (st : Status) (v : Nat) : State :=
  { s with cfg := { s.cfg with answer := some ⟨none, st, v⟩ } }

/-- The status of an outcome. -/
def statusOf {α : Type} : Except Status α → Status
  | .ok _ => .ok
  | .error e => e

/-- Something leaves the module. -/
def State.emit (s : State) (o : Out) : State := { s with out := s.out ++ [o] }

/-! ## Free values -/

/-- The next free value of w bits (log entry 2). -/
def State.freeNext (s : State) (w : Nat) : BitVec w := Config.free w s.freeCount

/-- Count a free value as drawn. -/
def State.drawn (s : State) : State := { s with freeCount := s.freeCount + 1 }

/-! ## Islands (R19, R20) -/

def islCluster (n : Nat) : Nat := n
def islQuad (q : Nat) : Nat := 192 + q
def islChannel (c : Nat) : Nat := 208 + c
def islSpan (n : Nat) : Nat := 256 + n
def islCxl (p : Nat) : Nat := 288 + p
def islTether (p : Nat) : Nat := 296 + p
def islWeavin (n : Nat) : Nat := 298 + n
def islSequencer : Nat := 302
def islSampler (u : Nat) : Nat := 303 + u
def islKeel : Nat := 309
def islFabric (d : Nat) : Nat := 310 + d
def islHub : Nat := 316

/-- R512: the translating bank of an island's tally operations. -/
def bankOfIsland (isl : Nat) : Nat :=
  if isl < 96 then 0 else if isl < 192 then 2
  else if isl < 200 then 0 else if isl < 208 then 2
  else if isl < 256 then (isl - 208) / 12
  else if isl < 288 then (isl - 256) / 8
  else if isl < 296 then (isl - 288) / 2
  else if isl < 298 then 0
  else if isl < 302 then isl - 298
  else if isl = 302 then 0
  else if isl < 306 then 0 else if isl < 309 then 2
  else if isl = 311 then 2
  else if 312 ≤ isl ∧ isl < 316 then isl - 312
  else 0

/-! ## Errors and events (R473, R375 to R377) -/

/-- R473: record a failure at a page: ERR_COUNT rises, and the first failure keeps its code and detail. -/
def State.recordError (s : State) (page : Nat) (st : Status) (info : Nat) : State :=
  let s := s.bump .errCount page 1
  if s.flag .errValid page then s
  else ((s.wr .errCode page st.code).wr .errInfo page info).wr .errValid page 1

/-- The event list at key k (a context, or 64 for events of no context). -/
def State.evList (s : State) (k : Nat) : EventList := sget (EventList.start k) s.events k

/-- Replace the event list at key k. -/
def State.setEvList (s : State) (k : Nat) (l : EventList) : State :=
  { s with events := sput (EventList.start k) s.events k l }

/-- R377: an event joins a pending list of 64 records; when the list is full it merges into a record of the same status,
page and first detail, or is lost. -/
def EventList.join (l : EventList) (e : Event) : EventList × Bool :=
  if l.items.length < 64 then ({ l with items := l.items ++ [e] }, false)
  else if l.items.any (fun x => x.status = e.status ∧ x.page = e.page ∧ x.d1 = e.d1) then
    let rec merge : List Event → List Event
      | [] => []
      | x :: t =>
        if x.status = e.status ∧ x.page = e.page ∧ x.d1 = e.d1 then
          { x with count := x.count + 1, last := e.last } :: t
        else x :: merge t
    ({ l with items := merge l.items }, false)
  else ({ l with lost := true }, true)

/-- R375: the pending list that an event of a context goes to under EVT_ROUTE CONTEXT: its own list, or the list of
events of no context when the context is EMPTY. -/
def State.evKey (s : State) (ctx : Option Nat) : Nat :=
  match ctx with
  | none => 64
  | some c => if s.rd .ctxState c = 0 then 64 else c

/-- Add an event to the pending list at key k; a context's lost event counts in CTX_EVTLOST (R377). -/
def State.pendEvent (s : State) (k : Nat) (e : Event) : State :=
  let (l, lost) := (s.evList k).join e
  let s := s.setEvList k l
  if lost ∧ k ≠ 64 then s.bump .ctxEvtlost k 1 else s

/-- R473, R375: a block raises an event at its page. -/
def State.raise (s : State) (page : Nat) (st : Status) (ctx : Option Nat) (d1 d2 : Nat) : State :=
  let r := st.code / 256
  let s := s.wr .evtPending page (setBits (s.rd .evtPending page) r 1 1)
  let s := s.bump .evtCount page 1
  if bitAt (s.rd .evtMask page) r then s
  else
    let e : Event := ⟨st, page, ctx, 1, d1, d2, s.now, s.now, false, false, false⟩
    let route := s.rd .evtRoute page
    if route = 1 then { s with keelEvents := s.keelEvents ++ [e] }
    else if route = 2 then s.pendEvent 64 e
    else s.pendEvent (s.evKey ctx) e

/-- R375: an event that concerns no context and is addressed to session 0. -/
def State.raise0 (s : State) (page : Nat) (st : Status) (d1 d2 : Nat) : State := s.raise page st none d1 d2

/-! ## Near memory and the CXL tier (R276 to R281, R287, R288) -/

/-- R276: the first address beyond near memory. -/
def nearTop : Nat := 0x5D00000000

/-- R283, R285: the frame that an old frame's accesses reach, through the redirect table in the order of its entries. -/
def redirectFrame (tab : List (Nat × Nat)) (f : Nat) : Nat :=
  tab.foldl (fun g p => if g = p.1 then p.2 else g) f

/-- The near address a physical address reaches below redirection. -/
def State.devAddr (s : State) (pa : Nat) : Nat :=
  redirectFrame s.mem.redirect (pa / 2 ^ 21) * 2 ^ 21 + pa % 2 ^ 21

/-- R276: the channel that serves a near physical address. -/
def State.channelOf (s : State) (pa : Nat) : Nat := s.devAddr pa / 256 % 48

/-- The granules (or 64-byte blocks, with another size) that a range of n bytes touches. -/
def unitsOf (size pa n : Nat) : List Nat :=
  if n = 0 then [] else (List.range ((pa + n - 1) / size + 1 - pa / size)).map (· + pa / size)

/-- The n bytes of a byte store from address a. -/
def readBytes (m : Sparse Byte) (a n : Nat) : List Byte := (List.range n).map (fun k => sget 0#8 m (a + k))

/-- Write a list of bytes from address a. -/
def writeBytes (m : Sparse Byte) (a : Nat) : List Byte → Sparse Byte
  | [] => m
  | b :: t => writeBytes (sput 0#8 m a b) (a + 1) t

/-- Is a near granule poisoned? -/
def State.poisoned (s : State) (g : Nat) : Bool := sget false s.mem.poison g

/-- Whether n bytes at a near physical address can be read, and the first reason if they cannot. -/
def State.nearCheck (s : State) (pa n : Nat) : Status :=
  if pa + n > nearTop then .memPaRange
  else if (unitsOf 256 pa n).any (fun g => s.rd .memState (s.channelOf (g * 256)) = 2) then .memChannelFenced
  else if (unitsOf 256 pa n).any s.poisoned then .memUncorrectable
  else .ok

/-- R288: the capacity of a CXL port in bytes. -/
def State.cxlBytes (s : State) (p : Nat) : Nat := s.rd .cxlCapacity p * 2 ^ 21

/-- Whether n bytes at a CXL physical address can be reached (R289: not where the port's link is not up) and lie in the trained port's capacity
(R288). -/
def State.farCheck (s : State) (pa n : Nat) : Status :=
  let p := pa / 2 ^ 40
  if p ≥ 8 then .memPaRange
  else if s.rd .cxlState p ≠ 2 then .cxlLinkDown
  else if pa % 2 ^ 40 + n > s.cxlBytes p then .memPaRange
  else if (unitsOf 64 pa n).any (fun b => sget false s.mem.farPoison b) then .memUncorrectable
  else .ok

/-- Read n bytes of near memory (far = false) or of the CXL tier. -/
def State.memRead (s : State) (far : Bool) (pa n : Nat) : Except Status (List Byte) :=
  match (if far then s.farCheck pa n else s.nearCheck pa n) with
  | .ok => .ok (readBytes (if far then s.mem.far else s.mem.near) pa n)
  | e => .error e

/-- Read a number that the module keeps for itself in n bytes of near memory or of the CXL tier: none where the read fails. -/
def State.ownRead (s : State) (far : Bool) (pa n : Nat) : Option Nat :=
  match s.memRead far pa n with
  | .ok b => some (leNat b)
  | .error _ => none

/-- One granule's part of a near write (R277, R281): a whole granule clears poison; a part of a poisoned granule is discarded, with
MEM_UNCORRECTABLE where the write's own read has found the error. -/
def State.writeGranule (s : State) (pa : Nat) (bs : List Byte) : State × Status :=
  let c := s.channelOf pa
  let g := pa / 256
  if s.rd .memState c = 2 then (s, .memChannelFenced)
  else if bs.length = 256 then
    ({ s with mem := { s.mem with near := writeBytes s.mem.near pa bs, poison := sdrop s.mem.poison g } }.bump
      .memWrbytes c 256, .ok)
  else if s.poisoned g then (s, if s.mem.fresh.contains (false, g) then .memUncorrectable else .memPoisonWrite)
  else
    ((({ s with mem := { s.mem with near := writeBytes s.mem.near pa bs } }.bump .memWrbytes c bs.length).bump
      .memRmw c 1), .ok)

/-- Write bytes to near memory, granule by granule; the first failure is the status, and granules that do not fail are
written. -/
def State.writeNear (s : State) (pa : Nat) (bs : List Byte) : State × Status :=
  (unitsOf 256 pa bs.length).foldl (fun (a : State × Status) g =>
    let lo := max pa (g * 256)
    let hi := min (pa + bs.length) (g * 256 + 256)
    let (s', st) := a.1.writeGranule lo ((bs.drop (lo - pa)).take (hi - lo))
    (s', if a.2 = .ok then st else a.2)) (s, .ok)

/-- The state an access leaves, where its caller has no use for the status. -/
def stateOf (p : State × Status) : State := p.1

/-- Write bytes to near memory or to the CXL tier. -/
def State.memWrite (s : State) (far : Bool) (pa : Nat) (bs : List Byte) : State × Status :=
  if far then
    match s.farCheck pa 0 with
    | .ok =>
      if pa % 2 ^ 40 + bs.length > s.cxlBytes (pa / 2 ^ 40) then (s, .memPaRange)
      else
        let cleared := (unitsOf 64 pa bs.length).filter (fun b => pa ≤ b * 64 ∧ b * 64 + 64 ≤ pa + bs.length)
        ({ s with mem := { s.mem with
            far := writeBytes s.mem.far pa bs
            farPoison := cleared.foldl (fun m b => sdrop m b) s.mem.farPoison } }.bump
          .cxlWrbytes (pa / 2 ^ 40) bs.length, .ok)
    | e => (s, e)
  else if pa + bs.length > nearTop then (s, .memPaRange)
  else s.writeNear pa bs

/-! ## Charging the channels (R373) -/

/-- R373: fill the bucket of channel ch for context c up to now: CTX_MEMSHARE * 0.15625 bytes per nanosecond, at most
CTX_MEMBURST KiB. -/
def State.bucketNow (s : State) (ch c : Nat) : Nat :=
  let (t, at_) := sget (0, 0) s.mem.buckets (ch * 64 + c)
  min (s.rdAt (islChannel ch) .ctxMemburst c * 1024 * 64)
    (t + (s.now - at_) * (s.rdAt (islChannel ch) .ctxMemshare c * 10))

/-- R373: charge an access of n bytes at channel ch to context c: from the bucket, or through the spare queue. -/
def State.chargeChannel (s : State) (ch c n : Nat) : State :=
  let q := roundUp n 64
  let have_ := s.bucketNow ch c
  let s := s.bump .ctxMembytes c q
  if have_ ≥ q * 64 then
    { s with mem := { s.mem with buckets := sput (0, 0) s.mem.buckets (ch * 64 + c) (have_ - q * 64, s.now) } }
  else
    { s with mem := { s.mem with buckets := sput (0, 0) s.mem.buckets (ch * 64 + c) (have_, s.now) } }.bump
      .ctxSpillwait c 1

/-- R373: charge the near accesses of a range to a context, granule by granule. -/
def State.charge (s : State) (c pa n : Nat) : State :=
  (unitsOf 256 pa n).foldl (fun s g =>
    let lo := max pa (g * 256)
    let hi := min (pa + n) (g * 256 + 256)
    s.chargeChannel (s.channelOf lo) c (hi - lo)) s

/-- Count the data bytes of a read at its channels or its port, and charge them to the context (none for module traffic
that belongs to no context). -/
def State.countRead (s : State) (ctx : Option Nat) (far : Bool) (pa n : Nat) : State :=
  if far then s.bump .cxlRdbytes (pa / 2 ^ 40) n
  else
    let s := (unitsOf 256 pa n).foldl (fun s g =>
      let lo := max pa (g * 256)
      let hi := min (pa + n) (g * 256 + 256)
      s.bump .memRdbytes (s.channelOf lo) (hi - lo)) s
    match ctx with
    | none => s
    | some c => s.charge c pa n

/-! ## Device virtual addresses (R39 to R44) -/

/-- What an access does: read, write, or fetch an instruction. -/
inductive AccessKind where
  | read | write | exec
  deriving DecidableEq, Repr

/-- Where an access goes: the TARGET of its translation, the physical address, and the bytes left in its page. -/
structure Place where
  target : Nat
  pa : Nat
  room : Nat
  deriving DecidableEq, Repr

/-- R41: a translation entry permits an access. -/
def entryPermits (e : Nat) : AccessKind → Bool
  | .read => bitAt e 2
  | .write => bitAt e 3
  | .exec => bitAt e 4

/-- The 8-byte number at a near physical address. -/
def State.read64 (s : State) (pa : Nat) : Except Status Nat := (s.memRead false pa 8).map leNat

/-- R41: a leaf entry's answer for an access at offset off of its page. -/
def leafPlace (e size off : Nat) (k : AccessKind) (gondola : Bool) : Except Status Place :=
  if !entryPermits e k then .error .dvaAccess
  else if bitsAt e 6 2 = 3 ∨ (bitsAt e 6 2 = 2 ∧ !gondola) then .error .dvaTarget
  else .ok ⟨bitsAt e 6 2, bitsAt e 12 40 * 4096 + off, size - off⟩

/-- R39 to R41: translate a device virtual address of a context. -/
def State.translate (s : State) (ctx dva : Nat) (k : AccessKind) (gondola : Bool) : Except Status Place :=
  if dva ≥ 2 ^ 48 then .error .dvaNoncanonical
  else
    match s.read64 (s.rd .ctxTablebase ctx + 8 * (dva / 2 ^ 30)) with
    | .error e => .error e
    | .ok e1 =>
      if !bitAt e1 0 then .error .dvaUnmapped
      else if bitAt e1 1 then leafPlace e1 (2 ^ 30) (dva % 2 ^ 30) k gondola
      else
        match s.read64 (bitsAt e1 12 40 * 4096 + 8 * (dva / 2 ^ 21 % 512)) with
        | .error e => .error e
        | .ok e2 =>
          if !bitAt e2 0 then .error .dvaUnmapped
          else leafPlace e2 (2 ^ 21) (dva % 2 ^ 21) k gondola

/-- The physical pieces of a range of n bytes at a device virtual address, page by page. -/
def State.pieces (s : State) (ctx : Nat) (k : AccessKind) (gondola : Bool) :
    Nat → Nat → Nat → Except Status (List (Place × Nat))
  | 0, _, _ => .ok []
  | fuel + 1, dva, n =>
    if n = 0 then .ok []
    else
      match s.translate ctx dva k gondola with
      | .error e => .error e
      | .ok p =>
        let m := min n p.room
        match s.pieces ctx k gondola fuel (dva + m) (n - m) with
        | .error e => .error e
        | .ok t => .ok ((p, m) :: t)

/-- The pieces of a range, with enough fuel for its pages. -/
def State.dvaPieces (s : State) (ctx dva n : Nat) (k : AccessKind) (gondola : Bool) :
    Except Status (List (Place × Nat)) :=
  s.pieces ctx k gondola (n / 2 ^ 21 + 2) dva n

/-- Read the physical pieces of a range in order. -/
def State.readPieces (s : State) : List (Place × Nat) → Except Status (List Byte)
  | [] => .ok []
  | (p, n) :: t =>
    match s.memRead (p.target == 1) p.pa n with
    | .error e => .error e
    | .ok b => (s.readPieces t).map (b ++ ·)

/-- Read n bytes at a device virtual address of a context. -/
def State.dvaRead (s : State) (ctx dva n : Nat) : Except Status (List Byte) :=
  match s.dvaPieces ctx dva n .read false with
  | .error e => .error e
  | .ok ps => s.readPieces ps

/-- Read a little-endian number at a device virtual address. -/
def State.dvaNat (s : State) (ctx dva n : Nat) : Except Status Nat := (s.dvaRead ctx dva n).map leNat

/-- Count and charge a read of n bytes at a device virtual address. -/
def State.countDvaRead (s : State) (ctx dva n : Nat) : State :=
  match s.dvaPieces ctx dva n .read false with
  | .error _ => s
  | .ok ps => ps.foldl (fun s p => s.countRead (some ctx) (p.1.target == 1) p.1.pa p.2) s

/-- R335: a write into the armed context marks its 64 KiB blocks dirty in both maps. -/
def State.markDirty (s : State) (ctx dva n : Nat) : State :=
  if s.flag .fhArm 0 ∧ s.rd .fhArmctx 0 = ctx then
    let bl := unitsOf 65536 dva n
    { s with mem := { s.mem with
        dirty0 := bl.foldl (fun m b => sput false m b true) s.mem.dirty0
        dirty1 := bl.foldl (fun m b => sput false m b true) s.mem.dirty1 } }
  else s

/-- Write the physical pieces of a range in order; the first failure is the status. -/
def State.writePieces (s : State) (ctx : Nat) : List (Place × Nat) → List Byte → State × Status
  | [], _ => (s, .ok)
  | (p, n) :: t, bs =>
    let (s1, st) := s.memWrite (p.target == 1) p.pa (bs.take n)
    let s1 := if p.target = 0 then s1.charge ctx p.pa n else s1
    let (s2, st2) := s1.writePieces ctx t (bs.drop n)
    (s2, if st = .ok then st2 else st)

/-- Write bytes at a device virtual address of a context. Every page of the range is translated before any byte is written. -/
def State.dvaWrite (s : State) (ctx dva : Nat) (bs : List Byte) : State × Status :=
  match s.dvaPieces ctx dva bs.length .write false with
  | .error e => (s, e)
  | .ok ps =>
    let (s1, st) := s.writePieces ctx ps bs
    (if st = .ok then s1.markDirty ctx dva bs.length else s1, st)

/-- Is a range of n bytes mapped for an access? -/
def State.mapped (s : State) (ctx dva n : Nat) (k : AccessKind) : Bool :=
  match s.dvaPieces ctx dva n k false with
  | .ok _ => true
  | .error _ => false

/-! ## Contexts and sessions -/

/-- The register page of a context (R385). -/
def ctxPage (c : Nat) : Nat := 0x1000 + c

/-- R360: a session owns a context, or is session 0. -/
def State.owns (s : State) (sess c : Nat) : Bool :=
  sess = 0 || (s.rd .ctxState c ≠ 0 && s.rd .ctxOwner c = sess)

/-- The context whose quads include a hart's quad (R487). -/
def State.ctxOfHart (s : State) (h : Nat) : Option Nat :=
  if s.flag .gqCtxvalid (h / 4) then some (s.rd .gqCtx (h / 4)) else none

/-- R141, R360: a reader may write a context's own block: its owner session, session 0, or its gondola software. -/
def State.mayWriteCtx (s : State) (rdr : Reader) (c : Nat) : Bool :=
  match rdr with
  | .session n => s.owns n c
  | .hart h => s.ctxOfHart h = some c
  | .keel => false

/-- R357: a context is DEFINED or RESIDENT. -/
def State.ctxLive (s : State) (c : Nat) : Bool := s.rd .ctxState c = 1 || s.rd .ctxState c = 2

/-- R366, R248, R357: the module takes entries of the context's tile-work, UPDATE work and sequence submissions. -/
def State.serves (s : State) (c : Nat) : Bool :=
  s.ctxLive c && !s.flag .ctxClasspend c && s.rd .wvGate c = 0

end Sys2Proof.Machine
end

