-- ==== Sys2Proof/Machine/TallyOps.lean ====
section
/-!
DEFINITION. The tally banks' operations (R254 to R263, R512): translation of virtual IDs, SIGNAL, WAIT, TAKE, SET and READ, and the
service of queued waiters. Every chapter that signals or waits uses these.
-/
namespace Sys2Proof.Machine
open Sys2Proof

/-! ## Processor registers -/

/-- The registers of a processor. -/
def State.core (s : State) : CoreId → Core
  | .vector c => sget Core.idle s.vectors c
  | .hart h => sget Core.idle s.harts h

/-- Replace the registers of a processor. -/
def State.setCore (s : State) (k : CoreId) (c : Core) : State :=
  match k with
  | .vector n => { s with vectors := sput Core.idle s.vectors n c }
  | .hart n => { s with harts := sput Core.idle s.harts n c }

/-- Integer register r: x0 reads zero. -/
def Core.readX (c : Core) (r : Nat) : Nat := if r = 0 then 0 else sget 0 c.x r

/-- Write integer register r, cut to 64 bits: x0 discards what is written. -/
def Core.writeX (c : Core) (r v : Nat) : Core :=
  if r = 0 then c else { c with x := sput 0 c.x r (v % 2 ^ 64) }

/-! ## Virtual IDs (R260, R512) -/

/-- R254: the bank of a physical tally. -/
def bankOf (phys : Nat) : Nat := phys / 2 ^ 18

/-- The near address of a context's translation entry for a virtual ID (R359, R260). -/
def State.ttAddr (s : State) (ctx vid : Nat) : Nat := s.rd .ctxTablebase ctx + 2 ^ 21 + 4 * vid

/-- R260: the translation entry of a virtual ID; ID 0 and an ID without a valid entry are unmapped. -/
def State.ttEntry (s : State) (ctx vid : Nat) : Except Status Nat :=
  if vid = 0 ∨ !s.ctxLive ctx then .error .tallyUnmapped
  else
    match s.memRead false (s.ttAddr ctx vid) 4 with
    | .error e => .error e
    | .ok bs => if bitAt (leNat bs) 20 then .ok (leNat bs) else .error .tallyUnmapped

/-- R512: enter a translation into a bank's cache as the one used most recently; the one used least recently leaves a full cache. -/
def State.cacheUse (s : State) (bank ctx vid e : Nat) : State :=
  let l := sget [] s.tly.caches bank
  let l' := (((ctx, vid), e) :: l.filter (fun x => x.1 ≠ (ctx, vid))).take 8192
  { s with tly := { s.tly with caches := sput [] s.tly.caches bank l' } }

/-- R512: the translation a bank finds: its cache's, and on a miss the table's in near memory. -/
def State.tallyEntry (s : State) (bank ctx vid : Nat) : Except Status Nat :=
  match (sget [] s.tly.caches bank).find? (fun x => x.1 = (ctx, vid)) with
  | some x => .ok x.2
  | none => s.ttEntry ctx vid

/-- Translate a virtual ID at its translating bank. A failure there counts in that bank's TLY_ERRORS (R512). -/
def State.tallyXlate (s : State) (bank ctx vid : Nat) : State × Except Status Nat :=
  match s.tallyEntry bank ctx vid with
  | .error e => (s.bump .tlyErrors bank 1, .error e)
  | .ok e => (s.cacheUse bank ctx vid e, .ok e)

/-- Translations that meet a condition leave every bank's cache (R512). -/
def State.uncache (s : State) (gone : Nat × Nat → Bool) : State :=
  let keep (b : Nat × List ((Nat × Nat) × Nat)) : Option (Nat × List ((Nat × Nat) × Nat)) :=
    let l := b.2.filter (fun x => !gone x.1)
    if l = [] then none else some (b.1, l)
  { s with tly := { s.tly with caches := s.tly.caches.filterMap keep } }

/-! ## Values and queues (R255 to R257) -/

/-- The value of a physical tally. -/
def State.tallyVal (s : State) (p : Nat) : Nat := sget 0 s.tly.vals p

def State.setTallyVal (s : State) (p v : Nat) : State :=
  { s with tly := { s.tly with vals := sput 0 s.tly.vals p v } }

/-- The waiters of a physical tally, the head first. -/
def State.tallyQueue (s : State) (p : Nat) : List Waiter := sget [] s.tly.queues p

def State.setTallyQueue (s : State) (p : Nat) (q : List Waiter) : State :=
  { s with tly := { s.tly with queues := sput [] s.tly.queues p q } }

/-- R257: serve the head of a queue while its n is covered: the value left, the waiters left, the waiters served. -/
def serveQueue : Nat → List Waiter → Nat × List Waiter × List Waiter
  | v, [] => (v, [], [])
  | v, w :: t =>
    if w.n ≤ v then
      let (v', q, d) := serveQueue (v - w.n) t
      (v', q, w :: d)
    else (v, w :: t, [])

/-- R265: the cycles of its cluster's clock for which a KC.TWAIT has held a vector unit (log entry 48). -/
def State.heldCycles (s : State) : CoreId → Nat
  | .vector n =>
    let c := s.core (.vector n)
    if c.waitRd.isSome then (s.now - c.waitAt) * s.rd .islFreq (islCluster n) / 1000 else 0
  | .hart _ => 0

/-- R111: CLU_RUN of a vector unit while a KC.TWAIT holds it, WAITING, and after, VECTOR (log entry 115). -/
def State.showHeld (s : State) (held : Bool) : CoreId → State
  | .vector n => s.wr .cluRun n (if held then 3 else 2)
  | .hart _ => s

/-- A wait completes with a status: a KC.TWAIT returns it in rd and lets its processor go on (R264, R265), the cycles held counted; any
other agent finds it among the completed waits. -/
def State.finishWait (s : State) (a : Agent) (st : Status) : State :=
  let resume (k : CoreId) : State :=
    let c := s.core k
    match c.waitRd with
    | none => s
    | some rd =>
      (s.setCore k { c.writeX rd st.code with waitRd := none, pc := c.pc + 4, cycles := c.cycles + s.heldCycles k }).showHeld false k
  match a with
  | .vector c => resume (.vector c)
  | .hart h => resume (.hart h)
  | a => { s with tly := { s.tly with done := s.tly.done ++ [(a, st)] } }

/-- R257: after a SIGNAL or SET, serve the tally's queue. -/
def State.tallyServe (s : State) (p : Nat) : State :=
  let (v, q, d) := serveQueue (s.tallyVal p) (s.tallyQueue p)
  let s := (s.setTallyVal p v).setTallyQueue p q
  d.foldl (fun s w => (s.finishWait w.agent .ok).bump .tlyWaits (bankOf p) 1) s

/-- R255: SIGNAL(n) at a translating bank, for a context's virtual ID; `foreign` for a signal made for another context
(R262). -/
def State.tallySignal (s : State) (bank ctx vid n : Nat) (foreign : Bool) : State × Status :=
  match s.tallyXlate bank ctx vid with
  | (s, .error e) => (s, e)
  | (s, .ok e) =>
    let p := bitsAt e 0 20
    if n = 0 then (s, .ok)
    else if foreign ∧ !bitAt e 21 then
      ((s.bump .tlyRefused (bankOf p) 1).bump .tlyErrors (bankOf p) 1, .tallyForeign)
    else if s.tallyVal p + n > 0xFFFFFFFF then (s.bump .tlyErrors (bankOf p) 1, .tallyOverflow)
    else
      let s := (s.setTallyVal p (s.tallyVal p + n)).bump .tlySignals (bankOf p) 1
      let s := if foreign then s.bump .tlyRemote (bankOf p) 1 else s
      (s.tallyServe p, .ok)

/-- R255, R257: WAIT(n): it completes at once when no waiter is queued and the value covers it, and joins the queue otherwise. The
answer says whether it completed. -/
def State.tallyWait (s : State) (bank ctx vid n : Nat) (a : Agent) : State × Except Status Bool :=
  match s.tallyXlate bank ctx vid with
  | (s, .error e) => (s, .error e)
  | (s, .ok e) =>
    let p := bitsAt e 0 20
    if n = 0 then (s, .ok true)
    else if (s.tallyQueue p).isEmpty ∧ n ≤ s.tallyVal p then
      ((s.setTallyVal p (s.tallyVal p - n)).bump .tlyWaits (bankOf p) 1, .ok true)
    else (s.setTallyQueue p (s.tallyQueue p ++ [⟨a, n⟩]), .ok false)

/-- R255: TAKE(n). -/
def State.tallyTake (s : State) (bank ctx vid n : Nat) : State × Status :=
  match s.tallyXlate bank ctx vid with
  | (s, .error e) => (s, e)
  | (s, .ok e) =>
    let p := bitsAt e 0 20
    if n > s.tallyVal p then (s.bump .tlyErrors (bankOf p) 1, .tallyUnderflow)
    else (s.setTallyVal p (s.tallyVal p - n), .ok)

/-- R255: SET(v), then the service of queued waiters. -/
def State.tallySet (s : State) (bank ctx vid v : Nat) : State × Status :=
  match s.tallyXlate bank ctx vid with
  | (s, .error e) => (s, e)
  | (s, .ok e) => ((s.setTallyVal (bitsAt e 0 20) v).tallyServe (bitsAt e 0 20), .ok)

/-- R255: READ. -/
def State.tallyRead (s : State) (bank ctx vid : Nat) : State × Except Status Nat :=
  match s.tallyXlate bank ctx vid with
  | (s, .error e) => (s, .error e)
  | (s, .ok e) => (s, .ok (s.tallyVal (bitsAt e 0 20)))

/-- Has an agent's wait completed, and with which status? -/
def State.waitDone (s : State) (a : Agent) : Option Status :=
  (s.tly.done.find? (fun p => p.1 = a)).map (·.2)

/-- An agent takes up its completed wait. -/
def State.takeWait (s : State) (a : Agent) : State :=
  { s with tly := { s.tly with done := s.tly.done.filter (fun p => p.1 ≠ a) } }

/-- Remove an agent from every queue it waits in, subtracting nothing (R265, R271). -/
def State.withdrawWait (s : State) (a : Agent) : State :=
  { s with tly := { s.tly with
      queues := s.tly.queues.filterMap (fun p =>
        let q := p.2.filter (fun w => w.agent ≠ a)
        if q = [] then none else some (p.1, q)) } }

/-- A sequencer, allocator or sampler wait (R263), made by the block of a register page: a failed one raises an event of
its context and is kept to be tried again; one that completes at once is among the completed waits. -/
def State.agentWait (s : State) (page bank ctx vid n : Nat) (a : Agent) : State :=
  match s.tallyWait bank ctx vid n a with
  | (s, .ok true) => s.finishWait a .ok
  | (s, .ok false) => s
  | (s, .error e) =>
    let s := s.raise page e (some ctx) vid n
    { s with tly := { s.tly with retry := s.tly.retry ++ [⟨a, bank, ctx, vid, n, s.now⟩] } }

/-- R263: a signal of the sequencer, the allocator or a sampler, the block of a register page: a failed one is dropped and its
context receives an event. ID 0 is no tally. -/
def State.agentSignal (s : State) (page bank ctx vid n : Nat) (foreign : Bool) : State :=
  if vid = 0 then s
  else
    match s.tallySignal bank ctx vid n foreign with
    | (s, .ok) => s
    | (s, e) => s.raise page e (some ctx) vid n

/-- R271: a reset of a context completes the waiters of its tallies with CONTEXT_RESET, forgets its cached translations and
returns its physical tallies to their banks. -/
def State.tallyReset (s : State) (ctx : Nat) : State :=
  let mine := s.tly.owner.filterMap (fun p => if p.2 = some ctx then some p.1 else none)
  let s := mine.foldl (fun s p =>
    let q := s.tallyQueue p
    let s := (s.setTallyQueue p []).setTallyVal p 0
    let s := q.foldl (fun s w => s.finishWait w.agent .contextReset) s
    s.bump .tlyFree (bankOf p) 1) s
  let s := s.uncache (fun e => e.1 == ctx)
  { s with tly := { s.tly with
      owner := s.tly.owner.filter (fun p => p.2 ≠ some ctx)
      retry := s.tly.retry.filter (fun r => r.ctx ≠ ctx) } }

end Sys2Proof.Machine
end

