-- ==== Sys2Proof/Machine/RingOps.lean ====
section
/-!
DEFINITION. Rings (R367 to R371): indices, entries, reserved slots, records, the ERROR state and held records.
-/
namespace Sys2Proof.Machine
open Sys2Proof

/-- A ring's own part. -/
def State.ring (s : State) (r : Nat) : Ring := sget Ring.none s.rings r

def State.setRing (s : State) (r : Nat) (x : Ring) : State := { s with rings := sput Ring.none s.rings r x }

/-- The entries of a ring. -/
def State.ringSize (s : State) (r : Nat) : Nat := 2 ^ s.rd .dbLog2 r

/-- R369: entries produced and not consumed. -/
def State.ringUsed (s : State) (r : Nat) : Nat := (s.rd .dbTail r + 2 ^ 32 - s.rd .dbHead r) % 2 ^ 32

/-- The DVA of entry i of a ring. -/
def State.entryDva (s : State) (r i : Nat) : Nat := (s.ring r).base + 64 * (i % s.ringSize r)

/-- R369: a ring enters ERROR with a status; the event is raised at the owning context's page. -/
def State.ringError (s : State) (r : Nat) (st : Status) (d2 : Nat) : State :=
  let c := s.rd .dbCtx r
  ((s.wr .dbState r 2).wr .dbErr r st.code).raise (ctxPage c) st (some c) r d2

/-- R370: an ACTIVE COMPLETION ring of a context. -/
def State.isCring (s : State) (ctx r : Nat) : Bool :=
  s.rd .dbState r = 1 && s.rd .dbType r = 3 && s.rd .dbCtx r = ctx

/-- R369, R370: slots of a completion ring that are neither used, nor reserved, nor due to a held record without a slot. -/
def State.ringRoom (s : State) (r : Nat) : Nat :=
  s.ringSize r - (s.ringUsed r + (s.ring r).reserved + ((s.ring r).held.filter (fun h => !h.reserved)).length)

/-- R370: reserve a slot for a record. -/
def State.reserveSlot (s : State) (r : Nat) : State :=
  s.setRing r { s.ring r with reserved := (s.ring r).reserved + 1 }

/-- R369, R371: a record due to a completion ring: written at the tail of an ACTIVE ring, held by a ring in ERROR. -/
def State.writeRecord (s : State) (r : Nat) (rec : List Byte) (slotReserved : Bool) : State :=
  let hold (s : State) : State := s.setRing r { s.ring r with held := (s.ring r).held ++ [⟨rec, slotReserved, none⟩] }
  if s.rd .dbState r = 0 then s
  else if s.rd .dbState r ≠ 1 then hold s
  else
    let dva := s.entryDva r (s.rd .dbTail r)
    match s.dvaWrite (s.rd .dbCtx r) dva rec with
    | (s, .ok) =>
      let s := s.wr .dbTail r (s.rd .dbTail r + 1)
      if slotReserved then s.setRing r { s.ring r with reserved := (s.ring r).reserved - 1 } else s
    | (s, e) => hold (s.ringError r e dva)

/-- R369, R44, R280: read the 64 bytes of the entry at a ring's head; a fault or an uncorrectable error puts the ring in
ERROR and the entry is not taken. -/
def State.readEntry (s : State) (r : Nat) : State × Option (Nat × List Byte) :=
  let dva := s.entryDva r (s.rd .dbHead r)
  match s.dvaRead (s.rd .dbCtx r) dva 64 with
  | .ok b => (s.countDvaRead (s.rd .dbCtx r) dva 64, some (dva, b))
  | .error e => (s.ringError r e dva, none)

/-- R369: an ACTIVE ring of a type holds a published entry. -/
def State.ringPending (s : State) (r ty : Nat) : Bool :=
  s.rd .dbState r = 1 && s.rd .dbType r = ty && s.rd .dbTail r ≠ s.rd .dbHead r

/-- An entry of a TILE or TRANSFER ring (R370). -/
structure WorkEntry where
  kind : Nat
  complete : Bool
  cring : Nat
  ptr : Nat
  tag : Nat
  dva : Nat
  deriving DecidableEq, Repr

/-- R370: take the entry at the head of a TILE or TRANSFER ring: with COMPLETE set only when its completion ring is an ACTIVE
COMPLETION ring of the context and holds a free slot, which is reserved. -/
def State.takeWork (s : State) (r : Nat) : State × Option WorkEntry :=
  match s.readEntry r with
  | (s, none) => (s, none)
  | (s, some (dva, b)) =>
    let e : WorkEntry := ⟨fieldAt b 0 1 % 16, bitAt (fieldAt b 1 1) 0, fieldAt b 2 2, fieldAt b 8 8, fieldAt b 24 8, dva⟩
    let taken (s : State) : State := s.wr .dbHead r (s.rd .dbHead r + 1)
    if !e.complete then (taken s, some e)
    else if !s.isCring (s.rd .dbCtx r) e.cring then (s.ringError r .ringCringInvalid dva, none)
    else if s.ringRoom e.cring = 0 then (s, none)
    else (taken (s.reserveSlot e.cring), some e)

/-- R371: a TASK (kind 5) or TRANSFER (kind 6) record. -/
def workRecord (kind status ring tag dva count cluster time member : Nat) : List Byte :=
  leBytes 1 kind ++ leBytes 1 0 ++ leBytes 2 status ++ leBytes 2 ring ++ leBytes 2 0 ++ leBytes 8 tag ++ leBytes 8 dva
    ++ leBytes 4 count ++ leBytes 2 cluster ++ leBytes 2 0 ++ leBytes 8 time ++ leBytes 2 member ++ zeros 22

/-- R371: the record of a finished task, chain or plan, in the slot reserved when its entry was taken. -/
def State.workDone (s : State) (kind : Nat) (complete : Bool) (cring status ring tag dva count cluster : Nat) : State :=
  if complete then
    s.writeRecord cring (workRecord kind status ring tag dva count cluster s.now (s.rd .fltMember 0)) true
  else s

/-- R370: an entry of a reserved kind is completed with RING_ENTRY, and the context receives an event. -/
def State.reservedEntry (s : State) (r : Nat) (kind page : Nat) (e : WorkEntry) : State :=
  let c := s.rd .dbCtx r
  (s.workDone kind e.complete e.cring Status.ringEntry.code r e.tag e.dva 0 0).raise page .ringEntry (some c) e.dva 0

end Sys2Proof.Machine
end

