-- ==== Sys2Proof/Machine/CtxOps.lean ====
section
/-!
DEFINITION. Contexts: translation tables and mappings (R40 to R43, R359, R361), protected regions, lanes (R380), and the slots
of resident contexts (R362, R363).
-/
namespace Sys2Proof.Machine
open Sys2Proof

/-! ## Regions of physical memory -/

/-- A physical region: in the CXL tier or near memory, base and size in bytes. -/
structure Region where
  far : Bool
  base : Nat
  size : Nat
  deriving DecidableEq, Repr

/-- Do two ranges overlap? -/
def rangesMeet (a n b m : Nat) : Bool := 0 < n && 0 < m && a < b + m && b < a + n

def Region.meets (r : Region) (far : Bool) (pa n : Nat) : Bool := r.far == far && rangesMeet r.base r.size pa n

/-- R283, R284: the retirement reserve. -/
def State.reserve (s : State) : Region := ⟨false, s.rd .memResvbase 0 * 2 ^ 21, s.rd .memResvframes 0 * 2 ^ 21⟩

/-- The bytes of a context's table area (R358). -/
def State.tableArea (s : State) (c : Nat) : Region :=
  ⟨false, s.rd .ctxTablebase c, s.rd .ctxTablesize c * 2 ^ 21⟩

/-- R358, R361: the key-value pools with their metadata (64 KiB pages, 2 KiB metadata records). -/
def State.kvRegions (s : State) : List Region :=
  [⟨false, s.rd .kvNearbase 0, s.rd .kvNearpages 0 * 65536⟩,
   ⟨false, s.rd .kvMetabase 0, s.rd .kvNearpages 0 * 2048⟩,
   ⟨true, s.rd .kvFarbase 0, s.rd .kvFarpages 0 * 65536⟩,
   ⟨true, s.rd .kvFarmetabase 0, s.rd .kvFarpages 0 * 2048⟩]

/-- R334: an image area spread over the staging ports, or in near memory: `units` units of 2 MiB from base. -/
def State.stageRegions (s : State) (base units : Nat) : List Region :=
  if s.flag .fhStagetier 0 then
    let ports := setBitsOf (s.rd .fhStageports 0) 8
    let each := ceilDiv units (max 1 ports.length)
    ports.map (fun p => ⟨true, p * 2 ^ 40 + base, each * 2 ^ 21⟩)
  else [⟨false, base, units * 2 ^ 21⟩]

/-- R361: the module's regions besides the table areas: pools, the 64 MiB flight region, staging, ballast (four slots, R337), and
the manifest store. -/
def State.moduleRegions (s : State) : List Region :=
  s.kvRegions
  ++ (if s.rd .fltRegion 0 = 0 then [] else [⟨false, s.rd .fltRegion 0, 2 ^ 26⟩])
  ++ s.stageRegions (s.rd .fhStagebase 0) (s.rd .fhStagesize 0)
  ++ s.stageRegions (s.rd .fhBallastbase 0) (4 * s.rd .fhSlotsize 0)
  ++ [⟨false, s.rd .wvMstorebase 0, s.rd .wvMstoresize 0 * 2 ^ 20⟩]

/-- The table areas of the contexts other than `but`. -/
def State.tableAreas (s : State) (but : Option Nat) : List Region :=
  ((List.range 64).filter (fun c => some c ≠ but && s.rd .ctxState c ≠ 0)).map s.tableArea

/-! ## Translation tables (R40, R41, R359) -/

/-- Eight-byte slots of a table that hold something: their indexes, from the bytes listed in near memory. -/
def State.listedSlots (s : State) (base n : Nat) : List Nat :=
  ((s.mem.near.filter (fun p => base ≤ p.1 && p.1 < base + 8 * n)).map (fun p => (p.1 - base) / 8)).eraseDups

/-- The 8-byte entry at a near address, read as the module's own tables are: an entry that does not read is no entry (log entry 102). -/
def State.entryAt (s : State) (pa : Nat) : Nat := (s.ownRead false pa 8).getD 0

/-- A valid leaf: its first DVA, its page size, and its entry. -/
structure Leaf where
  dva : Nat
  size : Nat
  entry : Nat
  deriving DecidableEq, Repr

/-- The valid leaves of a level-2 table. -/
def State.l2Leaves (s : State) (base dva : Nat) : List Leaf :=
  (s.listedSlots base 512).filterMap (fun j =>
    let e := s.entryAt (base + 8 * j)
    if bitAt e 0 then some ⟨dva + j * 2 ^ 21, 2 ^ 21, e⟩ else none)

/-- The valid level-1 entries of a context: index and entry. -/
def State.l1Entries (s : State) (c : Nat) : List (Nat × Nat) :=
  let b := s.rd .ctxTablebase c
  (s.listedSlots b 262144).filterMap (fun i =>
    let e := s.entryAt (b + 8 * i)
    if bitAt e 0 then some (i, e) else none)

/-- The physical address of a level-2 table from its pointer. -/
def tableOf (e : Nat) : Nat := bitsAt e 12 40 * 4096

/-- Every valid leaf of a context. -/
def State.leaves (s : State) (c : Nat) : List Leaf :=
  ((s.l1Entries c).map (fun p =>
    if bitAt p.2 1 then [⟨p.1 * 2 ^ 30, 2 ^ 30, p.2⟩] else s.l2Leaves (tableOf p.2) (p.1 * 2 ^ 30))).flatten

/-- R359: the level-2 tables in use. -/
def State.l2Used (s : State) (c : Nat) : List Nat :=
  (s.l1Entries c).filterMap (fun p => if bitAt p.2 1 then none else some (tableOf p.2))

/-- R359: where the pool of level-2 tables begins, and how many it holds. -/
def State.l2Pool (s : State) (c : Nat) : Nat × Nat :=
  (s.rd .ctxTablebase c + 2 ^ 21 + 2 ^ 18, (s.rd .ctxTablesize c * 2 ^ 21 - (2 ^ 21 + 2 ^ 18)) / 4096)

/-- The first table of the pool that is not in use, from table k on. -/
def firstFreeTable (base n : Nat) (used : List Nat) : Nat → Nat → Option Nat
  | 0, _ => none
  | fuel + 1, k =>
    if k ≥ n then none
    else if used.contains (base + 4096 * k) then firstFreeTable base n used fuel (k + 1)
    else some (base + 4096 * k)

/-- Write 8-byte entries of a table in their order, as (address, entry): the first failure is the status. -/
def State.writeEntries (s : State) : List (Nat × Nat) → State × Status
  | [] => (s, .ok)
  | (pa, e) :: t =>
    match s.memWrite false pa (leBytes 8 e) with
    | (s, .ok) => s.writeEntries t
    | r => r

/-- Map one 2 MiB page, taking a level-2 table where its level-1 entry has none. -/
def State.mapSmall (s : State) (c dva e : Nat) : State × Status :=
  let p1 := s.rd .ctxTablebase c + 8 * (dva / 2 ^ 30)
  match s.nearCheck p1 8 with
  | .ok =>
    let e1 := s.entryAt p1
    if bitAt e1 0 then s.writeEntries [(tableOf e1 + 8 * (dva / 2 ^ 21 % 512), e)]
    else
      let (b, n) := s.l2Pool c
      let used := s.l2Used c
      match firstFreeTable b n used (used.length + 1) 0 with
      | none => (s, .ctxTableFull)
      | some t =>
        let (s, st) := s.writeEntries [(p1, t + 1), (t + 8 * (dva / 2 ^ 21 % 512), e)]
        (s.wr .ctxL2free c (s.rd .ctxL2free c - 1), st)
  | st => (s, st)

/-- Map one 1 GiB page. -/
def State.mapLarge (s : State) (c dva e : Nat) : State × Status :=
  s.writeEntries [(s.rd .ctxTablebase c + 8 * (dva / 2 ^ 30), e)]

/-- Invalidate one page's entry; a level-2 table left with no valid entry returns to the pool (R359). -/
def State.unmapPage (s : State) (c dva : Nat) (large : Bool) : State × Status :=
  let p1 := s.rd .ctxTablebase c + 8 * (dva / 2 ^ 30)
  let e1 := s.entryAt p1
  if large then s.writeEntries [(p1, 0)]
  else
    let t := tableOf e1
    match s.writeEntries [(t + 8 * (dva / 2 ^ 21 % 512), 0)] with
    | (s, .ok) =>
      if s.l2Leaves t 0 = [] then
        let (s, st) := s.writeEntries [(p1, 0)]
        (s.bump .ctxL2free c 1, st)
      else (s, .ok)
    | r => r

/-- Do something for each page of a command in order: the first failure is the status, and ends it. -/
def State.eachPage (s : State) (f : State → Nat → State × Status) : List Nat → State × Status
  | [] => (s, .ok)
  | k :: t =>
    match f s k with
    | (s, .ok) => s.eachPage f t
    | r => r

/-- R361: the argument words of MAP and UNMAP. -/
structure MapArgs where
  dva : Nat
  pa : Nat
  pages : Nat
  large : Bool
  read : Bool
  write : Bool
  exec : Bool
  shared : Bool
  target : Nat
  rest : Nat
  deriving DecidableEq, Repr

/-- Word i of CTX_CMDARG (R385). -/
def State.cmdArg (s : State) (c i : Nat) : Nat := bitsAt (s.rd .ctxCmdarg c) (32 * i) 32

def State.mapArgs (s : State) (c : Nat) : MapArgs :=
  let w4 := s.cmdArg c 4
  ⟨bitsAt (s.rd .ctxCmdarg c) 0 64, bitsAt (s.rd .ctxCmdarg c) 64 64, bitsAt w4 0 20, bitAt w4 20, bitAt w4 21, bitAt w4 22,
    bitAt w4 23, bitAt w4 24, bitsAt w4 25 2, bitsAt w4 27 5⟩

def MapArgs.size (a : MapArgs) : Nat := if a.large then 2 ^ 30 else 2 ^ 21
def MapArgs.bytes (a : MapArgs) : Nat := a.pages * a.size

/-- R41: the leaf entry of page k of a MAP. -/
def MapArgs.entry (a : MapArgs) (k : Nat) : Nat :=
  1 + 2 + 4 * b2n a.read + 8 * b2n a.write + 16 * b2n a.exec + 32 * b2n a.shared + 64 * a.target
    + (a.pa + k * a.size) / 4096 * 4096

/-- R288: n bytes at a CXL physical address lie within one port's capacity. -/
def State.cxlHolds (s : State) (pa n : Nat) : Bool := pa / 2 ^ 40 < 8 && pa % 2 ^ 40 + n ≤ s.cxlBytes (pa / 2 ^ 40)

/-- R361: the physical checks of a MAP of TARGET 0 or 1: each leaf in the CXL tier lies within one port's capacity (R288). -/
def State.mapPhysical (s : State) (a : MapArgs) : Status :=
  let far := a.target = 1
  if (if far then (List.range a.pages).any (fun k => !s.cxlHolds (a.pa + k * a.size) a.size) else a.pa + a.bytes > nearTop) then .memPaRange
  else if s.reserve.meets far a.pa a.bytes then .memReserved
  else if (s.tableAreas none ++ s.moduleRegions).any (fun r => r.meets far a.pa a.bytes) then .ctxMapProtected
  else .ok

/-- R479: every page of a TARGET 2 MAP lies within the register view or the doorbell view of its own context's section. -/
def mapWindow (c : Nat) (a : MapArgs) : Status :=
  let o := a.pa - c * 0x800000
  if a.large ∨ a.pa < c * 0x800000 then .ctxMapProtected
  else if o + a.bytes ≤ 0x200000 ∨ (0x400000 ≤ o ∧ o + a.bytes ≤ 0x800000) then .ok
  else .ctxMapProtected

/-- R42: every mapping of each physical page has SHARED, where another context also maps the page. -/
def State.shareOk (s : State) (c : Nat) (a : MapArgs) : Bool :=
  a.target = 2 ||
  (List.range 64).all (fun d =>
    d = c || s.rd .ctxState d = 0 ||
    (s.leaves d).all (fun l =>
      !(bitsAt l.entry 6 2 = a.target && rangesMeet (bitsAt l.entry 12 40 * 4096) l.size a.pa a.bytes)
      || (a.shared && bitAt l.entry 5)))

/-- R361: how many level-2 tables a MAP of 2 MiB pages takes. -/
def State.tablesNeeded (s : State) (c : Nat) (a : MapArgs) : Nat :=
  if a.large ∨ a.pages = 0 then 0
  else
    let lo := a.dva / 2 ^ 30
    let hi := (a.dva + a.bytes - 1) / 2 ^ 30
    ((List.range (hi + 1 - lo)).filter (fun k =>
      !bitAt (s.entryAt (s.rd .ctxTablebase c + 8 * (lo + k))) 0)).length

/-- R361: the checks of MAP, in their order. -/
def State.mapCheck (s : State) (c : Nat) (a : MapArgs) : Status :=
  if a.pages = 0 ∨ a.rest ≠ 0 then .ctxCmd
  else if a.target = 3 then .dvaTarget
  else if a.dva % a.size ≠ 0 ∨ a.pa % a.size ≠ 0 then .ctxMapAlign
  else if a.dva + a.bytes > 2 ^ 48 then .dvaNoncanonical
  else if (s.leaves c).any (fun l => rangesMeet l.dva l.size a.dva a.bytes) then .mapOverlap
  else
    match (if a.target = 2 then mapWindow c a else s.mapPhysical a) with
    | .ok =>
      if !s.shareOk c a then .shareRefused
      else if s.tablesNeeded c a > s.rd .ctxL2free c then .ctxTableFull
      else .ok
    | e => e

/-- R361: the checks of UNMAP, in their order. -/
def State.unmapCheck (s : State) (c : Nat) (a : MapArgs) : Status :=
  if a.pages = 0 ∨ a.rest ≠ 0 ∨ a.read ∨ a.write ∨ a.exec ∨ a.shared ∨ a.target ≠ 0 ∨ a.pa ≠ 0 then .ctxCmd
  else if a.dva % a.size ≠ 0 then .ctxMapAlign
  else if a.dva + a.bytes > 2 ^ 48 then .dvaNoncanonical
  else if (List.range a.pages).any (fun k =>
      !(s.leaves c).any (fun l => l.dva = a.dva + k * a.size && l.size = a.size)) then .dvaUnmapped
  else .ok

/-- Clear a range of near memory: every byte reads zero, and no granule of it is poisoned. -/
def State.clearNear (s : State) (pa n : Nat) : State :=
  { s with mem := { s.mem with near := sclear s.mem.near pa (pa + n), poison := sclear s.mem.poison (pa / 256) (ceilDiv (pa + n) 256) } }

/-! ## Clusters of a context -/

def State.cluster (s : State) (n : Nat) : Cluster := sget Cluster.idle s.clu.clusters n

def State.setCluster (s : State) (n : Nat) (c : Cluster) : State :=
  { s with clu := { s.clu with clusters := sput Cluster.idle s.clu.clusters n c } }

def State.slot (s : State) (n k : Nat) : Slot := sget Slot.empty (s.cluster n).slots k

def State.setSlot (s : State) (n k : Nat) (x : Slot) : State :=
  s.setCluster n { s.cluster n with slots := sput Slot.empty (s.cluster n).slots k x }

/-- The copy number of the slot registers of slot k of cluster n. -/
def slotIx (n k : Nat) : Nat := n * 8 + k

/-- CTX_EFFCLUSTERS (R380): the unfenced clusters in the context's mask. -/
def State.effClusters (s : State) (c : Nat) : Nat :=
  ((setBitsOf (s.rd .ctxMask c) 192).filter (fun n => !s.flag .cluFenced n)).length

/-- R380: a FIXED_LANES context's lane count is its required lanes. -/
def State.lanesOk (s : State) (c : Nat) : Bool :=
  !s.flag .ctxFixedlanes c || 256 * s.effClusters c = s.rd .ctxReqlanes c

/-- R380: after a fence or a commit of a mask, a resident FIXED_LANES context whose lane count changed away from its
required lanes has CTX_LANESOK cleared and receives an event; one whose count is restored goes on. -/
def State.lanesChanged (s : State) (c : Nat) : State :=
  if s.rd .ctxState c ≠ 2 ∨ !s.flag .ctxFixedlanes c then s
  else if s.lanesOk c then s.wr .ctxLanesok c 1
  else if s.flag .ctxLanesok c then
    (s.wr .ctxLanesok c 0).raise (ctxPage c) .lanesMismatch (some c) (256 * s.effClusters c) 0
  else s

/-- R358 to R379: is a resident slot free on every cluster? The slots in use are those of the resident contexts. -/
def State.slotOwner (s : State) (k : Nat) : Option Nat :=
  (List.range 64).find? (fun c => s.flag .ctxSlotvalid c && s.rd .ctxSlot c = k)

/-- Apply a change to every cluster's copy of a slot. -/
def State.eachCluster (s : State) (f : Nat → State → State) : State := (List.range 192).foldl (fun s n => f n s) s

/-- R363: the module takes slot k for context c on every cluster, with cleared slices. -/
def State.takeSlot (s : State) (c k : Nat) : State :=
  let s := s.eachCluster (fun n s =>
    let s := s.setSlot n k Slot.empty
    let i := slotIx n k
    ((((((s.wr .cluSlotctx i c).wr .cluSlotvalid i 1).wr .cluSlottask i 0).wr .cluSlotheld i 0).wr .cluSlotscr i
      (s.rd .ctxScrslice c)).wr .cluSlotacc i (s.rd .ctxAccslice c)))
  (s.wr .ctxSlot c k).wr .ctxSlotvalid c 1

/-- R364, R379: slot k is freed and its slices discarded on every cluster; a tile of it that still runs is stopped where
it stands. -/
def State.freeSlot (s : State) (c k : Nat) : State :=
  let s := s.eachCluster (fun n s =>
    let cl := s.cluster n
    let s := s.setCluster n { cl with
      cur := if (cl.cur.map (·.slot)) = some k then none else cl.cur
      tiles := cl.tiles.filter (fun t => t.slot ≠ k)
      slots := sdrop cl.slots k }
    let i := slotIx n k
    (((((s.wr .cluSlotctx i 0).wr .cluSlotvalid i 0).wr .cluSlottask i 0).wr .cluSlotheld i 0).wr .cluSlotscr i 0).wr
      .cluSlotacc i 0)
  (s.wr .ctxSlot c 0).wr .ctxSlotvalid c 0

/-- A context has a task in a slot of some cluster. -/
def State.hasTask (s : State) (c : Nat) : Bool :=
  (List.range 192).any (fun n => (s.cluster n).slots.any (fun p =>
    match p.2.task with
    | none => false
    | some t => t.ctx = c))

/-- A context has an entry in a deferred queue. -/
def State.hasDeferred (s : State) (c : Nat) : Bool :=
  (List.range 192).any (fun n => (s.cluster n).slots.any (fun p =>
    match p.2.task with
    | none => false
    | some t => t.ctx = c && p.2.queue ≠ []))

end Sys2Proof.Machine
end

