-- ==== Sys2Proof/Machine/MeterOps.lean ====
section
/-!
DEFINITION. The metering interface's operations (R425 to R431): instances and their counters, and MTR_STATE.
-/
namespace Sys2Proof.Machine
open Sys2Proof

def State.instance_ (s : State) (k : Nat) : MeterInstance := sget MeterInstance.fresh s.meter.open_ k

def State.setInstance (s : State) (k : Nat) (x : MeterInstance) : State :=
  { s with meter := { s.meter with open_ := sput MeterInstance.fresh s.meter.open_ k x } }

/-- R428: counters 3 to 6 and 8 to 10 are kept in units of 2^20. -/
def meterUnits (i : Nat) : Bool := (3 ≤ i && i ≤ 6) || (8 ≤ i && i ≤ 10)

/-- R428: add an amount to counter i of an instance: whole units to the counter, the rest kept; true where the counter would
pass 2^64 - 1 and is held there. -/
def MeterInstance.add (x : MeterInstance) (i n : Nat) : MeterInstance × Bool :=
  let total := if meterUnits i then sget 0 x.rems i + n else n
  let units := if meterUnits i then total / 2 ^ 20 else total
  let rem := if meterUnits i then total % 2 ^ 20 else 0
  let v := sget 0 x.counts i + units
  ({ x with counts := sput 0 x.counts i (min v (2 ^ 64 - 1)), rems := sput 0 x.rems i rem }, v > 2 ^ 64 - 1)

/-- Add to counter i of the instance at key k; a capped counter raises MTR_COUNTER_CAP. -/
def State.meterAt (s : State) (k i n : Nat) : State :=
  let (x, cap) := (s.instance_ k).add i n
  let s := s.setInstance k x
  if cap then s.raise0 0x438 .mtrCounterCap k i else s

/-- R427, R428: work of a context: added to its own instance, and to the aggregate where the context is not METERED. -/
def State.meterAdd (s : State) (c i n : Nat) : State :=
  if s.rd .mtrInstance c = 0 then s
  else
    let s := s.meterAt c i n
    if s.flag .mtrMetered c then s else s.meterAt 64 i n

/-- R429: recovery work: the armed context while FH_STATE is RESTORE or REPLAY. -/
def State.recovering (s : State) (c : Nat) : Bool :=
  s.flag .fhArm 0 && s.rd .fhArmctx 0 = c && (s.rd .fhState 0 = 4 || s.rd .fhState 0 = 5)

/-- R428, R429: the MAC-equivalents of a completed tile of a context at a matrix rate. -/
def State.meterMacs (s : State) (c rate macs : Nat) : State :=
  let base := if rate = 16384 then 3 else if rate = 8192 then 4 else 5
  s.meterAdd c (if s.recovering c then base + 5 else base) macs

/-- R428, R429: the lane-cycles of a completed VECTOR tile; none while the context recovers. -/
def State.meterVector (s : State) (c cycles : Nat) : State :=
  if s.recovering c then s else s.meterAdd c 6 (cycles * 256)

/-- R427: a CREATE opens an instance. -/
def State.meterOpen (s : State) (c : Nat) (metered : Bool) : State :=
  let n := s.rd .mtrInstnext 0
  let s := s.setInstance c ⟨n, metered, [], []⟩
  ((s.wr .mtrInstance c n).wr .mtrMetered c (b2n metered)).wr .mtrInstnext 0 (n + 1)

/-- R427, R431: a context's reset closes its instance; a METERED one enters its tail. -/
def State.meterClose (s : State) (c : Nat) : State :=
  if s.rd .mtrInstance c = 0 then s
  else
    let x := s.instance_ c
    let tail : MeterTail := ⟨c, x, s.now⟩
    let s : State := if x.metered then { s with meter := { s.meter with tails := s.meter.tails ++ [tail] } } else s
    let s := s.wr .mtrTail 0 (min 64 s.meter.tails.length)
    ((s.setInstance c MeterInstance.fresh).wr .mtrInstance c 0).wr .mtrMetered c 0 |>.wr .mtrLearnpend c 0

/-- Do METERED contexts exist? -/
def State.anyMetered (s : State) : Bool :=
  (List.range 64).any (fun c => s.rd .ctxState c ≠ 0 && s.flag .ctxMetered c)

/-- R425, R426: MTR_STATE changes: MTR_VALIDCHG counts it, leaving VALID with METERED contexts raises MTR_INVALID, and a return to
VALID after that raises MTR_RESTORED. -/
def State.setMtrState (s : State) (v : Nat) : State :=
  let old := s.rd .mtrState 0
  if old = v then s
  else
    let s := (s.wr .mtrState 0 v).bump .mtrValidchg 0 1
    if old = 2 ∧ s.anyMetered then
      { s.raise0 0x438 .mtrInvalid 0 0 with meter := { s.meter with invalid := true } }
    else if v = 2 ∧ s.meter.invalid then
      { s.raise0 0x438 .mtrRestored 0 0 with meter := { s.meter with invalid := false } }
    else s

/-! ## The cartridge's log (R434) -/

/-- R434: append an entry to the event log; kinds 7 and 8 also enter the metrological log of 32 entries. -/
def Cartridge.logEvent (c : Cartridge) (kind : Nat) (detail : List Byte) : Cartridge :=
  let n := c.newestLog + 1
  let e := leBytes 8 n ++ leBytes 8 c.clock ++ leBytes 1 kind ++ zeros 7 ++ (detail ++ zeros 40).take 40
  { c with
    log := sput [] (if n > 8192 then sdrop c.log (n - 8192) else c.log) n e
    newestLog := n
    metroLog := if kind = 7 ∨ kind = 8 then (c.metroLog ++ [e]).take 32 else c.metroLog }

/-- R434: the cartridge in its socket logs that power has come (kind 1) or gone (kind 2), with its energy register. -/
def State.cartPower (s : State) (kind : Nat) : State :=
  if s.cart.present then { s with cart := { s.cart.logEvent kind (leBytes 8 s.cart.energy) with intervalValid := false } } else s

/-! ## CRC-32C -/

/-- One bit step of the reflected CRC-32C register. -/
def crcBit (r : BitVec 32) : BitVec 32 :=
  if r.getLsbD 0 then (r >>> 1) ^^^ 0x82F63B78#32 else r >>> 1

/-- One byte into the CRC-32C register. -/
def crcByte (r : BitVec 32) (b : Byte) : BitVec 32 :=
  crcBit (crcBit (crcBit (crcBit (crcBit (crcBit (crcBit (crcBit (r ^^^ b.zeroExtend 32))))))))

/-- CRC-32C (Castagnoli) of a byte list. -/
def crc32c (bs : List Byte) : Nat := ((bs.foldl crcByte 0xFFFFFFFF#32) ^^^ 0xFFFFFFFF#32).toNat

end Sys2Proof.Machine
end

