-- ==== Sys2Proof/Machine/Float.lean ====
section
/-!
DEFINITION. Floating-point numbers and their arithmetic, exact and rounded: IEEE 754-2019 on the encodings of R47, computed on
integers so that every corner is explicit. A finite number is a sign, a magnitude m and an exponent e: m * 2^e.
-/
namespace Sys2Proof.Machine

/-- A number of a floating-point format, decoded: NaN, an infinity, or (-1)^neg * m * 2^e. -/
inductive Fp where
  | nan
  | inf (neg : Bool)
  | fin (neg : Bool) (m : Nat) (e : Int)
  deriving DecidableEq, Repr

/-- R47: an encoding: exponent bits, mantissa bits, bias, and its special codes: 0 infinities and NaNs at the top exponent, 1 a
NaN at all ones only (E4M3), 2 none. -/
structure FpFormat where
  ebits : Nat
  mbits : Nat
  bias : Int
  special : Nat
  deriving DecidableEq, Repr

def fp32 : FpFormat := ⟨8, 23, 127, 0⟩
def fp64 : FpFormat := ⟨11, 52, 1023, 0⟩
def bf16 : FpFormat := ⟨8, 7, 127, 0⟩
def fp16 : FpFormat := ⟨5, 10, 15, 0⟩
def e4m3 : FpFormat := ⟨4, 3, 7, 1⟩
def e5m2 : FpFormat := ⟨5, 2, 15, 0⟩
def e3m2 : FpFormat := ⟨3, 2, 3, 2⟩
def e2m3 : FpFormat := ⟨2, 3, 1, 2⟩
def e2m1 : FpFormat := ⟨2, 1, 1, 2⟩

/-- The bits of an element of a format. -/
def FpFormat.width (f : FpFormat) : Nat := 1 + f.ebits + f.mbits

/-- The exponent of the lowest mantissa bit of a subnormal. -/
def FpFormat.emin (f : FpFormat) : Int := 1 - f.bias - f.mbits

/-- The greatest exponent code that a finite number may have. -/
def FpFormat.topExp (f : FpFormat) : Nat := if f.special = 0 then 2 ^ f.ebits - 2 else 2 ^ f.ebits - 1

/-- The mantissa code of the largest finite number. -/
def FpFormat.topMant (f : FpFormat) : Nat := if f.special = 1 then 2 ^ f.mbits - 2 else 2 ^ f.mbits - 1

/-- The code of the largest finite magnitude (R47). -/
def FpFormat.maxCode (f : FpFormat) : Nat := f.topExp * 2 ^ f.mbits + f.topMant

/-- The canonical NaN of a format (R74); 0 where the format has none. -/
def FpFormat.nanCode (f : FpFormat) : Nat :=
  if f.special = 0 then (2 ^ f.ebits - 1) * 2 ^ f.mbits + 2 ^ (f.mbits - 1)
  else if f.special = 1 then 2 ^ (f.ebits + f.mbits) - 1 else 0

/-- The code of an infinity. -/
def FpFormat.infCode (f : FpFormat) (neg : Bool) : Nat :=
  b2n neg * 2 ^ (f.ebits + f.mbits) + (2 ^ f.ebits - 1) * 2 ^ f.mbits

/-- R47: decode an element. -/
def FpFormat.decode (f : FpFormat) (c : Nat) : Fp :=
  let neg := bitAt c (f.ebits + f.mbits)
  let e := bitsAt c f.mbits f.ebits
  let m := bitsAt c 0 f.mbits
  if f.special = 0 ∧ e = 2 ^ f.ebits - 1 then (if m = 0 then .inf neg else .nan)
  else if f.special = 1 ∧ e = 2 ^ f.ebits - 1 ∧ m = 2 ^ f.mbits - 1 then .nan
  else if e = 0 then .fin neg m f.emin
  else .fin neg (2 ^ f.mbits + m) ((e : Int) - f.bias - f.mbits)

/-- The number of bits of a magnitude. -/
def bitLen (m : Nat) : Nat := if m = 0 then 0 else Nat.log2 m + 1

/-- How a magnitude is rounded: to nearest even (R71), stochastically with a 16-bit random integer (R72), or upward. -/
inductive Rounding where
  | rne
  | sr (r : Nat)
  | up
  deriving DecidableEq, Repr

/-- Round m / 2^sh to an integer. -/
def roundShift (mode : Rounding) (m sh : Nat) : Nat :=
  let q := m / 2 ^ sh
  let rem := m % 2 ^ sh
  if rem = 0 then q
  else
    match mode with
    | .rne => if 2 * rem > 2 ^ sh ∨ (2 * rem = 2 ^ sh ∧ q % 2 = 1) then q + 1 else q
    | .sr r => if r < rem * 2 ^ 16 / 2 ^ sh then q + 1 else q
    | .up => q + 1

/-- Round a magnitude m * 2^e to the grid of a format with its exponent range unbounded above: mantissa and exponent. -/
def FpFormat.grid (f : FpFormat) (mode : Rounding) (m : Nat) (e : Int) : Nat × Int :=
  if m = 0 then (0, f.emin)
  else
    let x := max (e + bitLen m - (f.mbits + 1 : Nat)) f.emin
    if x ≤ e then (m * 2 ^ (e - x).toNat, x)
    else (roundShift mode m (x - e).toNat, x)

/-- The exponent and mantissa code of a grid magnitude, which may lie above the format's range. -/
def FpFormat.magCode (f : FpFormat) (q : Nat) (x : Int) : Nat :=
  if q < 2 ^ f.mbits then q
  else if q = 2 ^ (f.mbits + 1) then ((x + 1 - f.emin).toNat + 1) * 2 ^ f.mbits
  else ((x - f.emin).toNat + 1) * 2 ^ f.mbits + (q - 2 ^ f.mbits)

/-- Encode a grid magnitude: its code without sign, and whether it exceeds the largest finite magnitude. -/
def FpFormat.roundMag (f : FpFormat) (mode : Rounding) (m : Nat) (e : Int) : Nat × Bool :=
  let (q, x) := f.grid mode m e
  let c := f.magCode q x
  (c, c > f.maxCode)

/-- IEEE rounding to nearest even into a format with infinities. -/
def FpFormat.encode (f : FpFormat) : Fp → Nat
  | .nan => f.nanCode
  | .inf neg => f.infCode neg
  | .fin neg m e =>
    let (c, overflow) := f.roundMag .rne m e
    if overflow then f.infCode neg else b2n neg * 2 ^ (f.ebits + f.mbits) + c

/-! ## Exact arithmetic -/

/-- Is the number negative (a NaN is not)? -/
def Fp.neg : Fp → Bool
  | .nan => false
  | .inf n => n
  | .fin n _ _ => n

def Fp.isNan : Fp → Bool
  | .nan => true
  | _ => false

def Fp.isInf : Fp → Bool
  | .inf _ => true
  | _ => false

/-- NaN or an infinity. -/
def Fp.nonFinite (x : Fp) : Bool := x.isNan || x.isInf

def Fp.isZero : Fp → Bool
  | .fin _ m _ => m = 0
  | _ => false

/-- The number with its sign changed. -/
def Fp.opp : Fp → Fp
  | .nan => .nan
  | .inf n => .inf (!n)
  | .fin n m e => .fin (!n) m e

/-- The magnitude. -/
def Fp.abs : Fp → Fp
  | .nan => .nan
  | .inf _ => .inf false
  | .fin _ m e => .fin false m e

/-- A finite number as an integer multiple of 2^e, for e at most its exponent. -/
def Fp.toIntAt (e : Int) : Fp → Int
  | .fin n m x => (if n then -1 else 1) * ((m * 2 ^ (x - e).toNat : Nat) : Int)
  | _ => 0

/-- The exponent of a finite number; 0 for the others. -/
def Fp.expo : Fp → Int
  | .fin _ _ e => e
  | _ => 0

/-- The number v * 2^e, where a zero takes the sign given. -/
def Fp.ofInt (v : Int) (e : Int) (zeroNeg : Bool) : Fp :=
  if v = 0 then .fin zeroNeg 0 e else .fin (v < 0) v.natAbs e

/-- R61: the exact product. -/
def Fp.mul : Fp → Fp → Fp
  | .nan, _ => .nan
  | _, .nan => .nan
  | .inf a, .inf b => .inf (a != b)
  | .inf a, .fin b m _ => if m = 0 then .nan else .inf (a != b)
  | .fin a m _, .inf b => if m = 0 then .nan else .inf (a != b)
  | .fin a m e, .fin b n x => .fin (a != b) (m * n) (e + x)

/-- R61: the exact sum of a list: NaN for a NaN or infinities of both signs; a zero sum is +0 unless every term is -0. -/
def Fp.sum (l : List Fp) : Fp :=
  if l.any Fp.isNan then .nan
  else
    let pos := l.any (fun x => x.isInf && !x.neg)
    let neg := l.any (fun x => x.isInf && x.neg)
    if pos && neg then .nan
    else if pos then .inf false
    else if neg then .inf true
    else
      let e := l.foldl (fun e x => min e x.expo) 0
      let v := l.foldl (fun v x => v + x.toIntAt e) 0
      Fp.ofInt v e (!l.isEmpty && l.all (fun x => x.isZero && x.neg))

/-- The exact sum of two numbers, with IEEE signs of zero under round to nearest. -/
def Fp.add (a b : Fp) : Fp := Fp.sum [a, b]

/-- A quotient with enough bits to be rounded once to any format of at most 53 mantissa bits. -/
def Fp.div : Fp → Fp → Fp
  | .nan, _ => .nan
  | _, .nan => .nan
  | .inf _, .inf _ => .nan
  | .inf a, .fin b _ _ => .inf (a != b)
  | .fin a _ e, .inf b => .fin (a != b) 0 e
  | .fin a m e, .fin b n x =>
    if n = 0 then (if m = 0 then .nan else .inf (a != b))
    else
      let k := 64 + bitLen n
      let q := m * 2 ^ k / n
      let s := if m * 2 ^ k % n = 0 then 0 else 1
      .fin (a != b) (2 * q + s) (e - x - k - 1)

/-- The integer square root by bits: the greatest r with r * r ≤ n, searching from bit b downward. -/
def isqrtFrom (n : Nat) : Nat → Nat → Nat
  | 0, r => r
  | b + 1, r => let t := r + 2 ^ b; if t * t ≤ n then isqrtFrom n b t else isqrtFrom n b r

/-- The integer square root. -/
def isqrt (n : Nat) : Nat := isqrtFrom n (bitLen n / 2 + 1) 0

/-- A square root with enough bits to be rounded once. -/
def Fp.sqrt : Fp → Fp
  | .nan => .nan
  | .inf n => if n then .nan else .inf false
  | .fin n m e =>
    if m = 0 then .fin n 0 e
    else if n then .nan
    else
      let m' := if e % 2 = 0 then m else 2 * m
      let e' := if e % 2 = 0 then e else e - 1
      let w := m' * 2 ^ 140
      let r := isqrt w
      let s := if r * r = w then 0 else 1
      .fin false (2 * r + s) (e' / 2 - 70 - 1)

/-- Does a come before b in value? False where either is NaN; zeros are equal. -/
def Fp.lt : Fp → Fp → Bool
  | .nan, _ => false
  | _, .nan => false
  | .inf a, .inf b => a && !b
  | .inf a, .fin _ _ _ => a
  | .fin _ _ _, .inf b => !b
  | .fin a m e, .fin b n x =>
    let k := min e x
    (Fp.fin a m e).toIntAt k < (Fp.fin b n x).toIntAt k

/-- a ≤ b; false where either is NaN. -/
def Fp.le (a b : Fp) : Bool := !a.isNan && !b.isNan && !(b.lt a)

/-- The greater of two numbers, the first where they are equal; a NaN loses. -/
def Fp.max (a b : Fp) : Fp := if a.isNan then b else if b.isNan then a else if a.lt b then b else a

/-! ## FP32 operations on codes, each rounded to nearest even -/

def f32 (c : Nat) : Fp := fp32.decode c
def f32Nan : Nat := 0x7FC00000
def f32One : Nat := 0x3F800000
/-- The code of an FP32 result. -/
def toF32 (x : Fp) : Nat := fp32.encode x
def f32Add (a b : Nat) : Nat := toF32 (Fp.add (f32 a) (f32 b))
def f32Sub (a b : Nat) : Nat := toF32 (Fp.add (f32 a) (f32 b).opp)
def f32Mul (a b : Nat) : Nat := toF32 (Fp.mul (f32 a) (f32 b))
def f32Div (a b : Nat) : Nat := toF32 (Fp.div (f32 a) (f32 b))
def f32Sqrt (a : Nat) : Nat := toF32 (Fp.sqrt (f32 a))
def f32Neg (a : Nat) : Nat := toF32 (f32 a).opp
def f32Lt (a b : Nat) : Bool := (f32 a).lt (f32 b)
def f32IsNan (a : Nat) : Bool := (f32 a).isNan
def f32Finite (a : Nat) : Bool := !(f32 a).nonFinite
/-- R50: a positive normal value. -/
def f32PosNormal (a : Nat) : Bool := !bitAt a 31 && bitsAt a 23 8 ≠ 0 && bitsAt a 23 8 ≠ 255
/-- The FP32 code of a natural number, rounded to nearest even. -/
def f32OfNat (n : Nat) : Nat := toF32 (.fin false n 0)
/-- The FP32 code of an integer, rounded to nearest even. -/
def f32OfInt (v : Int) : Nat := toF32 (Fp.ofInt v 0 false)
/-- The larger of two FP32 codes; a NaN loses. -/
def f32Max (a b : Nat) : Nat := if f32IsNan a then b else if f32IsNan b then a else if f32Lt a b then b else a

end Sys2Proof.Machine
end

