-- ==== Sys2Proof/Machine/Operands.lean ====
section
/-!
DEFINITION. The format codes of R56, their elements, packing and scales (R47 to R54), the operand classes of the matrix unit
(R57 to R59), and the conversion between formats (R70 to R76).
-/
namespace Sys2Proof.Machine

/-- An element encoding: floating point (R47), or an integer of w bits read with the implicit factor 2^ex (R48; 0 but for
MXINT8, which has -6). -/
inductive Elem where
  | fp (f : FpFormat)
  | int (w : Nat) (signed : Bool) (ex : Int)
  deriving DecidableEq, Repr

/-- R50: what scales a format carries besides a tensor's coarse scale. -/
inductive ScaleKind where
  | none
  | mx
  | kb
  deriving DecidableEq, Repr

/-- A row of the table of R56: the element, its scales and the matrix rate (0: not an operand). -/
structure FmtInfo where
  elem : Elem
  scale : ScaleKind
  rate : Nat
  deriving DecidableEq, Repr

/-- R56: the format codes. Reserved codes and ABSENT (0x1F) have no entry. -/
def fmtInfo : Nat → Option FmtInfo
  | 0x00 => some ⟨.fp fp32, .none, 0⟩
  | 0x01 => some ⟨.fp bf16, .none, 4096⟩
  | 0x02 => some ⟨.fp fp16, .none, 4096⟩
  | 0x03 => some ⟨.fp e4m3, .none, 8192⟩
  | 0x04 => some ⟨.fp e5m2, .none, 8192⟩
  | 0x05 => some ⟨.fp e3m2, .none, 8192⟩
  | 0x06 => some ⟨.fp e2m3, .none, 8192⟩
  | 0x07 => some ⟨.fp e2m1, .none, 16384⟩
  | 0x08 => some ⟨.int 8 true 0, .none, 8192⟩
  | 0x09 => some ⟨.int 8 false 0, .none, 8192⟩
  | 0x0A => some ⟨.int 4 true 0, .none, 16384⟩
  | 0x0B => some ⟨.int 4 false 0, .none, 16384⟩
  | 0x0C => some ⟨.int 32 true 0, .none, 0⟩
  | 0x10 => some ⟨.fp e4m3, .mx, 8192⟩
  | 0x11 => some ⟨.fp e5m2, .mx, 8192⟩
  | 0x12 => some ⟨.fp e3m2, .mx, 8192⟩
  | 0x13 => some ⟨.fp e2m3, .mx, 8192⟩
  | 0x14 => some ⟨.fp e2m1, .mx, 16384⟩
  | 0x15 => some ⟨.int 8 true (-6), .mx, 8192⟩
  | 0x16 => some ⟨.fp e4m3, .kb, 8192⟩
  | 0x17 => some ⟨.fp e2m3, .kb, 8192⟩
  | 0x18 => some ⟨.fp e2m1, .kb, 16384⟩
  | _ => none

/-- R56: the code of an absent tensor. -/
def fmtAbsent : Nat := 0x1F

/-- R57: a code that is neither in the table nor ABSENT is reserved. -/
def fmtReserved (c : Nat) : Bool := c ≠ fmtAbsent && (fmtInfo c).isNone

/-- The bits of an element. -/
def Elem.width : Elem → Nat
  | .fp f => f.width
  | .int w _ _ => w

/-- R47, R48: the value of an element's code. -/
def Elem.value (e : Elem) (c : Nat) : Fp :=
  match e with
  | .fp f => f.decode c
  | .int w true ex => Fp.ofInt (toSigned c w) ex false
  | .int w false ex => .fin false (c % 2 ^ w) ex

/-- R58: integer class. -/
def fmtIsInt (c : Nat) : Bool := 0x08 ≤ c && c ≤ 0x0B

/-- The block size of a scaled format: 16 for KB, 32 for MX, 1 for others (R51 to R53). -/
def ScaleKind.block : ScaleKind → Nat
  | .none => 1
  | .mx => 32
  | .kb => 16

/-- The bits of a format's element, 0 for a code without an entry. -/
def fmtBits (c : Nat) : Nat :=
  match fmtInfo c with
  | none => 0
  | some i => i.elem.width

/-- The scale kind of a format code. -/
def fmtScale (c : Nat) : ScaleKind :=
  match fmtInfo c with
  | none => .none
  | some i => i.scale

/-- R49: element k of a packed row, given as the little-endian number its bytes spell. Elements of 4 and 6 bits follow one
another without gaps, so element k of w bits lies at bit w * k. -/
def packedAt (row w k : Nat) : Nat := bitsAt row (w * k) w

/-- R49: pack elements of w bits into a row's number. -/
def packRow (w : Nat) : List Nat → Nat
  | [] => 0
  | c :: t => c % 2 ^ w + 2 ^ w * packRow w t

/-- R49: the bytes of n elements of w bits. -/
def packedBytes (w n : Nat) : Nat := (w * n + 7) / 8

/-- R50: the value of a UE4M3 byte: NaN for 0x7F and for a byte with bit 7 set. -/
def ue4m3Value (c : Nat) : Fp := if c ≥ 0x7F then .nan else e4m3.decode c

/-- R50: the value of an E8M0 byte: NaN for 0xFF. -/
def e8m0Value (c : Nat) : Fp := if c = 0xFF then .nan else .fin false 1 ((c : Int) - 127)

/-- The value of a block's scale byte; 1 for a format without scales. -/
def ScaleKind.value (k : ScaleKind) (c : Nat) : Fp :=
  match k with
  | .none => .fin false 1 0
  | .mx => e8m0Value c
  | .kb => ue4m3Value c

/-- R60, R54: an element as it enters a product: under a zero scale a zero with the element's own sign, under a NaN scale
NaN. -/
def scaledElem (e : Elem) (scale : Fp) (c : Nat) : Fp :=
  if scale.isNan then .nan
  else if scale.isZero then
    match e with
    | .fp f => .fin (bitAt c (f.ebits + f.mbits)) 0 0
    | .int w _ _ => .fin (toSigned c w < 0) 0 0
  else e.value c

/-- R54: the FP32 code of a block-scaled or plain element: KB elements as (f * e) * S rounded once, MX elements as X * e, a
value beyond the FP32 range becoming infinity. -/
def decodeElem (fmt c scale coarse : Nat) : Nat :=
  match fmtInfo fmt with
  | none => 0
  | some i =>
    let sv := i.scale.value scale
    let v := scaledElem i.elem sv c
    match i.scale with
    | .none => toF32 v
    | .mx => toF32 (if sv.isZero ∨ sv.isNan then v else v.mul sv)
    | .kb => toF32 ((if sv.isZero ∨ sv.isNan then v else v.mul sv).mul (f32 coarse))

/-! ## Conversion (R70 to R76) -/

/-- What a conversion of one element gives: its code, whether it is clipped (R78), and NARROW_NONFINITE (R74). -/
structure Conv where
  code : Nat
  clipped : Bool
  narrow : Bool
  deriving DecidableEq, Repr

/-- The least and greatest integer of an integer element. -/
def intLimits (w : Nat) (signed : Bool) : Int × Int :=
  if signed then (-(2 ^ (w - 1) : Nat), (2 ^ (w - 1) : Nat) - 1) else (0, (2 ^ w : Nat) - 1)

/-- Round a magnitude m * 2^e to an integer. -/
def roundInt (mode : Rounding) (m : Nat) (e : Int) : Nat :=
  if e ≥ 0 then m * 2 ^ e.toNat else roundShift mode m (-e).toNat

/-- R71 to R74: convert a number to an element encoding. `prop` is the context's overflow mode PROPAGATE; `unscaled` is false
for the elements of KB and MX blocks, which saturate in either mode and never raise NARROW_NONFINITE. -/
def Elem.convert (el : Elem) (mode : Rounding) (prop unscaled : Bool) (v : Fp) : Conv :=
  match el with
  | .fp f =>
    let sign (n : Bool) : Nat := b2n n * 2 ^ (f.ebits + f.mbits)
    match v with
    | .nan => if f.special = 2 then ⟨0, false, unscaled⟩ else ⟨f.nanCode, false, false⟩
    | .inf n =>
      if prop ∧ unscaled ∧ f.special = 0 then ⟨f.infCode n, false, false⟩
      else if prop ∧ unscaled ∧ f.special = 1 then ⟨f.nanCode, false, false⟩
      else ⟨sign n + f.maxCode, true, unscaled && f.special = 2⟩
    | .fin n m e =>
      let clipped := (f.roundMag .rne m e).2
      let (c, overflow) := f.roundMag mode m e
      if overflow then
        if f.special = 0 ∧ prop ∧ unscaled then ⟨f.infCode n, clipped, false⟩
        else ⟨sign n + f.maxCode, clipped, false⟩
      else ⟨sign n + c, clipped, false⟩
  | .int w sg ex =>
    let (lo, hi) := intLimits w sg
    let clamp (x : Int) : Int := if x < lo then lo else if x > hi then hi else x
    match v with
    | .nan => ⟨0, false, unscaled⟩
    | .inf n => ⟨ofSigned (if n then lo else hi) w, true, unscaled⟩
    | .fin n m e =>
      let sgn (q : Nat) : Int := if n then -(q : Int) else q
      let near := sgn (roundInt .rne m (e - ex))
      let x := sgn (roundInt mode m (e - ex))
      ⟨ofSigned (clamp x) w, near < lo || near > hi, false⟩

/-- R75: the largest magnitude of a KB element, as FP32: 448, 7.5 or 6. -/
def kbEmax (f : FpFormat) : Nat := toF32 (f.decode f.maxCode)

/-- R76: the exponent of the largest normal of an MX element. -/
def mxEmax : Elem → Int
  | .fp f => (f.topExp : Int) - f.bias
  | .int _ _ _ => 0

/-- The greatest magnitude among FP32 codes, NaN left out: an FP32 code. -/
def amaxF32 (l : List Nat) : Nat := l.foldl (fun a c => f32Max a (toF32 (f32 c).abs)) 0

/-- R75 steps 2 to 4: the fine scale of a KB block from its greatest magnitude: the UE4M3 byte, and SCALE_CAPPED. -/
def kbScale (f : FpFormat) (coarse ab : Nat) : Nat × Bool :=
  if (f32 ab).isZero then (0, false)
  else
    let q := f32Div ab (f32Mul coarse (kbEmax f))
    match f32 q with
    | .fin _ m e =>
      let c := max 1 (e4m3.roundMag .up m e).1
      if c > 0x7E then (0x7E, true) else (c, false)
    | _ => (0x7E, true)

/-- R76: the scale of an MX block from its greatest magnitude: 2^(floor(log2 a) - e_max), its exponent bounded. -/
def mxScale (el : Elem) (ab : Nat) : Nat :=
  match f32 ab with
  | .fin _ m e =>
    if m = 0 then 0
    else
      let k := e + (Nat.log2 m : Nat) - mxEmax el
      ((if k < -127 then -127 else if k > 127 then 127 else k) + 127).toNat
  | _ => 0xFE

/-- A converted block: its element codes with their flags, its scale byte, and SCALE_CAPPED. -/
structure BlockConv where
  elems : List Conv
  scale : Nat
  capped : Bool
  deriving DecidableEq, Repr

/-- R74 to R76: convert one block of FP32 codes to a scaled format, each with its rounding. An infinity under SATURATE makes the greatest magnitude of
the block infinite, so a KB scale is capped. -/
def convertBlock (el : Elem) (k : ScaleKind) (coarse : Nat) (prop : Bool) (ys : List (Nat × Rounding)) : BlockConv :=
  let vs := ys.map (fun y => f32 y.1)
  let hasInf := vs.any Fp.isInf
  if vs.any Fp.isNan || (hasInf && prop) then
    ⟨ys.map (fun _ => ⟨0, false, false⟩), if k = .kb then 0x7F else 0xFF, false⟩
  else
    let ab := amaxF32 ((ys.map (·.1)).filter f32Finite)
    let (sc, capped) :=
      match k, el with
      | .kb, .fp f => if hasInf then (0x7E, true) else kbScale f coarse ab
      | _, _ => (if hasInf then 0xFE else mxScale el ab, false)
    let quot (v : Fp) : Fp :=
      if v.isInf then v
      else if k = .kb then
        let d := (ue4m3Value sc).mul (f32 coarse)
        if d.isZero then .fin v.neg 0 0 else f32 (toF32 (v.div d))
      else
        match v with
        | .fin n m e => .fin n m (e - ((sc : Int) - 127))
        | v => v
    ⟨ys.map (fun y => el.convert y.2 prop false (quot (f32 y.1))), sc, capped⟩

/-- R70: convert an FP32 code to an unscaled format code. -/
def convertPlain (fmt : Nat) (mode : Rounding) (prop : Bool) (y : Nat) : Conv :=
  match fmtInfo fmt with
  | none => ⟨0, false, false⟩
  | some i => i.elem.convert mode prop true (f32 y)

/-- R74: formats that cannot carry a non-finite value: unscaled FP6, FP4 and every integer. -/
def fmtNarrow (c : Nat) : Bool := (0x05 ≤ c && c ≤ 0x0C)

end Sys2Proof.Machine
end

