-- ==== Sys2Proof/Machine/KvOps.lean ====
section
/-!
DEFINITION. Key-value pages (R173 to R200): pools, metadata records, page lists, references, prefix handles, copies, and vectors in a
page's format.
-/
namespace Sys2Proof.Machine
open Sys2Proof

/-! ## Pages and metadata (R173, R178, R179) -/

/-- R173: the first far page ID. -/
def farFirst : Nat := 4194304

/-- A page of the far pool. -/
def pageFar (p : Nat) : Bool := farFirst ≤ p

/-- R173: an ID inside the configured ranges. -/
def State.pageKnown (s : State) (p : Nat) : Bool :=
  if pageFar p then p - farFirst < s.rd .kvFarpages 0 else p < s.rd .kvNearpages 0

/-- R173: the physical address of a page's data area, and of its metadata record. -/
def State.pageData (s : State) (p : Nat) : Nat :=
  if pageFar p then s.rd .kvFarbase 0 + (p - farFirst) * 65536 else s.rd .kvNearbase 0 + p * 65536
def State.pageMeta (s : State) (p : Nat) : Nat :=
  if pageFar p then s.rd .kvFarmetabase 0 + (p - farFirst) * 2048 else s.rd .kvMetabase 0 + p * 2048

/-- The byte store a page lies in. -/
def State.pageMem (s : State) (p : Nat) : Sparse Byte := if pageFar p then s.mem.far else s.mem.near

/-- n bytes at offset o of a metadata record, as a number. The spec does not say what the allocator takes where the record does not read: it is a
free value (log entry 102). -/
def State.kmGet (s : State) (p o n : Nat) : Nat :=
  (s.ownRead (pageFar p) (s.pageMeta p + o) n).getD ((Config.unread (s.pageMeta p + o)).toNat % 2 ^ (8 * n))

/-- Write bytes of the module's own at a place of a page's memory, as any write (R277, R281, R286): what fails is discarded. -/
def State.pageStore (s : State) (p a : Nat) (bs : List Byte) : State := stateOf (s.memWrite (pageFar p) a bs)

/-- Write n bytes at offset o of a metadata record. -/
def State.kmSet (s : State) (p o n v : Nat) : State := s.pageStore p (s.pageMeta p + o) (leBytes n v)

def State.kmRef (s : State) (p : Nat) : Nat := s.kmGet p 0 4
def State.kmPin (s : State) (p : Nat) : Nat := s.kmGet p 4 4
def State.kmTag (s : State) (p : Nat) : Nat := s.kmGet p 8 2
def State.kmFmt (s : State) (p : Nat) : Nat := s.kmGet p 10 1 % 32
def State.kmKind (s : State) (p : Nat) : Nat := s.kmGet p 10 1 / 32
def State.kmCtx (s : State) (p : Nat) : Nat := s.kmGet p 11 1 % 64
def State.kmCowsrc (s : State) (p : Nat) : Nat := s.kmGet p 16 4 % 2 ^ 27
def State.kmCowtag (s : State) (p : Nat) : Nat := s.kmGet p 20 2
def State.kmSeq (s : State) (p : Nat) : Nat := s.kmGet p 32 4

/-- R199: is the page lost? -/
def State.pageLost (s : State) (p : Nat) : Bool := sget false s.kv.lost p

/-- R199, R202: a page becomes lost: withheld from its pool, and counted; a FREE page is no longer among those free. -/
def State.losePage (s : State) (p : Nat) : State :=
  if s.pageLost p then s
  else
    let free := if pageFar p then Reg.kvFarfree else .kvNearfree
    let s := if s.kmKind p = 0 ∧ !s.kv.farDue.contains p then s.wr free 0 (s.rd free 0 - 1) else s
    { s with kv := { s.kv with lost := sput false s.kv.lost p true } }.bump .kvLostpages 0 1

/-! ## The pools (R173, R190, R202) -/

/-- Pages of a pool that an allocation cannot take, in rising order: not FREE, pinned, lost, or due
for release after a context's reset (R379). -/
def State.poolTaken (s : State) (far : Bool) : List Nat :=
  let base := if far then s.rd .kvFarmetabase 0 else s.rd .kvMetabase 0
  let n := if far then s.rd .kvFarpages 0 else s.rd .kvNearpages 0
  let first := if far then farFirst else 0
  let listed := (((if far then s.mem.far else s.mem.near).filter (fun q => base ≤ q.1 && q.1 < base + 2048 * n)).map
    (fun q => first + (q.1 - base) / 2048)).eraseDups
  let used := listed.filter (fun p => !s.pageLost p && (s.kmKind p ≠ 0 || s.kmPin p ≠ 0))
  let lost := (s.kv.lost.map (·.1)).filter (fun p => pageFar p == far && s.pageKnown p)
  let due := if far then s.kv.farDue.filter (fun p => !s.pageLost p) else []
  (used ++ lost ++ due).mergeSort (· ≤ ·)

/-- The k-th free page of a pool that begins at `first`, counted from 0. -/
def kthFree (taken : List Nat) (first k : Nat) : Nat := taken.foldl (fun c t => if t ≤ c then c + 1 else c) (first + k)

/-- Which free page an allocation takes: the spec does not say (log entry 42). None where the pool has none. -/
def State.pickPage (s : State) (far : Bool) : State × Option Nat :=
  let taken := s.poolTaken far
  let n := (if far then s.rd .kvFarpages 0 else s.rd .kvNearpages 0) - taken.length
  if n = 0 then (s, none)
  else (s.drawn, some (kthFree taken (if far then farFirst else 0) ((s.freeNext 32).toNat % n)))

/-- The metadata of a new page: one reference, no pin, its tag as it stands, and every score 1.0 (R188, R195). -/
def State.initPage (s : State) (p fmt kind ctx layer run seq : Nat) : State :=
  let s := ((s.kmSet p 0 4 1).kmSet p 4 4 0).kmSet p 10 1 (fmt % 32 + 32 * kind)
  let s := ((((s.kmSet p 11 1 ctx).kmSet p 12 2 layer).kmSet p 14 2 run).kmSet p 16 4 0).kmSet p 20 2 0
  let s := ((s.kmSet p 24 3 0).kmSet p 28 3 0).kmSet p 32 4 seq
  s.pageStore p (s.pageMeta p + 64) ((List.replicate (s.rd .kvHeads ctx) (leBytes 2 0x3F80)).flatten)

/-- Take a free page for a context: data (1), list (2) or head (3). -/
def State.allocPage (s : State) (far : Bool) (fmt kind ctx layer run seq : Nat) : State × Option Nat :=
  match s.pickPage far with
  | (s, none) => (s, none)
  | (s, some p) =>
    let s := s.initPage p fmt kind ctx layer run seq
    let s := if far then (s.wr .kvFarfree 0 (s.rd .kvFarfree 0 - 1)).bump .kvFarheld ctx 1
      else (s.wr .kvNearfree 0 (s.rd .kvNearfree 0 - 1)).bump .kvHeld ctx 1
    let s := if kind = 1 then s else s.clearNear (s.pageData p) 65536
    (s, some p)

/-- R190: free a page: its tag rises, its kind is FREE, and it returns to its pool unless it is lost. -/
def State.freePage (s : State) (p : Nat) : State :=
  let c := s.kmCtx p
  let s := (s.kmSet p 8 2 ((s.kmTag p + 1) % 65536)).kmSet p 10 1 (s.kmGet p 10 1 % 32)
  let s : State := { s with kv := { s.kv with cow := sput false s.kv.cow p false } }
  let s := if pageFar p then s.wr .kvFarheld c (s.rd .kvFarheld c - 1) else s.wr .kvHeld c (s.rd .kvHeld c - 1)
  if s.pageLost p then s else s.bump (if pageFar p then .kvFarfree else .kvNearfree) 0 1

/-- R190: a page left with no reference and no pin is freed. -/
def State.maybeFree (s : State) (p : Nat) : State :=
  if s.kmRef p = 0 ∧ s.kmPin p = 0 ∧ s.kmKind p ≠ 0 then s.freePage p else s

/-- R188: take and drop a reference; R190: take and drop a pin. -/
def State.refAdd (s : State) (p : Nat) : State := s.kmSet p 0 4 (s.kmRef p + 1)
def State.refDrop (s : State) (p : Nat) : State := (s.kmSet p 0 4 (s.kmRef p - 1)).maybeFree p
def State.pinPage (s : State) (p : Nat) : State := s.kmSet p 4 4 (s.kmPin p + 1)
def State.unpinPage (s : State) (p : Nat) : State := (s.kmSet p 4 4 (s.kmPin p - 1)).maybeFree p

/-! ## Page lists (R180) -/

def lePage (e : Nat) : Nat := bitsAt e 0 27
def lePresent (e : Nat) : Bool := bitAt e 27
def leEvicted (e : Nat) : Bool := bitAt e 28
def leTag (e : Nat) : Nat := bitsAt e 32 16

/-- The entry that names a page under a tag. -/
def leMake (p tag : Nat) : Nat := p + 2 ^ 27 + 2 ^ 32 * tag

/-- Entry i of a head or list page. -/
def State.listSlot (s : State) (p i : Nat) : Nat := (s.ownRead false (s.pageData p + 8 * i) 8).getD 0

/-- Write entry i of a head or list page. -/
def State.setListSlot (s : State) (p i e : Nat) : State := s.pageStore p (s.pageData p + 8 * i) (leBytes 8 e)

/-- R180: list entry v below a head page: 0 where the run is absent. -/
def State.runEntry (s : State) (head v : Nat) : Nat :=
  let p := s.listSlot head (v / 8192)
  if lePresent p then s.listSlot (lePage p) (v % 8192) else 0

/-- Write list entry v below a head page, taking a list page for it where there is none. -/
def State.setRunEntry (s : State) (ctx head v e : Nat) : State :=
  let p := s.listSlot head (v / 8192)
  if lePresent p then s.setListSlot (lePage p) (v % 8192) e
  else
    match s.allocPage false 0 2 ctx 0 0 0 with
    | (s, none) => s
    | (s, some q) => (s.setListSlot head (v / 8192) (leMake q (s.kmTag q))).setListSlot q (v % 8192) e

/-- The list pages below a head page. -/
def State.listPages (s : State) (head : Nat) : List (Nat × Nat) :=
  (s.listedSlots (s.pageData head) 8192).filterMap (fun i =>
    let e := s.listSlot head i
    if lePresent e then some (i, lePage e) else none)

/-- Every entry of a list that is present or evicted: its number and the entry. -/
def State.listEntries (s : State) (head : Nat) : List (Nat × Nat) :=
  ((s.listPages head).map (fun q => (s.listedSlots (s.pageData q.2) 8192).filterMap (fun j =>
    let e := s.listSlot q.2 j
    if lePresent e ∨ leEvicted e then some (q.1 * 8192 + j, e) else none))).flatten

/-- The pages that a list's present entries name. -/
def State.listData (s : State) (head : Nat) : List Nat :=
  (s.listEntries head).filterMap (fun q => if lePresent q.2 then some (lePage q.2) else none)

/-- Does a list name a lost page? -/
def State.listLost (s : State) (head : Nat) : Bool :=
  s.pageLost head || (s.listPages head).any (fun q => s.pageLost q.2) || (s.listData head).any s.pageLost

/-- Drop a whole list: the references of its entries, its list pages and its head page. -/
def State.dropList (s : State) (head : Nat) : State :=
  let data := s.listData head
  let lists := (s.listPages head).map (·.2)
  let s := data.foldl (fun s p => s.refDrop p) s
  let s := lists.foldl (fun s p => s.refDrop p) s
  s.refDrop head

/-! ## Sequences -/

def State.seqAt (s : State) (i : Nat) : Seq := sget (Seq.free 0) s.seq.table i

def State.setSeq (s : State) (i : Nat) (x : Seq) : State :=
  { s with seq := { s.seq with table := sput (Seq.free 0) s.seq.table i x } }

/-- R144: the handle of table entry i. -/
def State.handleOf (s : State) (i : Nat) : Nat := i + 2 ^ 17 * (s.seqAt i).gen

/-- R144: the entry a handle names: none where it is stale. -/
def State.seqOf (s : State) (h : Nat) : Option Nat :=
  let i := h % 2 ^ 17
  if (s.seqAt i).state ≠ 0 ∧ (s.seqAt i).gen = h / 2 ^ 17 then some i else none

/-- The entries of a context that are not FREE, by rising index. -/
def State.seqsOf (s : State) (c : Nat) : List Nat :=
  (s.seq.table.filter (fun p => p.2.state ≠ 0 && p.2.ctx = c)).map (·.1)

def State.step_ (s : State) (c : Nat) : StepState := sget StepState.fresh s.seq.ctxs c

def State.setStep (s : State) (c : Nat) (x : StepState) : State :=
  { s with seq := { s.seq with ctxs := sput StepState.fresh s.seq.ctxs c x } }

/-! ## Geometry (R175, R176) -/

/-- R176: a page format. -/
def kvFormat (f : Nat) : Bool := f = 0x01 || f = 0x03 || f = 0x04 || f = 0x16 || f = 0x0B

/-- R175: b, the bytes of one vector of D elements. -/
def kvBytes (f d : Nat) : Nat :=
  if f = 0x01 then 2 * d else if f = 0x16 then d + d / 16 else if f = 0x0B then d / 2 else d

/-- R178: e, the element bytes of one vector. -/
def kvElemBytes (f d : Nat) : Nat := if f = 0x01 then 2 * d else if f = 0x0B then d / 2 else d

/-- R176: an element's bits. -/
def kvBits (f : Nat) : Nat := if f = 0x01 then 16 else if f = 0x0B then 4 else 8

/-- R175: the largest power of two within both limits. -/
def tokensPerPage (h d f : Nat) : Nat :=
  let ok (p : Nat) : Bool := 2 * h * p * kvBytes f d ≤ 65536 && 5 * h * p ≤ 1920
  ((List.range 10).map (2 ^ ·)).foldl (fun a p => if ok p then p else a) 0

/-- R176: a format fits a context. -/
def State.kvFits (s : State) (c f : Nat) : Bool :=
  kvBytes f (s.rd .kvHeaddim c) ≤ kvBytes (s.rd .kvPagefmt c) (s.rd .kvHeaddim c)

/-! ## Vectors (R176 to R178) -/

/-- A stored vector: its format, element codes, scale (FP32), zero point and fine-scale bytes. -/
structure KvVec where
  fmt : Nat
  elems : List Nat
  scale : Nat
  zero : Nat
  fine : List Nat
  deriving DecidableEq, Repr

/-- R178, R179: where the parts of the vector of head h, slot t lie: element offset, fine-scale offset in the page; scale offset in
the record, and index of its zero point. -/
structure KvPlace where
  elem : Nat
  fine : Nat
  scale : Nat
  zero : Nat

/-- H, D and P of a context. -/
structure KvGeo where
  h : Nat
  d : Nat
  p : Nat

def State.kvGeo (s : State) (c : Nat) : KvGeo := ⟨s.rd .kvHeads c, s.rd .kvHeaddim c, s.rd .kvTokpage c⟩

def KvGeo.place (g : KvGeo) (fmt h t : Nat) (value : Bool) : KvPlace :=
  let e := kvElemBytes fmt g.d
  let k := h * g.p + t
  ⟨(if value then g.h * g.p * e else 0) + k * e,
   2 * g.h * g.p * g.d + (if value then g.h * g.p * g.d / 16 else 0) + k * (g.d / 16),
   128 + 2 * ((if value then g.h * g.p else 0) + k),
   (if value then g.h * g.p else 0) + k⟩

/-- The 4-bit zero point number i of a page (R179). -/
def State.kvZero (s : State) (g : KvGeo) (p i : Nat) : Nat :=
  s.kmGet p (128 + 4 * g.h * g.p + i / 2) 1 / 2 ^ (4 * (i % 2)) % 16

/-- The vector of head h, slot t of a page. -/
def State.kvRead (s : State) (g : KvGeo) (p h t : Nat) (value : Bool) : KvVec :=
  let fmt := s.kmFmt p
  let pl := g.place fmt h t value
  let row := leNat (readBytes (s.pageMem p) (s.pageData p + pl.elem) (kvElemBytes fmt g.d))
  ⟨fmt, (List.range g.d).map (packedAt row (kvBits fmt)),
   if fmt = 0x01 then f32One else s.kmGet p pl.scale 2 * 65536,
   if fmt = 0x0B then s.kvZero g p pl.zero else 0,
   if fmt = 0x16 then (readBytes (s.pageMem p) (s.pageData p + pl.fine) (g.d / 16)).map (·.toNat) else []⟩

/-- R176: the FP32 value of element i. -/
def KvVec.value (v : KvVec) (i : Nat) : Nat :=
  let c := v.elems.getD i 0
  if v.fmt = 0x0B then toF32 ((Fp.ofInt ((c : Int) - v.zero) 0 false).mul (f32 v.scale))
  else if v.fmt = 0x16 then decodeElem 0x16 c (v.fine.getD (i / 16) 0) v.scale
  else if v.fmt = 0x01 then c * 65536
  else match fmtInfo v.fmt with
    | none => 0
    | some f => toF32 ((f.elem.value c).mul (f32 v.scale))

/-- R185: element i as it enters a product, and the block scale of its group. -/
def KvVec.float (v : KvVec) (i : Nat) : Fp :=
  let c := v.elems.getD i 0
  if v.fmt = 0x0B then Fp.ofInt ((c : Int) - v.zero) 0 false
  else if v.fmt = 0x16 then scaledElem (.fp e4m3) (ue4m3Value (v.fine.getD (i / 16) 0)) c
  else match fmtInfo v.fmt with
    | none => .nan
    | some f => f.elem.value c
def KvVec.groupScale (v : KvVec) (g : Nat) : Fp :=
  if v.fmt = 0x16 then (ue4m3Value (v.fine.getD g 0)).mul (f32 v.scale)
  else if v.fmt = 0x01 then .fin false 1 0
  else f32 v.scale

/-- R177: a magnitude rounded upward to the BF16 grid, as FP32. -/
def bf16Up (x : Nat) : Nat :=
  match f32 x with
  | .fin _ m e => (bf16.roundMag .up m e).1 * 65536
  | _ => x

/-- R177: the guard of a scale: 1.0 without a finite element or for 0, at least 2^-126. -/
def kvScale (anyFinite : Bool) (s : Nat) : Nat :=
  if !anyFinite ∨ s = 0 then f32One else if s < 0x00800000 then 0x00800000 else s

/-- R177: quantise a vector of FP32 codes in a page format under an overflow mode. -/
def kvQuantise (fmt : Nat) (prop : Bool) (y : List Nat) : KvVec :=
  let fin := y.filter f32Finite
  let any := fin ≠ []
  let a := amaxF32 fin
  if fmt = 0x01 then ⟨fmt, y.map (fun v => (convertPlain 0x01 .rne prop v).code), f32One, 0, []⟩
  else if fmt = 0x16 then
    let s := kvScale any (bf16Up (f32Div a (f32OfNat 114688)))
    let bl := (List.range (y.length / 16)).map (fun b =>
      convertBlock (.fp e4m3) .kb s prop (((y.drop (16 * b)).take 16).map (fun v => (v, Rounding.rne))))
    ⟨fmt, (bl.map (fun b => b.elems.map (·.code))).flatten, s, 0, bl.map (·.scale)⟩
  else if fmt = 0x0B then
    let lo := fin.foldl (fun m v => if f32Lt v m then v else m) (fin.headD 0)
    let hi := fin.foldl (fun m v => if f32Lt m v then v else m) (fin.headD 0)
    let raw := bf16Up (f32Div (f32Sub hi lo) (f32OfNat 15))
    let s := kvScale any raw
    let clamp (x : Int) : Nat := if x < 0 then 0 else if x > 15 then 15 else x.toNat
    let toInt (v : Nat) : Int :=
      match f32 v with
      | .fin n m e => if n then -(roundInt .rne m e : Int) else (roundInt .rne m e : Int)
      | _ => 0
    let z := if !any ∨ raw = 0 then 0 else clamp (toInt (f32Div (f32Neg lo) s))
    let q (v : Nat) : Nat :=
      match f32 v with
      | .nan => z
      | .inf n => if n then 0 else 15
      | _ =>
        match f32 (f32Div v s) with
        | .inf n => if n then 0 else 15
        | _ => clamp (toInt (f32Div v s) + z)
    ⟨fmt, y.map q, s, z, []⟩
  else
    let emax := if fmt = 0x04 then f32OfNat 57344 else f32OfNat 448
    let s := kvScale any (bf16Up (f32Div a emax))
    ⟨fmt, y.map (fun v => (convertPlain fmt .rne prop (f32Div v s)).code), s, 0, []⟩

/-- The parts of a vector's storage: address and bytes in the page's memory. -/
def State.kvParts (s : State) (g : KvGeo) (p h t : Nat) (value : Bool) (v : KvVec) : List (Nat × List Byte) :=
  let pl := g.place v.fmt h t value
  [(s.pageData p + pl.elem, leBytes (kvElemBytes v.fmt g.d) (packRow (kvBits v.fmt) v.elems))]
    ++ (if v.fmt = 0x16 then [(s.pageData p + pl.fine, v.fine.map (BitVec.ofNat 8))] else [])
    ++ (if v.fmt = 0x01 then [] else [(s.pageMeta p + pl.scale, leBytes 2 (v.scale / 65536))])
    ++ (if v.fmt = 0x0B then
          let a := s.pageMeta p + 128 + 4 * g.h * g.p + pl.zero / 2
          let old := leNat (readBytes (s.pageMem p) a 1)
          [(a, leBytes 1 (setBits old (4 * (pl.zero % 2)) 4 v.zero))]
        else [])

/-- The bytes that a reader of head h, slot t touches: address and count. -/
def State.kvRanges (s : State) (g : KvGeo) (p h t : Nat) (value : Bool) : List (Nat × Nat) :=
  let fmt := s.kmFmt p
  let pl := g.place fmt h t value
  [(s.pageData p + pl.elem, kvElemBytes fmt g.d)]
    ++ (if fmt = 0x16 then [(s.pageData p + pl.fine, g.d / 16)] else [])
    ++ (if fmt = 0x01 then [] else [(s.pageMeta p + pl.scale, 2)])
    ++ (if fmt = 0x0B then [(s.pageMeta p + 128 + 4 * g.h * g.p + pl.zero / 2, 1)] else [])

/-! ## Prefix handles (R192) -/

def State.pfx (s : State) (c k : Nat) : PfxSlot := sget PfxSlot.none s.kv.prefixes (c * 1024 + k)

def State.setPfx (s : State) (c k : Nat) (x : PfxSlot) : State :=
  { s with kv := { s.kv with prefixes := sput PfxSlot.none s.kv.prefixes (c * 1024 + k) x } }

/-- R192: the slot a handle names, where it is live in a context. -/
def State.pfxLive (s : State) (c h : Nat) : Option Nat :=
  let k := h % 1024
  if (s.pfx c k).live ∧ (s.pfx c k).gen = h / 1024 ∧ h ≠ 0 then some k else none

/-- R194: release a live slot. -/
def State.pfxRelease (s : State) (c k : Nat) : State :=
  let x := s.pfx c k
  ((s.dropList x.head).setPfx c k { x with live := false }).wr .kvPfxlive c (s.rd .kvPfxlive c - 1)

/-- R192: slot k becomes live: a generation, the head page that passes to it, and λ. -/
def State.pfxSet (s : State) (c k gen head len : Nat) : State :=
  ((s.setPfx c k ⟨gen, true, head, len⟩).kmSet head 32 4 0).bump .kvPfxlive c 1

/-- R192: issue a handle for a head page of length λ: the handle, or none where no slot is free. -/
def State.pfxIssue (s : State) (c head len : Nat) : State × Option Nat :=
  match (List.range (s.rd .kvPfxmax c)).find? (fun k => !(s.pfx c k).live) with
  | none => (s, none)
  | some k =>
    let g := (s.pfx c k).gen
    let g' := if g ≥ 4194303 then 1 else g + 1
    (s.pfxSet c k g' head len, some (k + 1024 * g'))

end Sys2Proof.Machine
end

