-- ==== Sys2Proof/Machine/SpanLinks.lean ====
section
/-!
DEFINITION. The spans' frames and links (R298 to R305, R374): their layout and protection, the choice of the next hop and of the next frame, and
sending.
-/
namespace Sys2Proof.Machine
open Sys2Proof

/-! ## Membership (R313) -/

/-- The codes of FLT_STATE (R313). -/
def fltMember : Nat := 3

/-- The module is a MEMBER. -/
def State.isMember (s : State) : Bool := s.rd .fltState 0 = fltMember

/-! ## Links -/

def State.link (s : State) (n : Nat) : SpanLink := sget SpanLink.dark s.span.links n

def State.setLink (s : State) (n : Nat) (l : SpanLink) : State :=
  { s with span := { s.span with links := sput SpanLink.dark s.span.links n l } }

/-- The register page of a span (R324). -/
def spanPage (n : Nat) : Nat := 0x300 + n

/-- The codes of SPN_STATE (R324). -/
def spDark : Nat := 0
def spTraining : Nat := 1
def spHailing : Nat := 2
def spUp : Nat := 3
def spDraining : Nat := 4
def spRefused : Nat := 5
def spFenced : Nat := 6
def spListen : Nat := 7

/-! ## Frames (R298, R299, R303) -/

/-- R298: the span header. -/
def frameHeader (f : Frame) (phase : Bool) (seq ack : Nat) : List Byte :=
  leBytes 1 (f.ty + 16 * f.vc + 64 * b2n phase) ++ leBytes 1 f.hops ++ leBytes 2 f.payload.length ++ leBytes 2 f.src
    ++ leBytes 2 f.dst ++ leBytes 4 seq ++ leBytes 4 ack

/-- R303: the nonce: the direction's salt and the frame counter. -/
def frameNonce (salt count : Nat) : BitVec 96 := BitVec.ofNat 96 (salt * 2 ^ 64 + beNat (leBytes 8 count))

/-- R303: a protected frame: header, ciphertext and tag. -/
def sealFrame (k : SpanKey) (count : Nat) (hdr payload : List Byte) : List Byte :=
  let (ct, tag) := Config.gcmSeal (BitVec.ofNat 256 k.key) (frameNonce k.salt count) hdr payload
  hdr ++ ct ++ beBytes 16 tag.toNat

/-- R303: open a protected frame: none where its tag fails. -/
def openSpanFrame (k : SpanKey) (count : Nat) (b : List Byte) : Option (List Byte) :=
  let ct := (b.drop 16).take (b.length - 32)
  Config.gcmOpen (BitVec.ofNat 256 k.key) (frameNonce k.salt count) (b.take 16) ct
    (BitVec.ofNat 128 (beNat (b.drop (b.length - 16))))

/-- R303: 36 bytes of key material as a key and a salt. -/
def keyOf (m : BitVec (8 * 36)) (phase : Bool) : SpanKey := ⟨m.toNat / 2 ^ 32, m.toNat % 2 ^ 32, phase, 0⟩

/-- The ASCII bytes of a label. -/
def asciiBytes (l : String) : List Byte := l.toList.map (fun c => BitVec.ofNat 8 c.toNat)

/-- R303: the key that follows a key. -/
def SpanKey.after (k : SpanKey) : SpanKey :=
  keyOf (Config.hkdfExpand 36 (beBytes 32 k.key) (asciiBytes "kerilo span next")) !k.phase

/-- R301: the credit a frame takes, in 64-byte units: its header, payload and tag (log entry 54). -/
def frameUnits (f : Frame) : Nat := ceilDiv (32 + f.payload.length) 64

/-- The credit held for a VC. -/
def SpanLink.credit (l : SpanLink) (vc : Nat) : Nat := l.credits.getD vc 0

/-- The bytes held in the replay buffer (R300). -/
def SpanLink.replayBytes (l : SpanLink) : Nat := l.sent.foldl (fun a f => a + f.bytes.length) 0

/-- R307, R313, R340: a type of frame may leave on a span: DATA, SIGNAL and CONFIRM only while both ends are MEMBER, and no DATA
from a member that has declared its own fault. -/
def State.mayCarry (s : State) (n ty : Nat) : Bool :=
  if 1 ≤ ty ∧ ty ≤ 3 then s.isMember && s.rd .spnPeerstate n = fltMember && !(ty = 1 && s.fh.declared) else true

/-- R299: a frame that is forwarded past one hop, and may so take another span. -/
def Frame.routed (f : Frame) : Bool := (1 ≤ f.ty && f.ty ≤ 4) || (f.ty = 8 && (f.transit || f.hops ≠ 1))

/-! ## Frames of the keel (R301) -/

/-- R301: the bits of a burst of 64 KiB. -/
def keelBurst : Nat := 8 * 65536

/-- The keel originates a frame: a LEDGER frame of this module (log entry 119). -/
def Frame.ofKeel (f : Frame) : Bool := f.ty = 8 && !f.transit

/-- The bits of a frame: its header, payload and tag. -/
def Frame.bits (f : Frame) : Nat := 8 * (32 + f.payload.length)

/-- R301: the bits of keel frames that a span may send now: 1 Gbit/s is one bit each nanosecond. -/
def State.keelBits (s : State) (n : Nat) : Nat :=
  let k := sget (keelBurst, 0) s.span.keel n
  min keelBurst (k.1 + (s.now - k.2))

/-- R301: a keel frame beyond the limit is held. -/
def State.keelHolds (s : State) (n : Nat) (f : Frame) : Bool := f.ofKeel && s.keelBits n < f.bits

/-- A frame takes its bits of the keel's limit. -/
def State.keelSpend (s : State) (n : Nat) (f : Frame) : State :=
  if f.ofKeel then
    { s with span := { s.span with keel := sput (keelBurst, 0) s.span.keel n (s.keelBits n - f.bits, s.now) } }
  else s

/-! ## The next hop (R304, R305) -/

/-- R305: the route table's entry for a member. -/
def State.routeEntry (s : State) (m : Nat) : Nat :=
  if s.rd .fltRegion 0 = 0 then 0 else fieldAt (readBytes s.mem.near (s.rd .fltRegion 0 + 0x3000000 + 4 * m) 4) 0 4

/-- R305: the spans an entry names valid, in the order A to D. -/
def routeSpans (e : Nat) : List Nat := ((List.range 4).filter (fun i => bitAt e (20 + i))).map (fun i => bitsAt e (5 * i) 5)

/-- The UP spans whose peer is a member. -/
def State.peerSpans (s : State) (m : Nat) : List Nat :=
  (List.range 32).filter (fun n => s.rd .spnState n = spUp && s.flag .spnPeervalid n && s.rd .spnPeer n = m)

/-- R304: a span takes new frames. -/
def State.spanUsable (s : State) (n : Nat) : Bool := s.rd .spnState n = spUp && !s.flag .spnSilent n

/-- R304: the spans a frame for a member may take. -/
def State.hops (s : State) (m : Nat) : List Nat :=
  let direct := s.peerSpans m
  (if direct = [] then routeSpans (s.routeEntry m) else direct).filter s.spanUsable

/-- R304: spans take turns. -/
def State.nextHop (s : State) (m : Nat) : State × Option Nat :=
  let l := s.hops m
  if l = [] then (s, none)
  else
    let k := sget 0 s.span.turns m
    ({ s with span := { s.span with turns := sput 0 s.span.turns m ((k + 1) % 2 ^ 16) } }, l[k % l.length]?)

/-! ## The next frame (R301, R374) -/

/-- R374: deficit round robin: from the context whose turn it is, the first one whose credit covers its frame; every context reached gains
its share. -/
def drr (share burst : Nat → Nat) (heads : List (Nat × Nat)) : Nat → Sparse Nat → Nat → Option (Nat × Sparse Nat)
  | 0, _, _ => none
  | fuel + 1, d, turn =>
    match heads.find? (fun h => h.1 = turn && h.2 ≤ sget 0 d h.1) with
    | some h => some (h.1, sput 0 d h.1 (sget 0 d h.1 - h.2))
    | none =>
      match ((heads.find? (fun h => turn < h.1)).or heads.head?) with
      | none => none
      | some h => drr share burst heads fuel (sput 0 d h.1 (min (16 * burst h.1) (sget 0 d h.1 + share h.1))) h.1

/-- The first frame of a VC on a link that is in transit, or local, and that the span may carry now: one that it may not is passed over. -/
def State.firstOf (s : State) (n vc : Nat) (transit : Bool) : Option Frame :=
  (s.link n).queue.find? (fun f => f.vc = vc && f.transit = transit && s.mayCarry n f.ty && !s.keelHolds n f)

/-- The first local VC2 frame of each context, in rising order of contexts. -/
def SpanLink.heads (l : SpanLink) : List Frame :=
  (List.range 64).filterMap (fun c => l.queue.find? (fun f => f.vc = 2 && !f.transit && f.ctx = some c))

/-- The frame of a VC that is next on a link, and the link after the choice (R301: transit and local frames alternate). -/
def State.nextOfVc (s : State) (n vc : Nat) : Option (Frame × SpanLink) :=
  let l := s.link n
  let ok (f : Frame) : Bool := frameUnits f ≤ l.credit vc && s.mayCarry n f.ty
  let transit : Option (Frame × SpanLink) := (s.firstOf n vc true).bind (fun f => if ok f then some (f, l) else none)
  let local_ : Option (Frame × SpanLink) :=
    if vc = 2 then
      let hs := l.heads.filter ok
      let d := l.deficits.filter (fun p => l.heads.any (fun f => f.ctx = some p.1))
      (drr (s.rdAt (islSpan n) .ctxSpanshare) (s.rdAt (islSpan n) .ctxSpanburst)
          (hs.map (fun f => (f.ctx.getD 0, frameUnits f))) 4096 d l.turn).bind (fun p =>
        (hs.find? (fun f => f.ctx = some p.1)).map (fun f => (f, { l with deficits := p.2, turn := p.1 })))
    else (s.firstOf n vc false).bind (fun f => if ok f then some (f, l) else none)
  if l.lastTransit.getD vc false then local_.or transit else transit.or local_

/-- R301: the frame a link sends next. -/
def State.nextFrame (s : State) (n : Nat) : Option (Frame × SpanLink) :=
  let v3 := s.nextOfVc n 3
  (if 63 ≤ (s.link n).sinceVc3 then v3 else none).or
    ((s.nextOfVc n 0).or ((s.nextOfVc n 1).or ((s.nextOfVc n 2).or v3)))

/-- Send a frame on a link: it takes the next counter, its credit, and a place in the replay buffer (R300, R301). -/
def State.sendFrame (s : State) (n : Nat) (l : SpanLink) (f : Frame) : State :=
  let k := l.tx
  let bytes := sealFrame k k.count (frameHeader f k.phase (k.count % 2 ^ 32) ((l.rx.count + 2 ^ 32 - 1) % 2 ^ 32)) f.payload
  let l : SpanLink := { l with
    queue := l.queue.erase f
    sent := l.sent ++ [⟨k.count, f, bytes⟩]
    tx := { k with count := k.count + 1 }
    credits := l.credits.set f.vc (l.credit f.vc - frameUnits f)
    sinceVc3 := if f.vc = 3 then 0 else l.sinceVc3 + 1
    lastTransit := l.lastTransit.set f.vc f.transit
    lastAck := if l.sent = [] then s.now else l.lastAck }
  (((s.keelSpend n f).setLink n l).emit (.span n bytes)).bump .spnTxbytes n bytes.length

/-- A link sends what its credit and its replay buffer allow. -/
def State.pumpN (s : State) (n : Nat) : Nat → State
  | 0 => s
  | fuel + 1 =>
    match s.nextFrame n with
    | none => s
    | some (f, l) =>
      if 2 ^ 20 < l.replayBytes + 32 + f.payload.length ∨ 2 ^ 40 ≤ l.tx.count then s else (s.sendFrame n l f).pumpN n fuel

def State.pump (s : State) (n : Nat) : State :=
  if s.rd .spnState n = spUp then s.pumpN n ((s.link n).queue.length) else s

/-- R304: a frame is given to its next hop, or waits for one. -/
def State.route (s : State) (f : Frame) : State :=
  match s.nextHop f.dst with
  | (s, some n) => (s.setLink n { s.link n with queue := (s.link n).queue ++ [f] }).pump n
  | (s, none) => { s with span := { s.span with stuck := s.span.stuck ++ [⟨f, s.now⟩] } }

/-- Frames that wait for a next hop are tried again. -/
def State.retryStuck (s : State) : State :=
  s.span.stuck.foldl (fun s k =>
    if s.hops k.frame.dst = [] then s
    else ({ s with span := { s.span with stuck := s.span.stuck.erase k } }).route k.frame) s

/-- A frame that this module originates for a member. -/
def State.originate (s : State) (ty vc dst : Nat) (payload : List Byte) (ctx : Option Nat) (e : Option (Nat × Nat × Nat)) :
    State :=
  s.route ⟨ty, vc, 8, s.rd .fltMember 0, dst, payload, false, ctx, e, 0, []⟩

/-- A single-link frame of VC0: HEARTBEAT, or a LEDGER frame to the module at its other end. -/
def State.sendVc0 (s : State) (n ty : Nat) (payload : List Byte) : State :=
  let f : Frame := ⟨ty, 0, 1, s.rd .fltMember 0, s.rd .spnPeer n, payload, false, none, none, 0, []⟩
  (s.setLink n { s.link n with queue := (s.link n).queue ++ [f] }).pump n

end Sys2Proof.Machine
end

