-- ==== Sys2Proof/Machine/HealthOps.lean ====
section
/-!
DEFINITION. What every chapter tells the flight and the health monitor: proposals to the ledger (R317), a member's own fault (R340),
step faults (R341), and the errors that a command's memory reads find (R279 to R286).
-/
namespace Sys2Proof.Machine
open Sys2Proof

/-! ## Messages and proposals (R317) -/

/-- R317: a message of the ledger firmware leaves for a member, in a LEDGER frame (log entry 44). -/
def State.ledgerTo (s : State) (dst : Nat) (m : LedgerMsg) : State :=
  if s.flag .fltMembervalid 0 ∧ dst = s.rd .fltMember 0 then s.emit (.ledger dst m)
  else s.originate 8 0 dst ((Config.ledgerBytes m).take 9200) none none

/-- R320: the same, to the module at the other end of a span, in a frame that is not forwarded. -/
def State.ledgerAcross (s : State) (n : Nat) (m : LedgerMsg) : State := s.sendVc0 n 8 ((Config.ledgerBytes m).take 9200)

/-- R317: a proposal reaches the lead's inbox, or leaves for the lead. -/
def State.propose (s : State) (kind : Nat) (body : List Byte) : State :=
  if s.flag .fltIslead 0 then
    { s with flt := { s.flt with inbox := s.flt.inbox ++ [⟨s.rd .fltMember 0, kind, body⟩] } }
  else s.ledgerTo (s.rd .fltLead 0) (.proposal kind body)

/-- R316: the body of a FENCE entry. -/
def fenceBody (m reason : Nat) : List Byte := leBytes 2 m ++ leBytes 2 reason

/-- R340: a member proposes FENCE of itself. From then on it sends no DATA frame. -/
def State.declareFault (s : State) (reason : Status) : State :=
  if s.isMember ∧ !s.fh.declared then
    { s with fh := { s.fh with declared := true } }.propose 6 (fenceBody (s.rd .fltMember 0) reason.code)
  else s

/-- R339: the lead's first silence report of a member: it routes a probe to it. -/
def State.leadSilence (s : State) (m : Nat) : State :=
  if s.flt.silent.any (fun p => p.1 = m) then s
  else ({ s with flt := { s.flt with silent := s.flt.silent ++ [(m, s.now, true)] } }).ledgerTo m (.probe m)

/-- R339: a silence report for a member reaches the lead, or leaves for it. -/
def State.reportSilence (s : State) (m : Nat) : State :=
  if !s.isMember then s
  else if s.flag .fltIslead 0 then s.leadSilence m
  else s.ledgerTo (s.rd .fltLead 0) (.silence m)

/-- R343: the body of a REPLAN: lost member, heir, reason, restore point, promoted mirror. -/
def replanBody (lost : Nat) (heir : Option Nat) (reason point : Nat) (mirror : Option Nat) : List Byte :=
  let opt (m : Option Nat) : Nat := match m with
    | none => 0
    | some m => m + 2 ^ 14
  leBytes 2 lost ++ leBytes 2 (opt heir) ++ leBytes 1 reason ++ zeros 3 ++ leBytes 8 point ++ leBytes 2 (opt mirror)

/-- R343: no restore point has been chosen yet (log entry 45). -/
def noPoint : Nat := 2 ^ 64 - 1

/-- The unfenced clusters of the module. -/
def State.usableClusters (s : State) : Nat := ((List.range 192).filter (fun n => !s.flag .cluFenced n)).length

/-- R339, R342, R344, R353: failure hiding has quiesced the armed context: it rewinds or restores, is halted, or the module is isolated. -/
def State.fhHolds (s : State) (c : Nat) : Bool :=
  s.flag .fhArm 0 && s.rd .fhArmctx 0 = c
    && (s.rd .fhState 0 = 3 || s.rd .fhState 0 = 4 || s.rd .fhState 0 = 6 || s.flag .fhIsolated 0)

/-- R341: a step fault of a context: a REPLAN with this module as its own heir, or, with too few clusters, its own fault. -/
def State.stepFault (s : State) (c : Nat) : State :=
  if s.flag .fhArm 0 ∧ s.rd .fhArmctx 0 = c ∧ s.isMember then
    if s.rd .fhMinclusters 0 ≤ s.usableClusters then
      let m := s.rd .fltMember 0
      s.propose 11 (replanBody m (some m) (Status.fhStepFault.code % 256) noPoint none)
    else s.declareFault .fhSelfFault
  else s

/-- R341: the statuses that make a failure of a context a step fault. -/
def stepFaultStatus (st : Status) : Bool := st = .cluResidue || st = .memUncorrectable || st = .fhIslandReset || st = .lrnDeferLost

/-! ## Retirement (R283 to R285) -/

/-- The frame that serves a frame's addresses now. -/
def State.servingFrame (s : State) (f : Nat) : Nat := redirectFrame s.mem.redirect f

/-- The lowest reserve frame that is neither in use, being filled, nor itself retired. -/
def State.freeReserve (s : State) : Option Nat :=
  ((List.range (s.rd .memResvframes 0)).map (· + s.rd .memResvbase 0)).find? (fun r =>
    !(s.mem.redirect.any (fun p => p.2 = r) || s.mem.copying.any (fun p => p.2 = r) || s.mem.worn.contains r))

/-- R283: a frame of near addresses is due for retirement. -/
def State.frameDue (s : State) (f : Nat) : Bool :=
  s.rd .memRetirethresh 0 ≤ sget 0 s.mem.frameCe f || s.mem.poison.any (fun p => p.1 / 8192 = f)

/-- R283, R285: a due frame begins copying to the lowest free reserve frame, or raises MEM_RETIRE_FULL once. -/
def State.retireStart (s : State) (f : Nat) : State :=
  if !s.frameDue f ∨ s.mem.copying.any (fun p => p.1 = f) then s
  else
    match (if s.mem.redirect.length < 256 ∨ s.mem.redirect.any (fun p => p.1 = f) then s.freeReserve else none) with
    | some r => { s with mem := { s.mem with copying := s.mem.copying ++ [(f, r)] } }
    | none =>
      if s.mem.full.contains f then s
      else
        let s : State := { s with
          mem := { s.mem with full := s.mem.full ++ [f] }
          health := { s.health with retireFull := true } }
        (s.wr .memRetireFullf 0 1).raise0 0x200 .memRetireFull f 0

/-! ## Errors that reads find (R279, R280, R286) -/

/-- R279: a corrected error in a near granule: MEM_CE, MEM_CEADDR and the frame's count. -/
def State.correctedError (s : State) (pa : Nat) : State :=
  let c := s.channelOf pa
  let f := pa / 2 ^ 21
  let s := (s.bump .memCe c 1).wr .memCeaddr c pa
  let s : State := { s with mem := { s.mem with frameCe := sput 0 s.mem.frameCe f (sget 0 s.mem.frameCe f + 1) } }
  s.retireStart f

/-- R286: a channel is fenced: every access to it fails, and the module declares its own fault. -/
def State.fenceChannel (s : State) (c : Nat) : State :=
  if s.rd .memState c = 2 then s
  else ((s.wr .memState c 2).wr .fenced (0x200 + c) 1).declareFault .fhSelfFault

/-- R378: the hub accepts a RESET of a context: it is RESETTING until CTX_RESET_COMPLETE (R379 row 1). -/
def State.startReset (s : State) (c : Nat) : State :=
  { s.wr .ctxState c 3 with ctxRunning := sput 0 s.ctxRunning c 2 }

/-- R280: an uncorrectable error in a module table: the owning context is reset; a table of no single context makes the module
declare its own fault. -/
def State.tableError (s : State) (pa : Nat) : State :=
  match (List.range 64).find? (fun c => s.ctxLive c && (s.tableArea c).meets false pa 1) with
  | some c => ((s.raise (ctxPage c) .memUncorrectable (some c) pa 0).startReset c)
  | none =>
    if (s.rd .fltRegion 0 ≠ 0 ∧ rangesMeet (s.rd .fltRegion 0) (2 ^ 26) pa 1)
      ∨ rangesMeet (s.rd .wvMstorebase 0) (s.rd .wvMstoresize 0 * 2 ^ 20) pa 1 then s.declareFault .fhSelfFault
    else s

/-- R199: the key-value page whose data area or metadata record holds an address is lost. -/
def State.losePageAt (s : State) (far : Bool) (pa : Nat) : State :=
  let (base, meta_, n, first) := if far then (s.rd .kvFarbase 0, s.rd .kvFarmetabase 0, s.rd .kvFarpages 0, farFirst)
    else (s.rd .kvNearbase 0, s.rd .kvMetabase 0, s.rd .kvNearpages 0, 0)
  let data := (pa - base) / 65536
  let md := (pa - meta_) / 2048
  if base ≤ pa ∧ data < n then s.losePage (first + data)
  else if meta_ ≤ pa ∧ md < n then s.losePage (first + md)
  else s

/-- R280, R286: an uncorrectable error in a near granule: MEM_UE rises and the health monitor is informed; a granule not yet poisoned is poisoned and
counted, its frame is due for retirement, and the 64th of a window fences the channel. A key-value page that holds it is lost (R199). -/
def State.granuleBad (s : State) (pa : Nat) : State :=
  let c := s.channelOf pa
  let g := pa / 256
  let s : State := { s.bump .memUe c 1 with health := { s.health with ueAt := some s.now } }
  let s := s.losePageAt false pa
  if s.poisoned g then s
  else
    let s := s.wr .memPoisoned c (min 0xFFFF (s.rd .memPoisoned c + 1))
    let s : State := { s with mem := { s.mem with poison := sput false s.mem.poison g true } }
    let s := s.retireStart (pa / 2 ^ 21)
    if 64 ≤ s.rd .memPoisoned c then s.fenceChannel c else s

/-- R280: a read that finds an uncorrectable error: besides what the channel does, the owner of a module table is told. -/
def State.uncorrectableError (s : State) (pa : Nat) : State := (s.granuleBad pa).tableError pa

/-- R287, R280: poison received for the block at a CXL address: it counts, the health monitor is informed, and a key-value page that holds it is
lost. -/
def State.cxlPoisonFound (s : State) (pa : Nat) : State :=
  if !s.cxlHolds pa 1 ∨ s.rd .cxlState (pa / 2 ^ 40) ≠ 2 then s
  else
    let s : State := { s.bump .cxlPoison (pa / 2 ^ 40) 1 with health := { s.health with ueAt := some s.now } }
    let s := s.losePageAt true pa
    { s with mem := { s.mem with farPoison := sput false s.mem.farPoison (pa / 64) true } }

/-- The error found has been reported; the command's own read that meets it does not report it again. -/
def State.addFresh (s : State) (far : Bool) (u : Nat) : State := { s with mem := { s.mem with fresh := (far, u) :: s.mem.fresh } }

/-- R278 to R280, R287: one error that a command's reads find: one bad symbol of a granule is corrected, any more and data from a wrong address are
detected. -/
def State.errorFound (s : State) (e : Nat × EccError) : State :=
  let bad (s : State) : State := (s.uncorrectableError e.1).addFresh false (e.1 / 256)
  match e.2 with
  | .cxl => (s.cxlPoisonFound e.1).addFresh true (e.1 / 64)
  | .address => if e.1 < nearTop then bad s else s
  | .symbols n => if n = 0 ∨ nearTop ≤ e.1 then s else if n = 1 then s.correctedError e.1 else bad s

/-- The errors that the reads of a command find, each reported at once (R279, R280). -/
def State.eccFound (s : State) (errs : List (Nat × EccError)) : State :=
  errs.foldl State.errorFound { s with mem := { s.mem with fresh := [] } }

/-- R280, R287: a read at physical pieces that met poison reports it again, unless the read itself has found it. -/
def State.poisonMet (s : State) (ps : List (Place × Nat)) : State :=
  ps.foldl (fun s p =>
    if p.1.target = 1 then
      match (unitsOf 64 p.1.pa p.2).find? (fun b => sget false s.mem.farPoison b) with
      | some b => if s.mem.fresh.contains (true, b) then s else s.cxlPoisonFound (b * 64)
      | none => s
    else
      match (unitsOf 256 p.1.pa p.2).find? s.poisoned with
      | some g => if s.mem.fresh.contains (false, g) then s else s.uncorrectableError (g * 256)
      | none => s) s

/-- Read n bytes at a device virtual address of a context, with the counts of the read; poison met is reported. -/
def State.readDva (s : State) (ctx dva n : Nat) : State × Except Status (List Byte) :=
  match s.dvaRead ctx dva n with
  | .ok b => (s.countDvaRead ctx dva n, .ok b)
  | .error .memUncorrectable =>
    match s.dvaPieces ctx dva n .read false with
    | .ok ps => (s.poisonMet ps, .error .memUncorrectable)
    | .error _ => (s, .error .memUncorrectable)
  | .error e => (s, .error e)

/-- R280, R287: the read of a page's data area and record fails with poison or a link that is down: its content is lost (R199). -/
def State.pageGone (s : State) (p : Nat) : Bool :=
  let far := pageFar p
  [statusOf (s.memRead far (s.pageData p) 65536), statusOf (s.memRead far (s.pageMeta p) 2048)].any
    (fun e => e = .memUncorrectable ∨ e = .cxlLinkDown)

/-- R280, R287: poison met in a page's data area or record is reported. -/
def State.pagePoison (s : State) (p : Nat) : State :=
  let place (pa n : Nat) : Place × Nat := (⟨b2n (pageFar p), pa, n⟩, n)
  s.poisonMet [place (s.pageData p) 65536, place (s.pageMeta p) 2048]

end Sys2Proof.Machine
end

