-- ==== Sys2Proof/Machine/Tally.lean ====
section
/-!
DEFINITION. The tally commands: the banks' operations (R255), the retry of failed waits (R263) and the command registers of
R273.
-/
namespace Sys2Proof.Machine
open Sys2Proof

/-- The outcome of every command: a next state. -/
abbrev Result := Host.Outcome State Fault Refusal

/-! ## Operations that reach a bank -/

/-- TALLY_SIGNAL (R255): an island's SIGNAL(n) for a context's virtual ID. -/
def execTallySignal (isl ctx vid n : Nat) (foreign : Bool) (s : State) : Result :=
  let (t, st) := s.tallySignal (bankOfIsland isl) ctx vid n foreign
  .next (t.replyAgent st 0)

/-- TALLY_WAIT (R255, R257): an agent's WAIT(n). -/
def execTallyWait (isl ctx vid n : Nat) (a : Agent) (s : State) : Result :=
  match s.tallyWait (bankOfIsland isl) ctx vid n a with
  | (t, .ok true) => .next ((t.finishWait a .ok).replyAgent .ok 1)
  | (t, .ok false) => .next (t.replyAgent .ok 0)
  | (t, .error e) => .next (t.replyAgent e 0)

/-- TALLY_TAKE (R255). -/
def execTallyTake (isl ctx vid n : Nat) (s : State) : Result :=
  let (t, st) := s.tallyTake (bankOfIsland isl) ctx vid n
  .next (t.replyAgent st 0)

/-- TALLY_READ (R255). -/
def execTallyRead (isl ctx vid : Nat) (s : State) : Result :=
  match s.tallyRead (bankOfIsland isl) ctx vid with
  | (t, .ok v) => .next (t.replyAgent .ok v)
  | (t, .error e) => .next (t.replyAgent e 0)

/-- The register page of an agent that retries its waits (R263). -/
def agentPage : Agent → Nat
  | .sampler u => 0x408 + u
  | _ => 0x400

/-- TALLY_WAIT_RETRY (R263): a failed wait of an agent is tried again, 1 ms of device time after its last try. -/
def execTallyWaitRetry (a : Agent) (s : State) : Result :=
  match s.tly.retry.find? (fun r => r.agent = a) with
  | none => .next s
  | some r =>
    if s.now < r.since + 1000000 then .next s
    else
      let s := { s with tly := { s.tly with retry := s.tly.retry.erase r } }
      .next (s.agentWait (agentPage a) r.bank r.ctx r.vid r.n a)

/-! ## The command registers (R273) -/

/-- R273: the checks that come before a command's own: the issuer's rights over the context, and the context's state. -/
def State.tlyGate (s : State) (rdr : Reader) (set : Bool) : Status :=
  let c := s.rd .tlyCmdctx rdr.num
  if !s.mayWriteCtx rdr c ∨ (set ∧ rdr ≠ .session 0) then .sesRights
  else if !s.ctxLive c then .ctxState
  else .ok

/-- The end of a command: its status in the issuer's copy of TLY_CMDSTATUS. -/
def State.tlyEnd (s : State) (rdr : Reader) (st : Status) : State :=
  (s.wr .tlyCmdstatus rdr.num st.code).reply rdr st 0

/-- The lowest n free physical tallies from p upward. -/
def freeTallies (owner : Sparse (Option Nat)) : Nat → Nat → Nat → List Nat
  | 0, _, _ => []
  | fuel + 1, p, n =>
    if n = 0 then []
    else if sget none owner p = none then p :: freeTallies owner fuel (p + 1) (n - 1)
    else freeTallies owner fuel (p + 1) n

/-- R261: the bank of a MAP: the bank named, or the bank with the most free tallies (the lowest of several). -/
def State.mapBank (s : State) (b : Nat) : Nat :=
  if b < 4 then b else (argMax (fun k => s.rd .tlyFree k) [0, 1, 2, 3]).getD 0

/-- A translation entry of the context's table is written. -/
def State.writeTt (s : State) (ctx vid e : Nat) : State :=
  stateOf (s.memWrite false (s.ttAddr ctx vid) (leBytes 4 e))

/-- R261: the checks of MAP, in order. -/
def State.tlyMapCheck (s : State) (ctx vid n b : Nat) : Status :=
  if n = 0 ∨ n > 65535 ∨ b > 4 then .tallyCmd
  else if vid = 0 ∨ vid + n > 65536 then .tallyMapOverlap
  else if (List.range n).any (fun k => match s.ttEntry ctx (vid + k) with | .ok _ => true | .error _ => false) then
    .tallyMapOverlap
  else if s.rd .tlyFree (s.mapBank b) < n then .tallyExhausted
  else .ok

/-- R261: one tally of a MAP: the physical tally pk.1, at value 0, under the ID that lies pk.2 above vid. -/
def tlyMapOne (ctx vid foreign : Nat) (s : State) (pk : Nat × Nat) : State :=
  let s := { s with tly := { s.tly with
    owner := sput none s.tly.owner pk.1 (some ctx), vals := sput 0 s.tly.vals pk.1 0 } }
  s.writeTt ctx (vid + pk.2) (pk.1 + 2 ^ 20 + foreign * 2 ^ 21)

/-- R261: MAP's effect: physical tallies of the bank, at value 0, under the range's IDs. -/
def State.tlyMapRange (s : State) (ctx vid n bank foreign : Nat) : State :=
  let ps := freeTallies s.tly.owner (n + s.tly.owner.length) (bank * 2 ^ 18) n
  let s := (ps.zip (List.range n)).foldl (tlyMapOne ctx vid foreign) s
  s.wr .tlyFree bank (s.rd .tlyFree bank - n)

/-- TLY_MAP (R261). -/
def execTlyMap (rdr : Reader) (s : State) : Result :=
  let k := rdr.num
  let c := s.rd .tlyCmdctx k
  let vid := s.rd .tlyCmdvid k
  let n := s.rd .tlyCmdarg k
  let b := s.rd .tlyCmdbank k
  match s.tlyGate rdr false with
  | .ok =>
    match s.tlyMapCheck c vid n b with
    | .ok => .next ((s.tlyMapRange c vid n (s.mapBank b) (s.rd .tlyCmdforeign k)).tlyEnd rdr .ok)
    | e => .next (s.tlyEnd rdr e)
  | e => .next (s.tlyEnd rdr e)

/-- R261: the checks of UNMAP, in order. -/
def State.tlyUnmapCheck (s : State) (ctx vid n : Nat) : Status :=
  let ids := (List.range n).map (· + vid)
  if n = 0 ∨ n > 65535 then .tallyCmd
  else if vid + n > 65536 then .tallyUnmapped
  else if ids.any (fun v => match s.ttEntry ctx v with | .ok _ => false | .error _ => true) then .tallyUnmapped
  else if ids.any (fun v => match s.ttEntry ctx v with
      | .ok e => s.tallyQueue (bitsAt e 0 20) ≠ [] | .error _ => false) then .tallyBusy
  else .ok

/-- R261: UNMAP's effect on one ID: its tally returns to its bank, and no cache holds its translation. -/
def State.tlyUnmapOne (s : State) (ctx vid : Nat) : State :=
  match s.ttEntry ctx vid with
  | .error _ => s
  | .ok e =>
    let p := bitsAt e 0 20
    let s := { s with tly := { s.tly with
      owner := sdrop s.tly.owner p
      vals := sdrop s.tly.vals p } }
    ((s.uncache (fun x => x == (ctx, vid))).bump .tlyFree (bankOf p) 1).writeTt ctx vid 0

/-- TLY_UNMAP (R261). -/
def execTlyUnmap (rdr : Reader) (s : State) : Result :=
  let k := rdr.num
  let c := s.rd .tlyCmdctx k
  let vid := s.rd .tlyCmdvid k
  let n := s.rd .tlyCmdarg k
  match s.tlyGate rdr false with
  | .ok =>
    match s.tlyUnmapCheck c vid n with
    | .ok => .next (((List.range n).foldl (fun s j => s.tlyUnmapOne c (vid + j)) s).tlyEnd rdr .ok)
    | e => .next (s.tlyEnd rdr e)
  | e => .next (s.tlyEnd rdr e)

/-- TLY_SET (R255, R273): session 0 sets a tally's value. -/
def execTlySet (rdr : Reader) (s : State) : Result :=
  let k := rdr.num
  match s.tlyGate rdr true with
  | .ok =>
    let (t, st) := s.tallySet 0 (s.rd .tlyCmdctx k) (s.rd .tlyCmdvid k) (s.rd .tlyCmdarg k)
    .next (t.tlyEnd rdr st)
  | e => .next (s.tlyEnd rdr e)

/-- TLY_SIGNAL (R273): a signal from a session or hart, translated at bank 0 (R512). -/
def execTlySignal (rdr : Reader) (s : State) : Result :=
  let k := rdr.num
  match s.tlyGate rdr false with
  | .ok =>
    let (t, st) := s.tallySignal 0 (s.rd .tlyCmdctx k) (s.rd .tlyCmdvid k) (s.rd .tlyCmdarg k) false
    .next (t.tlyEnd rdr st)
  | e => .next (s.tlyEnd rdr e)

/-- TLY_READ (R273): the value is returned in TLY_CMDVALUE. -/
def execTlyRead (rdr : Reader) (s : State) : Result :=
  let k := rdr.num
  match s.tlyGate rdr false with
  | .ok =>
    match s.tallyRead 0 (s.rd .tlyCmdctx k) (s.rd .tlyCmdvid k) with
    | (t, .ok v) => .next ((t.wr .tlyCmdvalue k v).tlyEnd rdr .ok)
    | (t, .error e) => .next (t.tlyEnd rdr e)
  | e => .next (s.tlyEnd rdr e)

end Sys2Proof.Machine
end

