-- ==== Sys2Proof/Machine/SpanOps.lean ====
section
/-!
DEFINITION. The spans' operations (R300 to R312): LINK frames and replay, frames received, and what the loss of a span or a member does to Weavin
entries. The frames themselves and the choice of the next one are in SpanLinks.lean.
-/
namespace Sys2Proof.Machine
open Sys2Proof

/-! ## LINK frames and replay (R299, R300) -/

/-- R300, R301: a LINK frame: the counter NAKed, or all ones, and the credit to return to the peer (log entry 54). -/
def State.sendLink (s : State) (n : Nat) (nak : Option Nat) : State :=
  let l := s.link n
  let f : Frame := ⟨0, 0, 1, s.rd .fltMember 0, s.rd .spnPeer n,
    leBytes 4 (match nak with | some c => c % 2 ^ 32 | none => 0xFFFFFFFF) ++ (l.owed.map (leBytes 2)).flatten, false, none, none, 0, []⟩
  let bytes := sealFrame l.tx l.tx.count (frameHeader f l.tx.phase (l.tx.count % 2 ^ 32) ((l.rx.count + 2 ^ 32 - 1) % 2 ^ 32))
    f.payload
  ((s.setLink n { l with owed := [0, 0, 0, 0] }).emit (.span n bytes)).bump .spnTxbytes n bytes.length

/-- R300: the unacknowledged frames from the one of a counter onward, those of the next key among them. -/
def SpanLink.sentFrom (l : SpanLink) (low : Nat) : List SentFrame := l.sent.dropWhile (fun f => f.count % 2 ^ 32 ≠ low)

/-- R300: replay unacknowledged frames, as the bytes they were sent as. -/
def State.replay (s : State) (n : Nat) (fs : List SentFrame) : State :=
  (fs.foldl (fun s f => s.emit (.span n f.bytes)) s).bump .spnReplays n fs.length

/-- R301: credit is owed for a quarter of a VC's buffer. -/
def SpanLink.creditDue (l : SpanLink) : Bool := (l.owed.zip SpanLink.dark.credits).any (fun p => p.2 ≤ 4 * p.1)

/-- R300, R301: after a frame has been received: a LINK frame returns the credit once a quarter of a VC's buffer is owed, or where no frame waits
that would carry the acknowledgement (log entry 119). -/
def State.returnCredit (s : State) (n : Nat) (idle : Bool) : State :=
  if (s.link n).creditDue || idle then s.sendLink n none else s

/-! ## What becomes of entries (R230, R249, R250, R310, R311) -/

/-- The plan of a sequence number. -/
def State.planOfSeq (s : State) (seq : Nat) : Option (Nat × Plan) :=
  s.weave.plans.findSome? (fun p => p.2.bind (fun x => if x.seq = seq then some (p.1, x) else none))

def State.setPlan (s : State) (k : Nat) (p : Option Plan) : State :=
  { s with weave := { s.weave with plans := sput none s.weave.plans k p } }

/-- R230: an entry of a plan fails: it waits for nothing more, and the plan's first failure is noted. -/
def Plan.failEntry (p : Plan) (idx : Nat) (st : Status) : Plan :=
  { p with
    inprog := p.inprog.map (fun e => if e.idx = idx ∧ e.status = .ok then
      { e with status := st, blocked := false, waiting := [] } else e)
    fail := if p.fail = none ∧ p.inprog.any (fun e => e.idx = idx && e.status = .ok) then some (st, idx) else p.fail }

/-- An entry named by its plan's sequence number fails. -/
def State.failEntry (s : State) (seq idx : Nat) (st : Status) : State :=
  let s : State := { s with weave := { s.weave with
    orphans := s.weave.orphans.filter (fun o => !(o.2.1 = seq && o.2.2.1 = idx)) } }
  match s.planOfSeq seq with
  | none => s
  | some (k, p) => s.setPlan k (some (p.failEntry idx st))

/-- The entries that wait for a member's confirmation fail (R250, R304). -/
def State.failMember (s : State) (m : Nat) (st : Status) : State :=
  let s : State := { s with weave := { s.weave with orphans := s.weave.orphans.filter (fun o => o.2.2.2 ≠ m) } }
  s.weave.plans.foldl (fun s kp =>
    match kp.2 with
    | none => s
    | some p =>
      let idx := (p.inprog.filter (fun e => e.waiting.any (fun w => w.1 = m))).map (·.idx)
      s.setPlan kp.1 (some (idx.foldl (fun p i => p.failEntry i st) p))) s

/-- R311: entries whose remote writes are not all confirmed, and that send to a member more than one hop away, fail. -/
def State.failFar (s : State) : State :=
  let far (m : Nat) : Bool := s.peerSpans m = []
  let s : State := { s with weave := { s.weave with orphans := s.weave.orphans.filter (fun o => !far o.2.2.2) } }
  s.weave.plans.foldl (fun s kp =>
    match kp.2 with
    | none => s
    | some p =>
      let idx := (p.inprog.filter (fun e => e.waiting.any (fun w => far w.1))).map (·.idx)
      s.setPlan kp.1 (some (idx.foldl (fun p i => p.failEntry i .spnPathLost) p))) s

/-- A frame that can go no further fails its entry (R304). -/
def State.frameLost (s : State) (f : Frame) (st : Status) : State :=
  match f.entry with
  | some e => s.failEntry e.2.1 e.2.2 st
  | none => s

/-- R310: a span has gone DARK: frames not acknowledged fail their entries; frames not yet sent look for another route. -/
def State.linkDown (s : State) (n : Nat) : State :=
  let l := s.link n
  let s := s.setLink n SpanLink.dark
  let s := l.sent.foldl (fun s f => s.frameLost f.frame .spnPathLost) s
  (l.queue.filter Frame.routed).foldl State.route s

/-! ## States of a span (R307) -/

/-- A span goes DARK: its registers of class I fall back to zero, but for the lanes' record of the last training. -/
def State.spanDark (s : State) (n : Nat) : State :=
  let s := ((((((s.wr .spnState n spDark).wr .spnWidth n 0).wr .spnSilent n 0).wr .spnLanes n 0).wr .spnPeer n 0).wr .spnPeervalid n
    0).wr .spnPeerspan n 0
  (s.wr .spnPeerstate n 0).linkDown n

/-- R307, R303: a span is fenced: its page's FENCED bit is set, and nothing travels on it until a module reset. -/
def State.fenceSpan (s : State) (n : Nat) (st : Status) : State :=
  (((s.spanDark n).wr .spnState n spFenced).wr .fenced (spanPage n) 1).wr .spnRefuse n st.code

/-- R307, R308, R322: a span is REFUSED with a status. A hail that failed keeps its key pair and nonce for its repeats (log entry 57); a session
that ends keeps nothing. -/
def State.refuseSpan (s : State) (n : Nat) (st : Status) : State :=
  let l := s.link n
  let was := s.rd .spnState n
  let s := (s.wr .spnState n spRefused).wr .spnRefuse n st.code
  let s := s.setLink n (if was = spUp ∨ was = spDraining then SpanLink.dark
    else { SpanLink.dark with ownKey := l.ownKey, nonce := l.nonce, hail := l.hail, peerHail := l.peerHail })
  let s := l.sent.foldl (fun s f => s.frameLost f.frame .spnPathLost) s
  (l.queue.filter Frame.routed).foldl State.route s

/-! ## Receiving (R300, R303) -/

/-- The fields of a received frame. -/
def fType (b : List Byte) : Nat := fieldAt b 0 1 % 16
def fVc (b : List Byte) : Nat := bitsAt (fieldAt b 0 1) 4 2
def fPhase (b : List Byte) : Bool := bitAt (fieldAt b 0 1) 6
def fHops (b : List Byte) : Nat := fieldAt b 1 1 % 16
def fLen (b : List Byte) : Nat := fieldAt b 2 2
def fSrc (b : List Byte) : Nat := fieldAt b 4 2 % 2 ^ 14
def fDst (b : List Byte) : Nat := fieldAt b 6 2 % 2 ^ 14
def fSeq (b : List Byte) : Nat := fieldAt b 8 4
def fAck (b : List Byte) : Nat := fieldAt b 12 4

/-- R298: a frame is well formed and of a type. -/
def frameFormed (b : List Byte) (ty : Nat) : Bool :=
  32 ≤ b.length && fType b = ty && fLen b = b.length - 32 && fLen b ≤ (if ty = 1 then 1056 else 9200)

/-- R300: a cumulative acknowledgement by its low 32 bits. -/
def SpanLink.acked (l : SpanLink) (ack now : Nat) : SpanLink :=
  if l.sent.any (fun f => f.count % 2 ^ 32 = ack) then
    let rest := (l.sent.dropWhile (fun f => f.count % 2 ^ 32 ≠ ack)).drop 1
    { l with sent := rest, lastAck := now }
  else l

/-- R303: a tag failure: it counts, and the 64th within 1 s fences the span. -/
def State.tagFailure (s : State) (n : Nat) : State :=
  let s := s.bump .spnTagfail n 1
  let recent := ((s.link n).tagFails.filter (fun t => s.now < t + 1000000000)) ++ [s.now]
  if 64 ≤ recent.length then s.fenceSpan n .spnTagFence
  else s.setLink n { s.link n with tagFails := recent }

/-- R310, R312: a frame has arrived: SILENT ends. -/
def State.heardSpan (s : State) (n : Nat) : State :=
  let s := (s.setLink n { s.link n with lastRx := s.now }).wr .spnSilent n 0
  s.retryStuck

/-- R300, R303: receive a frame of a type other than LINK on an UP span. `bad` is an uncorrectable codeword. A frame with a fault is
discarded and the expected counter NAKed; one in order is opened, what it acknowledges leaves the replay buffer, and its member is not
silent (R339). -/
def State.receive (s : State) (n ty : Nat) (b : List Byte) (bad : Bool) : State × Option (List Byte) :=
  if s.rd .spnState n ≠ spUp then (s, none)
  else
    let l := s.link n
    let nak (s : State) : State × Option (List Byte) := (s.sendLink n (some (s.link n).rx.count), none)
    if bad then nak (s.bump .spnFecuncorr n 1)
    else if !frameFormed b ty then nak s
    else
      let fresh := l.rxUpdate && fPhase b ≠ l.rx.phase
      let k := if fresh then l.rx.after else l.rx
      if fPhase b ≠ k.phase ∨ fSeq b ≠ k.count % 2 ^ 32 then nak s
      else
        match openSpanFrame k k.count b with
        | none =>
          let s := s.tagFailure n
          if s.rd .spnState n = spUp then nak s else (s, none)
        | some p =>
          let units := ceilDiv b.length 64
          let l : SpanLink := { (l.acked (fAck b) s.now) with
            rx := { k with count := k.count + 1 }
            rxUpdate := if fresh then false else l.rxUpdate
            owed := l.owed.set (fVc b) (l.owed.getD (fVc b) 0 + units) }
          let s := ((s.setLink n l).bump .spnRxbytes n b.length).heardSpan n
          let s : State := { s with flt := { s.flt with silent := s.flt.silent.filter (fun q => q.1 ≠ fSrc b) } }
          let idle := (s.link n).queue.isEmpty
          ((s.pump n).returnCredit n idle, some p)

end Sys2Proof.Machine
end

