-- ==== Sys2Proof/Machine/TetherOps.lean ====
section
/-!
DEFINITION. The tether ports' and sessions' operations (R387 to R404): frames and their protection, home ports, link numbers and replay, sending on a
session, and closing one.
-/
namespace Sys2Proof.Machine
open Sys2Proof

/-! ## Ports and sessions -/

def State.port (s : State) (p : Nat) : TetherPort := sget TetherPort.dark s.sec.ports p

def State.setPort (s : State) (p : Nat) (x : TetherPort) : State :=
  { s with sec := { s.sec with ports := sput TetherPort.dark s.sec.ports p x } }

def State.sess (s : State) (n : Nat) : Session := sget Session.none s.sec.sessions n

def State.setSess (s : State) (n : Nat) (x : Session) : State :=
  { s with sec := { s.sec with sessions := sput Session.none s.sec.sessions n x } }

/-- R388: the codes of TETH_PORTSTATE. -/
def tpDark : Nat := 0
def tpTraining : Nat := 1
def tpUp : Nat := 2
def tpDown : Nat := 3
def tpListen : Nat := 4

def portReg (p : Nat) : Reg := if p = 0 then .tethPortstate0 else .tethPortstate1

def State.portState (s : State) (p : Nat) : Nat := s.rd (portReg p) 0

def State.portUp (s : State) (p : Nat) : Bool := p < 2 && s.portState p = tpUp

/-- R419: the codes of TS_STATE. -/
def tsClosed : Nat := 0
def tsHandshake : Nat := 1
def tsOpen : Nat := 2

def State.isOpen (s : State) (n : Nat) : Bool := s.rd .tsState n = tsOpen

/-- R397: session n is an OPEN session of mode CLAIM. -/
def State.isClaim (s : State) (n : Nat) : Bool := s.isOpen n && s.rd .tsMode n = 2

/-- R389: the home port of session n: by TETH_MODE while the ports it names are UP, the other port while only that one is UP, and the port
it has while neither is. -/
def State.homeOf (s : State) (n : Nat) : Nat :=
  if s.portUp 0 ∧ s.portUp 1 then (if s.flag .tethMode 0 then 0 else n % 2)
  else if s.portUp 0 then 0
  else if s.portUp 1 then 1
  else s.rd .tsPort n

/-! ## Frames (R390) -/

/-- R391: the frame types. -/
def tfLink : Nat := 0
def tfHandshake : Nat := 1
def tfRequest : Nat := 2
def tfResponse : Nat := 3
def tfBulkWrite : Nat := 4
def tfBulkRead : Nat := 5
def tfBulkData : Nat := 6
def tfEvent : Nat := 7
def tfAttest : Nat := 8
def tfQuote : Nat := 9
def tfClose : Nat := 10
def tfKeyUpdate : Nat := 11
def tfError : Nat := 12
def tfMetrology : Nat := 13

/-- R390: the header. -/
def tfHeader (ty n : Nat) (phase : Bool) (len lseq lack ctr : Nat) : List Byte :=
  leBytes 1 ty ++ leBytes 1 (n + 64 * b2n phase) ++ leBytes 2 len ++ leBytes 4 lseq ++ leBytes 4 lack ++ leBytes 8 ctr ++ zeros 4

def tfType (b : List Byte) : Nat := fieldAt b 0 1 % 16
def tfSession (b : List Byte) : Nat := fieldAt b 1 1 % 64
def tfPhase (b : List Byte) : Bool := bitAt (fieldAt b 1 1) 6
def tfLen (b : List Byte) : Nat := fieldAt b 2 2
def tfLseq (b : List Byte) : Nat := fieldAt b 4 4
def tfLack (b : List Byte) : Nat := fieldAt b 8 4
def tfCtr (b : List Byte) : Nat := fieldAt b 12 8

/-- R390: bytes after the payload: a tag, LINK's CRC, or nothing. -/
def tfTail (ty : Nat) : Nat := if ty = tfLink then 4 else if ty = tfHandshake ∨ ty = tfMetrology then 0 else 16

/-- R390: the additional authenticated data: bytes 0 to 3 and 12 to 23. -/
def tfAad (b : List Byte) : List Byte := b.take 4 ++ (b.drop 12).take 12

/-- R390: seal a payload: a whole frame whose link fields are still zero. -/
def tfSeal (k : SpanKey) (ty n : Nat) (payload : List Byte) : List Byte :=
  let hdr := tfHeader ty n k.phase payload.length 0 0 k.count
  let (ct, tag) := Config.gcmSeal (BitVec.ofNat 256 k.key) (frameNonce k.salt k.count) (tfAad hdr) payload
  hdr ++ ct ++ beBytes 16 tag.toNat

/-- R390: open a frame under a key; none where its tag fails. -/
def tfOpen (k : SpanKey) (b : List Byte) : Option (List Byte) :=
  Config.gcmOpen (BitVec.ofNat 256 k.key) (frameNonce k.salt (tfCtr b)) (tfAad b) ((b.drop 24).take (tfLen b))
    (BitVec.ofNat 128 (beNat ((b.drop (24 + tfLen b)).take 16)))

/-- R394: the key that follows a key. -/
def tethNext (k : SpanKey) : SpanKey := keyOf (Config.hkdfExpand 36 (beBytes 32 k.key) (asciiBytes "kerilo tether next")) !k.phase

/-- R392: the credit a frame takes, in 64-byte units; HANDSHAKE and LINK take none. -/
def tfUnits (b : List Byte) : Nat := if tfType b = tfLink ∨ tfType b = tfHandshake then 0 else ceilDiv b.length 64

/-! ## Sending on a port (R392) -/

/-- The bytes held in the replay buffer. -/
def TetherPort.replayBytes (x : TetherPort) : Nat := x.sent.foldl (fun a f => a + f.bytes.length) 0

/-- The last link number received in order. -/
def TetherPort.lack (x : TetherPort) : Nat := (x.expect + 2 ^ 32 - 1) % 2 ^ 32

/-- A frame with its link fields put in. -/
def tfWithLink (b : List Byte) (lseq lack : Nat) : List Byte := b.take 4 ++ leBytes 4 lseq ++ leBytes 4 lack ++ b.drop 12

/-- A port sends what its credit and its replay buffer of 512 KiB allow. -/
def State.pumpPortN (s : State) (p : Nat) : Nat → State
  | 0 => s
  | fuel + 1 =>
    let x := s.port p
    match x.queue with
    | [] => s
    | (n, b) :: rest =>
      if x.credit < tfUnits b ∨ 2 ^ 19 < x.replayBytes + b.length then s
      else
        let f := tfWithLink b x.next x.lack
        let x : TetherPort := { x with
          queue := rest
          sent := x.sent ++ [⟨x.next, n, f⟩]
          next := (x.next + 1) % 2 ^ 32
          credit := x.credit - tfUnits b
          lastAck := if x.sent = [] then s.now else x.lastAck }
        (((s.setPort p x).emit (.tether p f)).bump .tethTxframes 0 1).pumpPortN p fuel

def State.pumpPort (s : State) (p : Nat) : State :=
  if s.portUp p then s.pumpPortN p (s.port p).queue.length else s

/-- A whole frame of session n joins the queue of the session's home port. -/
def State.queueFrame (s : State) (n : Nat) (b : List Byte) : State :=
  let p := s.homeOf n
  (s.setPort p { s.port p with queue := (s.port p).queue ++ [(n, b)] }).pumpPort p

/-- R388, R392: a LINK frame: the number to NAK, or all ones, and the credit to return. -/
def State.sendTethLink (s : State) (p : Nat) : State :=
  let x := s.port p
  let hdr := tfHeader tfLink 0 false 8 0 x.lack 0
  let body := leBytes 4 (match x.nak with | some k => k | none => 0xFFFFFFFF) ++ leBytes 4 x.owed
  let f := hdr ++ body ++ leBytes 4 (crc32c (hdr ++ body))
  ((s.setPort p { x with owed := 0, nak := none, lastLink := s.now }).emit (.tether p f)).bump .tethTxframes 0 1

/-- R392: replay every unacknowledged frame from a link number onward. -/
def State.replayPort (s : State) (p : Nat) (fs : List TetherSent) : State :=
  (fs.foldl (fun s f => s.emit (.tether p f.bytes)) s).bump .tethReplays 0 fs.length

/-- R392: a cumulative acknowledgement. -/
def TetherPort.acked (x : TetherPort) (lack now : Nat) : TetherPort :=
  if x.sent.any (fun f => f.lseq = lack) then
    { x with sent := (x.sent.dropWhile (fun f => f.lseq ≠ lack)).drop 1, lastAck := now }
  else x

/-! ## Sending on a session (R393, R394) -/

/-- Send the payloads that wait on a session, while a port is UP and the direction's counter is below 2^40. -/
def State.flushN (s : State) (n : Nat) : Nat → State
  | 0 => s
  | fuel + 1 =>
    let x := s.sess n
    match x.waiting with
    | [] => s
    | (ty, pay) :: rest =>
      if !s.isOpen n ∨ !s.portUp (s.homeOf n) ∨ 2 ^ 40 ≤ x.tx.count then s
      else
        let s := s.setSess n { x with waiting := rest, tx := { x.tx with count := x.tx.count + 1 } }
        ((s.wr .tsTxctr n x.tx.count).queueFrame n (tfSeal x.tx ty n pay)).flushN n fuel

def State.flush (s : State) (n : Nat) : State := s.flushN n (s.sess n).waiting.length

/-- The module sends a protected frame on an OPEN session. -/
def State.sessionSend (s : State) (n ty : Nat) (payload : List Byte) : State :=
  if s.isOpen n then (s.setSess n { s.sess n with waiting := (s.sess n).waiting ++ [(ty, payload)] }).flush n else s

/-- R394: KEY_UPDATE, and the next key, salt and phase. -/
def State.rollover (s : State) (n : Nat) : State :=
  let x := s.sess n
  let s := (s.setSess n { x with tx := tethNext x.tx }).wr .tsTxctr n x.tx.count
  (s.queueFrame n (tfSeal x.tx tfKeyUpdate n [])).flush n

/-- R395, R440: a message cut into fragments of 8,192 bytes at most: kind, index, count and zero, then the part of the body. -/
def fragmentsOf (kind : Nat) (body : List Byte) : List (List Byte) :=
  let cnt := max 1 (ceilDiv body.length 8192)
  (List.range cnt).map (fun i => leBytes 1 kind ++ leBytes 1 i ++ leBytes 1 cnt ++ zeros 1 ++ (body.drop (8192 * i)).take 8192)

/-- R395: the module sends a handshake message. -/
def State.sendHandshake (s : State) (n kind : Nat) (body : List Byte) : State :=
  (fragmentsOf kind body).foldl (fun s pay =>
    s.queueFrame n (tfHeader tfHandshake n false pay.length 0 0 0 ++ pay)) s

/-- R404, R440: the metering interface sends a reply, fragment by fragment, in METROLOGY frames of session 0. -/
def State.sendMetrology (s : State) (message : List Byte) : State :=
  (fragmentsOf (fieldAt message 0 1) (message.drop 4)).foldl (fun s pay =>
    s.queueFrame 0 (tfHeader tfMetrology 0 false pay.length 0 0 0 ++ pay)) s

/-! ## Home ports (R389) -/

/-- R389: a session moves to its home port. What a port that is not UP holds of it unsent or unacknowledged is sent on the new one. -/
def State.moveSession (s : State) (n : Nat) : State :=
  let old := s.rd .tsPort n
  let new := s.homeOf n
  if old = new then s
  else
    let s := (s.wr .tsPort n new).bump .tethFailovers 0 1
    if s.portUp old then s
    else
      let x := s.port old
      let y := s.port new
      let mine := ((x.sent.filter (fun f => f.session = n)).map (fun f => (n, f.bytes))) ++ x.queue.filter (fun f => f.1 = n)
      (s.setPort old { x with sent := x.sent.filter (fun f => f.session ≠ n), queue := x.queue.filter (fun f => f.1 ≠ n) }).setPort new
        { y with queue := y.queue ++ mine }

/-- R389: every session that is not CLOSED goes to its home port, and what waits is sent. -/
def State.rehome (s : State) : State :=
  let s := (List.range 64).foldl (fun s n => if s.rd .tsState n = tsClosed then s.wr .tsPort n (s.homeOf n) else s.moveSession n) s
  let s := (s.pumpPort 0).pumpPort 1
  (List.range 64).foldl (fun s n => s.flush n) s

/-- A port comes UP: it numbers its frames from 0 with full credit, and sends again what had not been acknowledged (log entry 65). -/
def State.portComesUp (s : State) (p : Nat) : State :=
  let x := s.port p
  let again := x.sent.map (fun f => (f.session, f.bytes)) ++ x.queue
  let s := s.setPort p { TetherPort.dark with queue := again, lastRx := s.now, lastAck := s.now, lastLink := s.now }
  (s.wr (portReg p) 0 tpUp).rehome

/-! ## Closing (R398) -/

/-- R419: TS_CLOSEREASON. -/
inductive CloseReason where
  | close | gap | tag | replaced | owner | rebound | reset
  deriving DecidableEq, Repr

def CloseReason.code : CloseReason → Nat
  | .close => 1
  | .gap => 2
  | .tag => 3
  | .replaced => 4
  | .owner => 5
  | .rebound => 6
  | .reset => 7

/-- R398, R12: a session closes: its keys and what it held are gone, and its captures are discarded. A handshake under way for the same number
goes on. -/
def State.closeSession (s : State) (n : Nat) (why : CloseReason) : State :=
  let x := s.sess n
  let s := s.setSess n { Session.none with hs := x.hs, frags := x.frags }
  let s := (s.wr .tsState n (if x.hs.isSome then tsHandshake else tsClosed)).wr .tsClosereason n why.code
  let s := (s.wr .tsEvtwindow n 0).wr .tsKeyphase n 0
  { s with cfg := { s.cfg with captures := s.cfg.captures.filter (fun q => q.1 / 2 ^ 40 ≠ n) } }

/-- R398: the module closes an OPEN session of its own accord, and says so with CLOSE (log entry 67). -/
def State.endSession (s : State) (n : Nat) (why : CloseReason) : State :=
  if s.isOpen n then (s.sessionSend n tfClose []).closeSession n why else s

end Sys2Proof.Machine
end

