-- ==== Sys2Proof/Machine/Contexts.lean ====
section
/-!
DEFINITION. The commands of the context page (R357 to R368), the doorbells (R369) and the delivery of events (R375 to R377). RESET,
its completion, RING_DESTROY and the turn boundary are in ContextEnd.lean, because they reach into every block.
-/
namespace Sys2Proof.Machine
open Sys2Proof

/-! ## The command register -/

/-- The end of a context command: its status in CTX_CMDSTATUS. -/
def State.ctxEnd (s : State) (rdr : Reader) (c : Nat) (st : Status) : State :=
  (s.wr .ctxCmdstatus c st.code).reply rdr .ok 0

/-- R360: who may issue a command of a context page. -/
inductive CtxRight where
  /-- Session 0 only. -/
  | session0
  /-- Session 0 and the owner session. -/
  | owner
  /-- Session 0, the owner session and gondola software of the context. -/
  | gondola
  deriving DecidableEq, Repr

/-- R360: the rights check of a context command. -/
def State.ctxMay (s : State) (rdr : Reader) (c : Nat) : CtxRight → Bool
  | .session0 => rdr = .session 0
  | .owner => match rdr with
    | .session n => s.owns n c
    | _ => false
  | .gondola => s.mayWriteCtx rdr c

/-- A command of a context page while another of the page runs is refused with GEN_CMD_BUSY (R357, R488; RESET excepted). -/
def State.ctxBusy (s : State) (c : Nat) : Bool := sget 0 s.ctxRunning c ≠ 0

/-- Run a context command: the issuer's rights, the busy check, and the command's own outcome. -/
def State.ctxCommand (s : State) (rdr : Reader) (c : Nat) (r : CtxRight) (f : State → State × Status) : State :=
  if c ≥ 64 then s.reply rdr .genPageAbsent 0
  else if !s.ctxMay rdr c r then s.reply rdr .sesRights 0
  else if s.ctxBusy c then s.reply rdr .genCmdBusy 0
  else
    let (t, st) := f s
    t.ctxEnd rdr c st

/-- The mark of a command under way: its code. -/
def State.setRunning (s : State) (c k : Nat) : State := { s with ctxRunning := sput 0 s.ctxRunning c k }

/-! ## CREATE -/

/-- R358: the arguments of CREATE. -/
structure CreateArgs where
  owner : Nat
  cls : Nat
  metered : Nat
  fixed : Nat
  lanes : Nat
  base : Nat
  size : Nat
  inRange : Bool
  deriving DecidableEq, Repr

def State.createArgs (s : State) (c : Nat) : CreateArgs :=
  let w0 := s.cmdArg c 0
  let w4 := s.cmdArg c 4
  let lanes := bitsAt w0 16 16
  let fixed := bitsAt w0 8 1
  let base := bitsAt (s.rd .ctxCmdarg c) 64 64
  let size := bitsAt w4 0 16
  ⟨bitsAt w0 0 6, bitsAt w0 6 1, bitsAt w0 7 1, fixed, lanes, base, size,
    bitsAt w0 9 7 = 0 && s.cmdArg c 1 = 0 && bitsAt w4 16 16 = 0 && base % 2 ^ 21 = 0 && 2 ≤ size && size ≤ 4096
      && (if fixed = 1 then lanes % 256 = 0 && 256 ≤ lanes && lanes ≤ 49152 else lanes = 0)⟩

/-- R358: the checks of CREATE. -/
def State.createCheck (s : State) (c : Nat) (a : CreateArgs) : Status :=
  if s.rd .ctxState c ≠ 0 then .ctxState
  else if a.metered = 1 ∧ s.rd .mtrState 0 ≠ 2 then .mtrNoCartridge
  else if !a.inRange then .ctxCmd
  else if a.base + a.size * 2 ^ 21 > nearTop then .memPaRange
  else if s.reserve.meets false a.base (a.size * 2 ^ 21) then .memReserved
  else if (s.tableAreas (some c) ++ s.moduleRegions).any (fun r => r.meets false a.base (a.size * 2 ^ 21)) then
    .ctxMapProtected
  else .ok

/-- R358, R359, R377, R427: CREATE's effect: the context is DEFINED, its table area cleared, its event bucket full, and an
instance of counters open. -/
def State.createCtx (s : State) (c : Nat) (a : CreateArgs) : State :=
  let s := s.clearNear a.base (a.size * 2 ^ 21)
  let s := (((s.wr .ctxClass c a.cls).wr .ctxOwner c a.owner).wr .ctxMetered c a.metered).wr .ctxFixedlanes c a.fixed
  let s := ((s.wr .ctxReqlanes c a.lanes).wr .ctxTablebase c a.base).wr .ctxTablesize c a.size
  let s := (s.wr .ctxL2free c (s.l2Pool c).2).wr .ctxState c 1
  let s := s.wr .ctxLanesok c (b2n (s.lanesOk c))
  let s := s.setEvList c ⟨[], false, s.rd .ctxEvtburst c * 1000000, s.now⟩
  s.meterOpen c (a.metered = 1)

/-- CTX_CREATE (R358). -/
def execCtxCreate (rdr : Reader) (c : Nat) (s : State) : Result :=
  .next (s.ctxCommand rdr c .session0 (fun s =>
    let a := s.createArgs c
    match s.createCheck c a with
    | .ok => (s.createCtx c a, .ok)
    | e => (s, e)))

/-! ## Residency -/

/-- Sum a field over the resident contexts. -/
def State.sumResident (s : State) (r : Reg) : Nat :=
  (((List.range 64).filter (fun c => s.rd .ctxState c = 2)).map (fun c => s.rd r c)).foldl (· + ·) 0

/-- R363: the checks of MAKE_RESIDENT. -/
def State.residentCheck (s : State) (c : Nat) : Status :=
  if s.rd .ctxState c ≠ 1 then .ctxState
  else if ((List.range 8).filter (fun k => (s.slotOwner k).isNone)) = [] then .ctxResidentFull
  else if s.sumResident .ctxScrslice + s.rd .ctxScrslice c > 128 ∨ s.sumResident .ctxAccslice + s.rd .ctxAccslice c > 128 then
    .ctxSliceSpace
  else if s.rd .ctxScrslice c = 0 ∨ s.rd .ctxAccslice c = 0 then .ctxSliceSpace
  else if !s.lanesOk c then .lanesMismatch
  else .ok

/-- MAKE_RESIDENT (R363): the lowest free slot, cleared slices, RESIDENT. -/
def execMakeResident (rdr : Reader) (c : Nat) (s : State) : Result :=
  .next (s.ctxCommand rdr c .owner (fun s =>
    match s.residentCheck c with
    | .ok =>
      let k := ((List.range 8).find? (fun k => (s.slotOwner k).isNone)).getD 0
      (((s.takeSlot c k).wr .ctxState c 2).wr .ctxLanesok c 1, .ok)
    | e => (s, e)))

/-- RELEASE_RESIDENCY (R364): no further task of the context is placed; the command runs until the last slot is free. -/
def execReleaseResidency (rdr : Reader) (c : Nat) (s : State) : Result :=
  .next (
    if c ≥ 64 then s.reply rdr .genPageAbsent 0
    else if !s.ctxMay rdr c .owner then s.reply rdr .sesRights 0
    else if s.ctxBusy c then s.reply rdr .genCmdBusy 0
    else if s.rd .ctxState c ≠ 2 then s.ctxEnd rdr c .ctxState
    else (s.setRunning c 4).reply rdr .ok 0)

/-- RESIDENCY_RELEASED (R364): with the last slot free, the slot and slices are freed and the context is DEFINED. -/
def execResidencyReleased (c : Nat) (s : State) : Result :=
  if sget 0 s.ctxRunning c = 4 ∧ !s.hasTask c then
    let s := s.freeSlot c (s.rd .ctxSlot c)
    .next (((s.wr .ctxState c 1).wr .ctxCmdstatus c 0).setRunning c 0)
  else .next s

/-! ## MAP and UNMAP -/

/-- MAP (R361): performed wholly or not at all; where a table's channel fails an access, with its status (R286). -/
def execMap (rdr : Reader) (met : Met Nat) (s : State) : Result :=
  .next ((s.eccFound met.ecc).ctxCommand rdr met.op .session0 (fun s =>
    if !s.ctxLive met.op then (s, .ctxState)
    else
      let a := s.mapArgs met.op
      match s.mapCheck met.op a with
      | .ok =>
        match s.eachPage (fun s k =>
          if a.large then s.mapLarge met.op (a.dva + k * a.size) (a.entry k) else s.mapSmall met.op (a.dva + k * a.size) (a.entry k)) (List.range a.pages) with
        | (t, .ok) => (t, .ok)
        | (_, e) => (s, e)
      | e => (s, e)))

/-- UNMAP (R361, R43): the entries are invalidated at once; the command runs until UNMAP_COMPLETE. -/
def execUnmap (rdr : Reader) (met : Met Nat) (s : State) : Result :=
  let s := s.eccFound met.ecc
  .next (
    if met.op ≥ 64 then s.reply rdr .genPageAbsent 0
    else if !s.ctxMay rdr met.op .session0 then s.reply rdr .sesRights 0
    else if s.ctxBusy met.op then s.reply rdr .genCmdBusy 0
    else if !s.ctxLive met.op then s.ctxEnd rdr met.op .ctxState
    else
      let a := s.mapArgs met.op
      match s.unmapCheck met.op a with
      | .ok =>
        match s.eachPage (fun s k => s.unmapPage met.op (a.dva + k * a.size) a.large) (List.range a.pages) with
        | (t, .ok) => (t.setRunning met.op 6).reply rdr .ok 0
        | (_, e) => s.ctxEnd rdr met.op e
      | e => s.ctxEnd rdr met.op e)

/-- UNMAP_COMPLETE (R43): cached translations are discarded and old accesses have finished. -/
def execUnmapComplete (c : Nat) (s : State) : Result :=
  if sget 0 s.ctxRunning c = 6 then .next ((s.wr .ctxCmdstatus c 0).setRunning c 0) else .next s

/-! ## Rings -/

/-- R368: the arguments of RING_CREATE. -/
structure RingArgs where
  ring : Nat
  ty : Nat
  log2 : Nat
  base : Nat
  inRange : Bool
  deriving DecidableEq, Repr

def State.ringArgs (s : State) (c : Nat) : RingArgs :=
  let w0 := s.cmdArg c 0
  ⟨bitsAt w0 0 16, bitsAt w0 16 2, bitsAt w0 18 5, bitsAt (s.rd .ctxCmdarg c) 64 64,
    4 ≤ bitsAt w0 18 5 && bitsAt w0 18 5 ≤ 16 && bitsAt w0 23 9 = 0 && s.cmdArg c 1 = 0⟩

/-- R368: the checks of RING_CREATE. -/
def State.ringCheck (s : State) (c : Nat) (a : RingArgs) : Status :=
  let n := 64 * 2 ^ a.log2
  if !s.ctxLive c then .ctxState
  else if s.rd .dbState a.ring ≠ 0 then .ringBusy
  else if !a.inRange then .ctxCmd
  else if a.base % 64 ≠ 0 ∨ !s.mapped c a.base n .read ∨ (a.ty = 3 ∧ !s.mapped c a.base n .write) then .ringMap
  else .ok

/-- RING_CREATE (R368): the ring is ACTIVE with both indices at 0. -/
def execRingCreate (rdr : Reader) (met : Met Nat) (s : State) : Result :=
  .next ((s.eccFound met.ecc).ctxCommand rdr met.op .gondola (fun s =>
    let a := s.ringArgs met.op
    match s.ringCheck met.op a with
    | .ok =>
      let s := (((s.wr .dbState a.ring 1).wr .dbType a.ring a.ty).wr .dbLog2 a.ring a.log2).wr .dbCtx a.ring met.op
      let s := ((s.wr .dbTail a.ring 0).wr .dbHead a.ring 0).wr .dbErr a.ring 0
      ((s.setRing a.ring ⟨a.base, 0, []⟩).bump .ctxRings met.op 1, .ok)
    | e => (s, e)))

/-- A ring returns to FREE (R368, R379). -/
def State.freeRing (s : State) (r : Nat) : State :=
  let s := (((s.wr .dbState r 0).wr .dbType r 0).wr .dbLog2 r 0).wr .dbCtx r 0
  let s := ((s.wr .dbTail r 0).wr .dbHead r 0).wr .dbErr r 0
  { s with rings := sdrop s.rings r }

/-! ## Doorbells (R369, R478) -/

/-- The common checks of a doorbell write: its address, the ring's state, and the writer's rights. A write to a ring of a context
that is EMPTY or RESETTING is discarded (R357). While the module enters, is in or leaves P2, the write (offset and value) is recorded and not taken
(R450). -/
def State.doorbell (s : State) (rdr : Reader) (r off v : Nat) (f : State → State × Status) : State :=
  if r ≥ 65536 then s.reply rdr .genAddrRange 0
  else if s.rd .dbState r = 0 then s.reply rdr .ringBusy 0
  else if !s.mayWriteCtx rdr (s.rd .dbCtx r) then s.reply rdr .sesRights 0
  else if !s.ctxLive (s.rd .dbCtx r) then s.reply rdr .ok 0
  else if s.rd .pwrState 0 ≠ 0 then
    let s : State := { s with pow := { s.pow with doorbells := s.pow.doorbells ++ [⟨rdr, r, off, v⟩] } }
    s.reply rdr .ok 0
  else
    let (t, st) := f s
    t.reply rdr st 0

/-- R369: write an index whose distance from the other one may not exceed the ring's size. -/
def State.writeIndex (s : State) (r : Nat) (tail : Bool) (v : Nat) : State × Status :=
  let v := v % 2 ^ 32
  let d := if tail then (v + 2 ^ 32 - s.rd .dbHead r) % 2 ^ 32 else (s.rd .dbTail r + 2 ^ 32 - v) % 2 ^ 32
  if d > s.ringSize r then (s.ringError r .ringOverrun v, .ringOverrun)
  else (s.wr (if tail then .dbTail else .dbHead) r v, .ok)

/-- R369: a write of the tail publishes entries of a software-produced ring; the tail of a COMPLETION ring is read-only. -/
def State.dbTailWrite (s : State) (rdr : Reader) (r v : Nat) : State :=
  s.doorbell rdr r 0 v (fun s => if s.rd .dbType r = 3 then (s, .ok) else s.writeIndex r true v)

/-- R369: a write of the head frees slots of a COMPLETION ring; the head of another ring is read-only. -/
def State.dbHeadWrite (s : State) (rdr : Reader) (r v : Nat) : State :=
  s.doorbell rdr r 4 v (fun s => if s.rd .dbType r = 3 then s.writeIndex r false v else (s, .ok))

/-- DB_TAIL_WRITE (R369). -/
def execDbTailWrite (rdr : Reader) (r v : Nat) (s : State) : Result := .next (s.dbTailWrite rdr r v)

/-- DB_HEAD_WRITE (R369). -/
def execDbHeadWrite (rdr : Reader) (r v : Nat) (s : State) : Result := .next (s.dbHeadWrite rdr r v)

/-! ## Events -/

/-- R376: an event record. -/
def eventRecord (e : Event) (member : Nat) : List Byte :=
  let c := match e.ctx with
    | none => 64
    | some c => c
  leBytes 1 7 ++ leBytes 1 (b2n e.lost) ++ leBytes 2 e.status.code ++ leBytes 2 e.page ++ leBytes 1 c ++ zeros 1
    ++ leBytes 4 e.count ++ zeros 4 ++ leBytes 8 e.d1 ++ leBytes 8 e.d2 ++ leBytes 8 e.first ++ leBytes 8 e.last
    ++ leBytes 2 member ++ zeros 14

/-- R377: a bucket's rate in tokens per millisecond and its depth in tokens. -/
def State.evBucket (s : State) (k : Nat) : Nat × Nat :=
  if k = 64 then (1000, 256) else (s.rd .ctxEvtrate k, s.rd .ctxEvtburst k)

/-- R377: the millionths of a token a bucket holds now. -/
def State.evTokens (s : State) (k : Nat) : Nat :=
  let l := s.evList k
  let (rate, burst) := s.evBucket k
  min (burst * 1000000) (l.tokens + (s.now - l.at_) * rate)

/-- R375: does a list deliver to its session, and to its event ring? -/
def State.evDests (s : State) (k : Nat) : Bool × Bool :=
  if k = 64 then (true, false)
  else (s.rd .ctxEvtdest k ≠ 1, s.rd .ctxEvtdest k = 1 ∨ s.rd .ctxEvtdest k = 2)

/-- The session an event list is delivered to. -/
def State.evSession (s : State) (k : Nat) : Nat := if k = 64 then 0 else s.rd .ctxOwner k

/-- R377, R402: has a destination room? -/
def State.evRoom (s : State) (k : Nat) (toRing : Bool) : Bool :=
  if toRing then
    let r := s.rd .ctxEvtring k
    s.isCring k r && 0 < s.ringRoom r
  else s.rd .tsState (s.evSession k) = 2 && s.rd .tsEvtwindow (s.evSession k) < 1024

/-- Deliver one record to a destination. -/
def State.evSend (s : State) (k : Nat) (toRing : Bool) (e : Event) : State :=
  let rec_ := eventRecord e (s.rd .fltMember 0)
  if toRing then
    let s := s.writeRecord (s.rd .ctxEvtring k) rec_ false
    let h := s.rd .ctxEvthart k
    s.setCore (.hart h) { s.core (.hart h) with interrupt := true }
  else
    let n := s.evSession k
    (s.sessionSend n tfEvent rec_).bump .tsEvtwindow n 1

/-- EVENT_DELIVER (R375, R377): the oldest record of a pending list that has not reached a destination is delivered to it, when
that destination has room and, for the record's first delivery, the bucket holds a token. -/
def execEventDeliver (k : Nat) (met : Met Bool) (s : State) : Result :=
  let s := s.eccFound met.ecc
  let l := s.evList k
  let (ds, dr) := s.evDests k
  let reached (e : Event) : Bool := if met.op then e.atRing else e.atSession
  match l.items.findIdx? (fun e => !reached e) with
  | none => .next s
  | some i =>
    match l.items[i]? with
    | none => .next s
    | some e =>
      let first := !e.atSession && !e.atRing
      let tok := s.evTokens k
      if !(if met.op then dr else ds) ∨ !s.evRoom k met.op ∨ (first ∧ tok < 1000000) then .next s
      else
        let e' := { e with
          lost := if first then l.lost else e.lost
          atRing := e.atRing || met.op
          atSession := e.atSession || !met.op }
        let done := (!ds || e'.atSession) && (!dr || e'.atRing)
        let items := if done then l.items.eraseIdx i else l.items.set i e'
        let l' : EventList := ⟨items, if first then false else l.lost, if first then tok - 1000000 else tok, s.now⟩
        .next ((s.setEvList k l').evSend k met.op e')

end Sys2Proof.Machine
end

