-- ==== Sys2Proof/Machine/Tile.lean ====
section
/-!
DEFINITION. Tile descriptors (R86), the operands that lie in scratch (R91), and the parts of a cluster that every tile's meaning
uses (R84, R88, R93 to R97).
-/
namespace Sys2Proof.Machine
open Sys2Proof

/-! ## The tile descriptor (R86, R68) -/

/-- Bits [lo + w - 1 : lo] of word i of a descriptor. -/
def tdf (td : List Byte) (i lo w : Nat) : Nat := bitsAt (fieldAt td (4 * i) 4) lo w
/-- Word i of a descriptor. -/
def tdw (td : List Byte) (i : Nat) : Nat := fieldAt td (4 * i) 4
/-- The 64-bit field in words i and i + 1. -/
def tdq (td : List Byte) (i : Nat) : Nat := fieldAt td (4 * i) 8

def tdKind (td : List Byte) : Nat := tdf td 0 0 4
def tdLast (td : List Byte) : Bool := tdf td 0 4 1 = 1
def tdFence (td : List Byte) : Bool := tdf td 0 5 1 = 1
def tdTransA (td : List Byte) : Bool := tdf td 0 6 1 = 1
def tdTransB (td : List Byte) : Bool := tdf td 0 7 1 = 1
def tdSparse (td : List Byte) : Bool := tdf td 0 8 1 = 1
def tdZskip (td : List Byte) : Bool := tdf td 0 9 1 = 1
def tdZbuild (td : List Byte) : Bool := tdf td 0 10 1 = 1
def tdRoute (td : List Byte) : Bool := tdf td 0 11 1 = 1
def tdPreden (td : List Byte) : Bool := tdf td 0 12 1 = 1
def tdPredclamp (td : List Byte) : Bool := tdf td 0 13 1 = 1
def tdDefer (td : List Byte) : Bool := tdf td 0 14 1 = 1
def tdFmtA (td : List Byte) : Nat := tdf td 1 0 5
def tdFmtB (td : List Byte) : Nat := tdf td 1 8 5
def tdAccfmt (td : List Byte) : Nat := tdf td 1 16 2
def tdZpmodeA (td : List Byte) : Nat := tdf td 1 18 2
def tdZpmodeB (td : List Byte) : Nat := tdf td 1 20 2
def tdM (td : List Byte) : Nat := tdf td 2 0 16
def tdN (td : List Byte) : Nat := tdf td 2 16 16
def tdK (td : List Byte) : Nat := tdf td 3 0 16
def tdScrA (td : List Byte) : Nat := tdf td 4 0 21
def tdScrB (td : List Byte) : Nat := tdf td 5 0 21
def tdScrSA (td : List Byte) : Nat := tdf td 6 0 21
def tdScrSB (td : List Byte) : Nat := tdf td 7 0 21
def tdCoarseA (td : List Byte) : Nat := tdw td 8
def tdCoarseB (td : List Byte) : Nat := tdw td 9
def tdZpA (td : List Byte) : Nat := tdw td 10
def tdZpB (td : List Byte) : Nat := tdw td 11
def tdScrMeta (td : List Byte) : Nat := tdf td 12 0 21
def tdScrZmap (td : List Byte) : Nat := tdf td 13 0 21
def tdAccslot (td : List Byte) : Nat := tdf td 14 0 4
def tdAccop (td : List Byte) : Nat := tdf td 14 4 2
def tdTallyId (td : List Byte) : Nat := tdf td 15 0 16
def tdTallyN (td : List Byte) : Nat := tdf td 15 16 8
def tdTallyOp (td : List Byte) : Nat := tdf td 15 24 2
def tdRowbase (td : List Byte) : Nat := tdf td 16 0 24
def tdRk (td : List Byte) : Nat := tdf td 17 0 4
def tdRe (td : List Byte) : Nat := tdf td 17 4 11
def tdRscore (td : List Byte) : Bool := tdf td 17 15 1 = 1
def tdRrenorm (td : List Byte) : Bool := tdf td 17 16 1 = 1
def tdRfirst (td : List Byte) : Bool := tdf td 17 17 1 = 1
def tdRlast (td : List Byte) : Bool := tdf td 17 18 1 = 1
def tdMaskblk (td : List Byte) : Nat := tdf td 17 0 2
def tdCausal (td : List Byte) : Bool := tdf td 17 2 1 = 1
def tdExpert (td : List Byte) : Nat := tdf td 18 0 10
def tdCap (td : List Byte) : Nat := tdf td 18 16 16
def tdOutstride (td : List Byte) : Nat := tdw td 19
def tdOut (td : List Byte) : Nat := tdq td 20
def tdBias (td : List Byte) : Nat := tdq td 22
def tdVec (td : List Byte) : Nat := tdq td 24
def tdRowscale (td : List Byte) : Nat := tdq td 26
def tdStats (td : List Byte) : Nat := tdq td 28
def tdAux (td : List Byte) : Nat := tdq td 30
def tdScalestride (td : List Byte) : Nat := tdw td 40

def epiOutfmt (td : List Byte) : Nat := tdf td 32 0 5
def epiRound (td : List Byte) : Bool := tdf td 32 5 1 = 1
def epiRowmode (td : List Byte) : Nat := tdf td 32 6 2
def epiBiasen (td : List Byte) : Bool := tdf td 32 8 1 = 1
def epiBiasfmt (td : List Byte) : Bool := tdf td 32 9 1 = 1
def epiAct (td : List Byte) : Nat := tdf td 32 10 4
def epiClipen (td : List Byte) : Bool := tdf td 32 14 1 = 1
def epiStaten (td : List Byte) : Bool := tdf td 32 15 1 = 1
def epiMse (td : List Byte) : Bool := tdf td 32 16 1 = 1
def epiBlkaxis (td : List Byte) : Bool := tdf td 32 17 1 = 1
def epiTmul (td : List Byte) : Nat := tdw td 33
def epiCoarse (td : List Byte) : Nat := tdw td 34
def epiActparam (td : List Byte) : Nat := tdw td 35
def epiCliplo (td : List Byte) : Nat := tdw td 36
def epiCliphi (td : List Byte) : Nat := tdw td 37

/-- R95: the tile's accumulator operation drains. -/
def tdDrains (td : List Byte) : Bool := tdAccop td = 2 || tdAccop td = 3
/-- R95: the tile's accumulator operation adds to what is held. -/
def tdAdds (td : List Byte) : Bool := tdAccop td = 1 || tdAccop td = 3

/-- R66: a gated activation. -/
def actGated (a : Nat) : Bool := 9 ≤ a && a ≤ 11

/-- R66: the output columns of a tile of n columns. -/
def outCols (td : List Byte) : Nat := if actGated (epiAct td) then tdN td / 2 else tdN td

/-! ## Scratch (R91) -/

/-- A stored array in scratch: its offset, its rows, and the bytes of a row before rounding up to 64. -/
structure ScrArray where
  off : Nat
  rows : Nat
  len : Nat
  deriving DecidableEq, Repr

/-- The distance between rows. -/
def ScrArray.pitch (a : ScrArray) : Nat := roundUp a.len 64

/-- The bytes the array takes. -/
def ScrArray.bytes (a : ScrArray) : Nat := a.rows * a.pitch

/-- R91: the array is aligned and lies in a slice of n bytes. -/
def ScrArray.fits (a : ScrArray) (n : Nat) : Bool := a.off % 64 = 0 && a.off + a.bytes ≤ n

/-- Row i of an array as the number its bytes spell. -/
def ScrArray.row (a : ScrArray) (scr : Sparse Byte) (i : Nat) : Nat := leNat (readBytes scr (a.off + i * a.pitch) a.len)

/-- Operand A as it is stored. -/
def arrA (td : List Byte) : ScrArray :=
  let w := fmtBits (tdFmtA td)
  if tdTransA td then ⟨tdScrA td, tdK td, packedBytes w (tdM td)⟩ else ⟨tdScrA td, tdM td, packedBytes w (tdK td)⟩

/-- The extent of B along K as it is stored: half with TD_SPARSE. -/
def storedK (td : List Byte) : Nat := if tdSparse td then tdK td / 2 else tdK td

/-- Operand B as it is stored. -/
def arrB (td : List Byte) : ScrArray :=
  let w := fmtBits (tdFmtB td)
  if tdTransB td then ⟨tdScrB td, tdK td, packedBytes w (tdN td)⟩ else ⟨tdScrB td, tdN td, packedBytes w (storedK td)⟩

/-- The scale array of an operand with `ext` rows or columns across K: one row per stored row whose axis is the block axis,
otherwise one row per block along the stored rows. -/
def scaleArray (off fmt ext k : Nat) (trans : Bool) : ScrArray :=
  let b := (fmtScale fmt).block
  if trans then ⟨off, k / b, ext⟩ else ⟨off, ext, k / b⟩

/-- The scratch arrays a MATMUL reads. -/
def matmulArrays (td : List Byte) : List ScrArray :=
  [arrA td, arrB td]
  ++ (if fmtScale (tdFmtA td) = .none then [] else [scaleArray (tdScrSA td) (tdFmtA td) (tdM td) (tdK td) (tdTransA td)])
  ++ (if fmtScale (tdFmtB td) = .none then [] else [scaleArray (tdScrSB td) (tdFmtB td) (tdN td) (tdK td) (tdTransB td)])
  ++ (if tdZpmodeA td = 2 then [⟨bitsAt (tdZpA td) 0 21, 1, packedBytes (fmtBits (tdFmtA td)) (tdM td)⟩] else [])
  ++ (if tdZpmodeB td = 2 then [⟨bitsAt (tdZpB td) 0 21, 1, packedBytes (fmtBits (tdFmtB td)) (tdN td)⟩] else [])
  ++ (if tdSparse td then [⟨tdScrMeta td, tdN td, tdK td / 8⟩] else [])
  ++ (if tdZskip td then [⟨tdScrZmap td, tdM td / 16, 64⟩] else [])

/-- A COPY's rows in scratch, which are contiguous (R87), and the bitmap of a ZBUILD (R103). -/
def copyArrays (td : List Byte) : List ScrArray :=
  ⟨tdScrA td, tdM td, tdK td⟩ :: (if tdKind td = 2 && tdZbuild td then [⟨tdScrZmap td, tdM td / 16, 64⟩] else [])

/-! ## Accumulators (R93, R96, R97) -/

/-- R93: the bytes of an accumulator. -/
def footprint (td : List Byte) : Nat := tdM td * tdN td * (if tdAccfmt td = 2 then 8 else 4)

/-- The bytes an accumulator takes. -/
def Acc.bytes (a : Acc) : Nat := a.m * a.n * (if a.fmt = 2 then 8 else 4)

/-! ## Contexts at a cluster -/

/-- The class of a context: LEARN is 0. -/
def State.isLearn (s : State) (c : Nat) : Bool := s.rd .ctxClass c = 0

/-- R98: a context's overflow mode is PROPAGATE. -/
def State.propagates (s : State) (c : Nat) : Bool :=
  s.rd .ctxOvfmode c = 2 || (s.rd .ctxOvfmode c ≠ 1 && s.isLearn c)

/-- The context of a resident slot. -/
def State.slotCtx (s : State) (k : Nat) : Nat :=
  match s.slotOwner k with
  | none => 0
  | some c => c

/-- The bytes of a context's scratch slice and of its accumulator slice (R81, R365). -/
def State.scrSlice (s : State) (c : Nat) : Nat := s.rd .ctxScrslice c * 16384
def State.accSlice (s : State) (c : Nat) : Nat := s.rd .ctxAccslice c * 4096

/-- The page of a cluster (R111). -/
def cluPage (n : Nat) : Nat := 0x100 + n

/-- Replace a slot by a function of it. -/
def State.modSlot (s : State) (n k : Nat) (f : Slot → Slot) : State := s.setSlot n k (f (s.slot n k))

/-- R111: CLU_SLOTTASK and CLU_SLOTHELD follow the slot. DESIGN CHOICE (log entry 114): 16 accumulators, which four bits cannot count, show as 15. -/
def State.showSlot (s : State) (n k : Nat) : State :=
  let x := s.slot n k
  (s.wr .cluSlottask (slotIx n k) (b2n x.task.isSome)).wr .cluSlotheld (slotIx n k) (min 15 x.held.length)

/-- Replace a slot by a function of it, with its register fields. -/
def State.setSlotShown (s : State) (n k : Nat) (f : Slot → Slot) : State := (s.modSlot n k f).showSlot n k

/-- A tile in front of its check. -/
def Tile.start (k ctx dva : Nat) (td : List Byte) (deferred : Bool) : Tile :=
  { slot := k, ctx := ctx, dva := dva, td := td, deferred := deferred, last := tdLast td, stage := .chosen, status := .ok,
    info := 0, accSat := false, pred := false, skipped := false, dispDrop := false, routeNf := false, attnEmpty := false, cycles := 0,
    written := tdM td, macs := 0, rate := 0, acc := none, lse := [], lseAt := 0 }

/-- A tile that fails: it completes next with its first status. -/
def Tile.fail (t : Tile) (st : Status) (info : Nat) : Tile :=
  { t with stage := .ready, status := if t.status = .ok then st else t.status, info := info, acc := none }

/-- A tile that has done its work. -/
def Tile.finish (t : Tile) : Tile := { t with stage := .ready }

/-- A tile's status after one of its writes: the first failure fails it. -/
def Tile.after (t : Tile) (st : Status) : Tile := if st = .ok then t.finish else t.fail st 0

/-- Replace the tile on a cluster's units. -/
def State.setCur (s : State) (n : Nat) (t : Option Tile) : State := s.setCluster n { s.cluster n with cur := t }

/-- Replace the tiles whose drains or completions are outstanding. -/
def State.setTiles (s : State) (n : Nat) (l : List Tile) : State := s.setCluster n { s.cluster n with tiles := l }

/-- CLU_RUN and CLU_CURCTX (R111). -/
def State.cluRun (s : State) (n mode ctx : Nat) : State := (s.wr .cluRun n mode).wr .cluCurctx n ctx

/-- R28: accesses of the cluster that a fence waits for: the writes of drains that are under way. -/
def Cluster.draining (c : Cluster) : Bool := c.tiles.any (fun t => t.stage = .draining)

/-- R86: the tile on the cluster's units, chosen and of a kind, whose own TD_FENCE has completed. A context that is being reset
runs nothing more (R379). -/
def State.chosenTile (s : State) (n kind : Nat) : Option Tile :=
  match (s.cluster n).cur with
  | none => none
  | some t =>
    if t.stage = .chosen ∧ tdKind t.td = kind ∧ s.rd .ctxState t.ctx = 2
      ∧ !(tdFence t.td && (s.cluster n).draining) then some t else none

/-- R111, CTX_CYCLES: n matrix cycles of a tile. -/
def State.matrixCycles (s : State) (n ctx cyc : Nat) : State := (s.bump .cluBusy n cyc).bump .ctxCycles ctx cyc

/-! ## Free values -/

/-- n free values of w bits, in order (log entry 2). -/
def State.freeList (s : State) (w n : Nat) : List Nat := (List.range n).map (fun k => (Config.free w (s.freeCount + k)).toNat)

/-- Count n free values as drawn. -/
def State.drawnMany (s : State) (n : Nat) : State := { s with freeCount := s.freeCount + n }

end Sys2Proof.Machine
end

