-- ==== Sys2Proof/Machine/TileCheck.lean ====
section
/-!
DEFINITION. The checks of a tile descriptor before its tile starts (R55 to R59, R62 to R68, R86 to R104, R119 to R121). The spec
gives no order among the checks of one tile: the order here is log entry 40.
-/
namespace Sys2Proof.Machine
open Sys2Proof

/-- The first status of a list of checks that is not OK. -/
def firstBad : List Status → Status
  | [] => .ok
  | c :: t => if c = .ok then firstBad t else c

/-- A check: its status where the condition holds. -/
def refuseIf (b : Bool) (st : Status) : Status := if b then st else .ok

/-! ## The epilogue's fields -/

/-- R62: an integer-class tile whose output is INT32 and whose steps 1 to 5 are all disabled. -/
def rawInt (td : List Byte) : Bool :=
  fmtIsInt (tdFmtA td) && epiOutfmt td = 0x0C && epiTmul td = f32One && epiRowmode td = 0 && !epiBiasen td
    && epiAct td = 0 && !epiClipen td

/-- R87: the placement of a block-scaled output's scale array. -/
def scalePlacement (td : List Byte) (b : Nat) : Status :=
  let len := if epiBlkaxis td then outCols td else outCols td / b
  refuseIf (tdRowscale td % 64 ≠ 0 || tdScalestride td % 64 ≠ 0 || tdScalestride td < len) .cluShape

/-- R51 to R53, R87: the checks of a block-scaled output. -/
def scaledOutCheck (td : List Byte) : Status :=
  let k := fmtScale (epiOutfmt td)
  if k = .none then .ok
  else firstBad [
    refuseIf (k = .kb && !f32PosNormal (epiCoarse td)) .fmtScaleInvalid,
    refuseIf ((if epiBlkaxis td then tdM td else outCols td) % k.block ≠ 0) .fmtBlockAxis,
    scalePlacement td k.block]

/-- R120: the bytes of one row's save segment for an activation over n columns. -/
def saveBytes (act n : Nat) : Nat :=
  if act = 1 ∨ act = 2 then (n + 7) / 8
  else if act = 5 ∨ act = 3 ∨ act = 4 ∨ actGated act then n + n / 16
  else 0

/-- R119: the save window of a context in bytes: base and size. -/
def State.saveWindow (s : State) (c : Nat) : Nat × Nat := (s.rd .lrnWinbase c * 2 ^ 21, s.rd .lrnWinsize c * 2 ^ 21)

/-- R119: a tile writes a save side output. -/
def State.tileSaves (s : State) (c : Nat) (td : List Byte) : Bool :=
  let (b, n) := s.saveWindow c
  s.isLearn c && epiAct td ≠ 0 && b ≤ tdOut td && tdOut td < b + n && saveBytes (epiAct td) (tdN td) ≠ 0

/-- R121: the checks of a tile that writes a save. -/
def State.saveCheck (s : State) (c : Nat) (td : List Byte) : Status :=
  if !s.tileSaves c td then .ok
  else
    let (b, n) := s.saveWindow c
    let row := outCols td * fmtBits (epiOutfmt td) / 8
    firstBad [
      refuseIf (tdOut td + (tdM td - 1) * tdOutstride td + row > b + n) .lrnSaveWindow,
      refuseIf (saveBytes (epiAct td) (tdN td) > row * 2 ^ s.rd .lrnSaveshift c) .lrnSaveFit]

/-- R63: EPI_TMUL is finite and not zero. -/
def tmulCheck (td : List Byte) : Status :=
  refuseIf (!f32Finite (epiTmul td) || (f32 (epiTmul td)).isZero) .fmtScaleInvalid

/-- R62 to R68, R74: the checks of the fields a draining tile uses. -/
def State.epiCheck (s : State) (c : Nat) (td : List Byte) : Status :=
  let o := epiOutfmt td
  let a := epiAct td
  firstBad [
    refuseIf (fmtReserved o) .fmtReserved,
    refuseIf (o = fmtAbsent) .fmtUnsupported,
    refuseIf (12 ≤ a) .fmtEpiCombo,
    refuseIf (epiRowmode td = 3 && (!(a ≤ 2) || !(1 ≤ o && o ≤ 11))) .fmtEpiCombo,
    refuseIf (a = 2 && !f32Finite (epiActparam td)) .fmtEpiCombo,
    tmulCheck td,
    refuseIf (epiClipen td && (!f32Finite (epiCliplo td) || !f32Finite (epiCliphi td)
      || f32Lt (epiCliphi td) (epiCliplo td))) .fmtClipBounds,
    refuseIf (s.propagates c && fmtNarrow o && !rawInt td) .fmtPropagateTarget,
    scaledOutCheck td,
    s.saveCheck c td]

/-- R104: the checks of a router tile. -/
def State.routeCheck (s : State) (n k : Nat) (td : List Byte) : Status :=
  let band := (s.slot n k).band
  firstBad [
    refuseIf (tdDrains td && fmtReserved (epiOutfmt td)) .fmtReserved,
    refuseIf (tdDrains td && epiOutfmt td ≠ fmtAbsent) .fmtUnsupported,
    if tdDrains td then tmulCheck td else .ok,
    refuseIf (tdRk td < 1 || tdRk td > 8 || tdRe td < 1 || tdRe td > 1024 || tdRowbase td + tdM td > 2 ^ 24) .cluRouteConfig,
    refuseIf (tdDrains td && match band with
      | none => !tdRfirst td
      | some b => tdRfirst td || b.m ≠ tdM td || b.base ≠ tdRowbase td) .cluRouteConfig,
    refuseIf (tdDrains td && tdLast td && !tdRlast td) .cluRouteConfig]

/-! ## MATMUL -/

/-- R57: an operand's format code. -/
def operandFmt (f : Nat) : Status :=
  if fmtReserved f then .fmtReserved
  else match fmtInfo f with
    | none => .fmtUnsupported
    | some i => refuseIf (i.rate = 0) .fmtUnsupported

/-- R58: the classes of the two operands. -/
def classCheck (a b : Nat) : Status :=
  refuseIf (fmtIsInt a != fmtIsInt b || ((a = 0x15) != (b = 0x15))) .fmtClassMix

/-- R59: a zero-point mode for an operand. -/
def zpCheck (mode fmt : Nat) : Status := refuseIf (mode = 3 || (mode ≠ 0 && !fmtIsInt fmt)) .fmtZpFormat

/-- R50: the coarse scale of a KB operand. -/
def coarseCheck (fmt coarse : Nat) : Status := refuseIf (fmtScale fmt = .kb && !f32PosNormal coarse) .fmtScaleInvalid

/-- R90: the shape of a MATMUL. -/
def matmulShape (td : List Byte) : Status :=
  let (m, n, k) := (tdM td, tdN td, tdK td)
  refuseIf (m % 16 ≠ 0 || m < 16 || m > 256 || n % 64 ≠ 0 || n < 64 || n > 256 || k % 32 ≠ 0 || k < 32 || k > 8192) .cluShape

/-- R96: do two slots' regions overlap? -/
def slotsMeet (a sa b sb : Nat) : Bool := rangesMeet (a * sa) sa (b * sb) sb

/-- R95 to R97: the accumulator of a tile. -/
def State.accCheck (s : State) (n k c : Nat) (td : List Byte) : Status :=
  let f := footprint td
  let x := s.slot n k
  let same (a : Acc) : Bool := a.m = tdM td && a.n = tdN td && a.fmt = tdAccfmt td
  if s.isLearn c then
    let t := min 16 (s.accSlice c / f)
    let sl := tdAccslot td
    firstBad [
      refuseIf (t = 0) .cluAccFootprint,
      refuseIf (sl ≥ t) .cluAccSlot,
      refuseIf (x.held.any (fun a => slotsMeet a.slot a.bytes sl f && a.bytes ≠ f)) .cluAccSlot,
      refuseIf (tdAdds td && !x.held.any (fun a => a.slot = sl && same a)) .cluAccSlot]
  else
    firstBad [
      refuseIf (2 * f > s.accSlice c) .cluAccFootprint,
      refuseIf (tdAdds td && !x.held.any (fun a => a.slot = x.half && same a)) .cluAccSlot]

/-- R93: the accumulator format. -/
def accFmtCheck (td : List Byte) : Status :=
  refuseIf (tdAccfmt td = 3 || ((tdAccfmt td = 1) != fmtIsInt (tdFmtA td))) .cluAccFormat

/-- R55 to R104: the checks of a MATMUL tile. -/
def State.matmulCheck (s : State) (n k c : Nat) (td : List Byte) : Status :=
  firstBad [
    operandFmt (tdFmtA td), operandFmt (tdFmtB td),
    classCheck (tdFmtA td) (tdFmtB td),
    zpCheck (tdZpmodeA td) (tdFmtA td), zpCheck (tdZpmodeB td) (tdFmtB td),
    coarseCheck (tdFmtA td) (tdCoarseA td), coarseCheck (tdFmtB td) (tdCoarseB td),
    matmulShape td,
    refuseIf (tdSparse td && tdTransB td) .cluSparseTrans,
    refuseIf (tdZskip td && tdTransA td) .cluZskipTrans,
    accFmtCheck td,
    refuseIf (!(matmulArrays td).all (fun a => a.fits (s.scrSlice c))) .cluScratchRange,
    refuseIf (tdDrains td && tdOutstride td % 16 ≠ 0) .cluShape,
    s.accCheck n k c td,
    if tdRoute td then s.routeCheck n k td else if tdDrains td then s.epiCheck c td else .ok]

/-! ## The other kinds -/

/-- R103: the elements of a row that a ZBUILD reads: none where the row is not a whole number of them. -/
def zbuildElems (td : List Byte) : Option Nat :=
  let w := fmtBits (tdFmtA td)
  if w = 0 ∨ tdK td * 8 % w ≠ 0 then none else some (tdK td * 8 / w)

/-- R87, R91, R103: the checks of a COPY tile. -/
def State.copyCheck (s : State) (c : Nat) (td : List Byte) : Status :=
  let z := tdKind td = 2 && tdZbuild td
  firstBad [
    refuseIf (tdK td % 64 ≠ 0) .cluShape,
    refuseIf (z && fmtReserved (tdFmtA td)) .fmtReserved,
    refuseIf (z && tdFmtA td = fmtAbsent) .fmtUnsupported,
    refuseIf (z && (tdM td % 16 ≠ 0 || match zbuildElems td with
      | none => true
      | some e => e % 16 ≠ 0 || e > 8192)) .cluShape,
    refuseIf (!(copyArrays td).all (fun a => a.fits (s.scrSlice c))) .cluScratchRange]

/-- R86: TD_TALLYOP for a tile's kind. -/
def tallyOpCheck (td : List Byte) : Status :=
  refuseIf (if tdKind td = 5 then tdTallyOp td = 0 else 2 ≤ tdTallyOp td) .cluKindReserved

/-- R86: TD_OUTSTRIDE, whatever the kind; a MATMUL that does not drain leaves it unchecked (R87). -/
def strideCheck (td : List Byte) : Status :=
  refuseIf (tdKind td ≠ 0 && tdOutstride td % 16 ≠ 0) .cluShape

/-- R89: TD_DEFER is for a MATMUL of a LEARN-class context. -/
def State.deferCheck (s : State) (c : Nat) (td : List Byte) : Status :=
  refuseIf (tdDefer td && (tdKind td ≠ 0 || !s.isLearn c)) .cluDeferClass

end Sys2Proof.Machine
end

