-- ==== Sys2Proof/Machine/Matrix.lean ====
section
/-!
DEFINITION. The matrix unit (R58 to R61, R92 to R102): groups of 16 positions, exact group sums, the accumulator's formats and
overflow modes, 2:4 sparsity and skipped zero blocks.
-/
namespace Sys2Proof.Machine
open Sys2Proof

/-! ## The accumulator (R60, R94, R95, R98) -/

/-- R98: an FP32 result in a context of an overflow mode: under SATURATE an infinity becomes the largest finite number with its
sign, and the flag is set. -/
def satF32 (prop : Bool) (x : Nat) : Nat × Bool :=
  if !prop ∧ (f32 x).isInf then (if bitAt x 31 then 0xFF7FFFFF else 0x7F7FFFFF, true) else (x, false)

/-- R94: an FP32C entry's sum and compensation, kept as s + 2^32 c. -/
def fp32cPair (s c : Nat) : Nat := s + 2 ^ 32 * c

/-- R95, R60 step 4, R94: an accumulator entry (none: nothing yet) takes one rounded group result. -/
def accFloat (comp prop : Bool) (e : Option Nat × Bool) (g : Nat) : Option Nat × Bool :=
  let (g, sg) := satF32 prop g
  match e.1, comp with
  | none, false => (some g, e.2 || sg)
  | none, true => (some (fp32cPair g 0), e.2 || sg)
  | some v, false =>
    let (t, st) := satF32 prop (f32Add v g)
    (some t, e.2 || sg || st)
  | some v, true =>
    let (s, c) := (v % 2 ^ 32, v / 2 ^ 32)
    let y := f32Sub g c
    let (t, st) := satF32 prop (f32Add s y)
    let c' := f32Sub (f32Sub t s) y
    (some (fp32cPair t (if !prop ∧ (f32 c').isInf then 0 else c')), e.2 || sg || st)

/-- R60: an INT32 entry takes one group sum, held at the INT32 limits. -/
def accInt (e : Option Nat × Bool) (g : Int) : Option Nat × Bool :=
  match e.1 with
  | none => (some (ofSigned g 32), e.2)
  | some v =>
    let x := toSigned v 32 + g
    if x > 2147483647 then (some 0x7FFFFFFF, true)
    else if x < -2147483648 then (some 0x80000000, true)
    else (some (ofSigned x 32), e.2)

/-- The entry a drain hands on: FP32C gives s - c, rounded once (R94). -/
def accOut (fmt v : Nat) : Nat := if fmt = 2 then f32Sub (v % 2 ^ 32) (v / 2 ^ 32) else v

/-! ## Operands -/

/-- The rows of an array as numbers. -/
def ScrArray.all (a : ScrArray) (scr : Sparse Byte) : List Nat := (List.range a.rows).map (a.row scr)

/-- An operand as the matrix unit sees it: element and block scale by position across K and along K. -/
structure Operand where
  fmt : Nat
  trans : Bool
  rows : List Nat
  scales : List Nat
  zps : Nat
  zpMode : Nat
  meta_ : Option (List Nat)

/-- R99: element k of line i as it is stored. -/
def Operand.code (o : Operand) (w i k : Nat) : Nat :=
  if o.trans then packedAt (o.rows.getD k 0) w i else packedAt (o.rows.getD i 0) w k

/-- R100: where the logical position k of line i is stored with 2:4 compression: none where it is dropped. -/
def Operand.place (o : Operand) (i k : Nat) : Option Nat :=
  match o.meta_ with
  | none => some k
  | some m =>
    let nib := bitsAt (m.getD i 0) (4 * (k / 4)) 4
    if k % 4 = nib % 4 then some (2 * (k / 4))
    else if k % 4 = nib / 4 then some (2 * (k / 4) + 1)
    else none

/-- The block scale of position k of line i; 1 for a format without scales. -/
def Operand.scale (o : Operand) (i k : Nat) : Fp :=
  let kind := fmtScale o.fmt
  match kind with
  | .none => .fin false 1 0
  | _ =>
    let b := k / kind.block
    kind.value (if o.trans then packedAt (o.scales.getD b 0) 8 i else packedAt (o.scales.getD i 0) 8 b)

/-- R54, R60: element k of line i as it enters a float product. -/
def Operand.float (o : Operand) (i k : Nat) : Fp :=
  match fmtInfo o.fmt, o.place i k with
  | some f, some p => scaledElem f.elem (o.scale i k) (o.code f.elem.width i p)
  | _, _ => .fin false 0 0

/-- R59: element k of line i less its zero point. -/
def Operand.int (o : Operand) (i k : Nat) : Int :=
  match fmtInfo o.fmt, o.place i k with
  | some f, some p =>
    match f.elem with
    | .int w sg _ =>
      let v (c : Nat) : Int := if sg then toSigned c w else ((c % 2 ^ w : Nat) : Int)
      let z := if o.zpMode = 1 then v o.zps else if o.zpMode = 2 then v (packedAt o.zps w i) else 0
      v (o.code w i p) - z
    | .fp _ => 0
  | _, _ => 0

/-- R60 steps 1 to 3: the rounded result of the group of 16 positions from k0. -/
def groupFloat (a b : Operand) (i j k0 : Nat) : Nat :=
  let prods := (List.range 16).map (fun q => (a.float i (k0 + q)).mul (b.float j (k0 + q)))
  toF32 ((Fp.sum prods).mul ((a.scale i k0).mul (b.scale j k0)))

/-- R60: the exact group sum of the integer class. -/
def groupInt (a b : Operand) (i j k0 : Nat) : Int :=
  ((List.range 16).map (fun q => a.int i (k0 + q) * b.int j (k0 + q))).foldl (· + ·) 0

/-- Operand A of a descriptor. -/
def operandA (td : List Byte) (scr : Sparse Byte) : Operand :=
  ⟨tdFmtA td, tdTransA td, (arrA td).all scr,
   if fmtScale (tdFmtA td) = .none then [] else (scaleArray (tdScrSA td) (tdFmtA td) (tdM td) (tdK td) (tdTransA td)).all scr,
   if tdZpmodeA td = 2 then leNat (readBytes scr (bitsAt (tdZpA td) 0 21) (packedBytes (fmtBits (tdFmtA td)) (tdM td)))
   else tdZpA td, tdZpmodeA td, none⟩

/-- Operand B of a descriptor. -/
def operandB (td : List Byte) (scr : Sparse Byte) : Operand :=
  ⟨tdFmtB td, tdTransB td, (arrB td).all scr,
   if fmtScale (tdFmtB td) = .none then [] else (scaleArray (tdScrSB td) (tdFmtB td) (tdN td) (tdK td) (tdTransB td)).all scr,
   if tdZpmodeB td = 2 then leNat (readBytes scr (bitsAt (tdZpB td) 0 21) (packedBytes (fmtBits (tdFmtB td)) (tdN td)))
   else tdZpB td, tdZpmodeB td,
   if tdSparse td then some ((ScrArray.mk (tdScrMeta td) (tdN td) (tdK td / 8)).all scr) else none⟩

/-- R102: the bit for K block b of row group g is set: the block is skipped. -/
def skips (td : List Byte) (scr : Sparse Byte) (g b : Nat) : Bool :=
  tdZskip td && bitAt (leNat (readBytes scr (tdScrZmap td + 64 * g) 64)) b

/-- R101: every metadata nibble's first index is below its second. -/
def metaOk (td : List Byte) (scr : Sparse Byte) : Bool :=
  !tdSparse td || ((ScrArray.mk (tdScrMeta td) (tdN td) (tdK td / 8)).all scr).all (fun m =>
    (List.range (tdK td / 4)).all (fun g => bitsAt m (4 * g) 2 < bitsAt m (4 * g + 2) 2))

/-! ## Time and counts (R58, R92, R429) -/

/-- The rate of a format code. -/
def fmtRate (f : Nat) : Nat := match fmtInfo f with
  | none => 0
  | some i => i.rate

/-- R58: the rate of a tile's two operands. -/
def pairRate (a b : Nat) : Nat := min (fmtRate a) (fmtRate b)

/-- R92: the sum of N × 16 × Kactive over the row groups of the rows run, which is also the tile's MAC-equivalents (R429). -/
def matmulMacs (td : List Byte) (scr : Sparse Byte) (rows : Nat) : Nat :=
  ((List.range (rows / 16)).map (fun g =>
    tdN td * 16 * (tdK td - 16 * ((List.range (tdK td / 16)).filter (skips td scr g)).length))).foldl (· + ·) 0

/-- R92: the matrix cycles of a tile. -/
def matmulCycles (td : List Byte) (scr : Sparse Byte) (rows : Nat) : Nat :=
  max 16 (ceilDiv (matmulMacs td scr rows) (pairRate (tdFmtA td) (tdFmtB td) * (if tdSparse td then 2 else 1)))

/-! ## The product -/

/-- One entry of the product, from what is held (none under INIT): the entry and the saturation flag. An entry whose groups are
all skipped takes 0. -/
def matEntry (td : List Byte) (scr : Sparse Byte) (a b : Operand) (prop : Bool) (held : Option Nat) (i j : Nat) : Nat × Bool :=
  let groups := (List.range (tdK td / 16)).filter (fun k => !skips td scr (i / 16) k)
  let r :=
    if fmtIsInt (tdFmtA td) then groups.foldl (fun e k => accInt e (groupInt a b i j (16 * k))) (held, false)
    else groups.foldl (fun e k => accFloat (tdAccfmt td = 2) prop e (groupFloat a b i j (16 * k))) (held, false)
  (r.1.getD 0, r.2)

/-- R107: the rows of a product past the rows run: an ADD leaves them, an INIT leaves them open (log entry 41). -/
def restRows (held : Option (List Nat)) (free : List Nat) (k : Nat) : Nat :=
  match held with
  | some l => l.getD k 0
  | none => free.getD k 0

/-- The whole accumulator after a tile that runs `rows` rows: its entries in row order, and the saturation flag. -/
def matProduct (td : List Byte) (scr : Sparse Byte) (prop : Bool) (held : Option (List Nat)) (free : List Nat) (rows : Nat) :
    List Nat × Bool :=
  let a := operandA td scr
  let b := operandB td scr
  let es := (List.range (tdM td * tdN td)).map (fun k =>
    if k / tdN td < rows then matEntry td scr a b prop (held.map (fun l => l.getD k 0)) (k / tdN td) (k % tdN td)
    else (restRows held free k, false))
  (es.map (·.1), es.any (·.2))

/-- R103: the bitmap that a ZBUILD writes: one 64-byte row for each group of 16 rows of `elems` elements. -/
def zeroBitmap (elem : Elem) (rows : List Nat) (elems : Nat) : List Byte :=
  let w := elem.width
  let zero (c : Nat) : Bool := (elem.value c).isZero
  ((List.range (rows.length / 16)).map (fun g =>
    let bits := (List.range (elems / 16)).filter (fun b =>
      (List.range 16).all (fun r => (List.range 16).all (fun e =>
        zero (packedAt (rows.getD (16 * g + r) 0) w (16 * b + e)))))
    leBytes 64 (bits.foldl (fun v b => v + 2 ^ b) 0))).flatten

end Sys2Proof.Machine
end

