-- ==== Sys2Proof/Machine/Transcend.lean ====
section
/-!
DEFINITION. The functions that the spec gives to within 2 units in the last place of FP32 (R66, R124, R185, R216): e^x, tanh, σ, Φ and the
activations made of them. The exact value is computed in fixed point; the result is one of the FP32 numbers within the bound, and which of them is free
(log entry 15).
-/
namespace Sys2Proof.Machine
open Sys2Proof

/-! ## Fixed point: integers in units of 2^-512 -/

def fxOne : Int := 2 ^ 512
def fxMul (a b : Int) : Int := a * b / fxOne
def fxDiv (a b : Int) : Int := a * fxOne / b

/-- A finite FP32 number; 2^128 with its sign for an infinity. -/
def fxOf : Fp → Int
  | .nan => 0
  | .inf n => if n then -(2 ^ 640) else 2 ^ 640
  | .fin n m e => (if n then -1 else 1) * ((m * 2 ^ (e + 512).toNat : Nat) : Int)

/-- acc + t x/k + t x²/(k (k+1)) + …: as many terms as the first argument. -/
def fxExpTerms (x : Int) : Nat → Nat → Int → Int → Int
  | 0, _, _, acc => acc
  | n + 1, k, t, acc =>
    let t' := fxMul t x / k
    fxExpTerms x n (k + 1) t' (acc + t')

/-- x squared n times. -/
def fxSquares (x : Int) : Nat → Int
  | 0 => x
  | n + 1 => fxSquares (fxMul x x) n

/-- e^x; beyond ±400 its value at ±400, which no FP32 result tells from the exact one. -/
def fxExp (x : Int) : Int :=
  let x := max (-400 * fxOne) (min (400 * fxOne) x)
  fxSquares (fxExpTerms (x / 1024) 120 1 fxOne fxOne) 10

/-- 1 / (1 + e^−x). -/
def fxSigma (x : Int) : Int :=
  if x < 0 then fxDiv (fxExp x) (fxOne + fxExp x) else fxDiv fxOne (fxOne + fxExp (-x))

def fxTanh (x : Int) : Int := 2 * fxSigma (2 * x) - fxOne

/-- atan (1/n) by its series: the first argument counts the terms left; p is ±1/n^k. -/
def fxAtanTerms (n : Int) : Nat → Nat → Int → Int → Int
  | 0, _, _, acc => acc
  | f + 1, k, p, acc => fxAtanTerms n f (k + 2) (-(p / (n * n))) (acc + p / k)

/-- π = 16 atan (1/5) − 4 atan (1/239). -/
def fxPi : Int := 16 * fxAtanTerms 5 240 1 (fxOne / 5) 0 - 4 * fxAtanTerms 239 60 1 (fxOne / 239) 0

/-- √(2π). -/
def fxRoot2Pi : Int := isqrt ((2 * fxPi * fxOne).toNat)

/-- x + x³/3 + x⁵/15 + …: acc holds the terms before t, and q = x². -/
def fxPhiTerms (q : Int) : Nat → Nat → Int → Int → Int
  | 0, _, _, acc => acc
  | f + 1, k, t, acc => fxPhiTerms q f (k + 2) (fxMul t q / k) (acc + t)

/-- Φ(x) = (1 + erf(x/√2)) / 2; beyond ±20 it is 1 or 0 to any FP32 result. -/
def fxPhi (x : Int) : Int :=
  if 20 * fxOne < x then fxOne
  else if x < -20 * fxOne then 0
  else
    let q := fxMul x x
    fxOne / 2 + fxDiv (fxMul (fxExp (-(q / 2))) (fxPhiTerms q 1500 3 x 0)) fxRoot2Pi

/-! ## The FP32 numbers within 2 units -/

/-- FP32 codes in the order of their values. -/
def f32Ord (c : Nat) : Int := if c < 2 ^ 31 then c else -((c - 2 ^ 31 : Nat) : Int)

/-- The codes at a place of that order: two for zero, none past the infinities. -/
def f32AtOrd (k : Int) : List Nat :=
  if k = 0 then [0, 2 ^ 31] else if 0x7F800000 < k.natAbs then [] else if k < 0 then [k.natAbs + 2 ^ 31] else [k.natAbs]

/-- The FP32 number nearest to a fixed-point value. -/
def f32Nearest (v : Int) : Nat := toF32 (.fin (v < 0) v.natAbs (-512))

/-- A unit in the last place of FP32 at a value. -/
def f32Unit2 (v : Int) : Int := 2 ^ max (Nat.log2 v.natAbs - 23) (512 - 149)

/-- R66: the FP32 codes within 2 units in the last place of a value. -/
def f32Within2 (v : Int) : List Nat :=
  let r := f32Ord (f32Nearest v)
  ([r - 2, r - 1, r, r + 1, r + 2].map f32AtOrd).flatten.filter (fun c => (fxOf (f32 c) - v).natAbs ≤ (2 * f32Unit2 v).natAbs)

/-- R66: the result of function `code` at an FP32 code x whose exact value is v: one of those within the bound. A value that overflows has
none of them, and is the infinity it rounds to. -/
def boundedResult (code x : Nat) (v : Int) : Nat :=
  let l := f32Within2 v
  l.getD (Config.within code (BitVec.ofNat 32 x) % l.length) (f32Nearest v)

/-- R66, R124: the exact value of a function at a finite number: the codes 3 to 8 of R66, and 16 for Φ. -/
def exactValue (code : Nat) (x : Int) : Int :=
  match code with
  | 3 =>
    let y := (x + 44715 * fxMul (fxMul x x) x / 1000000) * 79788456 / 100000000
    fxMul x (fxSigma (2 * y))
  | 4 => fxMul x (fxPhi x)
  | 5 => fxMul x (fxSigma x)
  | 6 => fxSigma x
  | 7 => fxTanh x
  | 8 => fxExp x
  | _ => fxPhi x

/-- A function at a finite FP32 code. -/
def boundedAt (code x : Nat) : Nat := boundedResult code x (exactValue code (fxOf (f32 x)))

/-- exp of an FP32 number, to the 2 units of R66: exp(-infinity) is 0. -/
def expF32 (x : Nat) : Nat :=
  match f32 x with
  | .nan => f32Nan
  | .inf true => 0
  | .inf false => x
  | _ => boundedAt 8 x

/-- The natural logarithm of an FP32 number, whose accuracy the spec does not state (log entry 15). -/
def lnF32 (x : Nat) : Nat :=
  match f32 x with
  | .nan => f32Nan
  | .inf true => f32Nan
  | .inf false => x
  | .fin neg m _ => if m = 0 then 0xFF800000 else if neg then f32Nan else (Config.transcend 1 (BitVec.ofNat 32 x)).toNat

end Sys2Proof.Machine
end

