-- ==== Sys2Proof/Machine/Attention.lean ====
section
/-!
DEFINITION. ATTN tiles (R108, R182 to R187, R191, R195): the attention header, appending, attending, the block mask, scores, and the
copy of a head on its first touch.
-/
namespace Sys2Proof.Machine
open Sys2Proof

/-! ## The attention header (R183) -/

/-- The header's fields. -/
structure AttnHead where
  head : Nat
  handle : Nat
  pos : Nat
  tokens : Nat
  layer : Nat
  kvhead : Nat
  append : Bool
  score : Bool
  newfmt : Nat
  scale : Nat
  newkv : Nat
  lse : Nat
  reserved : Bool
  deriving DecidableEq, Repr

/-- Decode the 64 bytes at TD_SCRA. `reserved` says that a reserved field is not zero. -/
def attnHead (b : List Byte) : AttnHead :=
  ⟨bitsAt (fieldAt b 0 4) 0 27, fieldAt b 4 4, bitsAt (fieldAt b 8 4) 0 20, fieldAt b 12 2, bitsAt (fieldAt b 14 2) 0 10,
    bitsAt (fieldAt b 16 1) 0 5, bitAt (fieldAt b 17 1) 0, bitAt (fieldAt b 17 1) 1, bitsAt (fieldAt b 18 1) 0 5,
    fieldAt b 20 4, fieldAt b 24 8, fieldAt b 32 8,
    fieldAt b 0 4 / 2 ^ 27 ≠ 0 || fieldAt b 8 4 / 2 ^ 20 ≠ 0 || fieldAt b 14 2 / 2 ^ 10 ≠ 0 || fieldAt b 16 1 / 32 ≠ 0
      || fieldAt b 17 1 / 4 ≠ 0 || fieldAt b 18 1 / 32 ≠ 0 || fieldAt b 19 1 ≠ 0 || (b.drop 40).take 24 ≠ zeros 24⟩

/-- The header of a tile. -/
def tileHead (td : List Byte) (scr : Sparse Byte) : AttnHead := attnHead (readBytes scr (tdScrA td) 64)

/-- The query rows (R182), and for a block-scaled query format their scale array at TD_SCRSA, as R91 lays out any operand's (log entry 43). -/
def queryArrays (td : List Byte) : List ScrArray :=
  [⟨tdScrA td, 1, 64⟩, ⟨tdScrA td + 64, tdM td, packedBytes (fmtBits (tdFmtA td)) (tdN td)⟩]
  ++ (if fmtScale (tdFmtA td) = .none then [] else [scaleArray (tdScrSA td) (tdFmtA td) (tdM td) (tdN td) false])

/-- R183: the cases in which a tile is refused with KV_ATTN_HEADER. -/
def State.attnHeadBad (s : State) (c : Nat) (td : List Byte) (h : AttnHead) : Bool :=
  !s.pageKnown h.head || s.kmKind h.head ≠ 3 || s.kmCtx h.head ≠ c || s.kmSeq h.head ≠ h.handle
  || h.layer ≥ s.rd .seqLayers c || h.kvhead ≥ s.rd .kvHeads c
  || tdM td % 16 ≠ 0 || tdM td < 16 || tdM td > 256 || tdK td < 1 || tdK td > 64
  || tdN td ≠ s.rd .kvHeaddim c || h.tokens = 0 || h.tokens > 256 || h.tokens * tdK td > tdM td
  || h.pos + h.tokens > 1048575 || !f32Finite h.scale || (f32 h.scale).isZero || h.reserved || tdAccop td ≠ 2

/-- R108: the tokens of a mask block. -/
def maskBlock (m : Nat) : Nat := if m = 1 then 16 else if m = 2 then 64 else 128

/-- R108: the bytes of a mask row over the keys in use. -/
def maskRowBytes (blk keys : Nat) : Nat := ceilDiv (ceilDiv keys blk) 512 * 64

/-- R108: a mask row shorter than the keys in use: one that a query block of the tile uses begins in a readable page and does not lie in readable
pages to its end (log entry 104). -/
def State.maskShort (s : State) (c : Nat) (td : List Byte) (h : AttnHead) : Bool :=
  let blk := maskBlock (tdMaskblk td)
  let n := maskRowBytes blk (h.pos + h.tokens)
  tdMaskblk td ≠ 0 && (unitsOf blk h.pos h.tokens).any (fun q =>
    s.mapped c (tdAux td + q * n) 1 .read && !s.mapped c (tdAux td + q * n) n .read)

/-- R182, R183, R108: the checks of an ATTN tile. -/
def State.attnCheck (s : State) (n k c : Nat) (td : List Byte) (epi : Status) : Status :=
  let h := tileHead td (s.slot n k).scratch
  firstBad [
    operandFmt (tdFmtA td),
    refuseIf (fmtIsInt (tdFmtA td)) .fmtUnsupported,
    refuseIf (fmtReserved (tdFmtB td)) .fmtReserved,
    refuseIf (tdFmtB td ≠ fmtAbsent && !kvFormat (tdFmtB td)) .fmtUnsupported,
    refuseIf (tdFmtA td = 0x15) .fmtClassMix,
    coarseCheck (tdFmtA td) (tdCoarseA td),
    refuseIf (tdAccfmt td = 3 || tdAccfmt td = 1) .cluAccFormat,
    refuseIf (!(queryArrays td).all (fun a => a.fits (s.scrSlice c))) .cluScratchRange,
    refuseIf (s.attnHeadBad c td h) .kvAttnHeader,
    refuseIf (s.maskShort c td h) .cluMaskConfig,
    refuseIf (h.append && fmtReserved h.newfmt) .fmtReserved,
    refuseIf (h.append && h.newfmt > 2) .fmtUnsupported,
    refuseIf (tdN td % (fmtScale (tdFmtA td)).block ≠ 0) .fmtBlockAxis,
    s.accCheck n k c td,
    epi]

/-! ## Reaching pages (R174, R190, R199) -/

/-- R280: the status of near accesses at ranges of a page: a poisoned granule means the page is lost. -/
def State.rangesUse (s : State) (rs : List (Nat × Nat)) : Status :=
  match firstBad (rs.map (fun r => s.nearCheck r.1 r.2)) with
  | .memUncorrectable => .kvPageLost
  | st => st

/-- R174, R184, R190, R199: can a tile use the page of a list entry? It pins the page, an atomic on the first block of its record, and compares the
tags. -/
def State.pageUse (s : State) (e : Nat) : Status :=
  let p := lePage e
  let rec_ := if pageFar p then s.farCheck (s.pageMeta p) 64 else s.rangesUse [(s.pageMeta p, 64)]
  if !s.pageKnown p ∨ (rec_ = .ok ∧ s.kmTag p ≠ leTag e) then .kvStalePage
  else if pageFar p then .kvFarPage
  else if s.pageLost p then .kvPageLost
  else rec_

/-- R180, R199: entry i of a head or list page, as a tile reads it. -/
def State.slotUse (s : State) (p i : Nat) : Except Status Nat :=
  if s.pageLost p then .error .kvPageLost
  else match s.rangesUse [(s.pageData p + 8 * i, 8)] with
    | .ok => .ok (s.listSlot p i)
    | st => .error st

/-- R180: a reader's way to run entry v below a head page: 0 where the run is absent; or why the way fails, with the page concerned. The list page is
pinned and its tag compared as any page's. -/
def State.findRun (s : State) (head v : Nat) : Except (Status × Nat) Nat :=
  match s.slotUse head (v / 8192) with
  | .error e => .error (e, head)
  | .ok p =>
    if !lePresent p then .ok 0
    else match s.pageUse p with
      | .ok => (s.slotUse (lePage p) (v % 8192)).mapError (·, lePage p)
      | st => .error (st, lePage p)

/-- R174, R199: what a failed use of a page leaves: KV_STALE, or a lost page whose poison is reported; the sequence has lost it at its next boundary. -/
def State.pageFault (s : State) (seq p : Nat) (st : Status) : State :=
  let s := if st = .kvStalePage then s.bump .kvStale 0 1 else if st = .kvPageLost then (s.pagePoison p).losePage p else s
  if st = .kvStalePage ∨ st = .kvPageLost then s.setSeq seq { s.seqAt seq with lost := true } else s

/-- R190: take, and drop, the pins of a tile on the pages it uses. -/
def State.pinAll (s : State) (ps : List Nat) : State := ps.foldl State.pinPage s
def State.unpinAll (s : State) (ps : List Nat) : State := ps.foldl State.unpinPage s

/-- Write pieces into a near page: the first failure is the status. -/
def State.kvWriteAll (s : State) : List (Nat × List Byte) → State × Status
  | [] => (s, .ok)
  | (a, bs) :: t =>
    match s.memWrite false a bs with
    | (s, .ok) => s.kvWriteAll t
    | (s, .memUncorrectable) => (s, .kvPageLost)
    | (s, .memPoisonWrite) => (s, .kvPageLost)
    | r => r

/-! ## Copies on first touch (R191) -/

/-- R191: is a copy of head h of page p pending, and has another tile started it? -/
def State.cowPending (s : State) (p h : Nat) : Bool := sget false s.kv.cow p && !bitAt (s.kmGet p 28 3) h
def State.cowStarted (s : State) (p h : Nat) : Bool := bitAt (s.kmGet p 24 3) h

/-- R191: copy slots t to t + n - 1 of head h of page x to page p: each vector with its scales and its zero point, which shares a byte with its
neighbour's. -/
def State.cowSlots (s : State) (g : KvGeo) (p x h : Nat) : Nat → Nat → State × Status
  | 0, _ => (s, .ok)
  | n + 1, t =>
    match s.kvWriteAll (s.kvParts g p h t false (s.kvRead g x h t false)) with
    | (s, .ok) =>
      match s.kvWriteAll (s.kvParts g p h t true (s.kvRead g x h t true)) with
      | (s, .ok) => s.cowSlots g p x h n (t + 1)
      | r => r
    | r => r

/-- R191: copy slots 0 to n - 1 of head h of page x to page p, and its score: or why it fails, with the page concerned. -/
def State.cowCopy (s : State) (g : KvGeo) (p x h n : Nat) : State × Except (Status × Nat) Unit :=
  match s.rangesUse (((List.range n).map (fun t => s.kvRanges g x h t false ++ s.kvRanges g x h t true)).flatten) with
  | .ok =>
    match s.cowSlots g p x h n 0 with
    | (s, .ok) => (s.kmSet p (64 + 2 * h) 2 (s.kmGet x (64 + 2 * h) 2), .ok ())
    | (s, st) => (s, .error (st, p))
  | st => (s, .error (st, x))

/-- R191: complete a pending copy of head h of page p for a sequence: the copy's source is pinned, its tag checked, its slots copied,
and the DONE bit set; the last head's copy counts. -/
def State.cowHead (s : State) (g : KvGeo) (seq p h : Nat) : State × Except (Status × Nat) Unit :=
  if !s.cowPending p h then (s, .ok ())
  else
    let x := s.kmCowsrc p
    let lam := (s.seqAt seq).pfxlen
    let s := s.kmSet p 24 3 (setBits (s.kmGet p 24 3) h 1 1)
    match s.pageUse (leMake x (s.kmCowtag p)) with
    | .ok =>
      match (s.pinPage x).cowCopy g p x h (lam - s.kmGet p 14 2 * g.p) with
      | (s, .ok _) =>
        let s := (s.kmSet p 28 3 (setBits (s.kmGet p 28 3) h 1 1)).unpinPage x
        (if s.kmGet p 28 3 % 2 ^ g.h = 2 ^ g.h - 1 then { s with kv := { s.kv with cow := sput false s.kv.cow p false } }.bump .kvCows 0 1
         else s, .ok ())
      | (s, .error e) => (s.unpinPage x, .error e)
    | st => (s, .error (st, x))

/-! ## Appending (R184 steps 1 to 3) -/

/-- The runs that positions pos to pos + n - 1 lie in. -/
def runsOf (p pos n : Nat) : List Nat := unitsOf p pos n

/-- R184 step 1, for one run: its page, or why the tile fails. -/
def State.appendPage (s : State) (l : Nat) (h : AttnHead) (r : Nat) : Except (Status × Nat) Nat :=
  match s.findRun h.head (r * l + h.layer) with
  | .error e => .error e
  | .ok e =>
    if !lePresent e then .error (.kvEntryAbsent, 0)
    else match s.pageUse e with
      | .ok => .ok (lePage e)
      | st => .error (st, lePage e)

/-- Vector k of the new keys (or values) of a tile, as FP32 codes. -/
def newVector (fmt d : Nat) (row : List Byte) (value : Bool) : List Nat :=
  let w := fmtBits fmt / 8
  (List.range d).map (fun i =>
    let c := fieldAt row ((if value then d else 0) * w + i * w) w
    match fmtInfo fmt with
    | none => 0
    | some f => toF32 (f.elem.value c))

/-- R184 step 3: write the vectors of new token t. -/
def State.appendToken (s : State) (c : Nat) (g : KvGeo) (l : Nat) (h : AttnHead) (t : Nat) : State × Except (Status × Nat) Unit :=
  let w := 2 * g.d * (fmtBits h.newfmt / 8)
  let pos := h.pos + t
  match s.appendPage l h (pos / g.p), s.readDva c (h.newkv + t * w) w with
  | .error e, _ => (s, .error e)
  | _, (s, .error e) => (s, .error (e, 0))
  | .ok p, (s, .ok row) =>
    let fmt := s.kmFmt p
    let q (value : Bool) : KvVec := kvQuantise fmt (s.propagates c) (newVector h.newfmt g.d row value)
    match s.kvWriteAll (s.kvParts g p h.kvhead (pos % g.p) false (q false)) with
    | (s, .ok) =>
      match s.kvWriteAll (s.kvParts g p h.kvhead (pos % g.p) true (q true)) with
      | (s, .ok) => (s, .ok ())
      | (s, st) => (s, .error (st, p))
    | (s, st) => (s, .error (st, p))

/-- The new tokens from t on. -/
def State.appendTokens (s : State) (c : Nat) (g : KvGeo) (l : Nat) (h : AttnHead) : Nat → Nat → State × Except (Status × Nat) Unit
  | 0, _ => (s, .ok ())
  | n + 1, t =>
    match s.appendToken c g l h t with
    | (s, .ok _) => s.appendTokens c g l h n (t + 1)
    | r => r

/-! ## Attending (R185) -/

/-- The keys that a row may attend to: those of one page with what it reads of them. -/
structure KeyPage where
  page : Nat
  run : Nat
  /-- Positions of the page that lie below AH_POS + T. -/
  count : Nat
  keys : List KvVec
  values : List KvVec
  rate : Nat
  widened : Bool

/-- R187: is a page format narrower than the format the queries require? -/
def narrower (fmt req : Nat) : Bool := req ≠ fmtAbsent && kvBits fmt < kvBits req

/-- R187: a vector widened to a format: decoded by R176 and rounded to it, under the context's overflow mode (R73, R74). -/
def KvVec.widen (v : KvVec) (req d : Nat) (prop : Bool) : KvVec := kvQuantise req prop ((List.range d).map v.value)

/-- R58, R185: the rate of products with a page's keys: UINT4 keys run at the FP8 rate. -/
def keyRate (fmtA fmt : Nat) : Nat := min (fmtRate fmtA) (if fmt = 0x0B then 8192 else fmtRate fmt)

/-- Read the keys and values of head h of one present page. -/
def State.keyPage (s : State) (prop : Bool) (g : KvGeo) (td : List Byte) (h : AttnHead) (run p : Nat) : KeyPage :=
  let n := min g.p (h.pos + h.tokens - run * g.p)
  let fmt := s.kmFmt p
  let w := narrower fmt (tdFmtB td)
  let rd (value : Bool) (t : Nat) : KvVec :=
    let v := s.kvRead g p h.kvhead t value
    if w then v.widen (tdFmtB td) g.d prop else v
  ⟨p, run, n, (List.range n).map (rd false), (List.range n).map (rd true),
    keyRate (tdFmtA td) (if w then tdFmtB td else fmt), w⟩

/-- R185 step 1: the dot product of query row i with a key, and whether a sum saturated (R60). -/
def attnDot (q : Operand) (prop : Bool) (d i : Nat) (k : KvVec) : Nat × Bool :=
  let grp (g : Nat) : Nat :=
    let prods := (List.range 16).map (fun e => (q.float i (16 * g + e)).mul (k.float (16 * g + e)))
    toF32 ((Fp.sum prods).mul ((q.scale i (16 * g)).mul (k.groupScale g)))
  let r := (List.range (d / 16)).foldl (fun e g => accFloat false prop e (grp g)) (none, false)
  (r.1.getD 0, r.2)

/-- A row's running state over the blocks: m, l and o. -/
structure AttnRow where
  m : Nat
  l : Nat
  o : List Nat
  deriving DecidableEq, Repr

/-- R185 step 3: one block of admitted keys: scores with the value vectors, ascending. -/
def AttnRow.block (r : AttnRow) (b : List (Nat × List Nat)) : AttnRow :=
  let mb := b.foldl (fun m x => f32Max m x.1) r.m
  let a := if r.m = 0xFF800000 then 0 else expF32 (f32Sub r.m mb)
  let es := b.map (fun x => if x.1 = 0xFF800000 then 0 else expF32 (f32Sub x.1 mb))
  let l := f32Add (f32Mul r.l a) (es.foldl f32Add 0)
  let sumv (i : Nat) : Nat := (es.zip b).foldl (fun s x => f32Add s (f32Mul x.1 (x.2.2.getD i 0))) 0
  ⟨mb, l, r.o.zipIdx.map (fun o => f32Add (f32Mul o.1 a) (sumv o.2))⟩

/-- A row's result: the normalised outputs, its log-sum-exp, m and l, and the admitted keys with their scores. -/
structure AttnOut where
  out : List Nat
  lse : Nat
  m : Nat
  l : Nat
  xs : List (Nat × Nat)
  empty : Bool
  sat : Bool

/-- R185, R108: one query row over the admitted keys (position, score, value vector) in ascending position. -/
def attnRow (d : Nat) (ks : List (Nat × Nat × List Nat)) : AttnOut :=
  if ks = [] then ⟨List.replicate d 0, 0xFF800000, 0xFF800000, 0, [], true, false⟩
  else if ks.any (fun k => f32IsNan k.2.1) then ⟨List.replicate d f32Nan, f32Nan, f32Nan, f32Nan, ks.map (fun k => (k.1, k.2.1)), false, false⟩
  else
    let blocks := (unitsOf 16 0 ((ks.getLastD (0, 0, [])).1 + 1)).map (fun b =>
      (ks.filter (fun k => k.1 / 16 = b)).map (fun k => (k.2.1, k.2.2)))
    let r := (blocks.filter (fun b => b ≠ [])).foldl AttnRow.block ⟨0xFF800000, 0, List.replicate d 0⟩
    ⟨r.o.map (fun o => f32Div o r.l), f32Add r.m (lnF32 r.l), r.m, r.l, ks.map (fun k => (k.1, k.2.1)), false, false⟩

/-- R108: the mask rows that a tile's queries use, as numbers by query block. -/
def State.maskRows (s : State) (c : Nat) (td : List Byte) (h : AttnHead) : State × Except Status (List (Nat × Nat)) :=
  if tdMaskblk td = 0 then (s, .ok [])
  else
    let blk := maskBlock (tdMaskblk td)
    let n := maskRowBytes blk (h.pos + h.tokens)
    (unitsOf blk h.pos h.tokens).foldl (fun r q =>
      match r with
      | (s, .error e) => (s, .error e)
      | (s, .ok l) =>
        match s.readDva c (tdAux td + q * n) n with
        | (s, .error e) => (s, .error e)
        | (s, .ok b) => (s, .ok (l ++ [(q, leNat b)]))) (s, .ok [])

/-- R185, R108: is the key at position j admitted for the query at position p? -/
def attnAdmits (td : List Byte) (mask : List (Nat × Nat)) (p j : Nat) : Bool :=
  (!tdCausal td || j ≤ p) &&
  (tdMaskblk td = 0 ||
    (let blk := maskBlock (tdMaskblk td)
     mask.any (fun r => r.1 = p / blk && bitAt r.2 (j / blk))))

/-- Operand A of an ATTN tile: its query rows. -/
def queryOperand (td : List Byte) (scr : Sparse Byte) : Operand :=
  ⟨tdFmtA td, false, (ScrArray.mk (tdScrA td + 64) (tdM td) (packedBytes (fmtBits (tdFmtA td)) (tdN td))).all scr,
   if fmtScale (tdFmtA td) = .none then [] else (scaleArray (tdScrSA td) (tdFmtA td) (tdM td) (tdN td) false).all scr, 0, 0, none⟩

/-- The rows of a tile: for each of its T × G rows, what R185 gives. -/
def attnRows (td : List Byte) (h : AttnHead) (q : Operand) (prop : Bool) (g : KvGeo) (mask : List (Nat × Nat)) (pages : List KeyPage) :
    List AttnOut :=
  (List.range (h.tokens * tdK td)).map (fun row =>
    let p := h.pos + row / tdK td
    let keys := (pages.map (fun pg => ((pg.keys.zip pg.values).zipIdx.filterMap (fun kv =>
      let j := pg.run * g.p + kv.2
      if attnAdmits td mask p j then
        let dot := attnDot q prop g.d row kv.1.1
        some (dot.2, j, f32Mul dot.1 h.scale, (List.range g.d).map kv.1.2.value)
      else none)))).flatten
    { attnRow g.d (keys.map (·.2)) with sat := keys.any (·.1) })

/-- The positions of a page that some row of the tile admits (R85, R429). -/
def pageAdmitted (td : List Byte) (h : AttnHead) (mask : List (Nat × Nat)) (g : KvGeo) (pg : KeyPage) : Nat :=
  ((List.range pg.count).filter (fun t =>
    (List.range h.tokens).any (fun q => attnAdmits td mask (h.pos + q) (pg.run * g.p + t)))).length

/-! ## Scores (R195) -/

/-- R195: the new score of one page of head h. -/
def scoreOf (decay old : Nat) (rows : List AttnOut) (lo hi : Nat) : Nat :=
  let terms := (rows.map (fun r => (r.xs.filter (fun x => lo ≤ x.1 && x.1 < hi)).map (fun x =>
    f32Div (expF32 (f32Sub x.2 r.m)) r.l))).flatten
  let share := f32Mul (f32Div f32One (f32OfNat rows.length)) (terms.foldl f32Add 0)
  let v := f32Add (f32Mul decay (old * 65536)) (f32Mul (f32Sub f32One decay) share)
  (convertPlain 0x01 .rne true v).code

/-- R184 step 5. -/
def State.updateScores (s : State) (c : Nat) (g : KvGeo) (h : AttnHead) (rows : List AttnOut) (pages : List KeyPage) : State :=
  pages.foldl (fun s pg =>
    let lo := pg.run * g.p
    if s.kmRef pg.page = 1 ∧ rows.any (fun r => r.xs.any (fun x => lo ≤ x.1 && x.1 < lo + g.p)) then
      s.kmSet pg.page (64 + 2 * h.kvhead) 2
        (scoreOf (s.rd .kvDecay c) (s.kmGet pg.page (64 + 2 * h.kvhead) 2) rows lo (lo + g.p))
    else s) s

/-! ## The tile -/

/-- The present pages that a tile reads, in ascending run order, or why it fails: pages with no admitted position are not read. -/
def State.attnPages (s : State) (g : KvGeo) (l : Nat) (td : List Byte) (h : AttnHead) (mask : List (Nat × Nat)) :
    Except (Status × Nat) (List (Nat × Nat)) :=
  let rec go : List Nat → Except (Status × Nat) (List (Nat × Nat))
    | [] => .ok []
    | r :: t =>
      let pg : KeyPage := ⟨0, r, min g.p (h.pos + h.tokens - r * g.p), [], [], 0, false⟩
      if pageAdmitted td h mask g pg = 0 then go t
      else match s.findRun h.head (r * l + h.layer) with
        | .error e => .error e
        | .ok e =>
          if !lePresent e then go t
          else match s.pageUse e with
            | .ok => (go t).map ((r, lePage e) :: ·)
            | st => .error (st, lePage e)
  go (runsOf g.p 0 (h.pos + h.tokens))

/-- R280: every byte that the tile reads of its pages reads, or the status and the page that does not. -/
def State.keysUse (s : State) (g : KvGeo) (h : AttnHead) : List (Nat × Nat) → Except (Status × Nat) Unit
  | [] => .ok ()
  | (r, p) :: t =>
    match s.rangesUse (((List.range (min g.p (h.pos + h.tokens - r * g.p))).map (fun t =>
        s.kvRanges g p h.kvhead t false ++ s.kvRanges g p h.kvhead t true)).flatten) with
    | .ok => s.keysUse g h t
    | st => .error (st, p)

/-- R191: complete the pending copies of head h of a list of pages, in order. -/
def State.cowAll (s : State) (g : KvGeo) (seq h : Nat) : List Nat → State × Except (Status × Nat) Unit
  | [] => (s, .ok ())
  | p :: t =>
    match s.cowHead g seq p h with
    | (s, .ok _) => s.cowAll g seq h t
    | r => r

/-- R184 step 1: every run of the new positions is usable, or why the tile fails. -/
def State.appendUse (s : State) (l : Nat) (h : AttnHead) (p : Nat) : Except (Status × Nat) (List Nat) :=
  let rec go : List Nat → Except (Status × Nat) (List Nat)
    | [] => .ok []
    | r :: t =>
      match s.appendPage l h r with
      | .error e => .error e
      | .ok pg => (go t).map (pg :: ·)
  go (runsOf p h.pos h.tokens)

/-- R191: the pages of a tile whose copy of head h another tile has started and not finished: the tile waits. -/
def State.cowBusy (s : State) (l : Nat) (h : AttnHead) (p : Nat) : Bool :=
  (runsOf p 0 (h.pos + h.tokens)).any (fun r =>
    match s.findRun h.head (r * l + h.layer) with
    | .ok e => lePresent e && s.cowPending (lePage e) h.kvhead && s.cowStarted (lePage e) h.kvhead
    | .error _ => false)

/-- R187: what widening leaves with the sequence and in the counters. -/
def State.noteWiden (s : State) (c seq : Nat) (g : KvGeo) (td : List Byte) (pages : List KeyPage) : State :=
  let wide := pages.filter (·.widened)
  if wide = [] then s
  else
    let s := s.bump .kvWidens c 1
    let x := s.seqAt seq
    let recompute := s.rd .kvNarrow c = 1 ∧ s.kvFits c (tdFmtB td) ∧ wide.any (fun p => x.pfxlen ≤ p.run * g.p)
    s.setSeq seq { x with
      widened := true
      stepWidened := true
      marks := if recompute then x.marks ++ [tdFmtB td] else x.marks }

/-- A tile that fails on a page. -/
def State.attnFail (s : State) (t : Tile) (seq : Nat) (e : Status × Nat) : State × Tile :=
  (s.pageFault seq e.2 e.1, t.fail e.1 0)

/-- R184 steps 1 to 3. -/
def State.attnAppend (s : State) (c seq : Nat) (g : KvGeo) (l : Nat) (h : AttnHead) : State × Except (Status × Nat) Unit :=
  if !h.append then (s, .ok ())
  else
    match s.appendUse l h g.p with
    | .error e => (s, .error e)
    | .ok ps =>
      match (s.pinAll ps).cowAll g seq h.kvhead ps with
      | (s, .ok _) =>
        let (s, r) := s.appendTokens c g l h h.tokens 0
        (s.unpinAll ps, r)
      | (s, .error e) => (s.unpinAll ps, .error e)

/-- R184, R110: steps 1 to 3 alone, of a tile that a residue check stops in its products: the tile where one of them fails. -/
def State.attnBegin (s : State) (n : Nat) (t : Tile) : State × Option Tile :=
  let h := tileHead t.td (s.slot n t.slot).scratch
  match s.attnAppend t.ctx (h.handle % 2 ^ 17) (s.kvGeo t.ctx) (s.rd .seqLayers t.ctx) h with
  | (s, .ok _) => (s, none)
  | (s, .error e) =>
    let (s, t) := s.attnFail t (h.handle % 2 ^ 17) e
    (s, some t)

/-- R85: the matrix cycles of an ATTN tile from its pages' admitted positions and rates. -/
def attnCycles (td : List Byte) (counts : List (Nat × Nat)) : Nat :=
  ceilDiv ((counts.map (fun p => 2 * tdM td * tdN td * p.1 * (16384 / max 1 p.2))).foldl (· + ·) 0) 16384

/-- R429: an ATTN tile's MAC-equivalents and the rate that is its class: the rate of TD_FMTB where it widened a page. -/
def attnMacs (td : List Byte) (counts : List (Nat × Nat)) : Nat :=
  2 * tdM td * tdN td * (counts.map (·.1)).foldl (· + ·) 0
def attnRate (td : List Byte) (pages : List KeyPage) : Nat :=
  if pages.any (·.widened) then fmtRate (tdFmtB td) else pages.foldl (fun r p => min r p.rate) (fmtRate (tdFmtA td))

/-- R184: an ATTN tile's work up to its drain, on cluster n. -/
def State.attnRun (s : State) (n : Nat) (t : Tile) : State × Tile :=
  let td := t.td
  let c := t.ctx
  let h := tileHead td (s.slot n t.slot).scratch
  let g := s.kvGeo c
  let l := s.rd .seqLayers c
  let seq := h.handle % 2 ^ 17
  match s.attnAppend c seq g l h with
  | (s, .error e) => s.attnFail t seq e
  | (s, .ok _) =>
    match s.maskRows c td h with
    | (s, .error e) => (s, t.fail e 0)
    | (s, .ok mask) =>
      match s.attnPages g l td h mask with
      | .error e => s.attnFail t seq e
      | .ok ps =>
        let mine := ps.map (·.2)
        match (s.pinAll mine).cowAll g seq h.kvhead mine with
        | (s, .error e) => (s.unpinAll mine).attnFail t seq e
        | (s, .ok _) =>
          match s.keysUse g h ps with
          | .error e => (s.unpinAll mine).attnFail t seq e
          | .ok _ =>
            let prop := s.propagates c
            let pages := ps.map (fun p => s.keyPage prop g td h p.1 p.2)
            let rows := attnRows td h (queryOperand td (s.slot n t.slot).scratch) prop g mask pages
            let s := s.noteWiden c seq g td pages
            let s := if h.score then s.updateScores c g h rows pages else s
            let s := ps.foldl (fun s p => s.countRead (some c) false (s.pageData p.2)
              (2 * kvElemBytes (s.kmFmt p.2) g.d * min g.p (h.pos + h.tokens - p.1 * g.p))) s
            let counts := pages.map (fun pg => (pageAdmitted td h mask g pg, pg.rate))
            let outs := (rows.map (·.out)).flatten
            let pad := List.replicate ((tdM td - rows.length) * tdN td) 0
            let vals := (outs ++ pad).map (fun v => if tdAccfmt td = 2 then fp32cPair v 0 else v)
            let sat := rows.any (·.sat)
            (s.unpinAll mine, { t with
              attnEmpty := rows.any (·.empty)
              accSat := sat
              cycles := attnCycles td counts
              written := rows.length
              macs := attnMacs td counts
              rate := attnRate td pages
              lse := rows.map (·.lse)
              lseAt := h.lse
              acc := some ⟨0, tdM td, tdN td, tdAccfmt td, vals, sat⟩ })

end Sys2Proof.Machine
end

