-- ==== Sys2Proof/Machine/Chosor.lean ====
section
/-!
DEFINITION. The Chosor (R206 to R211): the generators' outputs from a starting point and a draw counter, and the exact mappings of
random bits to uniform values. The draw counters of an island's generators advance together with its clock, so State keeps one for each island; the model
does not follow the clocks, so how many cycles have passed since the island's last draw is a free value (log entry 47).
-/
namespace Sys2Proof.Machine
open Sys2Proof

/-- R207: mix, modulo 2^64. -/
def mix64 (x : BitVec 64) : BitVec 64 :=
  let x := (x ^^^ (x >>> 31)) * 0xA3B1_95C6_4E27_D0F9#64
  let x := (x ^^^ (x >>> 29)) * 0x7C15_E0A9_3B6D_82C5#64
  x ^^^ (x >>> 32)

/-- R208: the first starting point of a context's block. -/
def State.blockStart (s : State) (isl c : Nat) : BitVec 64 :=
  let b := (mix64 (BitVec.ofNat 64 (s.rdAt isl .smpSeed c) ^^^ BitVec.ofNat 64 (s.rd .glbSerial 0))).toNat
  BitVec.ofNat 64 (b / 65536 * 65536)

/-- R206: the island of a generator's lane. -/
def genIsland (g : Nat) : Nat := if g < 49152 then g / 256 else if g < 49536 then islSampler ((g - 49152) / 64) else islChannel ((g - 49536) / 16)

/-- R207: a generator's output for a context at a draw counter. -/
def State.chosorAt (s : State) (c g : Nat) (lo : BitVec 64) : Nat :=
  (mix64 (lo ^^^ mix64 (s.blockStart (genIsland g) c + BitVec.ofNat 64 g))).toNat

/-- R207: the draw counter of an island's generators in the cycle of the next draw. -/
def State.chosorFrom (s : State) (isl : Nat) : Nat := sget 0 s.chosor isl + (Config.free 64 s.freeCount).toNat

/-- R206, R207: the outputs that n elements from number e0 on receive for a context: an island's lanes have generators from g on, element e is on lane
e mod `lanes`, and the elements of one round of the lanes share a cycle. -/
def State.chosorList (s : State) (c isl g lanes e0 n : Nat) : List Nat :=
  (List.range n).map (fun k => s.chosorAt c (g + (e0 + k) % lanes) (BitVec.ofNat 64 (s.chosorFrom isl + (e0 + k) / lanes)))

/-- R207: an island's draw counter has passed the cycles of n elements over its lanes. -/
def State.chosorTaken (s : State) (isl lanes n : Nat) : State :=
  { s with
    chosor := sput 0 s.chosor isl ((s.chosorFrom isl + (n + lanes - 1) / lanes + 1) % 2 ^ 64)
    freeCount := s.freeCount + 1 }

/-- R206: the generators of lane 0 of cluster n, sampler unit u, and the update unit of channel ch. -/
def genCluster (n : Nat) : Nat := 256 * n
def genSampler (u : Nat) : Nat := 49152 + 64 * u
def genUpdate (ch : Nat) : Nat := 49536 + 16 * ch

/-- R210: the mappings of a 64-bit output. -/
def f32Uniform (b : Nat) : Nat := toF32 (.fin false (b / 2 ^ 40) (-24))
def f32Open (b : Nat) : Nat := toF32 (.fin false (2 * (b / 2 ^ 41) + 1) (-24))
def bf16Uniform (b : Nat) : Nat := bf16.encode (.fin false (b / 2 ^ 56) (-8))

end Sys2Proof.Machine
end

