-- ==== Sys2Proof/Machine/EpochOps.lean ====
section
/-!
DEFINITION. Configuration epochs in force (R381 to R383): which values an island acts under, and the adoption of committed epochs.
-/
namespace Sys2Proof.Machine
open Sys2Proof

/-! ## Register keys -/

/-- The field and the copy that a register key names. -/
def regOfKey (k : Nat) : Reg := Reg.ofNat (k / 2 ^ 20)
def copyOfKey (k : Nat) : Nat := k % 2 ^ 20

/-- The page of a register key: of a register set that several pages share, the first of them. -/
def pageOfKey (k : Nat) : Nat := (regOfKey k).pageOf (copyOfKey k)

/-- A register key lies on page p (R224, R252: a shared block lies on every page of its group). -/
def keyOnPage (p k : Nat) : Bool :=
  if (regOfKey k).info.block.place.shared then (regOfKey k).info.block.onPage p else pageOfKey k = p

/-- R224, R252: the sampler pages, and the Weavin pages, carry one register set: the first page of a page's group. -/
def pageGroup (p : Nat) : Nat := if 0x408 ≤ p ∧ p ≤ 0x40D then 0x408 else if 0x410 ≤ p ∧ p ≤ 0x413 then 0x410 else p

/-- The value in force at a register key. -/
def State.rdKey (s : State) (k : Nat) : Nat := s.rd (regOfKey k) (copyOfKey k)

/-- R169, R203, R224: fields that take effect at the context's next boundary. -/
def Reg.atBoundary (r : Reg) : Bool :=
  match r.info.block with
  | .seqCtx | .kvCtx => true
  | .smpCtx => r != .smpSeed
  | _ => false

/-! ## Values in force -/

/-- Put committed values, by register key, into the registers. -/
def State.putVals (s : State) (vals : Sparse Nat) : State :=
  { s with regs := vals.foldl (fun m p => sput ((regOfKey p.1).resetAt (copyOfKey p.1)) m p.1 p.2) s.regs }

/-- R175: P of a context, from the geometry in force. -/
def State.setTokpage (s : State) (c : Nat) : State :=
  s.wr .kvTokpage c (tokensPerPage (s.rd .kvHeads c) (s.rd .kvHeaddim c) (s.rd .kvPagefmt c))

/-- R377: the tokens that a context's event bucket holds, counted up to now; a lower burst lowers them. -/
def State.settleBucket (s : State) (c tokens : Nat) : State :=
  let l := s.evList c
  s.setEvList c { l with tokens := min tokens ((s.evBucket c).2 * 1000000), at_ := s.now }

/-- What follows from a value that comes into force (R357, R377, R389); `old` is the state before. -/
def State.follows (old s : State) (k : Nat) : State :=
  let c := copyOfKey k
  match regOfKey k with
  | .ctxMask => s.lanesChanged c
  | .ctxEvtrate | .ctxEvtburst => s.settleBucket c (old.evTokens c)
  | .tethMode => s.rehome
  | _ => s

/-- R383: an epoch comes into force: every island has adopted it. -/
def State.inForce (old : State) (a : Adopting) : State :=
  let s := old.putVals a.vals
  let s := a.vals.foldl (fun s q => if old.rdKey q.1 = q.2 then s else State.follows old s q.1) s
  let s := if a.page = 0x402 then (a.vals.map (fun p => copyOfKey p.1)).foldl (fun s c => s.setTokpage c) s else s
  s.wr .cfgEpoch a.page a.epoch

/-- R383: epochs that every affected island has adopted come into force, those of one page (or group) in their order, and CFG_EPOCH of the
page shows them. `held` are the pages with an earlier epoch still being adopted. -/
def State.finishEpochs (s : State) (held : List Nat) : List Adopting → State × List Adopting
  | [] => (s, [])
  | a :: t =>
    if a.islands = [] ∧ !held.contains (pageGroup a.page) then (s.inForce a).finishEpochs held t
    else
      let (s, u) := s.finishEpochs (pageGroup a.page :: held) t
      (s, a :: u)

/-- The commits being adopted become this list; those that are done come into force. -/
def State.epochsDone (s : State) (l : List Adopting) : State :=
  let (s, u) := s.finishEpochs [] l
  { s with cfg := { s.cfg with adopting := u } }

/-- R383: an island adopts every committed epoch. At a step boundary the sequencer adopts what a context's fields become: these
fields are the sequencer's, the allocator's and the samplers' alone, and come into force there; the generators' seed is not. -/
def State.adopt (s : State) (who : Nat × Option Nat) : State :=
  let s : State :=
    match who.2 with
    | none => s
    | some c => (s.cfg.adopting.filter (·.islands.contains who)).foldl (fun s a =>
        (s.putVals (a.vals.filter (fun p => copyOfKey p.1 = c && (regOfKey p.1).atBoundary))).setTokpage c) s
  s.epochsDone (s.cfg.adopting.map (fun a => { a with islands := a.islands.filter (· ≠ who) }))

/-- R475: the last committed value of a field: the newest value being adopted, else the value in force; of CTX_CLASS during a pending
change, the class to come (R366). -/
def State.committedVal (s : State) (k : Nat) : Nat :=
  if regOfKey k = .ctxClass then
    (if s.flag .ctxClasspend (copyOfKey k) then 1 - s.rd .ctxClass (copyOfKey k) else s.rd .ctxClass (copyOfKey k))
  else s.cfg.adopting.foldl (fun v a => sget v a.vals k) (s.rdKey k)

/-- The last committed value of copy i of a field. -/
def State.rdNew (s : State) (r : Reg) (i : Nat) : Nat := s.committedVal (r.key i)

/-! ## Acting under an island's epoch -/

/-- The committed values that an island has adopted and that are not yet in force everywhere. -/
def State.overlay (s : State) (isl : Nat) : Sparse Nat :=
  ((s.cfg.adopting.filter (fun a => !a.islands.contains (isl, none))).map (fun a =>
    a.vals.filter (fun p => !(regOfKey p.1).atBoundary))).flatten

/-- R383: an island does its work under the epochs that it has adopted. -/
def State.under (s : State) (isl : Nat) (f : State → Host.Outcome State Fault Refusal) : Host.Outcome State Fault Refusal :=
  let vals := s.overlay isl
  if vals = [] then f s
  else
    match f (s.putVals vals) with
    | .next t => .next (t.putVals (vals.map (fun p => (p.1, s.rdKey p.1))))
    | r => r

end Sys2Proof.Machine
end

