-- ==== Sys2Proof/Machine/SeqOps.lean ====
section
/-!
DEFINITION. What the sequencer's commands share (R144 to R172): records and the rings that hold them, table entries, the record region,
and the ends of sequences.
-/
namespace Sys2Proof.Machine
open Sys2Proof

/-- The sequencer's register page (R169). -/
def seqPage : Nat := 0x0400

/-- A context the sequencer runs steps for (R148, R357): DEFINED or RESIDENT, GENERATE class, role LEAD. -/
def State.seqLead (s : State) (c : Nat) : Bool := s.ctxLive c && s.rd .ctxClass c = 1 && s.rd .seqRole c = 1

/-! ## Entries (R146) -/

/-- R146: a bit of word 8. -/
def seqFlags (x : Seq) : Nat :=
  ([x.late, x.cancelpend, x.toplp, x.nostream, x.widened, x.recomputed, x.mempause, x.cmdpause, x.spilled, x.keeppfx, x.autorel,
    x.continued].zipIdx.map (fun p => b2n p.1 * 2 ^ p.2)).foldl (· + ·) 0 + x.ret * 2 ^ 12 + x.stopidx * 2 ^ 14

/-- R146: the 64 bytes of an entry. -/
def seqImage (x : Seq) : List Byte :=
  leBytes 4 (x.state + x.prio * 2 ^ 3 + x.ctx * 2 ^ 6 + x.gen * 2 ^ 12) ++ leBytes 4 (x.len + x.stopset * 2 ^ 20)
    ++ leBytes 4 x.prompt ++ leBytes 4 (x.maxgen + x.sampidx * 2 ^ 20) ++ leBytes 4 x.pagehead ++ leBytes 4 x.prefix_
    ++ leBytes 8 x.deadline ++ leBytes 4 (seqFlags x) ++ leBytes 4 x.cring ++ leBytes 8 x.tag ++ leBytes 8 x.record
    ++ leBytes 4 x.gencnt ++ leBytes 4 x.admstep

/-- R37, R166: the 64 bytes of an entry as they are sent to another member: a deadline is no device time there, so its words are zero. -/
def groupImage (x : Seq) : List Byte := seqImage { x with deadline := 0 }

/-- R38, R159: the budget that remains of a deadline, all ones for none; and the deadline that a budget makes. -/
def State.budgetOf (s : State) (deadline : Nat) : Nat := if deadline = 2 ^ 64 - 1 then 2 ^ 64 - 1 else deadline - s.now
def State.deadlineOf (s : State) (budget : Nat) : Nat := if 2 ^ 64 - 2 < s.now + budget then 2 ^ 64 - 1 else s.now + budget

/-- R146, R166: an entry from the 64 bytes that a LEAD sends, over what this module keeps of it: its page list, its deadline, and what stands outside the
entry. -/
def seqOfImage (old : Seq) (b : List Byte) : Seq :=
  let w (k : Nat) : Nat := fieldAt b (4 * k) 4
  { old with
    state := bitsAt (w 0) 0 3, prio := bitsAt (w 0) 3 3, ctx := bitsAt (w 0) 6 6, gen := bitsAt (w 0) 12 15
    len := bitsAt (w 1) 0 20, stopset := bitsAt (w 1) 20 12, prompt := bitsAt (w 2) 0 20
    maxgen := bitsAt (w 3) 0 20, sampidx := bitsAt (w 3) 20 12, prefix_ := w 5
    late := bitAt (w 8) 0, cancelpend := bitAt (w 8) 1, toplp := bitAt (w 8) 2, nostream := bitAt (w 8) 3
    widened := bitAt (w 8) 4, recomputed := bitAt (w 8) 5, mempause := bitAt (w 8) 6, cmdpause := bitAt (w 8) 7
    spilled := bitAt (w 8) 8, keeppfx := bitAt (w 8) 9, autorel := bitAt (w 8) 10, continued := bitAt (w 8) 11
    ret := bitsAt (w 8) 12 2, stopidx := bitsAt (w 8) 14 4, cring := bitsAt (w 9) 0 16
    tag := fieldAt b 40 8, record := fieldAt b 48 8, gencnt := bitsAt (w 14) 0 20, admstep := w 15
    memEver := old.memEver || bitAt (w 8) 6 }

/-! ## Leaving pages (R161, R165, R188, R198) -/

/-- Drop the references a sequence holds for its prefix before admission (R188). -/
def State.dropPrefixRefs (s : State) (i : Nat) : State :=
  let x := s.seqAt i
  let s := x.pfxEntries.foldl (fun s e => s.refDrop (lePage e.2)) s
  s.setSeq i { s.seqAt i with pfxEntries := [] }

/-- Drop a sequence's anchors (R188). -/
def State.dropAnchors (s : State) (i : Nat) : State :=
  let s := (s.seqAt i).anchors.foldl (fun s p => s.refDrop p) s
  s.setSeq i { s.seqAt i with anchors := [] }

/-- R198: abandon the copies of a sequence's pages that are under way: the pins and the pages taken are given back. -/
def State.abandonMoves (s : State) (i : Nat) : State :=
  let mine := s.kv.moves.filter (·.idx = i)
  let s : State := { s with kv := { s.kv with moves := s.kv.moves.filter (·.idx ≠ i) } }
  mine.foldl (fun s m => (s.unpinPage m.src).refDrop m.dst) s

/-- Release the pages of a sequence: its copies, list and prefix references (R161). -/
def State.releaseList (s : State) (i : Nat) : State :=
  let s := s.abandonMoves i
  let x := s.seqAt i
  let s := if x.hasList then s.dropList x.pagehead else s
  (s.setSeq i { s.seqAt i with hasList := false, pagehead := 0 }).dropPrefixRefs i

/-- Release every page of a sequence, its anchors among them (R165, R188). -/
def State.releasePages (s : State) (i : Nat) : State := (s.releaseList i).dropAnchors i

/-! ## The table (R144, R148) -/

/-- The lowest-numbered FREE entry (R148). -/
def State.freeEntry (s : State) : Option Nat :=
  let k := (s.seq.table.filter (fun p => p.2.state ≠ 0)).foldl (fun k p => if p.1 = k then k + 1 else k) 0
  if k < 131072 then some k else none

/-- R144, R188: an entry returns to FREE: its anchors drop and its generation count rises. -/
def State.freeSeq (s : State) (i : Nat) : State :=
  let s := s.dropAnchors i
  let x := s.seqAt i
  let s := s.setSeq i (Seq.free ((x.gen + 1) % 2 ^ 15))
  (s.wr .seqActive x.ctx (s.rd .seqActive x.ctx - 1)).bump .seqFree 0 1

/-! ## The record region (R145) -/

/-- G of a sequence. -/
def regionG (x : Seq) : Nat := roundUp (4 * (x.pfxlen + x.prompt)) 64

/-- The bytes of a record region. -/
def regionBytes (x : Seq) : Nat := 64 + regionG x + 8 * x.maxgen

/-- Tokens known to the sequence that its cache does not hold: what remains to prefill, or the token to decode. -/
def seqRest (x : Seq) : Nat := x.pfxlen + x.prompt + x.gencnt - x.len

/-- Write into a record region, with the second write of a mirrored LEAD (R347). -/
def State.regionWrite (s : State) (x : Seq) (off : Nat) (bs : List Byte) : State × Status :=
  let (s, st) := s.dvaWrite x.ctx (x.record + off) bs
  let mirrored := s.flag .fhMirrorvalid 0 && s.rd .fhMirrorctx 0 = x.ctx
  (if st = .ok ∧ mirrored then s.emit (.remote (s.rd .fhMirror 0) x.ctx (x.record + off) bs (s.rd .seqReadytally x.ctx) 1) else s, st)

/-! ## Rings of records (R149, R369) -/

/-- R161: a sequence whose completion record is written becomes DONE, or FREE with SQ_AUTOREL, and SEQ_DONETALLY is signalled. -/
def State.finishSeq (s : State) (i : Nat) : State :=
  let x := s.seqAt i
  let s := s.bump .seqCompletions 0 1
  let s := if x.autorel then s.freeSeq i else s.setSeq i { x with state := 6 }
  s.agentSignal seqPage (bankOfIsland islSequencer) x.ctx (s.rd .seqDonetally x.ctx) 1 false

/-- A record of a sequence: written where its ring has room; otherwise it waits, in its order. -/
def State.seqRecord (s : State) (c r : Nat) (rec : List Byte) (fin : Option Nat) : State :=
  if r ≥ 65536 ∨ s.rd .dbState r = 0 ∨ s.rd .dbType r ≠ 3 ∨ s.rd .dbCtx r ≠ c then
    s.setStep c { s.step_ c with stray := (s.step_ c).stray ++ [(r, rec, fin)] }
  else if s.rd .dbState r = 1 ∧ 0 < s.ringRoom r ∧ (s.ring r).held.all (·.reserved) then
    let s := s.writeRecord r rec false
    match fin with
    | none => s
    | some i => s.finishSeq i
  else s.setRing r { s.ring r with held := (s.ring r).held ++ [⟨rec, false, fin⟩] }

/-- R369: the held records of an ACTIVE ring, in the order they fell due: those with a slot are written, the others while slots are
free. -/
def State.writeHeld (s : State) (r : Nat) : State :=
  let l := (s.ring r).held
  l.foldl (fun s h =>
    if h.reserved then s.writeRecord r h.bytes true
    else s.seqRecord (s.rd .dbCtx r) r h.bytes h.fin) (s.setRing r { s.ring r with held := [] })

/-- R149: some record of a context waits for ring space. -/
def State.recordsHeld (s : State) (c : Nat) : Bool :=
  (s.step_ c).stray ≠ [] || s.rings.any (fun p =>
    s.rd .dbState p.1 ≠ 0 && s.rd .dbCtx p.1 = c && p.2.held.any (fun h => !h.reserved))

/-- R149: try the waiting records of a context again. -/
def State.retryRecords (s : State) (c : Nat) : State :=
  let rs := (s.rings.filter (fun p => s.rd .dbState p.1 = 1 && s.rd .dbCtx p.1 = c && p.2.held ≠ [])).map (·.1)
  let s := rs.foldl (fun s r => s.writeHeld r) s
  let l := (s.step_ c).stray
  l.foldl (fun s h => s.seqRecord c h.1 h.2.1 h.2.2) (s.setStep c { s.step_ c with stray := [] })

/-! ## Records (R170, R171) -/

/-- R171: an acknowledgement. -/
def ackRecord (kind status handle tag : Nat) : List Byte :=
  leBytes 1 (4 + 16 * kind) ++ zeros 1 ++ leBytes 2 status ++ leBytes 4 handle ++ leBytes 8 tag ++ zeros 48

/-- R170: a stream record. -/
def streamRecord (x : Seq) (handle idx token lp step : Nat) (late widened last : Bool) : List Byte :=
  leBytes 1 1 ++ leBytes 1 (b2n late + 2 * b2n widened + 4 * b2n last + 8 * b2n x.toplp) ++ zeros 2 ++ leBytes 4 handle
    ++ leBytes 8 x.tag ++ leBytes 4 idx ++ leBytes 4 token ++ leBytes 4 lp ++ leBytes 4 step ++ zeros 32

/-- R219: a missing candidate: token 0xFFFFF, log-probability -infinity. -/
def noCandidate : Nat × Nat := (0xFFFFF, 0xFF800000)

/-- R170: extension record number part, of the 20 largest candidates. -/
def extRecord (handle part : Nat) (tops : List (Nat × Nat)) : List Byte :=
  leBytes 1 2 ++ leBytes 1 part ++ zeros 2 ++ leBytes 4 handle
    ++ ((List.range 7).map (fun k =>
        let t := if part * 7 + k < 20 then tops.getD (part * 7 + k) noCandidate else noCandidate
        leBytes 4 t.1 ++ leBytes 4 t.2)).flatten

/-- R171: a completion record. -/
def State.completionRecord (s : State) (x : Seq) (handle pfx : Nat) : List Byte :=
  leBytes 1 3 ++ leBytes 1 x.reason ++ leBytes 2 (if x.recFault then Status.seqRolloutFault.code else 0) ++ leBytes 4 handle
    ++ leBytes 8 x.tag ++ leBytes 4 x.gencnt ++ leBytes 4 x.len
    ++ leBytes 4 (b2n x.late + 2 * b2n x.widened + 4 * b2n x.recomputed + 8 * b2n x.memEver + 16 * b2n x.spilled
        + 32 * b2n x.continued + 256 * x.stopidx)
    ++ leBytes 4 pfx ++ leBytes 8 x.accepted ++ leBytes 8 s.now ++ leBytes 2 (s.rd .fltMember 0) ++ zeros 2 ++ leBytes 4 x.lpsum
    ++ zeros 8

/-! ## Lists of sequences (R180, R191, R193) -/

/-- R191: set up the copy of a page: the new page, which names its source. -/
def State.cowSetup (s : State) (c layer run src : Nat) : State × Nat :=
  match s.allocPage false (s.kmFmt src) 1 c layer run 0 with
  | (s, none) => (s, src)
  | (s, some p) =>
    let s := (s.kmSet p 16 4 src).kmSet p 20 2 (s.kmTag src)
    ({ s with kv := { s.kv with cow := sput false s.kv.cow p true } }, p)

/-- R155, R191: the last page of a part-filled sequence is shared, so that it is copied before the sequence appends: a joining
sequence's prefix page, the anchored page of one that RECOMPUTE returned to QUEUED, or a page with other references. -/
def State.needsCopy (s : State) (c i : Nat) : Bool :=
  let x := s.seqAt i
  let p := s.rd .kvTokpage c
  x.len % p ≠ 0 && (if !x.hasList then x.pfxEntries ≠ []
    else (List.range (s.rd .seqLayers c)).any (fun k =>
      let e := s.runEntry x.pagehead (x.len / p * s.rd .seqLayers c + k)
      if lePresent e then decide (1 < s.kmRef (lePage e)) else decide (x.anchors ≠ [])))

/-- R155: the need of a sequence for n tokens. -/
def State.seqNeed (s : State) (c i n : Nat) : Nat :=
  let p := s.rd .kvTokpage c
  let l := (s.seqAt i).len
  s.rd .seqLayers c * (ceilDiv (l + n) p - ceilDiv l p + b2n (s.needsCopy c i))

/-- R180: the list pages that v run entries take. -/
def listPagesFor (v : Nat) : Nat := ceilDiv v 8192

/-- R191: copy the part-filled last run of each layer: the entry points at the copy, and the sequence's reference on the source
is kept as an anchor. -/
def State.copyLast (s : State) (c i : Nat) : State :=
  let x := s.seqAt i
  let p := s.rd .kvTokpage c
  let l := s.rd .seqLayers c
  (List.range l).foldl (fun s k =>
    let v := x.len / p * l + k
    let e := s.runEntry x.pagehead v
    let src := if lePresent e then lePage e else x.anchors.getD k 0
    let (s, q) := s.cowSetup c k (x.len / p) src
    let s := if lePresent e then s.setSeq i { s.seqAt i with anchors := (s.seqAt i).anchors ++ [src] } else s
    s.setRunEntry c x.pagehead v (leMake q (s.kmTag q))) s

/-- R181: the pages of a sequence's next n tokens: a page for each new run of each layer. -/
def State.growSeq (s : State) (c i n : Nat) : State :=
  let x := s.seqAt i
  let p := s.rd .kvTokpage c
  let l := s.rd .seqLayers c
  (List.range (ceilDiv (x.len + n) p - ceilDiv x.len p)).foldl (fun s j =>
    (List.range l).foldl (fun s k =>
      match s.allocPage false x.appfmt 1 c k (ceilDiv x.len p + j) 0 with
      | (s, none) => s
      | (s, some q) => s.setRunEntry c x.pagehead ((ceilDiv x.len p + j) * l + k) (leMake q (s.kmTag q))) s) s

/-- R193: the head page and list of a sequence that joins, from the entries of its prefix. -/
def State.buildList (s : State) (c i : Nat) : State :=
  let x := s.seqAt i
  if x.hasList then s
  else
    match s.allocPage false x.appfmt 3 c 0 0 (s.handleOf i) with
    | (s, none) => s
    | (s, some h) =>
      let s := x.pfxEntries.foldl (fun s e => s.setRunEntry c h e.1 e.2) s
      s.setSeq i { s.seqAt i with hasList := true, pagehead := h }

end Sys2Proof.Machine
end

