-- ==== Sys2Proof/Machine/SampleOps.lean ====
section
/-!
DEFINITION. The arithmetic of the sampler units (R215 to R222): parameter entries, the streaming pass, the choice of a token and its
log-probability, and the merge.
-/
namespace Sys2Proof.Machine
open Sys2Proof

def negInf : Nat := 0xFF800000

/-! ## Parameter entries (R215) -/

/-- R215: an entry's 16 bytes, where its fields lie in their ranges. -/
def sampParam (kmax : Nat) (b : List Byte) : Option SampParam :=
  let t := fieldAt b 0 4
  let p := fieldAt b 4 4
  let k := fieldAt b 8 2
  if ((f32 t).isZero ∨ f32PosNormal t) ∧ (Fp.lt (.fin false 0 0) (f32 p) ∧ Fp.le (f32 p) (.fin false 1 0)) ∧ k ≤ kmax
      ∧ fieldAt b 10 1 ≤ 1 ∧ fieldAt b 11 5 = 0 then
    some ⟨t, p, k, fieldAt b 10 1 = 1⟩
  else none

/-- Read entry k of a context's table: none where it cannot be read or is invalid. -/
def State.readParam (s : State) (c k : Nat) : State × Option SampParam :=
  match s.readDva c (s.rd .smpParambase c + 16 * k) 16 with
  | (s, .ok b) => (s, sampParam (s.rd .smpKmax c) b)
  | (s, .error _) => (s, none)

/-! ## The streaming pass (R216, R217) -/

/-- A number whose order is that of the FP32 values, zeros of both signs alike; NaN is not ordered. -/
def f32Order (c : Nat) : Nat := if c % 2 ^ 31 = 0 then 2 ^ 31 else if c < 2 ^ 31 then 2 ^ 31 + c else 2 ^ 32 - 1 - c

/-- A candidate: its token, its y, and whether its logit is +infinity (R217). -/
abbrev Cand := Nat × Nat × Bool

/-- R216, R217: the first k candidates: logits of +infinity above all others, then descending y, ties to the lower token. -/
def topCands (k : Nat) (l : List Cand) : List Cand :=
  (l.mergeSort (fun a b => (a.2.2 && !b.2.2) || (a.2.2 == b.2.2
    && (f32Order b.2.1 < f32Order a.2.1 || (f32Order a.2.1 = f32Order b.2.1 && a.1 ≤ b.1))))).take k

/-- Candidates as a pass keeps them. -/
def plainCands (l : List Cand) : List (Nat × Nat) := l.map (fun c => (c.1, c.2.1))

/-- How many of some candidates are logits of +infinity. -/
def infCands (l : List Cand) : Nat := (l.filter (·.2.2)).length

/-- R216: one block of the normaliser. -/
def normBlock (m z : Nat) (ys : List Nat) : Nat × Nat :=
  let mb := ys.foldl f32Max m
  if mb = negInf then (m, z)
  else
    let sum := (ys.map (fun y => if y = negInf then 0 else expF32 (f32Sub y mb))).foldl f32Add 0
    (mb, f32Add (f32Mul z (if m = negInf then 0 else expF32 (f32Sub m mb))) sum)

/-- The normaliser of a row in blocks of 64 logits; each y comes with whether its logit is +infinity, and is left out then (R217). -/
def normRow : Nat → Nat → Nat → List (Nat × Bool) → Nat × Nat
  | 0, m, z, _ => (m, z)
  | fuel + 1, m, z, ys =>
    if ys = [] then (m, z)
    else
      let (m, z) := normBlock m z (((ys.take 64).filter (fun y => !y.2)).map (·.1))
      normRow fuel m z (ys.drop 64)

/-- R216: the noise keys of an untruncated row: y with the open uniforms of its lanes. -/
def gumbelKey (y u : Nat) : Nat := if y = negInf then negInf else f32Add y (f32Neg (lnF32 (f32Neg (lnF32 u))))

/-- Is a row untruncated (R216)? -/
def SampParam.untruncated (p : SampParam) : Bool := !(f32 p.temp).isZero && p.topk = 0 && p.topp = f32One

/-- R216: K_c. -/
def candCount (p : SampParam) (kmax : Nat) (toplp : Bool) : Nat :=
  let k := if p.topk = 0 then kmax else p.topk
  if toplp then max 20 k else k

/-- Is a row greedy (R218)? -/
def SampParam.greedy (p : SampParam) : Bool := (f32 p.temp).isZero

/-- R216, R217: unit u's pass over logits x from token `base`, with a 64-bit output for each logit of an untruncated row. -/
def streamPass (row u base kc : Nat) (p : SampParam) (toplp : Bool) (xs outs : List Nat) : RowPass :=
  let clean := xs.map (fun x => if f32IsNan x then negInf else x)
  let ys := clean.map (fun x =>
    (if p.greedy ∨ x = negInf ∨ x = 0x7F800000 then x else f32Div x p.temp, decide (x = 0x7F800000)))
  let (m, z) := normRow ys.length negInf 0 ys
  let keys := (ys.zip outs).zipIdx.map (fun q => (gumbelKey q.1.1.1 (f32Open q.1.2), q.2, q.1.1.1))
  let best := keys.foldl (fun (b : Nat × Nat × Nat) k => if f32Order b.1 < f32Order k.1 then k else b) (negInf, 0, negInf)
  let top := topCands kc (ys.zipIdx.map (fun q => (base + q.2, q.1)))
  { row, unit := u, param := p, kc, toplp, max := m, sum := z, infcnt := (ys.filter (·.2)).length
    ninf := infCands top, cands := plainCands top
    gbest := best.1, gtoken := base + best.2.1, gy := best.2.2
    empty := clean.all (fun x => x = negInf) }

/-! ## The choice (R217 to R219) -/

/-- Running sums of FP32 numbers in order. -/
def runningSums (l : List Nat) : List Nat :=
  (l.foldl (fun (a : List Nat × Nat) q => let t := f32Add a.2 q; (a.1 ++ [t], t)) ([], 0)).1

/-- A choice: token, log-probability, and whether the nucleus was cut at K_c. -/
structure Choice where
  token : Nat
  lp : Nat
  cut : Bool
  deriving DecidableEq, Repr

/-- R217: the choice of a row with +infinity logits. -/
def chooseInf (r : RowPass) (draw : Nat) : Choice :=
  let cs := ((r.cands.take r.ninf).map (·.1)).mergeSort (· ≤ ·)
  let t := if r.param.greedy then cs.headD 0 else cs.getD (draw / 2 ^ 40 * cs.length / 2 ^ 24) 0
  ⟨t, f32Neg (lnF32 (f32OfNat (if r.param.trunc then cs.length else r.infcnt))), false⟩

/-- R219: (y - m) - ln Z. -/
def logProb (r : RowPass) (y : Nat) : Nat := f32Sub (f32Sub y r.max) (lnF32 r.sum)

/-- R218 steps 3 to 5 and R219. -/
def chooseDraw (r : RowPass) (draw : Nat) : Choice :=
  let p := r.param
  let kept := if p.topk = 0 then r.cands else r.cands.take p.topk
  let qs := kept.map (fun c => f32Div (expF32 (f32Sub c.2 r.max)) r.sum)
  let sums := runningSums qs
  let goal := f32Mul p.topp (if p.topk = 0 then f32One else sums.getLastD 0)
  let reach := sums.findIdx? (fun s => (f32 goal).le (f32 s))
  let n := match reach with
    | some i => i + 1
    | none => kept.length
  let ms := sums.getD (n - 1) 0
  let t := f32Mul (f32Uniform draw) ms
  let i := ((sums.take n).findIdx? (fun s => f32Lt t s)).getD (n - 1)
  let c := kept.getD i (0, negInf)
  let lp := logProb r c.2
  ⟨c.1, if p.trunc then f32Sub lp (lnF32 ms) else lp, reach = none ∧ p.topk = 0⟩

/-- R217 to R219: the token of a row after its pass or merge. -/
def chooseToken (r : RowPass) (draw : Nat) : Choice :=
  if r.empty then ⟨0, negInf, false⟩
  else if 0 < r.infcnt then chooseInf r draw
  else if r.param.greedy then
    let c := r.cands.headD (0, negInf)
    ⟨c.1, if r.param.trunc then 0 else logProb r c.2, false⟩
  else if r.param.untruncated then ⟨r.gtoken, logProb r r.gy, false⟩
  else chooseDraw r draw

/-- R219: the 20 largest candidates with their log-probabilities; those of +infinity logits as R217 gives them. -/
def topList (r : RowPass) : List (Nat × Nat) :=
  if r.empty then []
  else (r.cands.take 20).zipIdx.map (fun c =>
    (c.1.1, if c.2 < r.ninf then (chooseInf r 0).lp else if c.1.2 = negInf then negInf else logProb r c.1.2))

/-! ## The merge (R221, R222) -/

/-- R221: a FOLLOWER's candidate message. -/
def mergeMessage (step index : Nat) (r : RowPass) : List Byte :=
  leBytes 4 step ++ leBytes 4 r.row ++ leBytes 1 index ++ zeros 1 ++ leBytes 2 r.cands.length ++ leBytes 4 r.max ++ leBytes 4 r.sum
    ++ leBytes 4 r.infcnt ++ leBytes 4 (if r.param.untruncated then r.gbest else negInf) ++ leBytes 4 r.gtoken ++ leBytes 4 r.gy ++ zeros 28
    ++ (r.cands.map (fun c => leBytes 4 c.1 ++ leBytes 4 c.2)).flatten

/-- R222: a message's pass over its shard of the row of `own`; none where it is excluded. Logits of +infinity come first among its candidates (R217). -/
def readMessage (step index : Nat) (own : RowPass) (b : List Byte) : Option RowPass :=
  let n := fieldAt b 10 2
  if fieldAt b 0 4 ≠ step ∨ fieldAt b 4 4 ≠ own.row ∨ fieldAt b 8 1 % 64 ≠ index ∨ own.kc < n then none
  else
    let infs := fieldAt b 20 4
    let m := fieldAt b 12 4
    some { own with
      max := m, sum := fieldAt b 16 4, infcnt := infs, ninf := min infs n
      cands := (List.range n).map (fun k => (bitsAt (fieldAt b (64 + 8 * k) 4) 0 20, fieldAt b (68 + 8 * k) 4))
      gbest := fieldAt b 24 4, gtoken := bitsAt (fieldAt b 28 4) 0 20, gy := fieldAt b 32 4
      empty := infs = 0 ∧ m = negInf }

/-- A pass's candidates, marked where their logits are +infinity. -/
def RowPass.marked (r : RowPass) : List Cand := r.cands.zipIdx.map (fun c => (c.1.1, c.1.2, decide (c.2 < r.ninf)))

/-- R222: the merged pass of a row, from its shards in ascending member index. -/
def mergePasses (own : RowPass) (rest : List RowPass) : RowPass :=
  let l := own :: rest
  let m := l.foldl (fun m r => f32Max m r.max) negInf
  let z := (l.map (fun r => if r.max = negInf then 0 else f32Mul r.sum (expF32 (f32Sub r.max m)))).foldl f32Add 0
  let best := rest.foldl (fun (b : RowPass) r =>
    if f32Order b.gbest < f32Order r.gbest ∨ (f32Order b.gbest = f32Order r.gbest ∧ r.gtoken < b.gtoken) then r else b) own
  let top := topCands own.kc ((l.map RowPass.marked).flatten)
  { own with
    max := m, sum := z, infcnt := (l.map (·.infcnt)).foldl (· + ·) 0, ninf := infCands top, cands := plainCands top
    gbest := best.gbest, gtoken := best.gtoken, gy := best.gy
    empty := l.all (·.empty) }

end Sys2Proof.Machine
end

