-- ==== Sys2Proof/Machine/Sampler.lean ====
section
/-!
DEFINITION. The commands of the sampler units: SAMPLER_ROW, SAMPLER_MERGE and SMP_FENCE_REQ (R213 to R223).
-/
namespace Sys2Proof.Machine
open Sys2Proof

/-- The register page of a sampler unit (R223). -/
def smpPage (u : Nat) : Nat := 0x0408 + u

/-- The step's entry whose sampled row has a number. -/
def StepState.rowEntry (st : StepState) (row : Nat) : Option StepEntry := st.entries.find? (fun e => e.row = some row)

/-- Rows that a step samples. -/
def StepState.rows (st : StepState) : Nat := (st.entries.filter (fun e => e.row.isSome)).length

/-- R213: the logits of a row as FP32; none after a fault. -/
def State.rowLogits (s : State) (c row : Nat) : State × Option (List Nat) :=
  let bf := s.flag .smpLogitfmt c
  let w := if bf then 2 else 4
  let n := s.rd .smpVoclen c
  match s.readDva c (s.rd .smpLogitbase c + row * s.rd .smpLogitstride c) (w * n) with
  | (s, .ok b) => (s, some ((List.range n).map (fun k => if bf then fieldAt b (2 * k) 2 * 65536 else fieldAt b (4 * k) 4)))
  | (s, .error _) => (s, none)

/-- R215: the entry a row is sampled under: greedy where it is invalid, which is counted and reported. -/
def State.rowParam (s : State) (u c k : Nat) : State × SampParam :=
  match s.readParam c k with
  | (s, some p) => (s, p)
  | (s, none) => ((s.bump .smpParambad u 1).raise (smpPage u) .smpParamChanged (some c) k 0, ⟨0, f32One, 0, false⟩)

/-- A row that is treated as empty (R213, R217). -/
def emptyPass (row u kc : Nat) (p : SampParam) (toplp : Bool) : RowPass :=
  ⟨row, u, p, kc, toplp, negInf, 0, 0, 0, [], negInf, 0, negInf, true⟩

/-- R216: a unit's pass over a row. -/
def State.rowPass (s : State) (u c row kc : Nat) (p : SampParam) (toplp : Bool) : State × RowPass :=
  match s.rowLogits c row with
  | (s, none) => (s.raise (smpPage u) .smpLogitFault (some c) row 0, emptyPass row u kc p toplp)
  | (s, some xs) =>
    let s := s.bump .smpLogits u xs.length
    let s := if xs.any f32IsNan then s.bump .smpNanrows u 1 else s
    let outs := if p.untruncated then s.chosorList c (islSampler u) (genSampler u) 64 0 xs.length else []
    let s := if p.untruncated then s.chosorTaken (islSampler u) 64 xs.length else s
    (s, streamPass row u (s.rd .smpVocbase c) kc p toplp xs outs)

/-- R209, R217 to R219: unit u draws a row's token, on its lane 0, and returns it to the sequencer. -/
def State.rowDraw (s : State) (u c : Nat) (r : RowPass) : State :=
  let draw := (s.chosorList c (islSampler u) (genSampler u) 64 0 1).headD 0
  let ch := chooseToken r draw
  let s := s.chosorTaken (islSampler u) 64 1
  let s := if r.empty then (s.bump .smpEmptyrows u 1).raise (smpPage u) .smpRowEmpty (some c) r.row 0 else s
  let s := if ch.cut then s.bump .smpNucleuscut u 1 else s
  let s := (s.bump .smpRows u 1).bump .smpCtxrows c 1
  let st := s.step_ c
  s.setStep c { st with results := st.results ++ [⟨r.row, ch.token, ch.lp, if r.toplp then topList r else []⟩] }

/-! ## Space (R197) -/

/-- Tokens of a sequence's next prefill chunk. -/
def State.chunk (s : State) (c i : Nat) : Nat := min (seqRest (s.seqAt i)) (s.rd .seqPfchunk c)

/-- Tokens of its next step at most: one to decode, or a chunk. -/
def State.nextTokens (s : State) (c i : Nat) : Nat := if (s.seqAt i).state = 3 then 1 else s.chunk c i

/-- R197: head and list pages that a sequence's next step at most adds. -/
def State.listGrowth (s : State) (c i : Nat) : Nat :=
  let x := s.seqAt i
  let p := s.rd .kvTokpage c
  let l := s.rd .seqLayers c
  let after := listPagesFor (ceilDiv (x.len + s.nextTokens c i) p * l)
  if x.hasList then after - listPagesFor (ceilDiv x.len p * l) else after + 1

/-- R155: QUEUED sequences in admission order: by priority, then by acceptance. -/
def State.queued (s : State) (c : Nat) : List Nat :=
  ((s.seqsOf c).filter (fun i => (s.seqAt i).state = 1)).mergeSort (fun a b =>
    let x := s.seqAt a
    let y := s.seqAt b
    x.prio < y.prio || (x.prio = y.prio && x.order ≤ y.order))

/-- R197: the list provision W. -/
def State.listProvision (s : State) (c : Nat) : Nat :=
  let cont := (s.seqsOf c).filter (fun i => (s.seqAt i).state = 2 ∨ (s.seqAt i).state = 3)
  ((cont ++ (s.queued c).take (s.rd .seqMaxbatch c)).map (s.listGrowth c)).foldl (· + ·) 0

/-- R197: the near pages a context may take, before the list provision. -/
def State.kvSpace (s : State) (c : Nat) : Nat := min (s.rd .kvQuota c - s.rd .kvHeld c) (s.rd .kvNearfree 0)

/-- R167: a FOLLOWER reports its F, and the pages it freed, once its candidates are sent. -/
def State.sendReport (s : State) (c : Nat) : State :=
  let st := s.step_ c
  if s.rd .seqRole c = 2 ∧ st.rows ≤ st.results.length then
    s.emit (.report (s.rd .seqLeadmbr c) c (s.kvSpace c - s.listProvision c) st.freed)
  else s

/-! ## The commands -/

/-- A unit is free for a row of a context: not fenced, and not waiting for the messages of another context's rows (log entry 118). -/
def State.unitFree (s : State) (u c : Nat) : Bool :=
  u < 6 && !s.flag .smpFenced u && (s.rd .smpRun u = 0 || s.rd .smpCtx u = c)

/-- R222: the LEAD's unit u waits on SMP_MERGETALLY for the messages of the step, unless a unit that was reset has taken their count (R214). -/
def State.mergeWait (s : State) (u c : Nat) : State :=
  let st := s.step_ c
  let s := s.wr .smpRun u 3
  if st.counted then s
  else s.agentWait (smpPage u) (bankOfIsland (islSampler u)) c (s.rd .smpMergetally c) (s.rd .seqGroupsize c * st.rows) (.sampler u)

/-- SAMPLER_ROW (R213, R216): an unfenced unit takes a sampled row. Without a group it draws the token; the LEAD of a group keeps the
pass for the merge; a FOLLOWER sends its candidates. -/
def execSamplerRow (u c row : Nat) (ecc : List (Nat × EccError)) (s : State) : Result :=
  let st := s.step_ c
  match st.rowEntry row with
  | none => .next s
  | some e =>
    if !s.unitFree u c ∨ st.stage ≠ .sampling ∨ st.results.any (·.row = row) ∨ st.passes.any (·.row = row) ∨ s.rd .ctxState c ≠ 2 then .next s
    else
      let x := s.seqAt e.idx
      let s := (s.eccFound ecc).wr .smpCtx u c
      let (s, p) := s.rowParam u c x.sampidx
      let kc := candCount p (s.rd .smpKmax c) x.toplp
      let (s, r) := s.rowPass u c row kc p x.toplp
      let st := s.step_ c
      if s.rd .seqRole c = 2 then
        let s := ((s.bump .smpRows u 1).bump .smpCtxrows c 1).setStep c { st with results := st.results ++ [⟨row, 0, 0, []⟩] }
        let at_ := s.rd .smpMergebase c + (row * s.rd .seqGroupsize c + s.rd .smpTpindex c - 1) * (64 + 8 * s.rd .smpKmax c)
        .next ((s.emit (.remote (s.rd .seqLeadmbr c) c at_ (mergeMessage st.num (s.rd .smpTpindex c) r)
          (s.rd .smpMergetally c) 1)).sendReport c)
      else if 0 < s.rd .seqGroupsize c then
        let s := s.setStep c { st with passes := st.passes ++ [r], mergeUnit := some (st.mergeUnit.getD u) }
        .next (if st.mergeUnit.isSome then s else s.mergeWait u c)
      else .next (s.rowDraw u c r)

/-- R222: the messages of a row, in ascending member index; those excluded raise an event each. -/
def State.rowMessages (s : State) (u c step : Nat) (own : RowPass) : State × List RowPass :=
  let g := s.rd .seqGroupsize c
  (List.range g).foldl (fun (a : State × List RowPass) k =>
    let w := 64 + 8 * a.1.rd .smpKmax c
    let (s, b) := a.1.readDva c (a.1.rd .smpMergebase c + (own.row * g + k) * w) w
    let m : Option RowPass := match b with
      | .ok b => readMessage step (k + 1) own b
      | .error _ => none
    match m with
    | some r => (s, a.2 ++ [r])
    | none => (s.raise (smpPage u) .smpMergeFormat (some c) own.row (k + 1), a.2)) (s, [])

/-- R222: every message of a context's step has come to its merging unit u. -/
def State.messagesIn (s : State) (u c : Nat) : Bool := (s.step_ c).counted || s.waitDone (.sampler u) = some .ok

/-- SAMPLER_MERGE (R222): with the wait on SMP_MERGETALLY complete and every row's own pass made, the LEAD merges each row over
every shard and draws. -/
def execSamplerMerge (c : Nat) (ecc : List (Nat × EccError)) (s : State) : Result :=
  let st := s.step_ c
  match st.mergeUnit with
  | none => .next s
  | some u =>
    if !s.messagesIn u c ∨ st.passes.length < st.rows ∨ st.stage ≠ .sampling then .next s
    else
      let s := ((s.eccFound ecc).takeWait (.sampler u)).wr .smpRun u 0
      let s := st.passes.foldl (fun s r =>
        let (s, ms) := s.rowMessages u c st.num r
        s.rowDraw u c (mergePasses r ms)) s
      .next (s.setStep c { s.step_ c with merged := true, mergeUnit := none, passes := [], counted := true })

/-- R214: rows that a unit holds when it is reset or fenced are handed again, whole, to other units. The count of messages that a merging unit has taken
is not taken again. -/
def State.handAgain (s : State) (u : Nat) : State :=
  let s := (List.range 64).foldl (fun s c =>
    let st := s.step_ c
    let mine := st.mergeUnit = some u
    if mine ∨ st.passes.any (·.unit = u) then
      s.setStep c { st with
        mergeUnit := if mine then none else st.mergeUnit
        counted := st.counted || (mine && s.waitDone (.sampler u) = some .ok)
        passes := st.passes.filter (·.unit ≠ u) }
    else s) s
  ((s.withdrawWait (.sampler u)).takeWait (.sampler u)).wr .smpRun u 0

/-- R214: a fenced unit takes no row. With all six fenced, each GENERATE context with a waiting row is told, and the module declares its own
fault. -/
def State.fenceSampler (s : State) (u reason : Nat) : State :=
  if s.flag .smpFenced u then s
  else
    let s := (((s.wr .smpFenced u 1).wr .smpFencereason u reason).wr .fenced (smpPage u) 1).handAgain u
    if (List.range 6).all (fun k => s.flag .smpFenced k) then
      let s := (List.range 64).foldl (fun s c =>
        let st := s.step_ c
        if st.stage = .sampling ∧ st.results.length < st.rows ∧ !st.noUnitTold then
          (s.setStep c { st with noUnitTold := true }).raise (smpPage u) .smpNoUnit (some c) 0 0
        else s) s
      s.declareFault .fhSelfFault
    else s

/-- SMP_FENCE_REQ (R214, R223): session 0 fences a unit. -/
def execSmpFenceReq (rdr : Reader) (u v : Nat) (s : State) : Result :=
  if 6 ≤ u then .next (s.reply rdr .genAddrRange 0)
  else if rdr ≠ .session 0 then .next (s.reply rdr .sesRights 0)
  else .next ((if v % 2 = 1 then s.fenceSampler u 2 else s).reply rdr .ok 0)

end Sys2Proof.Machine
end

