-- ==== Sys2Proof/Machine/Boundary.lean ====
section
/-!
DEFINITION. The parts of a step boundary (R153 to R161, R181, R187, R191 to R198), in the order that R157 gives them.
-/
namespace Sys2Proof.Machine
open Sys2Proof

/-! ## The finished step (R157, R158) -/

/-- R158: the natural stop of a sequence after its newest token: the reason and the slot. -/
def State.stopReason (s : State) (x : Seq) (tok : Nat) (recent : List Nat) (gencnt len : Nat) : Nat × Nat :=
  let set := sget StopSet.empty s.seq.stopsets x.stopset
  let slot := set.slots.findIdx? (fun l => l ≠ [] && (recent.take l.length).reverse = l)
  if set.ends.any (fun w => bitAt w 31 && bitsAt w 0 20 = tok) then (1, 0)
  else match slot with
    | some k => (2, k)
    | none => if gencnt = x.maxgen ∨ len = 1048575 then (3, 0) else (0, 0)

/-- R159: a deadline has come by t; all ones is none. -/
def seqLate (x : Seq) (t : Nat) : Bool := x.deadline ≠ 2 ^ 64 - 1 && x.deadline ≤ t

/-- R157: a deadline or a cancel decides where no natural reason does. -/
def lateReason (x : Seq) (tb : Nat) : Nat := if seqLate x tb then 4 else if x.cancelpend then 5 else 0

/-- R157: one entry of the finished step: the sequence's new state, and its stream and extension records. -/
def State.takeToken (s : State) (c tb step : Nat) (res : List RowResult) (e : StepEntry) : State × List (Nat × List Byte) :=
  let x := s.seqAt e.idx
  if x.ctx ≠ c ∨ !(x.state = 2 ∨ x.state = 3) then (s, [])
  else
    let s := if e.phase = 2 then s else s.meterAdd c (if x.recovery then 7 else 0) e.n
    let x := { x with len := x.len + e.n, laststep := step }
    match e.row.bind (fun r => if x.marks = [] then res.find? (·.row = r) else none) with
    | none =>
      let why := lateReason x tb
      (s.setSeq e.idx { x with reason := why, state := if why = 0 then x.state else 5 }, [])
    | some r =>
      let late := seqLate x tb
      let tok := leBytes 4 (r.token + 2 ^ 20 * b2n late + 2 ^ 21 * b2n x.stepWidened) ++ leBytes 4 r.lp
      let lpsum := f32Add x.lpsum r.lp
      match s.regionWrite x (64 + regionG x + 8 * x.gencnt) tok with
      | (s, .ok) =>
        let (s, st1) := s.regionWrite x 8 (leBytes 4 (x.gencnt + 1))
        let (s, st2) := s.regionWrite x 36 (leBytes 4 lpsum)
        let recent := (r.token :: x.recent).take 16
        let (nat, slot) := s.stopReason x r.token recent (x.gencnt + 1) x.len
        let fault := decide (st1 ≠ .ok ∨ st2 ≠ .ok)
        let why := if fault then 5 else if nat ≠ 0 then nat else lateReason x tb
        let s := (if late then s.bump .seqLatecnt 0 1 else s).meterAdd c 1 1
        let h := s.handleOf e.idx
        let out := if x.nostream then []
          else (x.cring, streamRecord x h x.gencnt r.token r.lp step late x.stepWidened (why ≠ 0))
            :: (if x.toplp then (List.range 3).map (fun k => (x.cring, extRecord h k r.tops)) else [])
        (s.setSeq e.idx { x with
          gencnt := x.gencnt + 1, lpsum := lpsum, recent := recent, late := x.late || late, reason := why
          stopidx := if nat = 2 ∧ why = 2 then slot else x.stopidx
          recFault := fault, recovery := false, state := if why = 0 then 3 else 5 }, out)
      | (s, _) => (s.setSeq e.idx { x with reason := 5, recFault := true, state := 5 }, [])

/-- The finished step's entries, in manifest order. -/
def State.takeTokens (s : State) (c tb step : Nat) (res : List RowResult) (es : List StepEntry) : State × List (Nat × List Byte) :=
  es.foldl (fun (a : State × List (Nat × List Byte)) e =>
    let (s, o) := a.1.takeToken c tb step res e
    (s, a.2 ++ o)) (s, [])

/-! ## Returns to QUEUED, and eviction (R150, R151, R187, R196) -/

/-- R151: the record region of a sequence reads without an uncorrectable error. -/
def State.regionReads (s : State) (x : Seq) : Bool :=
  statusOf (s.dvaRead x.ctx (x.record + 64) (regionG x + 8 * x.gencnt)) ≠ .memUncorrectable

/-- R199: a sequence has lost a page that it references. -/
def State.seqLost (s : State) (i : Nat) : Bool :=
  let x := s.seqAt i
  x.lost || (x.hasList && s.listLost x.pagehead) || x.anchors.any s.pageLost || x.pfxEntries.any (fun e => s.pageLost (lePage e.2))

/-- R150: a PAUSED sequence without a pause returns to its SQ_RET state. -/
def State.unpause (s : State) (i : Nat) : State :=
  let x := s.seqAt i
  if x.state = 4 ∧ !x.cmdpause ∧ !x.mempause ∧ !x.filling then s.setSeq i { x with state := x.ret + 1 } else s

/-- R150, R151: a page loss: to QUEUED for a re-prefill from position 0, a PAUSED sequence through its SQ_RET; or out of the module
where the loss cannot be recovered. -/
def State.pageLoss (s : State) (c i : Nat) : State :=
  let s := s.bump .kvPageloss c 1
  let x := s.seqAt i
  if s.regionReads x then
    let s := s.releasePages i
    let x := s.seqAt i
    (s.setSeq i { x with
      state := if x.state = 4 then 4 else 1, ret := if x.state = 4 then 0 else x.ret, len := 0, recomputed := true
      recovery := true, recent := [], lost := false, marks := [], runScores := [], mempause := false, filling := false }).unpause i
  else (s.setSeq i { s.seqAt i with state := 5, reason := 6, lost := false }).raise 0x429 .unhiddenLoss (some c) (s.handleOf i) 0

/-- R187: the format that RECOMPUTE leaves: the marking format of the greatest b, ties to the lower code. -/
def State.markFormat (s : State) (c : Nat) (marks : List Nat) (old : Nat) : Nat :=
  let d := s.rd .kvHeaddim c
  let ok := marks.filter (s.kvFits c)
  ok.foldl (fun b f => if kvBytes b d < kvBytes f d ∨ (kvBytes b d = kvBytes f d ∧ f < b) then f else b) (ok.headD old)

/-- R187: RECOMPUTE at the boundary that ends the step: pages at positions from RB_PFXLEN on are released, and the sequence is QUEUED
with a wider append format. -/
def State.recompute (s : State) (c i : Nat) : State :=
  let x := s.seqAt i
  let p := s.rd .kvTokpage c
  let l := s.rd .seqLayers c
  let fmt := s.markFormat c x.marks x.appfmt
  let gone := (s.listEntries x.pagehead).filter (fun e => x.pfxlen < (e.1 / l + 1) * p)
  let s := gone.foldl (fun s e =>
    let s := s.setRunEntry c x.pagehead e.1 0
    if lePresent e.2 then s.refDrop (lePage e.2) else s) s
  let s := (s.kmSet x.pagehead 10 1 (fmt % 32 + 32 * 3)).bump .kvRecomps c 1
  s.setSeq i { s.seqAt i with
    state := 1, len := x.pfxlen, recomputed := true, recovery := true, recent := [], marks := [], appfmt := fmt, runScores := [] }

/-- R195, R196: the exact score of a page's head, in units of 2^-160; a score that is not finite is above all others. -/
def scoreUnits (c : Nat) : Nat :=
  match bf16.decode c with
  | .fin false m e => m * 2 ^ (e + 160).toNat
  | .fin true _ _ => 0
  | _ => 2 ^ 400

/-- R196: the run scores of a sequence, each as the sum over its pages and heads. -/
def State.scoresOf (s : State) (c i : Nat) : List (Nat × Nat) :=
  let x := s.seqAt i
  let l := s.rd .seqLayers c
  let es := (s.listEntries x.pagehead).filter (fun e => lePresent e.2)
  ((es.map (fun e => e.1 / l)).eraseDups).map (fun r =>
    (r, ((es.filter (fun e => e.1 / l = r)).map (fun e =>
      ((List.range (s.rd .kvHeads c)).map (fun h => scoreUnits (s.kmGet (lePage e.2) (64 + 2 * h) 2))).foldl (· + ·) 0)).foldl (· + ·) 0))

/-- R196: a run's pages present in the list. -/
def State.runPages (s : State) (c i r : Nat) : List (Nat × Nat) :=
  let l := s.rd .seqLayers c
  (s.listEntries (s.seqAt i).pagehead).filter (fun e => e.1 / l = r && lePresent e.2)

/-- R196: a run is protected. -/
def State.runProtected (s : State) (c i r : Nat) : Bool :=
  let x := s.seqAt i
  let p := s.rd .kvTokpage c
  r * p < s.rd .kvSink c || x.len < (r + 1) * p + s.rd .kvRecent c || r = (x.len - 1) / p
    || (s.runPages c i r).any (fun e => decide (1 < s.kmRef (lePage e.2)))

/-- R196: a DECODE sequence above its budget loses one run, by the scores computed for this boundary; or it is held, all its runs being protected. -/
def State.evictRun (s : State) (c i : Nat) : State × Bool :=
  let x := s.seqAt i
  let runs := s.scoresOf c i
  if x.state ≠ 3 ∨ s.rd .kvBudget c = 0 ∨ runs.length ≤ s.rd .kvBudget c then (s, false)
  else
    let may := (runs.filter (fun q => !s.runProtected c i q.1)).map (fun q =>
      (q.1, ((x.runScores.find? (fun y => y.1 = q.1)).map (·.2)).getD q.2))
    match may.foldl (fun (b : Option (Nat × Nat)) q => match b with
        | none => some q
        | some w => if q.2 < w.2 ∨ (q.2 = w.2 ∧ q.1 < w.1) then some q else some w) none with
    | none => (s, true)
    | some q =>
      let s := (s.runPages c i q.1).foldl (fun s e =>
        (s.setRunEntry c x.pagehead e.1 (2 ^ 28)).refDrop (lePage e.2)) s
      (s.bump .kvEvicts c 1, false)

/-- R196, R204: the evictions of a boundary: KV_BUDGETHELD counts a boundary at which protection blocked one. -/
def State.evictRuns (s : State) (c : Nat) : State :=
  let (s, held) := (s.seqsOf c).foldl (fun (a : State × Bool) i =>
    let (s, h) := a.1.evictRun c i
    (s, a.2 || h)) (s, false)
  if held then s.bump .kvBudgetheld c 1 else s

/-- R196: the run scores that the allocator computes during a step, from the scores committed before it begins. -/
def State.keepScores (s : State) (c : Nat) : State :=
  if s.rd .kvBudget c = 0 then s
  else (s.seqsOf c).foldl (fun s i =>
    let x := s.seqAt i
    if x.state = 2 ∨ x.state = 3 then s.setSeq i { x with runScores := s.scoresOf c i } else s) s

/-! ## Commands (R160, R164) -/

/-- R164: a stop set's image. -/
def stopSetOf (b : List Byte) : StopSet :=
  ⟨(List.range 4).map (fun k => fieldAt b (4 * k) 4),
   (List.range 16).map (fun k =>
     let w := fieldAt b (64 + 64 * k) 40
     (List.range (fieldAt b (64 + 64 * k + 40) 1 % 32)).map (fun t => bitsAt w (20 * t) 20))⟩

/-- R148, R164: a stop-set index lies in a context's range. -/
def State.stopInRange (s : State) (c k : Nat) : Bool :=
  s.rd .seqStopbase c ≤ k && k < s.rd .seqStopbase c + s.rd .seqStopcnt c

/-- R164: load a stop set. -/
def State.loadStopset (s : State) (c k image : Nat) : State × Status :=
  if !s.stopInRange c k then (s, .seqStopsetRange)
  else
    match s.readDva c image 1088 with
    | (s, .error e) => (s, e)
    | (s, .ok b) =>
      if (List.range 16).any (fun j => 16 < fieldAt b (64 + 64 * j + 40) 1 % 32) then (s, .seqStopsetFormat)
      else if s.seq.table.any (fun p => 1 ≤ p.2.state && p.2.state ≤ 4 && p.2.stopset = k) then (s, .seqStopsetBusy)
      else ({ s with seq := { s.seq with stopsets := sput StopSet.empty s.seq.stopsets k (stopSetOf b) } }, .ok)

/-- R160: a command on a sequence. -/
def State.seqCommand (s : State) (kind i : Nat) : State × Status :=
  let x := s.seqAt i
  let ended := decide (5 ≤ x.state)
  if kind = 2 then
    if ended then (s, if x.state = 5 ∧ x.reason = 5 ∧ !x.recFault ∧ x.cancelpend then .ok else .alreadyComplete)
    else (s.setSeq i { x with state := 5, reason := 5 }, .ok)
  else if kind = 3 then
    if ended then (s, .alreadyComplete)
    else if x.state = 4 then (s.setSeq i { x with cmdpause := true }, .ok)
    else (s.setSeq i { x with state := 4, ret := x.state - 1, cmdpause := true }, .ok)
  else if kind = 4 then
    if ended then (s, .alreadyComplete)
    else if x.state ≠ 4 then (s, .seqNotPaused)
    else ((s.setSeq i { x with cmdpause := false }).unpause i, .ok)
  else if x.state ≠ 6 then (s, .seqReleaseState)
  else ((s.releasePages i).freeSeq i, .ok)

/-- R160: apply a command read before the boundary, and acknowledge it. -/
def State.applyCmd (s : State) (c : Nat) (k : SeqCmd) : State :=
  let (s, st) :=
    if k.kind = 6 then s.loadStopset c (k.handle % 4096) k.image
    else
      match s.seqOf k.handle with
      | none => (s, .seqHandleStale)
      | some i => if (s.seqAt i).ctx = c then s.seqCommand k.kind i else (s, .seqHandleStale)
  s.seqRecord c k.cring (ackRecord k.kind st.code k.handle k.tag) none

/-! ## Reserving, pausing, resuming and admitting (R154 to R156) -/

/-- R155 step 2: of two candidates for a memory pause, the one that goes first: the lowest priority, then the most recent admission,
then the highest handle index. -/
def State.pausesBefore (s : State) (num a b : Nat) : Bool :=
  let x := s.seqAt a
  let y := s.seqAt b
  let age (z : Seq) : Nat := (num + 2 ^ 32 - z.admstep) % 2 ^ 32
  y.prio < x.prio || (x.prio = y.prio && (age x < age y || (age x = age y && b < a)))

/-- R198: begin the spill of a sequence where the far pool covers all its spillable pages. -/
def State.startSpill (s : State) (c i : Nat) : State :=
  let x := s.seqAt i
  let mine := (s.listEntries x.pagehead).filter (fun e => lePresent e.2 && !pageFar (lePage e.2) && s.kmRef (lePage e.2) = 1)
  if mine = [] ∨ s.rd .kvFarfree 0 < mine.length then s
  else
    let s := s.setSeq i { x with spilled := true }
    mine.foldl (fun s e =>
      let src := lePage e.2
      match s.allocPage true (s.kmFmt src) 1 c (s.kmGet src 12 2) (s.kmGet src 14 2) 0 with
      | (s, none) => s
      | (s, some d) =>
        let s := s.pinPage src
        { s with kv := { s.kv with moves := s.kv.moves ++ [⟨i, false, e.1, src, d⟩] } }) s

/-- R156: begin the fill of a spilled sequence into near pages reserved now. -/
def State.startFill (s : State) (c i : Nat) : State :=
  let x := s.seqAt i
  let far := (s.listEntries x.pagehead).filter (fun e => lePresent e.2 && pageFar (lePage e.2))
  let s := s.setSeq i { x with filling := true }
  far.foldl (fun s e =>
    let src := lePage e.2
    match s.allocPage false (s.kmFmt src) 1 c (s.kmGet src 12 2) (s.kmGet src 14 2) 0 with
    | (s, none) => s
    | (s, some d) =>
      let s := s.pinPage src
      { s with kv := { s.kv with moves := s.kv.moves ++ [⟨i, true, e.1, src, d⟩] } }) s

/-- R155 step 2: a memory pause. -/
def State.pauseMem (s : State) (c i : Nat) : State :=
  let x := s.seqAt i
  let s := s.setSeq i { x with state := 4, ret := x.state - 1, mempause := true, memEver := true }
  (s.bump .seqMempauses 0 1).startSpill c i

/-- The step being formed: its entries so far, its tokens, and R. -/
structure Forming where
  entries : List StepEntry
  tokens : Nat
  used : Nat

/-- R154: room for one more entry with tokens. -/
def State.tokensFor (s : State) (c i : Nat) (f : Forming) : Nat :=
  if s.rd .seqMaxbatch c ≤ f.entries.length then 0
  else if (s.seqAt i).state = 3 then min 1 (s.rd .seqMaxtok c - f.tokens)
  else min (s.chunk c i) (s.rd .seqMaxtok c - f.tokens)

/-- A sequence enters the step with n tokens. -/
def State.entryFor (s : State) (c i n : Nat) (f : Forming) : Forming :=
  let x := s.seqAt i
  let phase := if x.state = 3 then 2 else if n = seqRest x then 1 else 0
  ⟨f.entries ++ [⟨i, x.len, n, phase, none⟩], f.tokens + n, f.used + s.seqNeed c i n⟩

/-- R154: the continuing sequences that enter the next step: decode entries first, then prefill entries. -/
def State.continuing (s : State) (c : Nat) : Forming :=
  let age (x : Seq) : Nat := (s.rd .seqStepnum c + 2 ^ 32 - x.laststep) % 2 ^ 32
  let dec := (s.seqsOf c).filter (fun i => (s.seqAt i).state = 3)
  let pick := (dec.mergeSort (fun a b =>
    let x := s.seqAt a
    let y := s.seqAt b
    x.prio < y.prio || (x.prio = y.prio && (age y < age x || (age x = age y && a ≤ b))))).take (s.rd .seqMaxbatch c)
  let pre := (s.seqsOf c).filter (fun i => (s.seqAt i).state = 2)
  ((pick.mergeSort (· ≤ ·)) ++ pre).foldl (fun f i =>
    let n := s.tokensFor c i f
    if n = 0 then f else s.entryFor c i n f) ⟨[], 0, 0⟩

/-- R155 step 2: pause for memory while R exceeds F. -/
def State.relieve (s : State) (c num room : Nat) : Nat → Forming → State × Forming
  | 0, f => (s, f)
  | fuel + 1, f =>
    if f.used ≤ room then (s, f)
    else
      let cand := f.entries.filter (fun e => 0 < s.seqNeed c e.idx e.n)
      match cand.foldl (fun (b : Option StepEntry) e => match b with
          | none => some e
          | some w => if s.pausesBefore num e.idx w.idx then some e else some w) none with
      | none => (s, f)
      | some e =>
        let need := s.seqNeed c e.idx e.n
        (s.pauseMem c e.idx).relieve c num room fuel ⟨f.entries.filter (·.idx ≠ e.idx), f.tokens - e.n, f.used - need⟩

/-- A sequence paused for memory holds spilled pages, or their copies are under way. -/
def State.hasFar (s : State) (i : Nat) : Bool := (s.listData (s.seqAt i).pagehead).any pageFar

/-- R155 step 3, R156: resume memory-paused sequences while F - R covers them. -/
def State.resumeMem (s : State) (c room : Nat) : List Nat → Forming → State × Forming
  | [], f => (s, f)
  | i :: t, f =>
    let x := s.seqAt i
    if x.cmdpause ∨ x.filling ∨ s.kv.moves.any (·.idx = i) then s.resumeMem c room t f
    else
      let s1 := s.setSeq i { x with state := x.ret + 1, mempause := false }
      let n := s1.tokensFor c i f
      let fill := ((s.listData x.pagehead).filter pageFar).length
      let need := s1.seqNeed c i n
      if room < f.used + fill + need ∨ n = 0 then (s, f)
      else if 0 < fill then (s.startFill c i).resumeMem c room t ⟨f.entries, f.tokens, f.used + fill + need⟩
      else s1.resumeMem c room t (s1.entryFor c i n f)

/-- R156: sequences whose fill has committed rejoin. -/
def State.rejoin (s : State) (c : Nat) : State :=
  (s.seqsOf c).foldl (fun s i =>
    let x := s.seqAt i
    if x.filling ∧ !s.kv.moves.any (·.idx = i) then (s.setSeq i { x with filling := false, mempause := false }).unpause i else s) s

/-- R155 step 4: take in QUEUED sequences in order; the first that does not fit defers every later one. The answer says whether joins
were deferred. -/
def State.admitNext (s : State) (c num room : Nat) : List Nat → Forming → State × Forming × Bool
  | [], f => (s, f, false)
  | i :: t, f =>
    let n := s.tokensFor c i f
    let need := s.seqNeed c i n
    if n = 0 ∨ room < f.used + need then (s, f, true)
    else
      let x := s.seqAt i
      let s := s.setSeq i { x with state := 2, admstep := num }
      s.admitNext c num room t (s.entryFor c i n f)

/-- R153: the order of a manifest: decode entries, continuing prefill entries, entries admitted at this boundary, each by rising
handle index; rows are numbered in that order. -/
def manifestOrder (joined : List Nat) (es : List StepEntry) : List StepEntry :=
  let by_ (l : List StepEntry) : List StepEntry := l.mergeSort (fun a b => a.idx ≤ b.idx)
  let dec := es.filter (fun e => e.phase = 2)
  let pre := es.filter (fun e => e.phase ≠ 2 && !joined.contains e.idx)
  let new := es.filter (fun e => e.phase ≠ 2 && joined.contains e.idx)
  ((by_ dec ++ by_ pre ++ by_ new).foldl (fun (a : List StepEntry × Nat) e =>
    if e.phase = 0 then (a.1 ++ [e], a.2) else (a.1 ++ [{ e with row := some a.2 }], a.2 + 1)) ([], 0)).1

/-- R181: the list changes of the entries of a step: lists of joining sequences, copies, and new runs. -/
def State.listChanges (s : State) (c : Nat) (es : List StepEntry) : State :=
  es.foldl (fun s e =>
    let copy := s.needsCopy c e.idx
    let s := s.buildList c e.idx
    let s := if copy then s.copyLast c e.idx else s
    let s := s.setSeq e.idx { s.seqAt e.idx with pfxEntries := [] }
    s.growSeq c e.idx e.n) s

/-! ## Leaving (R161, R192) -/

/-- R166: the IDs at SEQ_GROUPLIST, and the members of the group: an ID outside R10's range names none. -/
def State.groupList (s : State) (c : Nat) : List Nat :=
  let g := s.rd .seqGroupsize c
  match s.dvaRead c (s.rd .seqGrouplist c) (2 * g) with
  | .ok b => (List.range g).map (fun k => fieldAt b (2 * k) 2)
  | .error _ => []
def State.groupMembers (s : State) (c : Nat) : List Nat := (s.groupList c).filter (· < 16384)

/-- R192: a prefix handle for the pages of a completing sequence, where one may be issued; its anchors drop then. -/
def State.keepPrefix (s : State) (c i : Nat) : State × Nat :=
  let x := s.seqAt i
  let whole := x.hasList && !s.seqLost i && (s.listEntries x.pagehead).all (fun e => lePresent e.2)
  if !x.keeppfx ∨ !whole then (s.releaseList i, 0)
  else
    match (s.abandonMoves i).pfxIssue c x.pagehead x.len with
    | (s, none) => (s.releaseList i, 0)
    | (s, some h) => ((s.setSeq i { s.seqAt i with hasList := false, pagehead := 0 }).releasePages i, h)

/-- R161, R171, R194: a DRAINING sequence: its pages, a handle's issue told to the group, its reason and its completion record. A write of the reason that
faults makes it one whose record region faulted. -/
def State.complete (s : State) (c : Nat) (mirrored : Bool) (i : Nat) : State :=
  let (s, h) := s.keepPrefix c i
  let s := if h = 0 then s else (s.groupMembers c).foldl (fun s g => s.emit (.prefixChange g c h true i)) s
  let x := s.seqAt i
  let (s, st) := s.regionWrite x 12 (leBytes 1 x.reason ++ zeros 3)
  let x := if st = .ok then x else { x with reason := 5, recFault := true }
  let s := s.setSeq i x
  let rec_ := s.completionRecord x (s.handleOf i) h
  if mirrored then
    let s := s.emit (.mirrorRecord (s.rd .fhMirror 0) c rec_)
    s.setStep c { s.step_ c with mirror := (s.step_ c).mirror ++ [(x.cring, rec_, some i)] }
  else s.seqRecord c x.cring rec_ (some i)

/-! ## Starting a step (R152, R153) -/

/-- R153: the manifest of a step. -/
def State.manifest (s : State) (st : StepState) : List Byte :=
  leBytes 4 st.num ++ leBytes 4 st.entries.length ++ leBytes 4 ((st.entries.map (·.n)).foldl (· + ·) 0) ++ leBytes 4 st.rows
    ++ zeros 48
    ++ (st.entries.map (fun e =>
      let x := s.seqAt e.idx
      leBytes 4 (s.handleOf e.idx) ++ leBytes 4 (e.pos + e.phase * 2 ^ 20) ++ leBytes 4 (e.n + x.sampidx * 2 ^ 20)
        ++ leBytes 4 (if e.phase = 2 then x.recent.headD 0 else 0) ++ leBytes 4 x.pagehead
        ++ leBytes 4 (e.row.getD 0xFFFFFFFF) ++ leBytes 8 x.record)).flatten

/-- R153: where a step's manifest lies. -/
def State.manifestAt (s : State) (c num : Nat) : Nat :=
  s.rd .seqManbase c + num % 2 * roundUp (64 + 32 * s.rd .seqMaxbatch c) 64

/-- R152: start the step whose entries are formed: write the manifest, signal, and wait. A context without entries is idle. -/
def State.startStep (s : State) (c : Nat) : State :=
  let st := s.step_ c
  if st.entries = [] then s.setStep c { st with stage := .idle, holdTold := false }
  else
    let m := s.manifest st
    let s := s.keepScores c
    let (s, stt) := s.dvaWrite c (s.manifestAt c st.num) m
    let s := if stt = .ok then s else s.raise seqPage stt (some c) (s.manifestAt c st.num) 0
    let s := (s.groupMembers c).foldl (fun s g => s.emit (.remote g c (s.manifestAt c st.num) m (s.rd .seqReadytally c) 1)) s
    let s := s.setStep c { s.step_ c with
      stage := .running, results := [], passes := [], merged := false, mergeUnit := none, counted := false, holdTold := false, noUnitTold := false
      listDue := true }
    let b := bankOfIsland islSequencer
    let s := s.agentSignal seqPage b c (s.rd .seqReadytally c) 1 false
    s.agentWait seqPage b c (s.rd .seqSteptally c) 1 (.sequencer c)

/-- R149, R348: start the step, or hold it while records wait or the mirror has still to confirm. -/
def State.startOrHold (s : State) (c : Nat) : State :=
  let st := s.step_ c
  if !s.recordsHeld c ∧ !st.mirrorWait then s.startStep c
  else
    let full := s.recordsHeld c
    let s := s.setStep c { st with stage := .held, holdTold := st.holdTold || full }
    if full ∧ !st.holdTold then s.raise seqPage .seqRingFull (some c) 0 0 else s

/-! ## The whole boundary (R157) -/

/-- R347: a context whose LEAD is mirrored. -/
def State.mirrored (s : State) (c : Nat) : Bool := s.flag .fhMirrorvalid 0 && s.rd .fhMirrorctx 0 = c

/-- R37, R166, R347: the entries of a context that have changed since they were sent go to every member of its group, with the budgets of their deadlines.
A list that holds an ID outside R10's range is told to the context. -/
def State.sendChanges (s : State) (c : Nat) : State :=
  let s := if (s.groupList c).any (16384 ≤ ·) then s.raise seqPage .seqConfig (some c) (s.rd .seqGrouplist c) 0 else s
  let image (i : Nat) : List Byte := groupImage (if (s.seqAt i).ctx = c then s.seqAt i else Seq.free (s.seqAt i).gen)
  let key (i : Nat) : Nat := c * 131072 + i
  let ids := ((s.seq.sent.filter (fun (p : Nat × List Byte) => p.1 / 131072 = c)).map (fun (p : Nat × List Byte) => p.1 % 131072) ++ s.seqsOf c).eraseDups
  let changed := ids.filter (fun i => sget [] s.seq.sent (key i) ≠ image i)
  let s := (s.groupMembers c).foldl (fun s g => changed.foldl (fun s i =>
    s.emit (.entryChange g c i (image i) (s.budgetOf (s.seqAt i).deadline))) s) s
  let kept := changed.foldl (fun m i => sput [] m (key i) (if (s.seqAt i).state = 0 ∨ (s.seqAt i).ctx ≠ c then [] else image i)) s.seq.sent
  { s with seq := { s.seq with sent := if s.rd .seqGroupsize c = 0 then s.seq.sent.filter (fun p => p.1 / 131072 ≠ c) else kept } }

/-- Phases of R157 before commands: the finished step, losses and returns to QUEUED, eviction, and waiting sequences that are too late. -/
def State.boundaryFirst (s : State) (c tb : Nat) : State :=
  let st := s.step_ c
  let ran := st.entries.map (·.idx)
  let (s, outs) := s.takeTokens c tb st.num st.results st.entries
  let s := if s.mirrored c then
      s.setStep c { s.step_ c with mirror := (s.step_ c).mirror ++ outs.map (fun o => (o.1, o.2, none)) }
    else outs.foldl (fun s o => s.seqRecord c o.1 o.2 none) s
  let live (s : State) (i : Nat) : Bool := 1 ≤ (s.seqAt i).state && (s.seqAt i).state ≤ 4
  let s := (s.seqsOf c).foldl (fun s i => if live s i ∧ s.seqLost i then s.pageLoss c i else s) s
  let s := ran.foldl (fun s i =>
    let x := s.seqAt i
    let s := if live s i ∧ x.marks ≠ [] then s.recompute c i else s
    s.setSeq i { s.seqAt i with marks := [], stepWidened := false }) s
  let s := s.evictRuns c
  (s.seqsOf c).foldl (fun s i =>
    let x := s.seqAt i
    if live s i ∧ seqLate x tb ∧ !(ran.contains i && (x.state = 2 || x.state = 3)) then
      s.setSeq i { x with state := 5, reason := 4 }
    else s) s

/-- Commands, reservation and admission: the entries of the next step. -/
def State.boundaryMiddle (s : State) (c space : Nat) : State :=
  let st := s.step_ c
  let s := s.setStep c { st with cmds := [], entries := [] }
  let s := st.cmds.foldl (fun s k => s.applyCmd c k) s
  let s := (s.seqsOf c).foldl (fun s i => if (s.seqAt i).cancelpend then s.setSeq i { s.seqAt i with cancelpend := false } else s) s
  let num := (s.rd .seqStepnum c + 1) % 2 ^ 32
  let s := s.rejoin c
  let own := space - s.listProvision c
  let room := st.reports.foldl (fun m r => min m r.room) own
  let f := s.continuing c
  let (s, f) := s.relieve c num room f.entries.length f
  let paused := ((s.seqsOf c).filter (fun i => (s.seqAt i).state = 4 && (s.seqAt i).mempause)).mergeSort (fun a b =>
    (s.seqAt a).prio < (s.seqAt b).prio || ((s.seqAt a).prio = (s.seqAt b).prio && a ≤ b))
  let (s, f) := s.resumeMem c room paused f
  let before := f.entries.map (·.idx)
  let (s, f, deferred) := if st.frozen then (s, f, false) else s.admitNext c num room (s.queued c) f
  let joined := (f.entries.map (·.idx)).filter (fun i => !before.contains i)
  let s := if deferred then s.bump .seqJoindef 0 1 else s
  let es := manifestOrder joined f.entries
  let s := s.listChanges c es
  s.setStep c { s.step_ c with num := num, entries := es }

/-- R157: a boundary of a LEAD's context at device time t_b, the present. -/
def State.boundary (s : State) (c : Nat) : State :=
  let s := s.adopt (islSequencer, some c)
  let free := s.rd .kvHeld c
  let tb := s.now
  let space := s.kvSpace c
  let s := s.boundaryFirst c tb
  let s := s.boundaryMiddle c space
  let s := ((s.seqsOf c).filter (fun i => (s.seqAt i).state = 5 && !(s.step_ c).mirror.any (fun m => m.2.2 = some i)
      && !(s.step_ c).stray.any (fun m => m.2.2 = some i) && !s.rings.any (fun p => p.2.held.any (fun h => h.fin = some i)))).foldl
    (fun s i => s.complete c (s.mirrored c) i) s
  let s := (s.wr .seqStepnum c (s.step_ c).num).sendChanges c
  let waits := (s.seqsOf c).any (fun i => (s.seqAt i).state = 1 || ((s.seqAt i).state = 4 && (s.seqAt i).mempause))
  let st := s.step_ c
  let s := s.setStep c { st with
    due := decide (s.rd .kvHeld c < free) && waits, mirrorWait := st.mirror ≠ [], results := [], passes := [], merged := false, counted := false, reports := [] }
  s.startOrHold c

end Sys2Proof.Machine
end

