-- ==== Sys2Proof/Machine/Sequencer.lean ====
section
/-!
DEFINITION. The commands of the sequencer and of the key-value allocator (R147 to R167, R181, R191, R194, R198), and DB_RESUME, which
writes the records that a ring holds.
-/
namespace Sys2Proof.Machine
open Sys2Proof

/-- R369: RESUME returns an ERROR ring to ACTIVE and writes its held records. -/
def State.dbResume (s : State) (rdr : Reader) (r : Nat) : State :=
  s.doorbell rdr r 0xC 0x10000 (fun s =>
    if s.rd .dbState r = 2 then ((s.wr .dbState r 1).writeHeld r, .ok) else (s, .ok))

/-- DB_RESUME (R369). -/
def execDbResume (rdr : Reader) (met : Met Nat) (s : State) : Result := .next ((s.eccFound met.ecc).dbResume rdr met.op)

/-! ## Submission rings (R147, R148) -/

/-- R147, R248, R357, R366, R369: take the entry at the head of a submission ring of a context that is served where its kind is one of a list: the
context and the 64 bytes. -/
def State.takeSubmit (s : State) (r : Nat) (kinds : Nat → Bool) : State × Option (Nat × List Byte) :=
  let c := s.rd .dbCtx r
  if !(s.ringPending r 2 && s.serves c) then (s, none)
  else
    match s.readEntry r with
    | (s, none) => (s, none)
    | (t, some (_, b)) => if kinds (fieldAt b 0 1 % 16) then (t.bump .dbHead r 1, some (c, b)) else (s, none)

/-- R145: λ of a submission: the length of its prefix where the handle is live. -/
def State.submitLambda (s : State) (c h : Nat) : Nat :=
  match s.pfxLive c h with
  | some k => (s.pfx c k).len
  | none => 0

/-- R193: a submission's prefix handle is usable. -/
def State.prefixOk (s : State) (c h : Nat) : Bool :=
  h = 0 || match s.pfxLive c h with
    | some k => !s.listLost (s.pfx c k).head
    | none => false

/-- The entry that a SUBMIT asks for (R147). -/
def State.submitSeq (s : State) (c i : Nat) (b : List Byte) : Seq :=
  let d := fieldAt b 16 8
  let h := fieldAt b 12 4
  { Seq.free (s.seqAt i).gen with
    state := 1, prio := bitsAt (fieldAt b 0 1) 4 3, ctx := c, len := s.submitLambda c h, stopset := bitsAt (fieldAt b 4 4) 20 12
    prompt := bitsAt (fieldAt b 4 4) 0 20, maxgen := bitsAt (fieldAt b 8 4) 0 20, sampidx := bitsAt (fieldAt b 8 4) 20 12
    prefix_ := h, deadline := if d = 0 ∨ 2 ^ 64 - 2 < s.now + d then 2 ^ 64 - 1 else s.now + d
    toplp := bitAt (fieldAt b 1 1) 0, keeppfx := bitAt (fieldAt b 1 1) 1, autorel := bitAt (fieldAt b 1 1) 2
    nostream := bitAt (fieldAt b 1 1) 3, cring := fieldAt b 2 2, tag := fieldAt b 24 8, record := fieldAt b 32 8
    pfxlen := s.submitLambda c h, appfmt := s.rd .kvAppfmt c, order := s.seq.accepts, accepted := s.now }

/-- R148: the sampler's check of a submission. -/
def State.submitParam (s : State) (c k : Nat) : Status :=
  if s.rd .smpParamcnt c ≤ k then .smpParamIndex
  else match (s.readParam c k).2 with
    | some _ => .ok
    | none => .smpParamInvalid

/-- R148: the checks of SUBMIT, in their order; the entry it takes. -/
def State.submitCheck (s : State) (c : Nat) (b : List Byte) : Except Status Nat :=
  if !s.seqLead c then .error .seqClass
  else if s.rd .seqMaxseq c ≤ s.rd .seqActive c then .error .seqCtxLimit
  else match s.freeEntry with
    | none => .error .seqTableFull
    | some i =>
      let x := s.submitSeq c i b
      if x.prompt = 0 ∨ x.maxgen = 0 ∨ 1048574 < x.pfxlen + x.prompt then .error .seqLength
      else if !s.stopInRange c x.stopset then .error .seqStopsetRange
      else match s.submitParam c x.sampidx with
        | .ok =>
          if x.record % 64 ≠ 0 ∨ !s.mapped c x.record (regionBytes x) .read ∨ !s.mapped c x.record (regionBytes x) .write then
            .error .seqRolloutMap
          else if !s.prefixOk c x.prefix_ then .error .kvPfxInvalid
          else .ok i
        | e => .error e

/-- R145, R148: the header that acceptance writes. -/
def State.writeHeader (s : State) (i : Nat) (x : Seq) : State × Status :=
  match s.regionWrite x 0 (leBytes 4 (i + 2 ^ 17 * x.gen) ++ leBytes 4 x.prompt ++ zeros 8) with
  | (s, .ok) => s.regionWrite x 20 (zeros 4 ++ leBytes 8 x.tag ++ leBytes 4 x.pfxlen ++ zeros 4)
  | r => r

/-- R193: references on every page of the prefix. -/
def State.takePrefix (s : State) (c : Nat) (x : Seq) : State × Seq :=
  match s.pfxLive c x.prefix_ with
  | none => (s, x)
  | some k =>
    let es := (s.listEntries (s.pfx c k).head).filter (fun e => lePresent e.2)
    (es.foldl (fun s e => s.refAdd (lePage e.2)) s, { x with pfxEntries := es })

/-- SUBMIT (R148): checked; refused with its status, or accepted as QUEUED in the lowest FREE entry and acknowledged with its handle. -/
def execSubmit (ring : Nat) (ecc : List (Nat × EccError)) (s : State) : Result :=
  match s.takeSubmit ring (fun k => k = 1) with
  | (s, none) => .next s
  | (s, some (c, b)) =>
    let s := s.eccFound ecc
    let refuse (s : State) (st : Status) : State :=
      (s.bump .seqRefused 0 1).seqRecord c (fieldAt b 2 2) (ackRecord 1 st.code 0xFFFFFFFF (fieldAt b 24 8)) none
    let s := s.setStep c { s.step_ c with due := true }
    match s.submitCheck c b with
    | .error e => .next (refuse s e)
    | .ok i =>
      let x := s.submitSeq c i b
      match s.writeHeader i x with
      | (s, .ok) =>
        let (s, x) := s.takePrefix c x
        let s := s.setSeq i x
        let s : State := { s with seq := { s.seq with accepts := s.seq.accepts + 1 } }
        let s := (s.bump .seqActive c 1).wr .seqFree 0 (s.rd .seqFree 0 - 1)
        .next (s.seqRecord c x.cring (ackRecord 1 0 (s.handleOf i) x.tag) none)
      | (s, _) => .next (refuse s .seqRolloutMap)

/-- R152, R160: read a command: it is applied at the next boundary of its context. A CANCEL sets SQ_CANCELPEND. A context that runs
no steps of its own refuses it (R166). -/
def State.readCommand (s : State) (ring kind : Nat) : State :=
  match s.takeSubmit ring (fun k => k = kind) with
  | (s, none) => s
  | (s, some (c, b)) =>
    let cmd : SeqCmd := ⟨ring, kind, fieldAt b 4 4, fieldAt b 2 2, fieldAt b 24 8, fieldAt b 32 8⟩
    if !s.seqLead c then s.seqRecord c cmd.cring (ackRecord kind Status.seqClass.code cmd.handle cmd.tag) none
    else
      let s := s.setStep c { s.step_ c with cmds := (s.step_ c).cmds ++ [cmd] }
      match (if kind = 2 then s.seqOf cmd.handle else none) with
      | some i =>
        let x := s.seqAt i
        if x.ctx = c ∧ x.state ≤ 4 then s.setSeq i { x with cancelpend := true } else s
      | none => s

/-- CANCEL (R160). -/
def execCancel (met : Met Nat) (s : State) : Result := .next ((s.eccFound met.ecc).readCommand met.op 2)

/-- PAUSE (R160). -/
def execPause (met : Met Nat) (s : State) : Result := .next ((s.eccFound met.ecc).readCommand met.op 3)

/-- RESUME (R160). -/
def execResume (met : Met Nat) (s : State) : Result := .next ((s.eccFound met.ecc).readCommand met.op 4)

/-- RELEASE (R160). -/
def execRelease (met : Met Nat) (s : State) : Result := .next ((s.eccFound met.ecc).readCommand met.op 5)

/-- LOAD_STOPSET (R164). -/
def execLoadStopset (met : Met Nat) (s : State) : Result := .next ((s.eccFound met.ecc).readCommand met.op 6)

/-- SEQ_ENTRY_KIND (R147): an entry of a reserved kind is acknowledged with SEQ_ENTRY_KIND. -/
def execSeqEntryKind (met : Met Nat) (s : State) : Result :=
  match (s.eccFound met.ecc).takeSubmit met.op (fun k => k = 0 || 7 ≤ k) with
  | (s, none) => .next s
  | (s, some (c, b)) =>
    .next (s.seqRecord c (fieldAt b 2 2)
      (ackRecord (fieldAt b 0 1 % 16) Status.seqEntryKind.code 0xFFFFFFFF (fieldAt b 24 8)) none)

/-! ## Steps (R152) -/

/-- STEP_TALLY_DONE (R152): the wait on SEQ_STEPTALLY has completed: the sampled rows go to the samplers. -/
def execStepTallyDone (c : Nat) (s : State) : Result :=
  let st := s.step_ c
  if st.stage ≠ .running ∨ (s.waitDone (.sequencer c)).isNone then .next s
  else
    let s := (s.takeWait (.sequencer c)).setStep c { st with stage := .sampling, tallyAt := s.now }
    let s := if (List.range 6).all (fun k => s.flag .smpFenced k) ∧ 0 < st.rows then
        (s.setStep c { s.step_ c with noUnitTold := true }).raise (smpPage 0) .smpNoUnit (some c) 0 0
      else s
    .next (if st.rows = 0 then s.sendReport c else s)

/-- R166: an entry that a FOLLOWER did not hold yet: its pages' format, the references on its prefix's pages, and its acceptance here (log entry 105). -/
def State.followNew (s : State) (c i : Nat) (new : Seq) : State :=
  let x := { new with
    appfmt := s.rd .kvAppfmt c, pfxlen := s.submitLambda c new.prefix_, pagehead := 0, hasList := false
    order := s.seq.accepts, accepted := s.now, lpsum := 0, memEver := new.mempause }
  let (s, x) := s.takePrefix c x
  let s : State := { s with seq := { s.seq with accepts := s.seq.accepts + 1 } }
  ((s.setSeq i x).bump .seqActive c 1).wr .seqFree 0 (s.rd .seqFree 0 - 1)

/-- R166, R192, R194: the handle that a LEAD issued for an entry names this module's pages of it, in the same slot and generation. -/
def State.followIssue (s : State) (c i h : Nat) : State :=
  let x := s.seqAt i
  if !x.hasList then s
  else
    let s := (s.abandonMoves i).pfxSet c (h % 1024) (h / 1024) x.pagehead x.len
    (s.setSeq i { s.seqAt i with hasList := false, pagehead := 0 }).releasePages i

/-- R166, R187: an entry change that a LEAD sends: the FOLLOWER's entry takes it over with the pages that it means here. A return to QUEUED keeps the
prefix's pages where this module's tiles marked the entry under RECOMPUTE, or where it keeps a length. -/
def State.followEntry (s : State) (c : Nat) (issued : List (Nat × Nat)) (ch : Nat × List Byte × Nat) : State :=
  let i := ch.1
  let old := s.seqAt i
  let new := { seqOfImage old ch.2.1 with deadline := s.deadlineOf ch.2.2 }
  if new.state = 0 then
    if old.state = 0 then s
    else
      let s := s.releasePages i
      ((s.setSeq i (Seq.free new.gen)).wr .seqActive c (s.rd .seqActive c - 1)).bump .seqFree 0 1
  else
    let s := if old.state = 0 then s.followNew c i new else s.setSeq i new
    if new.state = 1 ∧ 2 ≤ old.state then
      if (s.seqAt i).hasList ∧ (new.len ≠ 0 ∨ old.marks ≠ []) then s.recompute c i else s.releasePages i
    else if new.state = 4 ∧ new.mempause ∧ !old.mempause then s.startSpill c i
    else if new.state = 5 ∨ new.state = 6 then
      match issued.find? (fun p => p.2 = i) with
      | none => s.releaseList i
      | some (h, _) => s.followIssue c i h
    else if new.state ≠ 4 ∧ (s.seqAt i).hasList ∧ s.hasFar i ∧ !(s.seqAt i).filling then s.startFill c i
    else s

/-- R153: the entries of a manifest. -/
def manifestEntries (b : List Byte) : List StepEntry :=
  (List.range (fieldAt b 4 4)).map (fun k =>
    let o := 64 + 32 * k
    let row := fieldAt b (o + 20) 4
    ⟨fieldAt b o 4 % 2 ^ 17, bitsAt (fieldAt b (o + 4) 4) 0 20, bitsAt (fieldAt b (o + 8) 4) 0 20, bitsAt (fieldAt b (o + 4) 4) 20 2,
      if row = 0xFFFFFFFF then none else some row⟩)

/-- R166: a LEAD's manifest with this module's page-list heads. -/
def State.followManifest (s : State) (b : List Byte) : List Byte :=
  b.take 64 ++ ((manifestEntries b).zipIdx.map (fun e =>
    let m := (b.drop (64 + 32 * e.2)).take 32
    m.take 16 ++ leBytes 4 (s.seqAt e.1.idx).pagehead ++ m.drop 20)).flatten

/-- R166, R194, R196: a FOLLOWER's part of a boundary: entry changes, handles, its own evictions and list changes, and its manifest. After a boundary
that starts no step it reports at once (R167). -/
def State.followBoundary (s : State) (c : Nat) (u : GroupUpdate) : State :=
  let s := s.adopt (islSequencer, some c)
  let held := s.rd .kvHeld c
  let s := u.changes.foldl (fun s ch => s.followEntry c u.issues ch) s
  let s := (s.seqsOf c).foldl (fun s i =>
    let x := s.seqAt i
    if x.marks ≠ [] ∨ x.stepWidened then s.setSeq i { x with marks := [], stepWidened := false } else s) s
  let s := u.releases.foldl (fun s h => match s.pfxLive c h with
    | some k => s.pfxRelease c k
    | none => s) s
  let s := s.evictRuns c
  let freed := held - s.rd .kvHeld c
  let es := manifestEntries u.manifest
  let s := s.listChanges c es
  let num := if u.manifest = [] then (s.rd .seqStepnum c + 1) % 2 ^ 32 else fieldAt u.manifest 0 4
  let s := (s.wr .seqStepnum c num).setStep c { s.step_ c with
    num := num, entries := es, results := [], passes := [], counted := false, freed := freed, stage := if es = [] then .idle else .running
    listDue := es ≠ [] }
  if es = [] then s.sendReport c
  else
    let s := s.keepScores c
    let (s, st) := s.dvaWrite c (s.manifestAt c num) (s.followManifest u.manifest)
    let s := if st = .ok then s else s.raise seqPage st (some c) (s.manifestAt c num) 0
    s.agentWait seqPage (bankOfIsland islSequencer) c (s.rd .seqSteptally c) 1 (.sequencer c)

/-- R167: every FOLLOWER of a group has reported. -/
def State.allReported (s : State) (c : Nat) : Bool :=
  s.rd .seqGroupsize c = 0 || (s.groupMembers c).all (fun m => (s.step_ c).reports.any (·.member = m))

/-- STEP_BOUNDARY (R157): with every sampled token returned, and every FOLLOWER's report, the LEAD performs the boundary and starts
the next step. A FOLLOWER takes over what its LEAD's boundary sends. -/
def execStepBoundary (c : Nat) (met : Met (Option GroupUpdate)) (s : State) : Result :=
  let s := s.eccFound met.ecc
  let st := s.step_ c
  let ended := st.stage = .sampling ∧ st.rows ≤ st.results.length
  if !s.ctxLive c then .next s
  else match s.rd .seqRole c, met.op with
    | 2, some u => .next (if ended ∨ st.stage = .idle then s.followBoundary c u else s)
    | _, _ => .next (if ended ∧ s.seqLead c ∧ s.allReported c then s.boundary c else s)

/-- R152: what makes an idle boundary due. -/
def State.idleDue (s : State) (c : Nat) : Bool :=
  let st := s.step_ c
  st.due || st.cmds ≠ [] || (s.seqsOf c).any (fun i =>
    let x := s.seqAt i
    (x.state = 1 || x.state = 4) && seqLate x s.now)

/-- IDLE_BOUNDARY (R152, R167): a context with an empty batch performs a boundary after a command, a fill or a deadline, with every FOLLOWER's report.
In a FOLLOWER's context with an empty batch it is the module's report for that boundary (log entry 105). -/
def execIdleBoundary (met : Met Nat) (s : State) : Result :=
  let s := s.eccFound met.ecc
  if (s.step_ met.op).stage ≠ .idle then .next s
  else if s.seqLead met.op then .next (if s.idleDue met.op ∧ s.allReported met.op then s.boundary met.op else s)
  else .next (if s.ctxLive met.op then s.sendReport met.op else s)

/-- HELD_STEP_RESUME (R149): ring space appears: the held records are written and the step starts. -/
def execHeldStepResume (met : Met Nat) (s : State) : Result :=
  let s := (s.eccFound met.ecc).retryRecords met.op
  .next (if (s.step_ met.op).stage = .held then s.startOrHold met.op else s)

/-- FOLLOWER_REPORT (R167). -/
def execFollowerReport (c member room freed : Nat) (s : State) : Result :=
  let st := s.step_ c
  if !s.seqLead c ∨ !(s.groupMembers c).contains member then .next s
  else .next (s.setStep c { st with reports := st.reports.filter (·.member ≠ member) ++ [⟨member, room, freed⟩] })

/-- FOLLOWER_REPORT_TIMEOUT (R167): 20 ms after the LEAD's own step tally, members without a report are reported silent (R339). -/
def execFollowerReportTimeout (c : Nat) (s : State) : Result :=
  let st := s.step_ c
  if !s.seqLead c ∨ st.stage ≠ .sampling ∨ s.now < st.tallyAt + 20000000 then .next s
  else .next (((s.groupMembers c).filter (fun m => !st.reports.any (·.member = m))).foldl (fun s m => s.reportSilence m) s)

/-- MIRROR_CONFIRMED (R348): the mirror holds the boundary's writes: its stream and completion records are written. -/
def execMirrorConfirmed (met : Met Nat) (s : State) : Result :=
  let s := s.eccFound met.ecc
  let st := s.step_ met.op
  if !st.mirrorWait then .next s
  else
    let s := s.setStep met.op { st with mirror := [], mirrorWait := false }
    let s := st.mirror.foldl (fun s m => s.seqRecord met.op m.1 m.2.1 m.2.2) s
    .next (if st.stage = .held then s.startOrHold met.op else s)

/-! ## The allocator -/

/-- LIST_CHANGES_COMMIT (R181): the list changes of a boundary that wrote a manifest are committed: KV_LISTTALLY is signalled by 1. -/
def execListChangesCommit (c : Nat) (s : State) : Result :=
  let st := s.step_ c
  if !st.listDue then .next s
  else .next ((s.setStep c { st with listDue := false }).agentSignal 0x0402 (bankOfIsland islSequencer) c (s.rd .kvListtally c) 1 false)

/-- KV_PFXREL (R194): a live handle is released at once. -/
def execKvPfxrel (rdr : Reader) (c : Nat) (met : Met Nat) (s : State) : Result :=
  let s := s.eccFound met.ecc
  if !s.mayWriteCtx rdr c then .next (s.reply rdr .sesRights 0)
  else match s.pfxLive c met.op with
    | none => .next ((s.wr .kvPfxstatus c Status.kvPfxInvalid.code).reply rdr .ok 0)
    | some k =>
      let s := (s.pfxRelease c k).wr .kvPfxstatus c 0
      let s := if s.seqLead c then (s.groupMembers c).foldl (fun s g => s.emit (.prefixChange g c met.op false 0)) s else s
      .next (s.reply rdr .ok 0)

/-- COW_WAIT (R191): an ATTN tile that finds the copy of a head started and not committed waits: nothing changes until it is. -/
def execCowWait (_clu : Nat) (s : State) : Result := .next s

/-- R198: copy a page: its data area, and its metadata but counts, tag and pins. -/
def State.copyPage (s : State) (m : KvMove) : State × Status :=
  let far := pageFar m.src
  let farTo := pageFar m.dst
  match s.memRead far (s.pageData m.src) 65536, s.memRead far (s.pageMeta m.src + 10) 2038 with
  | .error e, _ => (s, e)
  | _, .error e => (s, e)
  | .ok data, .ok rec_ =>
    let s := (s.countRead none far (s.pageData m.src) 65536).countRead none far (s.pageMeta m.src + 10) 2038
    match s.memWrite farTo (s.pageData m.dst) data with
    | (s, .ok) =>
      match s.memWrite farTo (s.pageMeta m.dst + 10) rec_ with
      | (s, .ok) =>
        let pending := sget false s.kv.cow m.src
        ({ s with kv := { s.kv with cow := sput false (sput false s.kv.cow m.src false) m.dst pending } }, .ok)
      | r => r
    | r => r

/-- R198: a copy of a spill or fill ends: the entry names the new page, the old page's reference drops. A source that does not read
is lost (R199); after any other failure the page stays where it was (log entry 103). -/
def State.endMove (s : State) (fill : Bool) (idx entry : Nat) : State :=
  match s.kv.moves.find? (fun m => m.idx = idx ∧ m.entry = entry ∧ m.fill = fill) with
  | none => s
  | some m =>
    let s : State := { s with kv := { s.kv with moves := s.kv.moves.filter (fun x => !(x.idx = idx && x.entry = entry)) } }
    let x := s.seqAt idx
    match s.copyPage m with
    | (s, .ok) =>
      let s := s.setRunEntry x.ctx x.pagehead entry (leMake m.dst (s.kmTag m.dst))
      let s := ((s.unpinPage m.src).refDrop m.src).bump (if fill then .kvFills else .kvSpills) 0 1
      s.setStep x.ctx { s.step_ x.ctx with due := (s.step_ x.ctx).due || (fill && !s.kv.moves.any (·.idx = idx)) }
    | (s, _) =>
      let back := (s.unpinPage m.src).refDrop m.dst
      if !s.pageGone m.src then back
      else
        let s := (((s.pagePoison m.src).losePage m.src).unpinPage m.src).refDrop m.dst
        s.setSeq idx { s.seqAt idx with lost := true }

/-- SPILL_COMPLETE (R198). -/
def execSpillComplete (idx : Nat) (met : Met Nat) (s : State) : Result := .next ((s.eccFound met.ecc).endMove false idx met.op)

/-- FILL_COMPLETE (R198): with its last page the sequence can rejoin at the next boundary. -/
def execFillComplete (idx : Nat) (met : Met Nat) (s : State) : Result := .next ((s.eccFound met.ecc).endMove true idx met.op)

end Sys2Proof.Machine
end

