-- ==== Sys2Proof/Machine/Flags.lean ====
section
/-!
DEFINITION. The flags and statistics of a tile: the done record (R86), the statistics record (R77 to R79) and the clipped elements
(R78).
-/
namespace Sys2Proof.Machine
open Sys2Proof

/-- What an element of the output is: its FP32 value entering step 6, whether step 5 changed it, its conversion, and the FP32 value
that its code decodes to. -/
structure OutElem where
  y : Nat
  clip5 : Bool
  conv : Conv
  q : Nat
  deriving DecidableEq, Repr

/-- R78: the element is clipped. -/
def OutElem.isClipped (e : OutElem) : Bool := e.clip5 || e.conv.clipped

/-- R77: how many elements meet a condition. -/
def countElems (l : List OutElem) (p : OutElem → Bool) : Nat := (l.filter p).length

/-- R79: the squared error of an element; none for a non-finite one. -/
def OutElem.sqErr (e : OutElem) : Option Nat :=
  if f32Finite e.y then
    let d := f32Sub e.y e.q
    some (f32Mul d d)
  else none

/-- R79: the sums of neighbours: 2l and 2l + 1. -/
def pairSums : List Nat → List Nat
  | a :: b :: t => f32Add a b :: pairSums t
  | l => l

/-- R79: the sum of squared errors over 256 lanes in the order of the rule: element k belongs to lane k mod 256. -/
def laneSum (l : List OutElem) : Nat :=
  let es := l.map OutElem.sqErr
  let lane (j : Nat) : Nat :=
    (List.range ((es.length + 255 - j) / 256)).foldl (fun a q =>
      match es.getD (256 * q + j) none with
      | some x => f32Add a x
      | none => a) 0
  let lanes := (List.range 256).map lane
  (pairSums (pairSums (pairSums (pairSums (pairSums (pairSums (pairSums (pairSums lanes)))))))).headD 0

/-- R77: the statistics record of a tile: the elements that entered step 6, ACC_SAT, SCALE_CAPPED, and whether the MSE is
included. -/
def statsRecord (l : List OutElem) (accSat capped mse : Bool) : List Byte :=
  let nf (e : OutElem) : Bool := !f32Finite e.y
  let flags := b2n accSat + 2 * b2n (l.any (·.conv.narrow)) + 4 * b2n capped + 8 * b2n mse
  leBytes 4 l.length ++ leBytes 4 (countElems l OutElem.isClipped) ++ leBytes 4 (countElems l nf) ++ leBytes 4 flags
    ++ leBytes 4 (amaxF32 ((l.filter (fun e => !nf e)).map (·.y))) ++ leBytes 4 (if mse then laneSum l else 0) ++ zeros 8

/-- R86: the two words of the done record. -/
def doneRecord (t : Tile) : List Byte :=
  leBytes 4 (t.status.code + 2 ^ 16 * b2n t.accSat + 2 ^ 17 * b2n t.skipped + 2 ^ 18 * b2n t.dispDrop + 2 ^ 19 * b2n t.routeNf
    + 2 ^ 20 * b2n t.attnEmpty + 2 ^ 31) ++ leBytes 4 t.cycles

end Sys2Proof.Machine
end

