-- ==== Sys2Proof/Machine/Epilogue.lean ====
section
/-!
DEFINITION. The epilogue (R62 to R79): steps 0 to 6 over an accumulator, the save side output (R119, R120), the statistics record,
and the expert router (R104 to R106).
-/
namespace Sys2Proof.Machine
open Sys2Proof

/-! ## Steps 1 to 5 -/

/-- R63: T = (sA × sB) × m. -/
def tileScale (td : List Byte) : Nat :=
  let sc (f c : Nat) : Nat := if fmtScale f = .kb then c else f32One
  f32Mul (f32Mul (sc (tdFmtA td) (tdCoarseA td)) (if tdKind td = 1 then f32One else sc (tdFmtB td) (tdCoarseB td))) (epiTmul td)

/-- Steps 0 and 1 on one entry that the accumulator hands on. -/
def epiScale (td : List Byte) (v : Nat) : Nat :=
  let x := if tdAccfmt td = 1 then f32OfInt (toSigned v 32) else accOut (tdAccfmt td) v
  let t := tileScale td
  if t = f32One then x else f32Mul x t

/-- R66: an activation that is not gated; α of LEAKY_RELU. -/
def actValue (code alpha x : Nat) : Nat :=
  match f32 x with
  | .nan => f32Nan
  | .inf neg =>
    match code, neg with
    | 0, _ => x
    | 1, true => 0
    | 1, false => x
    | 2, true => f32Mul x alpha
    | 2, false => x
    | 6, false => f32One
    | 7, false => f32One
    | 7, true => 0xBF800000
    | 6, true => 0
    | 8, true => 0
    | _, false => x
    | _, true => 0x80000000
  | v =>
    match code with
    | 0 => x
    | 1 => if (Fp.fin false 0 0).lt v then x else 0
    | 2 => if v.lt (.fin false 0 0) then f32Mul x alpha else x
    | c => boundedAt c x

/-- R66: the activation inside a gated one. -/
def gateAct (code : Nat) : Nat := if code = 9 then 5 else if code = 10 then 3 else 1

/-- R66: column pairs become act(g) × u. -/
def gatePairs (code : Nat) : List Nat → List Nat
  | g :: u :: t => f32Mul (actValue (gateAct code) 0 g) u :: gatePairs code t
  | _ => []

/-- Step 4 on a row. -/
def actRow (td : List Byte) (row : List Nat) : List Nat :=
  if actGated (epiAct td) then gatePairs (epiAct td) row else row.map (actValue (epiAct td) (epiActparam td))

/-- R67: step 5 on one value, and whether it changed it. -/
def clipValue (td : List Byte) (prop : Bool) (x : Nat) : Nat × Bool :=
  if !epiClipen td ∨ f32IsNan x ∨ (prop ∧ (f32 x).isInf) then (x, false)
  else if f32Lt x (epiCliplo td) then (epiCliplo td, true)
  else if f32Lt (epiCliphi td) x then (epiCliphi td, true)
  else (x, false)

/-- R64: F, the largest finite magnitude of an output format, as FP32. -/
def fmtMax (f : Nat) : Nat :=
  match fmtInfo f with
  | none => 0
  | some i =>
    match i.elem with
    | .fp g => toF32 (g.decode g.maxCode)
    | .int w sg _ => f32OfInt (intLimits w sg).2

/-- R64: the scale of a row in AMAX mode from its values and the bias. -/
def amaxScale (fmt : Nat) (row bias : List Nat) : Nat :=
  let a := amaxF32 (row.zipWith f32Add bias)
  if (f32 a).isZero ∨ (f32 a).isInf then f32One
  else
    let q := f32Div a (fmtMax fmt)
    if (f32 q).isZero then 1 else q

/-- A row after steps 2 and 3 with its AMAX scale: u is the row's ROWVEC value, w the COLVEC values, b the bias. -/
def scaleBias (td : List Byte) (row : List Nat) (u : Nat) (w b : List Nat) : List Nat × Nat :=
  let zero := row.map (fun _ => 0)
  match epiRowmode td with
  | 1 =>
    let r := row.map (f32Mul · u)
    (if epiBiasen td then r.zipWith f32Add b else r, 0)
  | 2 =>
    let r := row.zipWith f32Mul w
    (if epiBiasen td then r.zipWith f32Add b else r, 0)
  | 3 =>
    let s := amaxScale (epiOutfmt td) row (if epiBiasen td then b else zero)
    let r := row.map (f32Div · s)
    (if epiBiasen td then r.zipWith f32Add (b.map (f32Div · s)) else r, s)
  | _ => (if epiBiasen td then row.zipWith f32Add b else row, 0)

/-! ## The save side output (R120) -/

/-- R120: one row's save segment from the values entering step 4. -/
def saveRow (act coarse : Nat) (prop : Bool) (row : List Nat) : List Byte :=
  let mask (p : Nat → Bool) : List Byte :=
    leBytes ((row.length + 7) / 8) (packRow 1 (row.map (fun v => b2n (p v))))
  if act = 1 then mask (fun v => f32Lt 0 v)
  else if act = 2 then mask (fun v => if f32IsNan v then bitAt v 31 else f32Lt v 0)
  else
    let blocks := (List.range (row.length / 16)).map (fun b =>
      convertBlock (.fp e4m3) .kb coarse prop (((row.drop (16 * b)).take 16).map (fun v => (v, Rounding.rne))))
    (blocks.map (fun b => b.elems.map (fun e => BitVec.ofNat 8 e.code))).flatten ++ blocks.map (fun b => BitVec.ofNat 8 b.scale)

/-- R119: where row i's save segment starts. -/
def State.saveAddr (s : State) (c : Nat) (td : List Byte) (i : Nat) : Nat :=
  let sh := 2 ^ s.rd .lrnSaveshift c
  s.rd .lrnSavebase c * 2 ^ 21 + (tdOut td - s.rd .lrnWinbase c * 2 ^ 21) * sh + i * tdOutstride td * sh

/-! ## Step 6 -/

/-- The rounding of element k: stochastic with its own random number, or to nearest even. -/
def epiMode (td : List Byte) (rs : List Nat) (k : Nat) : Rounding := if epiRound td then .sr (rs.getD k 0) else .rne

/-- A converted row or column block with what it decodes to. -/
def blockElems (fmt coarse : Nat) (ys : List (Nat × Bool)) (b : BlockConv) : List OutElem :=
  (ys.zip b.elems).map (fun p => ⟨p.1.1, p.1.2, p.2, decodeElem fmt p.2.code b.scale coarse⟩)

/-- An output tile: its elements by rows, the scale rows of a block-scaled output, and SCALE_CAPPED. -/
structure OutTile where
  rows : List (List OutElem)
  scales : List (List Nat)
  capped : Bool

/-- Step 6 on rows of values with their step-5 marks. -/
def convertTile (td : List Byte) (prop : Bool) (rs : List Nat) (rows : List (List (Nat × Bool))) : OutTile :=
  let fmt := epiOutfmt td
  let n := outCols td
  match fmtInfo fmt with
  | none => ⟨[], [], false⟩
  | some inf =>
    match inf.scale with
    | .none =>
      ⟨rows.zipIdx.map (fun p => p.1.zipIdx.map (fun q =>
        let cv := convertPlain fmt (epiMode td rs (p.2 * n + q.2)) prop q.1.1
        ⟨q.1.1, q.1.2, cv, decodeElem fmt cv.code 0 f32One⟩)), [], false⟩
    | k =>
      let coarse := epiCoarse td
      let conv (ys : List ((Nat × Bool) × Nat)) : BlockConv :=
        convertBlock inf.elem k coarse prop (ys.map (fun y => (y.1.1, epiMode td rs y.2)))
      if epiBlkaxis td then
        let nb := ceilDiv rows.length k.block
        let col (b j : Nat) : List ((Nat × Bool) × Nat) :=
          (((rows.drop (b * k.block)).take k.block).map (fun r => r.getD j (0, false))).zipIdx.map
            (fun y => (y.1, (b * k.block + y.2) * n + j))
        let blocks := (List.range nb).map (fun b => (List.range n).map (fun j => (col b j, conv (col b j))))
        let row (i : Nat) : List OutElem :=
          (blocks.getD (i / k.block) []).map (fun bc =>
            (blockElems fmt coarse (bc.1.map (·.1)) bc.2).getD (i % k.block) ⟨0, false, ⟨0, false, false⟩, 0⟩)
        ⟨(List.range rows.length).map row, blocks.map (fun bl => bl.map (fun bc => bc.2.scale)),
          blocks.any (fun bl => bl.any (fun bc => bc.2.capped))⟩
      else
        let conved := rows.zipIdx.map (fun p =>
          (List.range (n / k.block)).map (fun b =>
            let ys := ((p.1.drop (b * k.block)).take k.block).zipIdx.map (fun y => (y.1, p.2 * n + b * k.block + y.2))
            (ys.map (·.1), conv ys)))
        ⟨conved.map (fun bl => (bl.map (fun bc => blockElems fmt coarse bc.1 bc.2)).flatten),
          conved.map (fun bl => bl.map (fun bc => bc.2.scale)), conved.any (fun bl => bl.any (fun bc => bc.2.capped))⟩

/-- R62: the raw INT32 path: entries written unchanged. DESIGN CHOICE (log entry 109): for the statistics of R77, which name what enters a step 6 that
this path does not run, an entry counts with its FP32 rounding and no error. -/
def rawTile (rows : List (List Nat)) : OutTile :=
  ⟨rows.map (fun r => r.map (fun v =>
    let y := f32OfInt (toSigned v 32)
    ⟨y, false, ⟨v, false, false⟩, y⟩)), [], false⟩

/-! ## Writing the outputs -/

/-- Write pieces one after another at device virtual addresses; the first failure ends the writing. -/
def State.writeAll (s : State) (ctx : Nat) : List (Nat × List Byte) → State × Status
  | [] => (s, .ok)
  | (a, bs) :: t =>
    match s.dvaWrite ctx a bs with
    | (s, .ok) => s.writeAll ctx t
    | r => r

/-- The writes of an output tile, in order: elements, then scale rows. -/
def outWrites (td : List Byte) (o : OutTile) : List (Nat × List Byte) :=
  let w := fmtBits (epiOutfmt td)
  o.rows.zipIdx.map (fun p =>
      (tdOut td + p.2 * tdOutstride td, leBytes (packedBytes w p.1.length) (packRow w (p.1.map (·.conv.code)))))
    ++ o.scales.zipIdx.map (fun p =>
      (tdRowscale td + p.2 * tdScalestride td, p.1.map (BitVec.ofNat 8)))

/-- The first `rows` rows of n entries of an accumulator. -/
def accRows (vals : List Nat) (n rows : Nat) : List (List Nat) := (List.range rows).map (fun i => (vals.drop (i * n)).take n)

/-- n FP32 or BF16 numbers at a device virtual address, as FP32. -/
def State.readVector (s : State) (c dva n : Nat) (isBf16 : Bool) : Except Status (List Nat) :=
  let w := if isBf16 then 2 else 4
  (s.dvaRead c dva (n * w)).map (fun b =>
    (List.range n).map (fun k => let v := fieldAt b (k * w) w; if isBf16 then v * 65536 else v))

/-- The vectors a tile's steps 2 and 3 read: ROWVEC or COLVEC values and the bias. -/
def State.epiVectors (s : State) (c : Nat) (td : List Byte) (rows : Nat) : Except Status (List Nat × List Nat) :=
  let vec := if epiRowmode td = 1 then s.readVector c (tdVec td) rows false
    else if epiRowmode td = 2 then s.readVector c (tdVec td) (tdN td) false else .ok []
  match vec with
  | .error e => .error e
  | .ok u =>
    match (if epiBiasen td then s.readVector c (tdBias td) (tdN td) (epiBiasfmt td) else .ok []) with
    | .error e => .error e
    | .ok b => .ok (u, b)

/-- R62 to R79: the drain of a tile that does not route: its outputs, save, row scales and statistics record. -/
def State.drainPlain (s : State) (n : Nat) (t : Tile) (a : Acc) : State × Tile :=
  let td := t.td
  let c := t.ctx
  let prop := s.propagates c
  match s.epiVectors c td t.written with
  | .error e => (s, t.fail e 0)
  | .ok (u, b) =>
    let rs := (s.chosorList c (islCluster n) (genCluster n) 256 0 (t.written * outCols td)).map (· % 65536)
    let s := if epiRound td then s.chosorTaken (islCluster n) 256 (t.written * outCols td) else s
    let accs := accRows a.vals a.n t.written
    let pre := accs.zipIdx.map (fun p => scaleBias td (p.1.map (epiScale td)) (u.getD p.2 0) u b)
    let vals := pre.map (fun p => (actRow td p.1).map (clipValue td prop))
    let out := if rawInt td then rawTile accs else convertTile td prop rs vals
    let amax := if epiRowmode td = 3 then pre.zipIdx.map (fun p => (tdRowscale td + 4 * p.2, leBytes 4 p.1.2)) else []
    let save := if s.tileSaves c td then
        pre.zipIdx.map (fun p => (s.saveAddr c td p.2, saveRow (epiAct td) (s.rd .lrnSavecoarse c) prop p.1.1))
      else []
    let stats := if epiStaten td then
        [(tdStats td, statsRecord out.rows.flatten t.accSat out.capped (epiMse td))] else []
    let (s, st) := s.writeAll c (outWrites td out ++ amax ++ save ++ stats)
    (s, { t.after st with acc := none })

/-! ## The expert router (R104 to R106) -/

/-- R104: a logit enters a row's eight largest; ties go to the lower expert. -/
def insertLogit (x e : Nat) : List (Nat × Nat) → List (Nat × Nat)
  | [] => [(x, e)]
  | p :: t => if f32Lt p.1 x ∨ (!f32Lt x p.1 ∧ e < p.2) then (x, e) :: p :: t else p :: insertLogit x e t

/-- R104: one logit of an expert enters a row. -/
def BandRow.take (r : BandRow) (x e : Nat) : BandRow :=
  ⟨(insertLogit x e r.top).take 8, r.logits ++ [x], r.bad || !f32Finite x⟩

/-- R104: a tile's values enter the rows of a band. -/
def bandTake (td : List Byte) (rows : List BandRow) (vals : List (List Nat)) : List BandRow :=
  rows.zipIdx.map (fun p =>
    (vals.getD p.2 []).zipIdx.foldl (fun r q =>
      let e := tdExpert td + q.2
      if e < tdRe td then r.take q.1 e else r) p.1)

/-- R105: the chosen experts of a row with their weights, in descending order; none for an unrouted row. DESIGN CHOICE (log entry 108): the sum of the
chosen weights, whose order and rounding the spec does not give, is formed by FP32 additions in descending order. -/
def BandRow.choices (td : List Byte) (r : BandRow) : List (Nat × Nat) :=
  if r.bad then []
  else
    let top := r.top.take (tdRk td)
    let mx := (top.headD (0, 0)).1
    let w (x : Nat) : Nat :=
      if tdRscore td then (Config.transcend 6 (BitVec.ofNat 32 x)).toNat
      else f32Div (Config.transcend 0 (BitVec.ofNat 32 (f32Sub x mx))).toNat (Config.expSum r.logits).toNat
    let ws := top.map (fun p => (p.2, w p.1))
    if tdRrenorm td then
      let sum := (ws.map (·.2)).foldl f32Add 0
      ws.map (fun p => (p.1, f32Div p.2 sum))
    else ws

/-- R106: one routed choice takes its place in the dispatch region at `aux`; true where it is dropped. -/
def State.dispatch (s : State) (c aux cap token e rank : Nat) : State × Except Status Bool :=
  match s.dvaNat c (aux + 4 * e) 4 with
  | .error st => (s, .error st)
  | .ok d =>
    match s.dvaWrite c (aux + 4 * e) (leBytes 4 (d + 1)) with
    | (s, .ok) =>
      if d < cap then
        match s.dvaWrite c (aux + 4096 + 4 * cap * e + 4 * d) (leBytes 4 (token + 2 ^ 24 * rank)) with
        | (s, .ok) => (s, .ok false)
        | (s, st) => (s, .error st)
      else (s, .ok true)
    | (s, st) => (s, .error st)

/-- R105, R106: the choices of one row are dispatched in order: the state, the entries of the route record, any dropped. -/
def State.dispatchRow (s : State) (c : Nat) (td : List Byte) (token : Nat) :
    List (Nat × Nat) → Nat → State × Except Status (List Byte × Bool)
  | [], _ => (s, .ok ([], false))
  | (e, w) :: t, rank =>
    match s.dispatch c (tdAux td) (tdCap td) token e rank with
    | (s, .error st) => (s, .error st)
    | (s, .ok drop) =>
      match s.dispatchRow c td token t (rank + 1) with
      | (s, .error st) => (s, .error st)
      | (s, .ok (bs, d)) =>
        (s, .ok (leBytes 2 e ++ leBytes 1 (b2n drop) ++ zeros 1 ++ leBytes 4 w ++ bs, drop || d))

/-- R105: an unused entry of a route record. -/
def routeUnused (n : Nat) : List Byte := (List.replicate n (leBytes 2 0xFFFF ++ zeros 6)).flatten

/-- R105, R106: the rows of a finished band are routed in ascending order. -/
def State.routeRows (s : State) (t : Tile) : List (BandRow × Nat) → State × Tile
  | [] => (s, t.finish)
  | (r, i) :: rest =>
    let cs := r.choices t.td
    match s.dispatchRow t.ctx t.td (tdRowbase t.td + i) cs 0 with
    | (s, .error st) => (s, t.fail st 0)
    | (s, .ok (bs, d)) =>
      match s.dvaWrite t.ctx (tdOut t.td + i * tdOutstride t.td) (bs ++ routeUnused (8 - cs.length)) with
      | (s, .ok) => s.routeRows { t with dispDrop := t.dispDrop || d, routeNf := t.routeNf || r.bad } rest
      | (s, st) => (s, t.fail st 0)

/-- R104: a router tile's band before it: a new one at TD_RFIRST. -/
def bandBefore (td : List Byte) (b : Option Band) : Band :=
  match b with
  | some b => if tdRfirst td then ⟨tdM td, tdRowbase td, List.replicate (tdM td) ⟨[], [], false⟩⟩ else b
  | none => ⟨tdM td, tdRowbase td, List.replicate (tdM td) ⟨[], [], false⟩⟩

/-- R104 to R106: the drain of a router tile on cluster n. -/
def State.drainRoute (s : State) (n : Nat) (t : Tile) (a : Acc) : State × Tile :=
  let b := bandBefore t.td (s.slot n t.slot).band
  let vals := (accRows a.vals a.n t.written).map (fun r => r.map (epiScale t.td))
  let rows := bandTake t.td b.rows vals
  let t := { t with acc := none }
  let wrStats (s : State) (t : Tile) : State × Tile :=
    if t.status = .ok ∧ epiStaten t.td then
      match s.dvaWrite t.ctx (tdStats t.td) (statsRecord [] t.accSat false (epiMse t.td)) with
      | (s, .ok) => (s, t)
      | (s, st) => (s, t.fail st 0)
    else (s, t)
  if tdRlast t.td then
    let s := s.modSlot n t.slot (fun x => { x with band := none })
    let (s, t) := s.routeRows t ((rows.take t.written).zipIdx)
    wrStats s t
  else
    let s := s.modSlot n t.slot (fun x => { x with band := some { b with rows := rows } })
    wrStats s t.finish

end Sys2Proof.Machine
end

