-- ==== Sys2Proof/Machine/ClusterOps.lean ====
section
/-!
DEFINITION. The tile sequencer's operations (R82 to R89, R107, R113 to R117, R372): which tile is next, virtual time, the end of tiles
and tasks, and the fencing of a cluster (R110).
-/
namespace Sys2Proof.Machine
open Sys2Proof

/-- A context starts no work: it is not RESIDENT, or failure hiding has quiesced it (R339, R342, R344, R353). -/
def State.stopped (s : State) (c : Nat) : Bool := s.rd .ctxState c ≠ 2 || s.fhHolds c

/-! ## Which tile is next -/

/-- The 192 bytes of a descriptor. -/
def State.tdAt (s : State) (c dva : Nat) : Except Status (List Byte) := s.dvaRead c dva 192

/-- The accumulator region of a tile's slot in bytes: base and size (R96, R97). -/
def State.accRegion (s : State) (c half : Nat) (td : List Byte) : Nat × Nat :=
  if s.isLearn c then (tdAccslot td * footprint td, footprint td) else (half * (s.accSlice c / 2), footprint td)

/-- The region of an accumulator that is draining. -/
def State.drainRegion (s : State) (c : Nat) (a : Acc) : Nat × Nat :=
  (if s.isLearn c then a.slot * a.bytes else a.slot * (s.accSlice c / 2), a.bytes)

/-- R96, R97, R104: a tile of slot k waits for a drain: of an accumulator its own meets, or of the band it continues. -/
def State.drainWait (s : State) (n k c : Nat) (td : List Byte) : Bool :=
  (tdKind td = 0 || tdKind td = 1) &&
  (s.cluster n).tiles.any (fun t => t.slot = k && t.stage = .draining &&
    ((tdRoute td && tdKind td = 0 && tdRoute t.td) ||
      (match t.acc with
       | none => false
       | some a =>
         let (b, m) := s.accRegion c (s.slot n k).half td
         let (b', m') := s.drainRegion c a
         rangesMeet b m b' m')))

/-- R82, R96: a descriptor of slot k waits: for a drain (R96, R97, R104); or, one that is neither MATMUL nor ATTN, for the completion of the chain's
earlier tiles. -/
def State.mustWait (s : State) (n k c : Nat) (td : List Byte) : Bool :=
  s.drainWait n k c td || (2 ≤ tdKind td && (s.cluster n).tiles.any (fun t => t.slot = k && !t.deferred))

/-- R96: the queued entry at a DVA waits for a drain. -/
def State.queueWaits (s : State) (n k c dva : Nat) : Bool :=
  match s.tdAt c dva with
  | .ok td => s.drainWait n k c td
  | .error _ => false

/-- R115: does a COPY_IN write scratch that a queued tile reads? -/
def copyMeets (td q : List Byte) : Bool :=
  (copyArrays td).any (fun w => (matmulArrays q).any (fun a => rangesMeet w.off w.bytes a.off a.bytes))

/-- R115: how many entries of the queue an element that meets the condition last stands at. -/
def upToLast (p : Nat → Bool) (q : List Nat) : Nat :=
  (q.zipIdx.foldl (fun m e => if p e.1 then e.2 + 1 else m) 0)

/-- R115: how many queued entries run before a chain descriptor. -/
def State.forcedBy (s : State) (n k c : Nat) (td : List Byte) : Nat :=
  let q := (s.slot n k).queue
  let meets (f : List Byte → Bool) (dva : Nat) : Bool := match s.tdAt c dva with
    | .ok b => f b
    | .error _ => false
  if tdDefer td then (if 64 ≤ q.length then 1 else 0)
  else if tdFence td then q.length
  else if tdKind td = 0 then
    upToLast (meets (fun b =>
      let (x, m) := s.accRegion c 0 td
      let (y, l) := s.accRegion c 0 b
      rangesMeet x m y l)) q
  else if tdKind td = 2 then upToLast (meets (copyMeets td)) q
  else 0

/-- What stands next for a slot. -/
inductive NextTile where
  /-- R114: no chain tile is ready. -/
  | none
  /-- R115: a queued entry runs first. -/
  | forced (dva : Nat)
  /-- The chain's next descriptor, read or not. -/
  | chain (task : Task) (td : Except Status (List Byte))

/-- R114: is the slot's next chain tile ready, and what is it? -/
def State.nextTile (s : State) (n k : Nat) : NextTile :=
  let x := s.slot n k
  match x.task with
  | none => .none
  | some t =>
    if s.stopped t.ctx ∨ x.tally.isSome then .none
    else if t.ended then
      match x.queue with
      | d :: _ => if t.lastDone ∧ !s.queueWaits n k t.ctx d then .forced d else .none
      | [] => .none
    else
      match s.tdAt t.ctx t.next with
      | .error e => .chain t (.error e)
      | .ok td =>
        match (if 0 < s.forcedBy n k t.ctx td then x.queue.head? else none) with
        | some d => if s.queueWaits n k t.ctx d then .none else .forced d
        | none => if !tdDefer td ∧ s.mustWait n k t.ctx td then .none else .chain t (.ok td)

/-- A ready chain tile (R114). -/
def NextTile.ready : NextTile → Bool
  | .none => false
  | _ => true

/-- R114, R96: a deferred queue whose head may run. -/
def State.deferReady (s : State) (n k : Nat) : Bool :=
  match (s.slot n k).task, (s.slot n k).queue with
  | some t, d :: _ => !s.stopped t.ctx && !s.queueWaits n k t.ctx d
  | _, _ => false

/-- R372: contexts that have become ready take V = max(V, least V of the contexts ready at that moment). -/
def State.readyTime (s : State) (n : Nat) : State :=
  let ready := (List.range 8).filter (fun k => (s.nextTile n k).ready || s.deferReady n k)
  let least := (ready.filter (fun k => (s.slot n k).wasReady)).map (fun k => (s.slot n k).v)
  (List.range 8).foldl (fun s k =>
    let x := s.slot n k
    let r := ready.contains k
    let v := if r && !x.wasReady then (match least with
      | [] => x.v
      | a :: t => max x.v (t.foldl min a)) else x.v
    if x.v = v ∧ x.wasReady = r then s else s.setSlot n k { x with v := v, wasReady := r }) s

/-- R372: of some slots, the one with the least V; ties go to the lower slot. -/
def State.leastV (s : State) (n : Nat) (ks : List Nat) : Option Nat := argMin (fun k => (s.slot n k).v) ks

/-- R372: virtual time charged for n cycles of a context at slot k of a cluster. -/
def State.chargeV (s : State) (n k c cyc : Nat) : State :=
  s.modSlot n k (fun x => { x with v := (x.v + cyc * 65536 / max 1 (s.rd .ctxWeight c)) % 2 ^ 64 })

/-! ## Starting a tile -/

/-- R86: every check of a descriptor before its tile starts. -/
def State.tdCheck (s : State) (n k c : Nat) (td : List Byte) : Status :=
  let kind := tdKind td
  firstBad [
    refuseIf (7 ≤ kind) .cluKindReserved,
    tallyOpCheck td,
    s.deferCheck c td,
    strideCheck td,
    if kind = 0 then s.matmulCheck n k c td
    else if kind = 1 then s.attnCheck n k c td (s.epiCheck c td)
    else if kind = 2 ∨ kind = 3 then s.copyCheck c td
    else .ok]

/-- R107: predication: the tile is skipped, or runs and writes some of its rows. -/
def State.predicate (s : State) (t : Tile) : State × Tile :=
  if tdKind t.td ≠ 0 ∨ !tdPreden t.td then (s, t)
  else
    match s.readDva t.ctx (tdAux t.td + 4 * tdExpert t.td) 4 with
    | (s, .error e) => (s, t.fail e 0)
    | (s, .ok b) =>
      let r := min (leNat b) (tdCap t.td)
      if r ≤ tdRowbase t.td then (s, { t with skipped := true, pred := true }.finish)
      else
        let left := r - tdRowbase t.td
        (s, { t with pred := true, written := if tdPredclamp t.td then min (tdM t.td) left else tdM t.td })

/-- The mode that CLU_RUN shows for a kind (R111). DESIGN CHOICE (log entry 115): the table does not say which tiles wait; a COPY or FENCE tile shows
WAITING, and so does a VECTOR tile while a KC.TWAIT holds it (State.showHeld). -/
def runMode (kind : Nat) : Nat := if kind = 0 ∨ kind = 1 then 1 else if kind = 4 then 2 else 3

/-- A tile starts on cluster n: checked, predicated, and on its unit; a TALLY tile holds only the task slot (R87). DESIGN CHOICE (log entry 116):
CLU_CURCTX, the context of the current or last tile, is that of the last tile that took a unit of the cluster: neither a TALLY tile nor one refused at
its check changes it. -/
def State.startTile (s : State) (n k c dva : Nat) (td : List Byte) (deferred : Bool) : State :=
  let t := Tile.start k c dva td deferred
  match s.tdCheck n k c td with
  | .ok =>
    let s := s.countDvaRead c dva 192
    if tdKind td = 5 then s.modSlot n k (fun x => { x with tally := some t })
    else
      let (s, t) := if tdFence td && (s.cluster n).draining then (s, t) else s.predicate t
      (s.setCur n (some t)).cluRun n (runMode (tdKind td)) c
  | st => (s.countDvaRead c dva 192).setCur n (some (t.fail st 0))

/-- R82: the chain moves past a descriptor. -/
def Task.advance (t : Task) (td : List Byte) : Task :=
  { t with next := t.next + 192, reached := t.reached + 1, ended := tdLast td || t.reached + 1 = 65536, sawLast := tdLast td }

/-! ## The end of a task (R95, R104, R116, R371) -/

/-- R95, R104, R116: what the last tile of a task reports besides: held accumulators, an open band. -/
def releaseStatus (x : Slot) : Status :=
  if x.band.isSome then .cluRouteConfig else if x.held ≠ [] then .cluAccHeld else .ok

/-- R473, R88: a tile of a context fails at a cluster's page: the error, and the event with the descriptor's DVA. -/
def State.tileError (s : State) (n c dva info : Nat) (st : Status) : State :=
  let s := (s.recordError (cluPage n) st info).raise (cluPage n) st (some c) dva info
  if stepFaultStatus st then s.stepFault c else s

/-- R82, R116, R371: the slot is released, and the task's record written: its first failure, CLU_CHAIN_LONG of a chain without TD_LAST, or OK. -/
def State.releaseTask (s : State) (n k : Nat) (t : Task) : State :=
  let long : Bool := t.fail.isNone && t.reached = 65536 && !t.sawLast
  let s := if long then s.tileError n t.ctx t.last 0 .cluChainLong else s
  let fail := if long then some (Status.cluChainLong, t.last) else t.fail
  let s := s.setSlotShown n k (fun x => { x with task := none, held := [], band := none })
  match fail with
  | some (f, d) => s.workDone 5 t.complete t.cring f.code t.ring t.tag d t.done n
  | none => s.workDone 5 t.complete t.cring 0 t.ring t.tag t.entry t.done n

/-- Slot k of a cluster has a tile in flight. -/
def State.slotBusy (s : State) (n k : Nat) : Bool :=
  (s.cluster n).cur.any (fun c => c.slot = k) || (s.cluster n).tiles.any (fun c => c.slot = k) || (s.slot n k).tally.isSome

/-- R116: release a task whose chain is over, with no tile of it in flight and nothing queued. -/
def State.maybeRelease (s : State) (n k : Nat) : State :=
  let x := s.slot n k
  match x.task with
  | none => s
  | some t =>
    if t.ended ∧ !s.slotBusy n k ∧ x.queue = [] then s.releaseTask n k t else s

/-- A task ends with its first failure. -/
def Task.failed (t : Task) (st : Status) (dva : Nat) : Task :=
  { t with ended := true, fail := match t.fail with
    | some f => some f
    | none => some (st, dva) }

/-! ## The end of a tile (R88) -/

/-- The signal of a completed tile (R88, R259). -/
def State.tileSignal (s : State) (n : Nat) (t : Tile) : State × Status :=
  if tdKind t.td ≠ 5 ∧ tdTallyOp t.td = 1 then s.tallySignal (bankOfIsland (islCluster n)) t.ctx (tdTallyId t.td) (tdTallyN t.td) false
  else (s, .ok)

/-- R111, R113, R428, R429: what a completed tile counts in. -/
def State.tileCounts (s : State) (n : Nat) (t : Tile) : State :=
  let s := s.bump .cluTiles n 1
  let s := if t.skipped then s.bump .cluSkipped n 1 else s
  let s := if t.deferred then s.bump .lrnDefrun t.ctx 1 else s
  if t.skipped then s
  else if tdKind t.td = 0 ∨ tdKind t.td = 1 then s.meterMacs t.ctx t.rate t.macs
  else if tdKind t.td = 4 then s.meterVector t.ctx t.cycles
  else s

/-- The task of a completed tile: one more descriptor done; a failure ends it. -/
def Task.tileDone (t : Task) (x : Tile) : Task :=
  let t := { t with done := t.done + 1, last := x.dva, lastDone := t.lastDone || (x.last && !x.deferred) }
  if x.status = .ok then t else t.failed x.status x.dva

/-- R86: the queued descriptors that a failed one leaves: those before it in chain order. -/
def State.dropLater (s : State) (n : Nat) (t : Tile) : State :=
  if t.status = .ok then s else s.modSlot n t.slot (fun x => { x with queue := x.queue.filter (· < t.dva) })

/-- R95, R104, R116: a tile that is otherwise good ends its task, and the release finds held accumulators or an open band: the tile reports it. -/
def State.lastReports (s : State) (n : Nat) (t : Tile) : Tile :=
  let x := s.slot n t.slot
  match x.task with
  | none => t
  | some k =>
    let k := k.tileDone t
    if t.status = .ok ∧ k.fail.isNone ∧ k.ended ∧ !s.slotBusy n t.slot ∧ x.queue = [] then { t with status := releaseStatus x } else t

/-- R88: a tile that is ready completes: its done record is its last write, then it signals; one that failed ends its task. The first
failure of a tile whose done record cannot be written is that of the write. A completion signal that would fail is the tile's failure, which TD_STATUS
holds (R263). -/
def State.completeTile (s : State) (n : Nat) (t : Tile) : State :=
  let t := s.lastReports n t
  let sig := if t.status = .ok then (s.tileSignal n t).2 else .ok
  let t := if sig = .ok then t else { t with status := sig }
  let (s, w) := s.dvaWrite t.ctx (t.dva + 176) (doneRecord t)
  let t := if w = .ok ∨ t.status ≠ .ok then t else { t with status := w }
  let s := if t.accSat then s.bump .cluAccsat n 1 else s
  let s := if t.status = .ok then ((s.tileSignal n t).1).tileCounts n t else s.tileError n t.ctx t.dva t.info t.status
  let s := (s.modSlot n t.slot (fun x => { x with task := x.task.map (·.tileDone t) })).dropLater n t
  s.maybeRelease n t.slot

/-! ## Fencing (R110, R117, R380) -/

/-- R117: the queues of a fenced cluster are discarded and their tasks end with LRN_DEFER_LOST. R110: running tiles end with their current status;
DESIGN CHOICE (log entry 113): a task with descriptors left, nothing queued and no failure ends as if it had reached its end, so with status OK. -/
def State.loseQueue (s : State) (n k : Nat) : State :=
  let x := s.slot n k
  match x.task with
  | none => s
  | some t =>
    let s := if x.queue = [] then s
      else (s.tileError n t.ctx t.next 0 .lrnDeferLost)
    s.modSlot n k (fun x => { x with queue := [], task := some (if x.queue = [] then { t with ended := true, lastDone := true }
      else t.failed .lrnDeferLost t.next) })

/-- R110: a cluster is fenced: no further tile is issued, its tasks end with their current status, its queues are lost, the contexts'
lane counts follow, and the health monitor is informed. A tile that has started ends first (log entry 46). -/
def State.fenceCluster (s : State) (n reason : Nat) : State :=
  if s.flag .cluFenced n then s
  else
    let s := ((s.wr .cluFenced n 1).wr .cluFenceReason n reason).wr .fenced (cluPage n) 1
    let s : State := { s with health := { s.health with fencedEver := true, fencedAt := some s.now } }
    let s := (List.range 8).foldl (fun s k => (s.loseQueue n k).maybeRelease n k) s
    let s := (List.range 64).foldl (fun s c => if bitAt (s.rd .ctxMask c) n then s.lanesChanged c else s) s
    if s.usableClusters < s.rd .fhMinclusters 0 then s.declareFault .fhSelfFault else s

/-- R110: a residue mismatch is counted; the third within 1 s of device time fences the cluster. -/
def State.residueError (s : State) (n : Nat) : State :=
  let s := s.bump .cluResidueErr n 1
  let recent := ((s.cluster n).residues.filter (fun a => s.now < a + 1000000000)) ++ [s.now]
  let s := s.setCluster n { s.cluster n with residues := recent }
  let s : State := { s with health := { s.health with residueAt := some s.now } }
  if 3 ≤ recent.length then s.fenceCluster n 1 else s

end Sys2Proof.Machine
end

