-- ==== Sys2Proof/Machine/UpdateOps.lean ====
section
/-!
DEFINITION. Update descriptors (R129 to R133, R135): fields, checks, constants, the optimisers' arithmetic, and the reading and writing
of regions.
-/
namespace Sys2Proof.Machine
open Sys2Proof

/-! ## The descriptor (R129) -/

def udOp (u : List Byte) : Nat := tdf u 0 0 4
def udLast (u : List Byte) : Bool := tdf u 0 4 1 = 1
def udFence (u : List Byte) : Bool := tdf u 0 5 1 = 1
def udSr (u : List Byte) : Bool := tdf u 0 6 1 = 1
def udGfmt (u : List Byte) : Nat := tdf u 1 0 5
def udMfmt (u : List Byte) : Nat := tdf u 1 8 5
def udWfmt (u : List Byte) : Nat := tdf u 1 16 5
def udNfmt (u : List Byte) : Nat := tdf u 1 24 5
def udCount (u : List Byte) : Nat := tdw u 2
def udStep (u : List Byte) : Nat := tdw u 3
def udMaster (u : List Byte) : Nat := tdq u 4
def udGrad (u : List Byte) : Nat := tdq u 6
def udM (u : List Byte) : Nat := tdq u 8
def udV (u : List Byte) : Nat := tdq u 10
def udWork (u : List Byte) : Nat := tdq u 12
def udNarrow (u : List Byte) : Nat := tdq u 14
def udNorm (u : List Byte) : Nat := tdq u 16
def udLr (u : List Byte) : Nat := tdw u 18
def udWd (u : List Byte) : Nat := tdw u 19
def udB1 (u : List Byte) : Nat := tdw u 20
def udB2 (u : List Byte) : Nat := tdw u 21
def udEps (u : List Byte) : Nat := tdw u 22
def udClip (u : List Byte) : Nat := tdw u 23
def udGcoarse (u : List Byte) : Nat := tdw u 24
def udMcoarse (u : List Byte) : Nat := tdw u 25
def udVcoarse (u : List Byte) : Nat := tdw u 26
def udWcoarse (u : List Byte) : Nat := tdw u 27
def udNcoarse (u : List Byte) : Nat := tdw u 28
def udTallyId (u : List Byte) : Nat := tdf u 29 0 16
def udTallyN (u : List Byte) : Nat := tdf u 29 16 8
def udTallyEn (u : List Byte) : Bool := tdf u 29 24 1 = 1

/-- The operations: 1 to 3 are optimisers. -/
def isOptimiser (op : Nat) : Bool := 1 ≤ op && op ≤ 3

/-! ## Regions (R130) -/

/-- A region of elements: its format, base, element count and coarse scale. -/
structure Reg1 where
  fmt : Nat
  base : Nat
  count : Nat
  coarse : Nat
  deriving DecidableEq, Repr

def Reg1.present (r : Reg1) : Bool := r.fmt ≠ fmtAbsent

/-- Where the scale array starts. -/
def Reg1.scaleOff (r : Reg1) : Nat := roundUp (r.count * fmtBits r.fmt / 8) 64

/-- The bytes of the region. -/
def Reg1.bytes (r : Reg1) : Nat :=
  if !r.present then 0
  else match fmtScale r.fmt with
    | .none => (r.count * fmtBits r.fmt + 7) / 8
    | k => r.scaleOff + ceilDiv r.count k.block

def Reg1.meets (a b : Reg1) : Bool := rangesMeet a.base a.bytes b.base b.bytes

/-- Read elements e to e + n - 1 of a region as FP32 codes. -/
def State.regRead (s : State) (c : Nat) (r : Reg1) (e n : Nat) : State × Except Status (List Nat) :=
  let w := fmtBits r.fmt
  match s.readDva c (r.base + e * w / 8) (n * w / 8) with
  | (s, .error st) => (s, .error st)
  | (s, .ok b) =>
    let v := leNat b
    let code (i : Nat) : Nat := packedAt v w i
    match fmtScale r.fmt with
    | .none => (s, .ok ((List.range n).map (fun i => decodeElem r.fmt (code i) 0 f32One)))
    | k =>
      match s.readDva c (r.base + r.scaleOff + e / k.block) (ceilDiv n k.block) with
      | (s, .error st) => (s, .error st)
      | (s, .ok sc) =>
        (s, .ok ((List.range n).map (fun i => decodeElem r.fmt (code i) (fieldAt sc (i / k.block) 1) r.coarse)))

/-- Elements converted for a region: codes, scales, how many were clipped, and whether a fine scale was capped. -/
structure Converted where
  codes : List Nat
  scales : List Nat
  clipped : Nat
  capped : Bool

/-- R133: convert a chunk's values, block by block for a block-scaled region. -/
def Reg1.convert (r : Reg1) (prop sr : Bool) (rs ys : List Nat) : Converted :=
  let mode (i : Nat) : Rounding := if sr then .sr (rs.getD i 0) else .rne
  match fmtInfo r.fmt with
  | none => ⟨[], [], 0, false⟩
  | some f =>
    match f.scale with
    | .none =>
      let cs := ys.zipIdx.map (fun y => convertPlain r.fmt (mode y.2) prop y.1)
      ⟨cs.map (·.code), [], (cs.filter (·.clipped)).length, false⟩
    | k =>
      let bs := (List.range (ceilDiv ys.length k.block)).map (fun b =>
        convertBlock f.elem k r.coarse prop (((ys.zipIdx.drop (b * k.block)).take k.block).map (fun y => (y.1, mode y.2))))
      let es := (bs.map (·.elems)).flatten
      ⟨es.map (·.code), bs.map (·.scale), (es.filter (·.clipped)).length, bs.any (·.capped)⟩

/-- The writes of converted elements from e on. -/
def Reg1.writes (r : Reg1) (e : Nat) (x : Converted) : List (Nat × List Byte) :=
  let w := fmtBits r.fmt
  (r.base + e * w / 8, leBytes (packedBytes w x.codes.length) (packRow w x.codes))
  :: (match fmtScale r.fmt with
      | .none => []
      | k => [(r.base + r.scaleOff + e / k.block, x.scales.map (BitVec.ofNat 8))])

def regMaster (u : List Byte) : Reg1 := ⟨0x00, udMaster u, udCount u, f32One⟩
def regGrad (u : List Byte) : Reg1 := ⟨udGfmt u, udGrad u, udCount u, udGcoarse u⟩
def regM (u : List Byte) : Reg1 := ⟨udMfmt u, udM u, udCount u, udMcoarse u⟩
def regV (u : List Byte) : Reg1 := ⟨udMfmt u, udV u, udCount u, udVcoarse u⟩
def regWork (u : List Byte) : Reg1 := ⟨udWfmt u, udWork u, udCount u, udWcoarse u⟩
def regNarrow (u : List Byte) : Reg1 := ⟨udNfmt u, udNarrow u, udCount u, udNcoarse u⟩

/-- R135: the norm record, 16 bytes. -/
def regNorm (u : List Byte) : Reg1 := ⟨0x00, udNorm u, 4, f32One⟩

/-- The regions a descriptor writes. -/
def udWritten (u : List Byte) : List Reg1 :=
  let op := udOp u
  let copies := [regWork u, regNarrow u].filter Reg1.present
  if isOptimiser op then [regMaster u, regM u] ++ (if op = 1 then [regV u] else []) ++ copies
  else if op = 4 then copies
  else if op = 0 then [regNorm u]
  else []

/-- The regions a descriptor only reads. -/
def udRead (u : List Byte) : List Reg1 :=
  if isOptimiser (udOp u) then regGrad u :: (if f32Lt 0 (udClip u) then [regNorm u] else []) else if udOp u = 0 then [regGrad u] else if udOp u = 4 then [regMaster u] else []

/-! ## Checks (R130, R57) -/

/-- A format code among some. -/
def fmtAmong (f : Nat) (l : List Nat) : Status :=
  if fmtReserved f then .fmtReserved else refuseIf (!l.contains f) .fmtUnsupported

/-- R58: the float-class codes. -/
def floatCodes : List Nat := [1, 2, 3, 4, 5, 6, 7, 0x10, 0x11, 0x12, 0x13, 0x14, 0x15, 0x16, 0x17, 0x18]

/-- An FP32 code that is finite and not negative. -/
def f32NonNeg (x : Nat) : Bool := f32Finite x && !f32Lt x 0

/-- An FP32 code in [0, 1). -/
def f32Unit (x : Nat) : Bool := f32NonNeg x && f32Lt x f32One

/-- Do two of a list of regions overlap? -/
def anyMeet : List Reg1 → Bool
  | [] => false
  | r :: t => t.any r.meets || anyMeet t

/-- R130: the checks of a descriptor. -/
def State.udCheck (s : State) (c : Nat) (u : List Byte) : Status :=
  let op := udOp u
  let opt := isOptimiser op
  let copies := opt || op = 4
  let prop := s.propagates c
  let coarseOk (r : Reg1) : Bool := !r.present || fmtScale r.fmt ≠ .kb || f32PosNormal r.coarse
  let regs := udWritten u ++ udRead u
  if op = 5 then refuseIf (udNorm u % 64 ≠ 0) .lrnUpdAlign
  else firstBad [
    refuseIf (udCount u = 0 || udCount u % 16 ≠ 0) .lrnUpdCount,
    if opt ∨ op = 0 then fmtAmong (udGfmt u) [0, 1, 2, 0x16] else .ok,
    if opt then fmtAmong (udMfmt u) [0, 1, 0x16] else .ok,
    if copies then fmtAmong (udWfmt u) [fmtAbsent, 1, 2, 3, 0x16] else .ok,
    if copies then fmtAmong (udNfmt u) (fmtAbsent :: floatCodes) else .ok,
    refuseIf (copies && prop && fmtNarrow (udNfmt u)) .fmtPropagateTarget,
    refuseIf (copies && fmtScale (udNfmt u) = .mx && udCount u % 32 ≠ 0) .fmtBlockAxis,
    refuseIf (regs.any (fun r => r.base % 64 ≠ 0)) .lrnUpdAlign,
    refuseIf (anyMeet (udWritten u) || ((opt || op = 0) && (udWritten u).any (fun r => r.meets (regGrad u)))) .lrnUpdOverlap,
    refuseIf (!regs.all coarseOk) .lrnUpdParam,
    refuseIf (opt && (!f32NonNeg (udLr u) || !f32NonNeg (udWd u) || !f32Unit (udB1 u) || !f32NonNeg (udClip u)
      || (op ≠ 3 && !f32Unit (udB2 u)) || (op = 1 && (!f32Finite (udEps u) || !f32Lt 0 (udEps u)))
      || udStep u = 0xFFFFFFFF)) .lrnUpdParam]

/-! ## Constants (R131) -/

def f64 (c : Nat) : Fp := fp64.decode c
def toF64 (x : Fp) : Nat := fp64.encode x
def f64One : Nat := 0x3FF0000000000000

/-- The binary64 product of two codes. -/
def f64Mul (a b : Nat) : Nat := toF64 (Fp.mul (f64 a) (f64 b))

/-- b^t by squaring from the lowest bit of t up: `acc` holds the product of the powers taken (none yet: none), b the next square. -/
def powLow : Nat → Nat → Nat → Option Nat → Nat
  | 0, _, _, acc => acc.getD f64One
  | n + 1, b, t, acc =>
    let acc := if t % 2 = 0 then acc else some (match acc with
      | none => b
      | some a => f64Mul a b)
    if t / 2 = 0 then acc.getD f64One else powLow n (f64Mul b b) (t / 2) acc

/-- b^t by squaring from the top bit of t down, over its n lowest bits. -/
def powTop (b t : Nat) : Nat → Nat → Nat
  | 0, acc => acc
  | n + 1, acc =>
    let sq := f64Mul acc acc
    powTop b t n (if t / 2 ^ n % 2 = 1 then f64Mul sq b else sq)

/-- R131: β^t in binary64 by repeated squaring, each product rounded to nearest even, in either order of the bits of t (log entry 15). -/
def powF64 (beta t : Nat) : Nat :=
  let b := toF64 (f32 beta)
  if Config.squaresFromTop then powTop b t (Nat.log2 t) b else powLow 33 b t none

/-- R131: 1 / (1 − β^t), rounded once to FP32. -/
def biasCorrection (beta t : Nat) : Nat :=
  let d := toF64 (Fp.add (f64 f64One) (f64 (powF64 beta t)).opp)
  toF32 (f64 (toF64 (Fp.div (f64 f64One) (f64 d))))

/-- R131: the constants c, d, a1, a2, b1, b2, from U and Q. -/
def updConsts (u : List Byte) (uscale q : Nat) : List Nat :=
  let sc := f32Div f32One uscale
  let n := f32Sqrt q
  let k := if f32Lt 0 (udClip u) ∧ f32Lt (udClip u) n then f32Div (udClip u) n else f32One
  let t := udStep u + 1
  [f32Mul sc k, f32Sub f32One (f32Mul (udLr u) (udWd u)), f32Sub f32One (udB1 u), f32Sub f32One (udB2 u),
    biasCorrection (udB1 u) t, biasCorrection (udB2 u) t]

/-! ## Arithmetic (R132) -/

/-- R132: the sign of an FP32 number as +1, −1 or 0; NaN stays NaN. -/
def f32Sign (x : Nat) : Nat :=
  if f32IsNan x then f32Nan else if f32Lt 0 x then f32One else if f32Lt x 0 then 0xBF800000 else 0

/-- R132: one element: w′, m′ and v′ from G, w, m and v. -/
def optStep (u : List Byte) (k : List Nat) (gr w m v : Nat) : Nat × Nat × Nat :=
  let a1 := k.getD 2 0
  let a2 := k.getD 3 0
  let lr := udLr u
  let wd := f32Mul w (k.getD 1 0)
  let g := f32Mul gr (k.getD 0 0)
  match udOp u with
  | 1 =>
    let m' := f32Add (f32Mul (udB1 u) m) (f32Mul a1 g)
    let v' := f32Add (f32Mul (udB2 u) v) (f32Mul a2 (f32Mul g g))
    let mh := f32Mul m' (k.getD 4 0)
    let vh := f32Mul v' (k.getD 5 0)
    let x := f32Div mh (f32Add (f32Sqrt vh) (udEps u))
    (f32Sub wd (f32Mul lr x), m', v')
  | 2 =>
    let x := f32Sign (f32Add (f32Mul (udB1 u) m) (f32Mul a1 g))
    (f32Sub wd (f32Mul lr x), f32Add (f32Mul (udB2 u) m) (f32Mul a2 g), 0)
  | _ =>
    let m' := f32Add (f32Mul (udB1 u) m) g
    (f32Sub wd (f32Mul lr m'), m', 0)

end Sys2Proof.Machine
end

