-- ==== Sys2Proof/Machine/Update.lean ====
section
/-!
DEFINITION. The update units' commands (chapter "The Learning Pass and the Update Units"): UPDATE entries, descriptors and their chunks,
the close of a step, and the learning registers' commands.
-/
namespace Sys2Proof.Machine
open Sys2Proof

/-- The register page of the learning blocks (R141), at which events of update work are raised. -/
def lrnPage : Nat := 0x420

/-! ## Chains (R126) -/

/-- The chain of a number. -/
def State.chain (s : State) (id : Nat) : Option Chain := s.upd.chains.find? (fun c => c.id = id)

/-- Replace a chain. -/
def State.setChain (s : State) (c : Chain) : State :=
  { s with upd := { s.upd with chains := s.upd.chains.map (fun x => if x.id = c.id then c else x) } }

/-- A chain is over. -/
def State.dropChain (s : State) (id : Nat) : State :=
  { s with upd := { s.upd with chains := s.upd.chains.filter (fun x => x.id ≠ id) } }

def UpdDesc.start (dva : Nat) (ud : List Byte) : UpdDesc := ⟨dva, ud, false, false, .ok, 0, [], 0, 0, 0, 0, 0, false, [], false, [], []⟩

/-- R130: a descriptor that fails writes nothing. -/
def UpdDesc.fail (d : UpdDesc) (st : Status) : UpdDesc := { d with ready := true, status := st, out := [] }

/-- R126, R129: the next descriptor of a chain is fetched; one that cannot be read, or whose operation is reserved, fails. -/
def State.loadDesc (s : State) (c : Chain) : State :=
  match s.readDva c.ctx c.next 192 with
  | (s, .error e) => s.setChain { c with desc := some ((UpdDesc.start c.next (zeros 192)).fail e) }
  | (s, .ok u) =>
    let d := UpdDesc.start c.next u
    s.setChain { c with desc := some (if 6 ≤ udOp u then d.fail .lrnUpdOp else d) }

/-- R44, R341: an event of a context about update work, and a step fault where the status is one. -/
def State.updError (s : State) (c dva : Nat) (st : Status) : State :=
  let s := (s.recordError lrnPage st 0).raise lrnPage st (some c) dva 0
  if stepFaultStatus st then s.stepFault c else s

/-- UPDATE_ENTRY_TAKE (R126, R370): the UPDATE entry at the head of a transfer ring starts a chain. -/
def execUpdateEntryTake (ring : Nat) (ecc : List (Nat × EccError)) (s : State) : Result :=
  let c := s.rd .dbCtx ring
  let held := s.fhHolds c
  let isWeave := match s.dvaRead c (s.entryDva ring (s.rd .dbHead ring)) 1 with
    | .ok b => leNat b % 16 = 2
    | .error _ => false
  if !(s.ringPending ring 1 && s.serves c) || held || isWeave then .next s
  else
    match (s.eccFound ecc).takeWork ring with
    | (s, none) => .next s
    | (s, some e) =>
      let refuse (st : Status) : Result :=
        .next ((s.workDone 6 e.complete e.cring st.code ring e.tag e.ptr 0 0).updError c e.ptr st)
      if e.kind ≠ 1 then .next (s.reservedEntry ring 6 (ctxPage c) e)
      else if !s.isLearn c then refuse .lrnUpdClass
      else if e.ptr % 64 ≠ 0 then refuse .lrnUpdAlign
      else
        let ch : Chain := ⟨s.upd.nextId, c, ring, e.dva, e.complete, e.cring, e.tag, e.ptr, 0, .ok, none⟩
        let s : State := { s with upd := ⟨s.upd.chains ++ [ch], s.upd.nextId + 1⟩ }
        .next (s.loadDesc ch)

/-! ## Starting a descriptor -/

/-- The descriptor of a chain that has been fetched, has not started, and is of an operation, while its context lives. -/
def State.descFor (s : State) (id op : Nat) : Option (Chain × UpdDesc) :=
  match s.chain id with
  | none => none
  | some c =>
    match c.desc with
    | none => none
    | some d => if !d.started ∧ !d.ready ∧ udOp d.ud = op ∧ s.ctxLive c.ctx then some (c, d) else none

/-- R131: NR_SUMSQ of the norm record, read only when τ > 0. -/
def State.normFor (s : State) (c : Nat) (u : List Byte) : State × Except Status Nat :=
  if f32Lt 0 (udClip u) then
    match s.readDva c (udNorm u) 16 with
    | (s, .ok b) => (s, .ok (fieldAt b 0 4))
    | (s, .error e) => (s, .error e)
  else (s, .ok 0)

/-- R28: a descriptor with UD_FENCE has to wait while another chain's results are not committed. -/
def State.fenceHeld (s : State) (id : Nat) (u : List Byte) : Bool :=
  udFence u && s.upd.chains.any (fun c => c.id ≠ id && (match c.desc with
    | none => false
    | some d => d.out ≠ []))

/-- Start a descriptor of an operation: its fence, its checks, a skipped step (R138), its constants. -/
def State.startDesc (s : State) (id op : Nat) : State :=
  match s.descFor id op with
  | none => s
  | some (c, d) =>
    let put (s : State) (d : UpdDesc) : State := s.setChain { c with desc := some d }
    if s.fenceHeld id d.ud then s
    else
      match s.udCheck c.ctx d.ud with
      | .ok =>
        if isOptimiser op ∧ s.flag .lrnStepskip c.ctx then put s (d.fail .lrnStepSkipped)
        else if isOptimiser op then
          match s.normFor c.ctx d.ud with
          | (s, .error e) => put s (d.fail e)
          | (s, .ok q) => put s { d with started := true, consts := updConsts d.ud (s.rd .lrnUscale c.ctx) q }
        else put s { d with started := true, consts := [f32Div f32One (s.rd .lrnLscale c.ctx)] }
      | e => put s (d.fail e)

/-- NORM (R135): the descriptor starts; its chunks form the sum. -/
def execNorm (id : Nat) (ecc : List (Nat × EccError)) (s : State) : Result := s.under (islHub) fun s =>
  .next ((s.eccFound ecc).startDesc id 0)

/-- ADAMW (R132): the descriptor starts, with its constants. -/
def execAdamw (id : Nat) (ecc : List (Nat × EccError)) (s : State) : Result := s.under (islHub) fun s =>
  .next ((s.eccFound ecc).startDesc id 1)

/-- LION (R132): the descriptor starts, with its constants. -/
def execLion (id : Nat) (ecc : List (Nat × EccError)) (s : State) : Result := s.under (islHub) fun s =>
  .next ((s.eccFound ecc).startDesc id 2)

/-- SGDM (R132): the descriptor starts, with its constants. -/
def execSgdm (id : Nat) (ecc : List (Nat × EccError)) (s : State) : Result := s.under (islHub) fun s =>
  .next ((s.eccFound ecc).startDesc id 3)

/-- CONVERT (R133): the descriptor starts. -/
def execConvert (id : Nat) (ecc : List (Nat × EccError)) (s : State) : Result := s.under (islHub) fun s =>
  .next ((s.eccFound ecc).startDesc id 4)

/-! ## Chunks (R127) -/

/-- The largest finite magnitude of some FP32 codes and a former one. -/
def amaxFinite (old : Nat) (l : List Nat) : Nat := f32Max old (amaxF32 (l.filter f32Finite))

/-- R127: the unit of a chunk: the channel that holds its first byte. DESIGN CHOICE (log entry 110): a first byte that no channel holds, in the CXL tier
or at an address that does not translate, gives the chunk to unit 0. -/
def State.unitAt (s : State) (c dva : Nat) : Nat :=
  match s.translate c dva .read false with
  | .ok p => if p.target = 0 then s.channelOf p.pa else 0
  | .error _ => 0

/-- What a chunk of NORM leaves: the unit's sum. -/
def UpdDesc.normChunk (d : UpdDesc) (ch : Nat) (gs : List Nat) : UpdDesc :=
  let k := d.consts.headD f32One
  let sq (g : Nat) : Nat := let x := f32Mul g k; f32Mul x x
  let sum := (gs.map sq).foldl f32Add 0
  let old := sget none d.sums ch
  let sum' := match old with
    | none => sum
    | some o => f32Add o sum
  { d with
    sums := sput none d.sums ch (some sum')
    bad := d.bad || gs.any (fun g => !f32Finite g) || !f32Finite sum || !f32Finite sum' }

/-- The three results of every element of an optimiser's chunk. -/
def optChunk (u : List Byte) (k gs ws ms vs : List Nat) : List (Nat × Nat × Nat) :=
  ws.zipIdx.map (fun w => optStep u k (gs.getD w.2 0) w.1 (ms.getD w.2 0) (vs.getD w.2 0))

/-- R132, R133: the writes of a chunk's results, with what its conversions leave. `moms` holds moments to write; a CONVERT has none. -/
def State.chunkWrites (s : State) (c ch e : Nat) (d : UpdDesc) (ws : List Nat) (moms : List (Reg1 × List Nat)) (master : Bool) :
    State × UpdDesc × List (Nat × List Byte) :=
  let u := d.ud
  let prop := s.propagates c
  let n := ws.length
  let sr := udSr u
  let rs (j : Nat) : List Nat := (s.chosorList c (islChannel ch) (genUpdate ch) 16 (n * j) n).map (· % 65536)
  let mconv := moms.zipIdx.map (fun m => (m.1.1, m.1.1.convert prop sr (rs m.2) m.1.2))
  let work := if (regWork u).present then [(regWork u, (regWork u).convert prop sr (rs 2) ws)] else []
  let narrow := if (regNarrow u).present then [(regNarrow u, (regNarrow u).convert prop false [] ws)] else []
  let all := mconv ++ work ++ narrow
  let s := if sr then s.chosorTaken (islChannel ch) 16 (3 * n) else s
  let d := { d with
    nclip := d.nclip + ((narrow.map (fun x => x.2.clipped)).foldl (· + ·) 0)
    capped := d.capped || all.any (fun x => x.2.capped) }
  let mw := if master then [((udMaster u) + 4 * e, (ws.map (leBytes 4)).flatten)] else []
  (s, d, mw ++ (all.map (fun x => x.1.writes e x.2)).flatten)

/-- Reads of several regions at one chunk, in order. -/
def State.regReads (s : State) (c e n : Nat) : List Reg1 → State × Except Status (List (List Nat))
  | [] => (s, .ok [])
  | r :: t =>
    match s.regRead c r e n with
    | (s, .error st) => (s, .error st)
    | (s, .ok x) =>
      match s.regReads c e n t with
      | (s, .ok l) => (s, .ok (x :: l))
      | q => q

/-- R132, R133: a chunk of an optimiser or of CONVERT; its results are kept until the descriptor is over (R130). DESIGN CHOICE (log entry 111): a
CONVERT over a non-finite master counts it as an optimiser counts a non-finite w′. -/
def State.optimiserChunk (s : State) (c ch e n : Nat) (d : UpdDesc) : State × UpdDesc :=
  let u := d.ud
  let op := udOp u
  let regs := if op = 4 then [regMaster u]
    else [regMaster u, regGrad u, regM u] ++ (if op = 1 then [regV u] else [])
  match s.regReads c e n regs with
  | (s, .error st) => (s, d.fail st)
  | (s, .ok l) =>
    let rs := if op = 4 then (l.getD 0 []).map (fun w => (w, 0, 0))
      else optChunk u d.consts (l.getD 1 []) (l.getD 0 []) (l.getD 2 []) (l.getD 3 [])
    let ws := rs.map (·.1)
    let ms := rs.map (·.2.1)
    let vs := rs.map (·.2.2)
    let moms := if op = 4 then [] else (regM u, ms) :: (if op = 1 then [(regV u, vs)] else [])
    let (s, d, wr) := s.chunkWrites c ch e d ws moms (op ≠ 4)
    let bad := (rs.filter (fun r => !(f32Finite r.1 && f32Finite r.2.1 && f32Finite r.2.2))).length
    (s.bump .updNonfin ch bad, { d with
      out := d.out ++ wr
      amaxW := amaxFinite d.amaxW ws
      amaxM := amaxFinite d.amaxM ms
      amaxV := amaxFinite d.amaxV vs
      nonfin := d.nonfin + bad })

/-- R142: a unit takes part in a descriptor, and shows what it runs. -/
def State.unitRuns (s : State) (c ch n : Nat) (d : UpdDesc) : State × UpdDesc :=
  let s := if d.units.contains ch then s else s.bump .updDesc ch 1
  let s := ((s.wr .updRun ch (if isOptimiser (udOp d.ud) then 1 else 2)).wr .updCtx ch c).bump .updElems ch n
  (s, { d with units := if d.units.contains ch then d.units else d.units ++ [ch] })

/-- UPDATE_CHUNK (R127): the next chunk of a chain's descriptor. -/
def execUpdateChunk (id : Nat) (ecc : List (Nat × EccError)) (s : State) : Result :=
  match s.chain id with
  | none => .next s
  | some c =>
    match c.desc with
    | none => .next s
    | some d =>
      let e := d.chunk * 4096
      if !d.started ∨ d.ready ∨ udOp d.ud = 5 ∨ udCount d.ud ≤ e ∨ !s.ctxLive c.ctx then .next s
      else
        let s := s.eccFound ecc
        let n := min 4096 (udCount d.ud - e)
        let first := if udOp d.ud = 0 then udGrad d.ud + e * fmtBits (udGfmt d.ud) / 8 else udMaster d.ud + 4 * e
        let ch := s.unitAt c.ctx first
        let (s, d) := s.unitRuns c.ctx ch n { d with chunk := d.chunk + 1 }
        if udOp d.ud = 0 then
          match s.regRead c.ctx (regGrad d.ud) e n with
          | (s, .error st) => .next (s.setChain { c with desc := some (d.fail st) })
          | (s, .ok gs) => .next (s.setChain { c with desc := some (d.normChunk ch gs) })
        else
          let (s, d) := s.optimiserChunk c.ctx ch e n d
          .next (s.setChain { c with desc := some d })

/-! ## The close of a step (R137) -/

/-- R333: the STEP_CLOSE of a context must capture a securing step, and which. -/
def State.secureDue (s : State) (c : Nat) : Option Nat :=
  let r := s.rd .fhRunstep 0
  let i := s.rd .fhInterval 0
  if s.flag .fhArm 0 ∧ s.rd .fhArmctx 0 = c ∧ s.rd .fhRole 0 = 0 ∧ (s.rd .fhState 0 = 1 ∨ s.rd .fhState 0 = 2) ∧ 0 < i
      ∧ s.rd .fhBase 0 ≤ r ∧ (r - s.rd .fhBase 0) % i = 0 then some r
  else none

/-- R137: the context's learning registers after a close with flag f. -/
def State.closeStep (s : State) (c : Nat) (f : Bool) : State :=
  let l := s.rd .lrnLscale c
  let on := s.flag .lrnLsen c
  let s := (s.wr .lrnUscale c l).bump .lrnStep c 1
  let s :=
    if f then
      let s := (s.bump .lrnSkips c 1).wr .lrnClean c 0
      if on ∧ f32Lt f32One l then s.wr .lrnLscale c (f32Mul l 0x3F000000)
      else if on then s.raise lrnPage .lrnLscaleFloor (some c) 0 0
      else s
    else
      let k := s.rd .lrnClean c + 1
      if s.rd .lrnGrowth c ≤ k then
        let s := s.wr .lrnClean c 0
        if on ∧ f32Lt l 0x4B800000 then s.wr .lrnLscale c (f32Mul l 0x40000000) else s
      else s.wr .lrnClean c k
  let s := (s.wr .lrnStepskip c (b2n f)).wr .lrnPendnf c 0
  if f then s.raise lrnPage .lrnStepSkipped (some c) 0 0 else s

/-- R428, R430: declared learning tokens are counted at the close. -/
def State.closeTokens (s : State) (c : Nat) : State :=
  let n := s.rd .mtrLearnpend c
  (if n = 0 then s else s.meterAdd c 2 n).wr .mtrLearnpend c 0

/-- R355: the loss-log entry of a run step: loss and flags, where it is valid and of that step. -/
def State.lossEntry (s : State) (step : Nat) : Option (Nat × Nat) :=
  match s.dvaRead (s.rd .fhArmctx 0) (s.rd .fhLossbase 0 + 16 * (step % 64)) 16 with
  | .ok b => if fieldAt b 0 8 = step ∧ bitAt (fieldAt b 12 4) 0 then some (fieldAt b 8 4, fieldAt b 12 4) else none
  | .error _ => none

/-- R346: do two loss-log entries match? -/
def lossMatch (tol a fa b fb : Nat) : Bool :=
  let mag (x : Nat) : Nat := toF32 (f32 x).abs
  bitAt fa 1 == bitAt fb 1 && (bitAt fa 1 || !f32Lt (f32Mul tol (f32Max (mag a) (mag b))) (mag (f32Sub a b)))

/-- R332, R346: a close of the armed context counts the run step; in REPLAY its loss is compared and reported to the lead. -/
def State.closeRun (s : State) (c : Nat) : State :=
  if s.flag .fhArm 0 ∧ s.rd .fhArmctx 0 = c then
    let step := s.rd .fhRunstep 0 + 1
    let s : State := { s.bump .fhRunstep 0 1 with fh := { s.fh with captured := none } }
    if s.rd .fhState 0 = 5 then
      let r := match s.fh.oldLoss, s.lossEntry step with
        | some (a, fa), some (b, fb) => if lossMatch (s.rd .fhTol 0) a fa b fb then 1 else 2
        | none, _ => 0
        | some _, none => 2
      s.ledgerTo (s.rd .fltLead 0) (.replayed r)
    else s
  else s

/-- STEP_CLOSE (R137): the reduced norm record closes the step, once a capture that falls due has been made (R333). -/
def execStepClose (id : Nat) (ecc : List (Nat × EccError)) (s : State) : Result := s.under (islHub) fun s =>
  match s.descFor id 5 with
  | none => .next s
  | some (c, d) =>
    let waits : Bool := match s.secureDue c.ctx with
      | some k => s.fh.captured ≠ some k
      | none => false
    if waits ∨ s.fenceHeld id d.ud then .next s
    else if s.udCheck c.ctx d.ud ≠ .ok then .next (s.setChain { c with desc := some (d.fail (s.udCheck c.ctx d.ud)) })
    else
      match (s.eccFound ecc).readDva c.ctx (udNorm d.ud) 16 with
      | (s, .error e) => .next (s.setChain { c with desc := some (d.fail e) })
      | (s, .ok b) =>
        let s := s.setChain { c with desc := some { d with started := true, ready := true } }
        .next (((s.closeStep c.ctx (bitAt (fieldAt b 4 4) 0)).closeTokens c.ctx).closeRun c.ctx)

/-! ## Completion -/

/-- R18: the statuses that are completion statuses of update descriptors. -/
def updCompletes (st : Status) : Bool := st = .ok || st = .lrnUpdNonfinite || st = .lrnStepSkipped

/-- R135: the norm record, and LRN_PENDNF where a non-finite value was met. -/
def State.writeNorm (s : State) (c : Nat) (d : UpdDesc) : State × Status :=
  let sum := (d.sums.filterMap (·.2)).foldl f32Add 0
  let met := d.bad || !f32Finite sum
  let s := if met then s.wr .lrnPendnf c 1 else s
  s.dvaWrite c (udNorm d.ud) (leBytes 4 sum ++ leBytes 4 (b2n (s.flag .lrnPendnf c)) ++ zeros 8)

/-- R129: words 36 to 41 of a descriptor, and UD_STEP of an optimiser that has run. -/
def State.writeDesc (s : State) (c : Nat) (d : UpdDesc) : State × Status :=
  let res := leBytes 4 (d.status.code + 2 ^ 16 * b2n d.capped) ++ leBytes 4 d.amaxW ++ leBytes 4 d.amaxM ++ leBytes 4 d.amaxV
    ++ leBytes 4 d.nclip ++ leBytes 4 d.nonfin
  let step := if isOptimiser (udOp d.ud) ∧ d.started ∧ updCompletes d.status then [(d.dva + 12, leBytes 4 (udStep d.ud + 1))] else []
  s.writeAll c ((d.dva + 144, res) :: step)

/-- R126, R371: the chain ends; its record is written. -/
def State.endChain (s : State) (c : Chain) (st : Status) (dva : Nat) : State :=
  (s.dropChain c.id).workDone 6 c.complete c.cring (if st = .ok then c.noted.code else st.code) c.ring c.tag
    (if st = .ok then c.entry else dva) c.done 0

/-- R130: a descriptor that fails ends its chain, does not signal, and the context receives an event. -/
def State.failDesc (s : State) (c : Chain) (d : UpdDesc) : State :=
  let s := (s.writeDesc c.ctx d).1
  (s.updError c.ctx d.dva d.status).endChain c d.status d.dva

/-- R127, R259: a completed descriptor signals its tally, and the chain goes on or ends. R263: where the signal fails, its writes stand, UD_STATUS holds
the status and the chain ends. -/
def State.passDesc (s : State) (c : Chain) (d : UpdDesc) : State :=
  let bank := match d.units with
    | ch :: _ => bankOfIsland (islChannel ch)
    | [] => bankOfIsland islHub
  let (s, st) := if udTallyEn d.ud then s.tallySignal bank c.ctx (udTallyId d.ud) (udTallyN d.ud) false else (s, .ok)
  if st ≠ .ok then s.failDesc c { d with status := st }
  else
    let c := { c with
      done := c.done + 1
      next := c.next + 192
      noted := if c.noted = .ok then d.status else c.noted
      desc := none }
    if udLast d.ud then s.endChain c .ok d.dva
    else if c.done = 65536 then (s.updError c.ctx d.dva .lrnUpdChain).endChain c .lrnUpdChain d.dva
    else s.loadDesc c

/-- R130: the results of a descriptor that has not failed are written, all or none. -/
def State.writeResults (s : State) (c : Nat) (d : UpdDesc) : State × Status :=
  match (if udOp d.ud = 0 then s.writeNorm c d else s.writeAll c d.out) with
  | (s', .ok) => (s', .ok)
  | (_, st) => (s, st)

/-- R127: every chunk of the descriptor has been processed, or it has ended otherwise. -/
def UpdDesc.ended (d : UpdDesc) : Bool := d.ready || (d.started && udOp d.ud ≠ 5 && udCount d.ud ≤ d.chunk * 4096)

/-- UPDATE_DESC_COMPLETE (R127): a descriptor whose chunks are all committed completes, and the chain moves on. -/
def execUpdateDescComplete (id : Nat) (s : State) : Result :=
  match s.chain id with
  | none => .next s
  | some c =>
    match c.desc with
    | none => .next s
    | some d =>
      if !d.ended ∨ !s.ctxLive c.ctx then .next s
      else
        let s := d.units.foldl (fun s ch => s.wr .updRun ch 0) s
        if !updCompletes d.status then .next (s.failDesc c d)
        else
          let (s, w) := s.writeResults c.ctx d
          let d := { d with status := if d.status = .ok ∧ d.nonfin ≠ 0 then .lrnUpdNonfinite else d.status }
          if w ≠ .ok then .next (s.failDesc c { d with status := w })
          else
            match s.writeDesc c.ctx d with
            | (s, .ok) => .next (s.passDesc c d)
            | (s, st) => .next (s.failDesc c { d with status := st })

/-! ## The learning registers' commands (R134, R139) -/

/-- R139: the loss scale that LRN_LSEN's value sets. -/
def State.scaleStart (s : State) (c : Nat) (on : Bool) : State :=
  if on then (s.wr .lrnLscale c 0x47800000).wr .lrnClean c 0 else s.wr .lrnLscale c f32One

/-- LRN_LSINIT (R139): the starting loss scale for the current LRN_LSEN. -/
def execLrnLsinit (rdr : Reader) (ctx v : Nat) (s : State) : Result :=
  if 64 ≤ ctx then .next (s.reply rdr .genAddrRange 0)
  else if !s.mayWriteCtx rdr ctx then .next (s.reply rdr .sesRights 0)
  else if v % 2 = 0 then .next (s.reply rdr .ok 0)
  else .next ((s.scaleStart ctx (s.flag .lrnLsen ctx)).reply rdr .ok 0)

/-- LRN_NFSET (R134): a write of 1 sets LRN_PENDNF. -/
def execLrnNfset (rdr : Reader) (ctx v : Nat) (s : State) : Result :=
  if 64 ≤ ctx then .next (s.reply rdr .genAddrRange 0)
  else if !s.mayWriteCtx rdr ctx then .next (s.reply rdr .sesRights 0)
  else if v % 2 = 0 then .next (s.reply rdr .ok 0)
  else .next ((s.wr .lrnPendnf ctx 1).reply rdr .ok 0)

end Sys2Proof.Machine
end

