-- ==== Sys2Proof/Machine/WeaveOps.lean ====
section
/-!
DEFINITION. Weave plans and entries (R227 to R241): fields, checks, shape, conversion, accumulation, and the writes that an entry makes at
its destinations.
-/
namespace Sys2Proof.Machine
open Sys2Proof

/-! ## The plan header (R228) -/

def wpEngine (h : List Byte) : Nat := fieldAt h 6 1 % 4
def wpWeights (h : List Byte) : Bool := bitAt (fieldAt h 7 1) 0
def wpEpochchk (h : List Byte) : Bool := bitAt (fieldAt h 7 1) 1
def wpGatehold (h : List Byte) : Bool := bitAt (fieldAt h 7 1) 2
def wpCount (h : List Byte) : Nat := fieldAt h 8 4
def wpEpoch (h : List Byte) : Nat := fieldAt h 12 4
def wpDonetally (h : List Byte) : Nat := fieldAt h 24 2
def wpDonen (h : List Byte) : Nat := fieldAt h 26 1

/-- R228: the header's checks. -/
def wpFormed (h : List Byte) : Bool :=
  h.take 4 = [0x57#8, 0x56#8, 0x50#8, 0x31#8] && fieldAt h 4 2 = 1 && fieldAt h 6 1 < 4 && fieldAt h 7 1 < 8
    && 1 ≤ wpCount h && wpCount h ≤ 65536 && fieldAt h 27 37 = 0 && !(wpGatehold h && !wpWeights h)

/-! ## The entry (R231) -/

def wdKind (t : List Byte) : Nat := tdf t 0 0 4
def wdFence (t : List Byte) : Bool := tdf t 0 4 1 = 1
def wdSigen (t : List Byte) : Bool := tdf t 0 5 1 = 1
def wdDcs (t : List Byte) : Bool := tdf t 0 6 1 = 1
def wdGrad (t : List Byte) : Bool := tdf t 0 7 1 = 1
def wdPerm (t : List Byte) : Nat := tdf t 0 8 2
def wdNdst (t : List Byte) : Nat := tdf t 0 10 5
def wdSfmt (t : List Byte) : Nat := tdf t 0 16 5
def wdDfmt (t : List Byte) : Nat := tdf t 0 21 5
def wdSrcmbr (t : List Byte) : Nat := tdf t 1 0 14
def wdSrcctx (t : List Byte) : Nat := tdf t 1 16 6
def wdSrcrem (t : List Byte) : Bool := tdf t 1 14 1 = 1
def wdE0 (t : List Byte) : Nat := tdf t 3 0 24
def wdE1 (t : List Byte) : Nat := tdf t 4 0 16
def wdE2 (t : List Byte) : Nat := tdf t 4 16 16
def wdSrc (t : List Byte) : Nat := tdq t 5
def wdDst (t : List Byte) : Nat := tdq t 7
def wdSstr1 (t : List Byte) : Nat := tdw t 9
def wdSstr2 (t : List Byte) : Nat := tdw t 10
def wdDstr1 (t : List Byte) : Nat := tdw t 11
def wdDstr2 (t : List Byte) : Nat := tdw t 12
def wdSscale (t : List Byte) : Nat := tdq t 13
def wdDscale (t : List Byte) : Nat := tdq t 15
def wdScoarse (t : List Byte) : Nat := tdw t 17
def wdDcoarse (t : List Byte) : Nat := tdw t 18
def wdTallyid (t : List Byte) : Nat := tdf t 19 0 16
def wdTallyn (t : List Byte) : Nat := tdf t 19 16 8
def wdDtally (t : List Byte) : Nat := tdf t 20 0 16
def wdDtallyn (t : List Byte) : Nat := tdf t 20 16 8
def wdExpert (t : List Byte) : Nat := tdf t 21 0 10
def wdCap (t : List Byte) : Nat := tdf t 21 16 16
def wdChunk (t : List Byte) : Nat := tdw t 21
def wdRowbase (t : List Byte) : Nat := tdf t 22 0 24
def wdMslot (t : List Byte) : Nat := tdf t 22 0 2
def wdKeyslot (t : List Byte) : Nat := tdf t 22 8 6
def wdAux (t : List Byte) : Nat := tdq t 24
def wdAux2 (t : List Byte) : Nat := tdq t 26
def wdSide (t : List Byte) : Nat := tdq t 28

/-- A destination (R233, R234). -/
structure WvDest where
  remote : Bool
  member : Nat
  ctx : Nat
  dva : Nat
  deriving DecidableEq, Repr

/-- The destination that the entry itself names. -/
def wdDest (t : List Byte) : WvDest := ⟨tdf t 2 14 1 = 1, tdf t 2 0 14, tdf t 2 16 6, wdDst t⟩

/-- R234: a destination record; none where reserved bits are set. -/
def dstRecord (b : List Byte) : Option WvDest :=
  if bitAt (fieldAt b 0 2) 15 ∨ 64 ≤ fieldAt b 2 1 ∨ fieldAt b 3 5 ≠ 0 then none
  else some ⟨bitAt (fieldAt b 0 2) 14, fieldAt b 0 2 % 2 ^ 14, fieldAt b 2 1, fieldAt b 8 8⟩

/-- R234: the destinations of a COPY or ACCUM. -/
def State.wdDests (s : State) (c : Nat) (t : List Byte) : State × Except Status (List WvDest) :=
  if wdNdst t ≤ 1 then (s, .ok [wdDest t])
  else if 16 < wdNdst t then (s, .error .wvDstList)
  else
    match s.readDva c (wdAux t) (16 * wdNdst t) with
    | (s, .error e) => (s, .error e)
    | (s, .ok b) =>
      let ds := (List.range (wdNdst t)).map (fun i => dstRecord ((b.drop (16 * i)).take 16))
      (s, if ds.any (·.isNone) then .error .wvDstList else .ok (ds.filterMap id))

/-! ## Refusals (R233, R235, R236, R238) -/

/-- R250, R322: a member the ledger has fenced or let go. -/
def State.memberLost (s : State) (m : Nat) : Bool :=
  match sget none s.flt.members m with
  | none => false
  | some x => x.state ≠ fltMember

/-- R233: the refusals of a destination that the sender sees. -/
def State.destCheck (s : State) (c : Nat) (srcrem : Bool) (d : WvDest) : Status :=
  firstBad [
    refuseIf (d.remote && d.member = s.rd .fltMember 0 && s.flag .fltMembervalid 0) .wvSelf,
    refuseIf (d.remote && srcrem) .wvRemoteBoth,
    refuseIf (d.remote && s.memberLost d.member) .wvPeerLost,
    refuseIf (!d.remote && d.ctx ≠ c && (s.rdNew .wvJob d.ctx = 0 || s.rdNew .wvJob d.ctx ≠ s.rd .wvJob c)) .wvRemoteRefused]

/-- R233: engine e counts an incoming write that it refuses. -/
def State.countRefused (s : State) (e : Nat) (st : Status) : State := if st = .wvRemoteRefused then s.bump .wvRefused e 1 else s

/-- R238: WD_GRAD is for COPY and ACCUM of a LEARN context. -/
def State.gradCheck (s : State) (c : Nat) (t : List Byte) : Status :=
  refuseIf (wdGrad t && !((wdKind t = 1 || wdKind t = 2) && s.isLearn c)) .wvGradClass

/-- R49, R236: a row of elements fills its packing and its blocks. -/
def rowFits (fmt n : Nat) : Bool :=
  n % (fmtScale fmt).block = 0 && !(fmtBits fmt = 4 && n % 2 ≠ 0) && !(fmtBits fmt = 6 && n % 4 ≠ 0)

/-- R236: the engine copies bytes unchanged. -/
def wdRaw (t : List Byte) : Bool :=
  wdSfmt t = wdDfmt t && (fmtScale (wdSfmt t) ≠ .kb || wdScoarse t = wdDcoarse t) && wdPerm t ≠ 2

/-- R50, R57, R236: the formats, the coarse scales of KB regions, and the destination formats that the overflow mode of the context allows. -/
def State.fmtCheck (s : State) (c : Nat) (t : List Byte) (raw : Bool) : Status :=
  firstBad [
    refuseIf (fmtReserved (wdSfmt t) || fmtReserved (wdDfmt t)) .fmtReserved,
    refuseIf (wdSfmt t = fmtAbsent || wdDfmt t = fmtAbsent) .fmtUnsupported,
    refuseIf ((fmtScale (wdSfmt t) = .kb && !f32PosNormal (wdScoarse t)) || (fmtScale (wdDfmt t) = .kb && !f32PosNormal (wdDcoarse t)))
      .fmtScaleInvalid,
    refuseIf (!raw && s.propagates c && fmtNarrow (wdDfmt t)) .fmtPropagateTarget]

/-- R235: the destination's extents: inner, rows, planes. -/
def dstExtents (t : List Byte) : Nat × Nat × Nat :=
  match wdPerm t with
  | 0 => (wdE0 t, wdE1 t, wdE2 t)
  | 1 => (wdE0 t, wdE2 t, wdE1 t)
  | _ => (wdE1 t, wdE0 t, wdE2 t)

/-- R236: the bytes of a scale row, and the distance between scale rows. -/
def scaleRow (fmt n : Nat) : Nat :=
  match fmtScale fmt with
  | .none => 0
  | k => ceilDiv n k.block

def scaleStep (fmt n : Nat) : Nat := roundUp (scaleRow fmt n) 64

/-- R235: the bytes an entry sends to one destination. -/
def dstBytes (t : List Byte) : Nat :=
  let (n, r, p) := dstExtents t
  r * p * (packedBytes (fmtBits (wdDfmt t)) n + scaleRow (wdDfmt t) n)

/-- R235: a region's rows start on 16-byte boundaries. -/
def rowsAligned (base rows planes str1 str2 : Nat) : Bool :=
  base % 16 = 0 && (rows ≤ 1 || str1 % 16 = 0) && (planes ≤ 1 || str2 % 16 = 0)

/-- R235, R236: the shape of a COPY or ACCUM. -/
def shapeCheck (t : List Byte) : Status :=
  let (n, r, p) := dstExtents t
  firstBad [
    refuseIf (wdPerm t = 3 || wdE0 t = 0 || wdE1 t = 0 || wdE2 t = 0 || dstBytes t > 2 ^ 32 - 1) .wvShape,
    refuseIf (!rowsAligned (wdSrc t) (wdE1 t) (wdE2 t) (wdSstr1 t) (wdSstr2 t)
      || !rowsAligned (wdDst t) r p (wdDstr1 t) (wdDstr2 t)
      || (fmtScale (wdSfmt t) ≠ .none && wdSscale t % 64 ≠ 0) || (fmtScale (wdDfmt t) ≠ .none && wdDscale t % 64 ≠ 0)) .wvAlign,
    refuseIf (!rowFits (wdSfmt t) (wdE0 t) || !rowFits (wdDfmt t) n) .fmtBlockAxis]

/-! ## Source rows and conversion (R235, R236) -/

/-- A row of the source: its element bytes and its scale bytes. -/
structure WvRow where
  bytes : List Byte
  scales : List Byte
  deriving DecidableEq, Repr

/-- A row of a destination: where it goes, its bytes, the offsets at which those hold a NaN or infinity (R238), and whether a non-finite value was
converted, sent or formed (WD_NONFIN). -/
structure WvWrite where
  dva : Nat
  bytes : List Byte
  nf : List Nat
  met : Bool
  deriving DecidableEq, Repr

/-- Read a row of n elements of a format. -/
def State.readRow (s : State) (c fmt n dva scaleDva : Nat) : State × Except Status WvRow :=
  match s.readDva c dva (packedBytes (fmtBits fmt) n) with
  | (s, .error e) => (s, .error e)
  | (s, .ok b) =>
    if scaleRow fmt n = 0 then (s, .ok ⟨b, []⟩)
    else
      match s.readDva c scaleDva (scaleRow fmt n) with
      | (s, .error e) => (s, .error e)
      | (s, .ok sc) => (s, .ok ⟨b, sc⟩)

/-- Read rows one after another. -/
def State.readRows (s : State) (c fmt n : Nat) : List (Nat × Nat) → State × Except Status (List WvRow)
  | [] => (s, .ok [])
  | (d, sd) :: t =>
    match s.readRow c fmt n d sd with
    | (s, .error e) => (s, .error e)
    | (s, .ok r) =>
      match s.readRows c fmt n t with
      | (s, .error e) => (s, .error e)
      | (s, .ok rs) => (s, .ok (r :: rs))

/-- R235: where the rows of the source lie, in the order plane by plane. -/
def srcRows (t : List Byte) : List (Nat × Nat) :=
  ((List.range (wdE2 t)).map (fun k => (List.range (wdE1 t)).map (fun j =>
    (wdSrc t + k * wdSstr2 t + j * wdSstr1 t, wdSscale t + (k * wdE1 t + j) * scaleStep (wdSfmt t) (wdE0 t))))).flatten

/-- R233: the rows that another module's bytes hold: every row's elements, then every scale row. -/
def remoteRows (t : List Byte) (b : List Byte) : List WvRow :=
  let w := packedBytes (fmtBits (wdSfmt t)) (wdE0 t)
  let sc := scaleRow (wdSfmt t) (wdE0 t)
  let n := wdE1 t * wdE2 t
  (List.range n).map (fun i => ⟨(b.drop (i * w)).take w, (b.drop (n * w + i * sc)).take sc⟩)

/-- R54: the FP32 codes of a row. -/
def WvRow.decode (r : WvRow) (fmt n coarse : Nat) : List Nat :=
  let v := leNat r.bytes
  let k := (fmtScale fmt).block
  (List.range n).map (fun i => decodeElem fmt (packedAt v (fmtBits fmt) i) (fieldAt r.scales (i / k) 1) coarse)

/-- R238: where a row of n elements of a format holds a NaN or infinity: byte offsets. -/
def WvRow.nonFinite (r : WvRow) (fmt n coarse : Nat) : List Nat :=
  ((r.decode fmt n coarse).zipIdx.filter (fun y => !f32Finite y.1)).map (fun y => y.2 * fmtBits fmt / 8)

/-- R236: convert FP32 codes to a row of a format. -/
def encodeRow (fmt coarse : Nat) (prop : Bool) (ys : List Nat) : WvRow :=
  let x := (Reg1.mk fmt 0 ys.length coarse).convert prop false [] ys
  ⟨leBytes (packedBytes (fmtBits fmt) ys.length) (packRow (fmtBits fmt) x.codes), x.scales.map (BitVec.ofNat 8)⟩

/-- R235: where row (j, k) of a destination lies, and its scale row. -/
def dstRow (t : List Byte) (base j k : Nat) : Nat × Nat :=
  let (n, r, _) := dstExtents t
  (base + k * wdDstr2 t + j * wdDstr1 t, wdDscale t + (k * r + j) * scaleStep (wdDfmt t) n)

/-- A row's writes at its place: n elements of a format; `met`: a non-finite value was converted into it. -/
def rowWrites (at_ : Nat × Nat) (fmt n coarse : Nat) (r : WvRow) (met : Bool) : List WvWrite :=
  let nf := r.nonFinite fmt n coarse
  ⟨at_.1, r.bytes, nf, met || nf ≠ []⟩ :: (if r.scales = [] then [] else [⟨at_.2, r.scales, [], false⟩])

/-- R236: FP32 values as a row of a format at its place. -/
def valueWrites (at_ : Nat × Nat) (fmt coarse : Nat) (prop : Bool) (ys : List Nat) : List WvWrite :=
  rowWrites at_ fmt ys.length coarse (encodeRow fmt coarse prop ys) (ys.any (fun y => !f32Finite y))

/-- R235, R236: the writes of a COPY or ACCUM at a destination whose region starts at a base. -/
def copyWrites (t : List Byte) (prop : Bool) (rows : List WvRow) (base : Nat) : List WvWrite :=
  let e1 := wdE1 t
  let row (j k : Nat) : WvRow := rows.getD (k * e1 + j) ⟨[], []⟩
  let (n, r, p) := dstExtents t
  ((List.range p).map (fun k => ((List.range r).map (fun j =>
    let src := if wdPerm t = 1 then row k j else row j k
    if wdRaw t then rowWrites (dstRow t base j k) (wdDfmt t) n (wdDcoarse t) src false
    else
      let ys : List Nat :=
        if wdPerm t = 2 then (List.range n).map (fun i =>
          ((row i k).decode (wdSfmt t) (wdE0 t) (wdScoarse t)).getD j 0)
        else src.decode (wdSfmt t) (wdE0 t) (wdScoarse t)
      valueWrites (dstRow t base j k) (wdDfmt t) (wdDcoarse t) prop ys)).flatten)).flatten

/-! ## Writing at a destination -/

/-- R237: add FP32, BF16 or FP16 elements into the elements at a place: one FP32 addition each, written back with RNE under the overflow
mode of the destination's context. The answer says whether a sum is NaN or infinite. -/
def State.accumulate (s : State) (c dva fmt : Nat) (bs : List Byte) : State × Status × Bool :=
  let w := fmtBits fmt
  let n := bs.length * 8 / w
  match s.readDva c dva bs.length with
  | (s, .error e) => (s, e, false)
  | (s, .ok old) =>
    let sums := (List.range n).map (fun i =>
      f32Add (decodeElem fmt (packedAt (leNat old) w i) 0 f32One) (decodeElem fmt (packedAt (leNat bs) w i) 0 f32One))
    let codes := sums.map (fun y => (convertPlain fmt .rne (s.propagates c) y).code)
    let (s, st) := s.dvaWrite c dva (leBytes bs.length (packRow w codes))
    (s, st, sums.any (fun y => !f32Finite y))

/-- R238: the pending non-finite flag of a LEARN context. -/
def State.setPendnf (s : State) (c : Nat) : State := if s.isLearn c then s.wr .lrnPendnf c 1 else s

/-- Write, or add, one row at a place of a context. A gradient's sum that is not finite sets the context's flag (R238). -/
def State.landRow (s : State) (c : Nat) (accum grad : Bool) (fmt dva : Nat) (bs : List Byte) : State × Status × Bool :=
  if accum then
    let (s, st, nf) := s.accumulate c dva fmt bs
    (if nf ∧ grad then s.setPendnf c else s, st, nf)
  else
    let (s, st) := s.dvaWrite c dva bs
    (s, st, false)

/-- What an entry's writes to destinations have led to. -/
structure Landed where
  state : State
  status : Status
  nonfin : Bool
  waiting : List (Nat × Nat)

/-- A local destination: every row is written; the first failure is the status. Then the data-carried signal (R233, R266). -/
def State.landLocal (s : State) (e c : Nat) (t : List Byte) (accum : Bool) (dcs : Bool) (d : WvDest) (ws : List WvWrite) : Landed :=
  let nf := ws.any (fun w => w.nf ≠ [])
  let s := if wdGrad t ∧ (nf ∨ s.flag .lrnPendnf c) then s.setPendnf d.ctx else s
  let (s, st, formed) := ws.foldl (fun (a : State × Status × Bool) w =>
    let (s, st, f) := a.1.landRow d.ctx accum (wdGrad t) (wdDfmt t) w.dva w.bytes
    (s, if a.2.1 = .ok then st else a.2.1, a.2.2 || f)) (s, .ok, false)
  let nonfin := formed || ws.any (·.met)
  if st = .ok ∧ dcs then
    let (s, st) := s.tallySignal (bankOfIsland (islWeavin e)) d.ctx (wdDtally t) (wdDtallyn t) (d.ctx ≠ c)
    ⟨s, st, nonfin, []⟩
  else ⟨s, st, nonfin, []⟩

/-- R239: the weave header. -/
def weaveHeader (job src ctx flags dva len dtally dtallyn dfmt entry seq total : Nat) : List Byte :=
  leBytes 4 job ++ leBytes 2 src ++ leBytes 1 ctx ++ leBytes 1 flags ++ leBytes 8 dva ++ leBytes 4 len ++ leBytes 2 dtally
    ++ leBytes 1 dtallyn ++ leBytes 1 dfmt ++ leBytes 2 entry ++ leBytes 2 seq ++ leBytes 4 total

/-- R298: the pieces of a row that frames carry: at most 1,024 bytes each, with R238's flag of each. -/
def cutRow (w : WvWrite) : List (Nat × List Byte × Bool) :=
  (List.range (ceilDiv w.bytes.length 1024)).map (fun i =>
    (w.dva + 1024 * i, (w.bytes.drop (1024 * i)).take 1024, w.nf.any (fun o => 1024 * i ≤ o && o < 1024 * (i + 1))))

/-- A remote destination: the rows leave in DATA frames (R239), with NF on those of a gradient (R238). -/
def State.landRemote (s : State) (e c seq idx : Nat) (t : List Byte) (accum dcs : Bool) (d : WvDest) (ws : List WvWrite) :
    Landed :=
  let total := ws.foldl (fun a w => a + w.bytes.length) 0
  let pieces := (ws.map cutRow).flatten
  let s := pieces.foldl (fun s p =>
    let nf := wdGrad t && (s.flag .lrnPendnf c || p.2.2)
    let h := weaveHeader (s.rd .wvJob c) (s.rd .fltMember 0) d.ctx
      (b2n (wdGrad t) + 2 * b2n nf + 4 * b2n accum + 8 * b2n dcs) p.1 p.2.1.length (if dcs then wdDtally t else 0)
      (if dcs then wdDtallyn t else 0) (if accum then wdDfmt t else 0) idx seq total
    let s := if nf then s.bump .wvNfsent c 1 else s
    s.originate 1 2 d.member (h ++ p.2.1) (some c) (some (e, seq, idx))) s
  ⟨s.bump .wvTxbytes e total, .ok, ws.any (·.met), if pieces = [] then [] else [(d.member, d.ctx)]⟩

/-- An entry's writes to a list of destinations: the first failure is the status. -/
def State.landAll (s : State) (e c seq idx : Nat) (t : List Byte) (accum dcs : Bool)
    (ds : List (WvDest × List WvWrite)) : Landed :=
  ds.foldl (fun (a : Landed) d =>
    if a.status ≠ .ok then a
    else
      let r := if d.1.remote then a.state.landRemote e c seq idx t accum dcs d.1 d.2
        else a.state.landLocal e c t accum dcs d.1 d.2
      ⟨r.state, r.status, a.nonfin || r.nonfin, a.waiting ++ r.waiting⟩) ⟨s, .ok, false, []⟩

/-! ## Plans (R227 to R230) -/

/-- The number of a plan's place: engine and place. -/
def planIx (e k : Nat) : Nat := 16 * (e % 4) + k % 16

def State.plan (s : State) (i : Nat) : Option Plan := sget none s.weave.plans i

/-- R339, R342, R344: a context whose plans do not go on: it is not live, or failure hiding has quiesced it. -/
def State.weaveHeld (s : State) (c : Nat) : Bool := !s.ctxLive c || s.fhHolds c

/-- The DVA of an entry. -/
def Plan.entryAt (p : Plan) (i : Nat) : Nat := p.dva + 64 + 128 * i

/-- R229: the next entry may issue: its plan has not failed, fewer than 64 are in progress, none of them is a WAIT, and a fence or a
SIGNAL finds none. -/
def Plan.mayIssue (p : Plan) (t : List Byte) : Bool :=
  p.fail.isNone && p.next < wpCount p.hdr && p.inprog.length < 64 && !p.inprog.any (·.blocked)
    && !((wdFence t || wdKind t = 4) && p.inprog ≠ [])

/-- The next entry of a plan, where it may issue: none while it may not; an error where it cannot be read. -/
def State.nextEntry (s : State) (i : Nat) : Option (Plan × Except Status (List Byte)) :=
  match s.plan i with
  | none => none
  | some p =>
    if s.weaveHeld p.ctx then none
    else
      match s.dvaRead p.ctx (p.entryAt p.next) 128 with
      | .ok t => if p.mayIssue t then some (p, .ok t) else none
      | .error e => if p.mayIssue [] then some (p, .error e) else none

/-- The next entry of a plan, where it may issue and is of a kind. -/
def State.entryOf (s : State) (i kind : Nat) : Option (Plan × List Byte) :=
  match s.nextEntry i with
  | some (p, .ok t) => if wdKind t = kind then some (p, t) else none
  | _ => none

/-- R229: an entry is in progress. -/
def State.issueEntry (s : State) (i : Nat) (p : Plan) (t : List Byte) (st : Status) (nonfin : Bool) (rows : Nat) (blocked : Bool)
    (waiting : List (Nat × Nat)) : State :=
  let x : WvEntry := ⟨p.next, wdKind t, t, st, nonfin, rows, blocked, waiting⟩
  let fail := if p.fail = none ∧ st ≠ .ok then some (st, p.next) else p.fail
  (s.setPlan i (some { p with next := p.next + 1, inprog := p.inprog ++ [x], fail := fail })).wr .wvCtx (i / 16) p.ctx

/-- R229, R231: an entry ends: WD_SIGEN's signal, then WD_STATUS, and WD_ROWS of a DISPATCH or COMBINE. -/
def State.endEntry (s : State) (i : Nat) (p : Plan) (x : WvEntry) : State :=
  let (s, st) := if x.status = .ok ∧ wdSigen x.td then
      s.tallySignal (bankOfIsland (islWeavin (i / 16))) p.ctx (wdTallyid x.td) (wdTallyn x.td) false
    else (s, x.status)
  let rows := if x.kind = 5 ∨ x.kind = 6 then leBytes 4 x.rows else []
  let (s, wst) := s.dvaWrite p.ctx (p.entryAt x.idx + 120) (leBytes 2 st.code ++ leBytes 2 (b2n x.nonfin) ++ rows)
  let st := if st = .ok then wst else st
  let s := if st = .ok then s.bump .wvEntries (i / 16) 1 else s.recordError (0x410 + i / 16) st 0
  let s := if stepFaultStatus st then s.stepFault p.ctx else s
  s.setPlan i (some { p with
    inprog := p.inprog.filter (fun e => e.idx ≠ x.idx)
    fail := if p.fail = none ∧ st ≠ .ok then some (st, x.idx) else p.fail })

end Sys2Proof.Machine
end

