-- ==== Sys2Proof/Machine/Weave.lean ====
section
/-!
DEFINITION. The commands of the Weavin engines: plans (R227 to R230, R248) and their entries (R232 to R247).
-/
namespace Sys2Proof.Machine
open Sys2Proof

/-! ## Plans -/

/-- The first free place of an engine. -/
def State.freePlace (s : State) (e : Nat) : Option Nat :=
  ((List.range 16).map (fun k => planIx e k)).find? (fun i => (s.plan i).isNone)

/-- R227: a plan of a transfer ring is under way. -/
def State.ringHasPlan (s : State) (r : Nat) : Bool :=
  s.weave.plans.any (fun p => match p.2 with
    | none => false
    | some x => x.ring = r)

/-- R248: the weight gate of a context after a WEIGHTS plan has ended. -/
def State.endGate (s : State) (c : Nat) (hold : Bool) (st : Status) : State :=
  let s := s.wr .wvGatestatus c st.code
  if st = .ok then s.wr .wvGate c (b2n hold)
  else (s.wr .wvGate c 2).raise 0x410 .wvGateFailed (some c) st.code 0

/-- R227, R228: what keeps a plan from running: its place, its header, its epoch. -/
def State.planCheck (s : State) (c dva : Nat) (h : Except Status (List Byte)) : Status :=
  match h with
  | .error .memUncorrectable => .memUncorrectable
  | .error _ => .wvPlanFormat
  | .ok h =>
    if dva % 64 ≠ 0 ∨ !wpFormed h ∨ !s.mapped c dva (64 + 128 * wpCount h) .read then .wvPlanFormat
    else if wpEpochchk h ∧ wpEpoch h ≠ s.rd .fltEpoch 0 % 2 ^ 32 then .wvEpoch
    else .ok

/-- WEAVE_PLAN_START (R227, R228): the WEAVE entry at the head of a transfer ring starts a plan, or completes with the reason it
cannot. -/
def execWeavePlanStart (met : Met Nat) (s : State) : Result :=
  let s := s.eccFound met.ecc
  let c := s.rd .dbCtx met.op
  match s.dvaRead c (s.entryDva met.op (s.rd .dbHead met.op)) 64 with
  | .error _ => .next s
  | .ok b =>
    let dva := fieldAt b 8 8
    let h := s.dvaRead c dva 64
    let hdr := match h with
      | .ok x => x
      | .error _ => []
    let st := s.planCheck c dva h
    let e := wpEngine hdr
    let place := s.freePlace e
    if !s.ringPending met.op 1 ∨ s.weaveHeld c ∨ s.flag .ctxClasspend c ∨ fieldAt b 0 1 % 16 ≠ 2 ∨ s.ringHasPlan met.op ∨ (st = .ok ∧ place.isNone) then .next s
    else
      match s.takeWork met.op with
      | (s, none) => .next s
      | (s, some w) =>
        let s := s.countDvaRead c dva 64
        match st, place with
        | .ok, some i =>
          let p : Plan := ⟨c, met.op, w.dva, w.complete, w.cring, w.tag, dva, hdr, s.weave.nextSeq, 0, [], none⟩
          let s : State := { s with weave := { s.weave with nextSeq := (s.weave.nextSeq + 1) % 2 ^ 16 } }
          let s := s.setPlan i (some p)
          .next (if wpWeights hdr then s.wr .wvGate c 1 else s)
        | st, _ =>
          let s := (s.recordError (0x410 + e) st 0).bump .wvPlansfailed c 1
          let s := if st = .wvEpoch ∧ wpWeights hdr then s.endGate c false st else s
          .next (s.workDone 6 w.complete w.cring st.code met.op w.tag dva 0xFFFFFFFF 0)

/-- WEAVE_ENTRY_COMPLETE (R229, R230): an entry in progress ends, where its WAIT has completed and every destination has confirmed, or it
has failed. An entry of a reserved kind, or one that cannot be read, ends with its failure in place of issuing. -/
def execWeaveEntryComplete (eng plan idx : Nat) (s : State) : Result :=
  let i := planIx eng plan
  match s.plan i with
  | none => .next s
  | some p =>
    match p.inprog.find? (fun e => e.idx = idx) with
    | some x =>
      let a := Agent.plan (eng % 4) (plan % 16)
      if x.status ≠ .ok then .next ((s.takeWait a).endEntry i p x)
      else if x.waiting ≠ [] then .next s
      else if x.blocked then
        match s.waitDone a with
        | none => .next s
        | some st => .next ((s.takeWait a).endEntry i p { x with status := st })
      else .next (s.endEntry i p x)
    | none =>
      match s.nextEntry i with
      | some (p, .error st) =>
        if p.next ≠ idx then .next s
        else .next ((s.setPlan i (some { p with next := p.next + 1, fail := some (st, idx) })).recordError (0x410 + eng % 4) st 0)
      | some (p, .ok t) =>
        if p.next ≠ idx ∨ wdKind t < 9 then .next s
        else .next (s.endEntry i { p with next := p.next + 1 } ⟨idx, wdKind t, t, .wvKindReserved, false, 0, false, []⟩)
      | none => .next s

/-- WEAVE_PLAN_COMPLETE (R229, R230, R248): with every issued entry ended, a plan that has failed or issued all completes. -/
def execWeavePlanComplete (eng plan : Nat) (s : State) : Result :=
  let i := planIx eng plan
  match s.plan i with
  | none => .next s
  | some p =>
    let c := p.ctx
    if p.inprog ≠ [] ∨ (p.fail = none ∧ p.next < wpCount p.hdr) ∨ s.weaveHeld c then .next s
    else
      let s := s.setPlan i none
      let gate (s : State) (st : Status) : State := if wpWeights p.hdr then s.endGate c (wpGatehold p.hdr) st else s
      match p.fail with
      | some (st, k) =>
        let s := (s.raise (0x410 + eng % 4) st (some c) k 0).bump .wvPlansfailed c 1
        .next ((gate s st).workDone 6 p.complete p.cring st.code p.ring p.tag p.dva k 0)
      | none =>
        let (s, st) := if wpDonetally p.hdr = 0 then (s, Status.ok)
          else s.tallySignal (bankOfIsland (islWeavin (eng % 4))) c (wpDonetally p.hdr) (wpDonen p.hdr) false
        let s := if st = .ok then s.bump .wvPlansdone c 1
          else (s.raise (0x410 + eng % 4) st (some c) 0xFFFFFFFF 0).bump .wvPlansfailed c 1
        .next ((gate s st).workDone 6 p.complete p.cring st.code p.ring p.tag (if st = .ok then p.entry else p.dva) 0xFFFFFFFF 0)

/-! ## Entries -/

/-- The data an entry moves: its writes at every destination, its rows for WD_ROWS, and the elements converted. -/
structure Moved where
  writes : List (WvDest × List WvWrite)
  rows : Nat
  converted : Nat
  accum : Bool
  dcs : Bool

/-- An entry that moves data: it lands, or it fails before anything is written. -/
def State.moveEntry (s : State) (i : Nat) (p : Plan) (t : List Byte) (m : Except Status Moved) : State :=
  match m with
  | .error st => s.issueEntry i p t st false 0 false []
  | .ok m =>
    let s := s.bump .wvConvelems (i / 16) m.converted
    let r := s.landAll (i / 16) p.ctx p.seq p.next t m.accum m.dcs m.writes
    r.state.issueEntry i p t r.status r.nonfin m.rows false r.waiting

/-- R235 to R237: what a COPY or ACCUM moves from rows read. -/
def copyMoved (t : List Byte) (prop accum : Bool) (ds : List WvDest) (rows : List WvRow) : Moved :=
  ⟨ds.map (fun d => (d, copyWrites t prop rows d.dva)), 0, if wdRaw t then 0 else wdE0 t * wdE1 t * wdE2 t, accum, wdDcs t⟩

/-- R233 to R238: the checks of a COPY or ACCUM, but for its destinations. -/
def State.moveCheck (s : State) (c : Nat) (t : List Byte) (accum : Bool) : Status :=
  firstBad [
    s.gradCheck c t,
    refuseIf (accum && wdSrcrem t) .wvRemoteBoth,
    refuseIf (wdSrcrem t && wdSrcmbr t = s.rd .fltMember 0 && s.flag .fltMembervalid 0) .wvSelf,
    refuseIf (wdSrcrem t && s.memberLost (wdSrcmbr t)) .wvPeerLost,
    s.fmtCheck c t (wdRaw t),
    refuseIf (accum && 2 < wdDfmt t) .wvAccumFormat,
    shapeCheck t]

/-- The status of a read at another module that gives no data (R233). -/
def readFailure : RemoteRead → Status
  | .data _ => .ok
  | .refused => .wvRemoteRefused
  | .unmapped => .dvaUnmapped
  | .access => .dvaAccess
  | .uncorrectable => .memUncorrectable

/-- R233: a source on another module is asked for its rows and scale rows: context WD_SRCCTX, under the plan context's WV_JOB. -/
def State.readAsk (s : State) (c : Nat) (t : List Byte) : State :=
  let w := packedBytes (fmtBits (wdSfmt t)) (wdE0 t)
  let sc := scaleRow (wdSfmt t) (wdE0 t)
  s.emit (.readRequest (wdSrcmbr t) (wdSrcctx t) (s.rd .wvJob c)
    ((srcRows t).map (fun r => (r.1, w)) ++ (if sc = 0 then [] else (srcRows t).map (fun r => (r.2, sc)))))

/-- The move of a COPY or an ACCUM whose destinations are known: their checks, then the source's rows, here or at the peer. -/
def State.copyInto (s : State) (i : Nat) (p : Plan) (t : List Byte) (accum : Bool) (rem : RemoteRead) (ds : List WvDest) : State :=
  match firstBad (ds.map (s.destCheck p.ctx (wdSrcrem t)) ++ [refuseIf (ds.any (fun d => d.dva % 16 ≠ 0)) .wvAlign]) with
  | .ok =>
    let (s, rows) := if wdSrcrem t then
        (s.readAsk p.ctx t, match rem with
          | .data b => Except.ok (remoteRows t b)
          | r => Except.error (readFailure r))
      else s.readRows p.ctx (wdSfmt t) (wdE0 t) (srcRows t)
    s.moveEntry i p t (rows.map (copyMoved t (s.propagates p.ctx) accum ds))
  | e => (s.countRefused (i / 16) e).moveEntry i p t (.error e)

/-- A COPY or ACCUM entry. -/
def State.copyEntry (s : State) (i : Nat) (p : Plan) (t : List Byte) (accum : Bool) (rem : RemoteRead) : State :=
  let c := p.ctx
  match s.moveCheck c t accum with
  | .ok =>
    match s.wdDests c t with
    | (s, .error e) => s.moveEntry i p t (.error e)
    | (s, .ok ds) => s.copyInto i p t accum rem ds
  | e => s.moveEntry i p t (.error e)

/-- NOP (R232): nothing; it completes at issue. -/
def execNop (eng plan : Nat) (s : State) : Result :=
  let i := planIx eng plan
  match s.entryOf i 0 with
  | none => .next s
  | some (p, t) =>
    let s := s.wr .wvCtx (i / 16) p.ctx
    .next (s.endEntry i { p with next := p.next + 1 } ⟨p.next, 0, t, s.gradCheck p.ctx t, false, 0, false, []⟩)

/-- COPY (R232 to R236): the source to each destination, with conversion and permutation. -/
def execCopy (eng plan : Nat) (rem : RemoteRead) (ecc : List (Nat × EccError)) (s : State) : Result := s.under (islHub) fun s =>
  match s.entryOf (planIx eng plan) 1 with
  | none => .next s
  | some (p, t) => .next ((s.eccFound ecc).copyEntry (planIx eng plan) p t false rem)

/-- ACCUM (R237): the source added into each destination. -/
def execAccum (eng plan : Nat) (ecc : List (Nat × EccError)) (s : State) : Result := s.under (islHub) fun s =>
  match s.entryOf (planIx eng plan) 2 with
  | none => .next s
  | some (p, t) => .next ((s.eccFound ecc).copyEntry (planIx eng plan) p t true .refused)

/-- WEAVE_WAIT (R232): a WAIT on a local tally; no later entry issues until it completes. -/
def execWeaveWait (eng plan : Nat) (s : State) : Result :=
  let i := planIx eng plan
  match s.entryOf i 3 with
  | none => .next s
  | some (p, t) =>
    match s.gradCheck p.ctx t with
    | .ok =>
      match s.tallyWait (bankOfIsland (islWeavin (eng % 4))) p.ctx (wdTallyid t) (wdTallyn t) (.plan (eng % 4) (plan % 16)) with
      | (s, .ok true) => .next (s.issueEntry i p t .ok false 0 false [])
      | (s, .ok false) => .next (s.issueEntry i p t .ok false 0 true [])
      | (s, .error e) => .next (s.issueEntry i p t e false 0 false [])
    | e => .next (s.issueEntry i p t e false 0 false [])

/-- WEAVE_SIGNAL (R232, R266): a SIGNAL on a local tally, or a bare remote signal. -/
def execWeaveSignal (eng plan : Nat) (s : State) : Result := s.under (islHub) fun s =>
  let i := planIx eng plan
  match s.entryOf i 4 with
  | none => .next s
  | some (p, t) =>
    let c := p.ctx
    let d := wdDest t
    match s.gradCheck c t with
    | .ok =>
      if !d.remote then
        let (s, st) := s.tallySignal (bankOfIsland (islWeavin (eng % 4))) c (wdTallyid t) (wdTallyn t) false
        .next (s.issueEntry i p t st false 0 false [])
      else
        match s.destCheck c false d with
        | .ok =>
          let h := weaveHeader (s.rd .wvJob c) (s.rd .fltMember 0) d.ctx 0 0 0 (wdTallyid t) (wdTallyn t) 0 p.next p.seq 0
          .next ((s.originate 2 1 d.member h (some c) (some (eng % 4, p.seq, p.next))).issueEntry i p t .ok false 0 false
            [(d.member, d.ctx)])
        | e => .next (s.issueEntry i p t e false 0 false [])
    | e => .next (s.issueEntry i p t e false 0 false [])

/-! ## Expert dispatch and combine (R240, R241) -/

/-- The checks that DISPATCH and COMBINE share. -/
def State.rowsCheck (s : State) (c : Nat) (t : List Byte) (combine : Bool) : Status :=
  firstBad [
    s.gradCheck c t,
    refuseIf (wdSrcrem t) .wvRemoteBoth,
    s.destCheck c false (wdDest t),
    s.fmtCheck c t (!combine && wdRaw t),
    refuseIf (combine && 2 < wdDfmt t) .wvAccumFormat,
    refuseIf (wdE0 t = 0 || (!combine && (wdE1 t ≠ 1 || wdE2 t ≠ 1))) .wvShape,
    refuseIf (wdSrc t % 16 ≠ 0 || wdDst t % 16 ≠ 0 || wdSstr1 t % 16 ≠ 0 || wdDstr1 t % 16 ≠ 0
      || (fmtScale (wdSfmt t) ≠ .none && wdSscale t % 64 ≠ 0)
      || (!combine && fmtScale (wdDfmt t) ≠ .none && wdDscale t % 64 ≠ 0)) .wvAlign,
    refuseIf (!rowFits (wdSfmt t) (wdE0 t) || !rowFits (wdDfmt t) (wdE0 t)) .fmtBlockAxis]

/-- R240: a list entry's token and rank: none where reserved bits are set or the token lies outside the range of WD_ROWBASE. -/
def listEntry (t : List Byte) (v : Nat) : Option (Nat × Nat) :=
  if 2 ^ 27 ≤ v ∨ v % 2 ^ 24 < wdRowbase t then none else some (v % 2 ^ 24, bitsAt v 24 3)

/-- R240 steps 1 and 2: n, and the tokens and ranks of expert WD_EXPERT's list. -/
def State.dispatchList (s : State) (c : Nat) (t : List Byte) : State × Except Status (List (Nat × Nat)) :=
  match s.readDva c (wdAux t + 4 * wdExpert t) 4 with
  | (s, .error e) => (s, .error e)
  | (s, .ok b) =>
    let n := min (leNat b) (wdCap t)
    match s.readDva c (wdAux t + 4096 + 4 * wdCap t * wdExpert t) (4 * n) with
    | (s, .error e) => (s, .error e)
    | (s, .ok l) =>
      let es := (List.range n).map (fun j => listEntry t (fieldAt l (4 * j) 4))
      (s, if es.any (·.isNone) then .error .wvDispatchConfig else .ok (es.filterMap id))

/-- R240 step 4: the weights of the choices, from the route records. -/
def State.routeWeights (s : State) (c : Nat) (t : List Byte) : List (Nat × Nat) → State × Except Status (List Nat)
  | [] => (s, .ok [])
  | (tok, k) :: l =>
    match s.readDva c (wdAux2 t + (tok - wdRowbase t) * 64 + 8 * k + 4) 4 with
    | (s, .error e) => (s, .error e)
    | (s, .ok b) =>
      match s.routeWeights c t l with
      | (s, .error e) => (s, .error e)
      | (s, .ok ws) => (s, .ok (leNat b :: ws))

/-- R240: what a DISPATCH moves. Row j of the source has scale row t − WD_ROWBASE, and lands with scale row j. -/
def State.dispatchMoved (s : State) (c : Nat) (t : List Byte) : State × Except Status Moved :=
  match s.dispatchList c t with
  | (s, .error e) => (s, .error e)
  | (s, .ok es) =>
    let at_ (tok : Nat) : Nat × Nat :=
      (wdSrc t + (tok - wdRowbase t) * wdSstr1 t, wdSscale t + (tok - wdRowbase t) * scaleStep (wdSfmt t) (wdE0 t))
    match s.readRows c (wdSfmt t) (wdE0 t) (es.map (fun e => at_ e.1)) with
    | (s, .error e) => (s, .error e)
    | (s, .ok rows) =>
      match s.routeWeights c t es with
      | (s, .error e) => (s, .error e)
      | (s, .ok ws) =>
        let row (r : WvRow × Nat) : List WvWrite :=
          let place := (wdDst t + r.2 * wdDstr1 t, wdDscale t + r.2 * scaleStep (wdDfmt t) (wdE0 t))
          if wdRaw t then rowWrites place (wdDfmt t) (wdE0 t) (wdDcoarse t) r.1 false
          else valueWrites place (wdDfmt t) (wdDcoarse t) (s.propagates c) (r.1.decode (wdSfmt t) (wdE0 t) (wdScoarse t))
        let side := leBytes 4 es.length ++ zeros 60
          ++ ((es.zip ws).map (fun e => leBytes 4 (e.1.1 + e.1.2 * 2 ^ 24) ++ leBytes 4 e.2)).flatten
        let m : Moved := ⟨[(wdDest t, (rows.zipIdx.map row).flatten ++ [⟨wdSide t, side, [], false⟩])], es.length,
          if wdRaw t then 0 else es.length * wdE0 t, false, wdDcs t⟩
        (s, .ok m)

/-- DISPATCH (R240): the token rows of an expert to one destination. -/
def execDispatch (eng plan : Nat) (ecc : List (Nat × EccError)) (s : State) : Result := s.under (islHub) fun s =>
  let i := planIx eng plan
  match s.entryOf i 5 with
  | none => .next s
  | some (p, t) =>
    match s.rowsCheck p.ctx t false with
    | .ok =>
      let (s, m) := (s.eccFound ecc).dispatchMoved p.ctx t
      .next (s.moveEntry i p t m)
    | e => .next ((s.countRefused (i / 16) e).moveEntry i p t (.error e))

/-- R241: what a COMBINE moves: each output row scaled by its record's weight, to be added at its token's row. -/
def State.combineMoved (s : State) (c : Nat) (t : List Byte) : State × Except Status Moved :=
  match s.readDva c (wdSide t) 4 with
  | (s, .error e) => (s, .error e)
  | (s, .ok b) =>
    let n := leNat b
    match s.readDva c (wdSide t + 64) (8 * n) with
    | (s, .error e) => (s, .error e)
    | (s, .ok l) =>
      let es := (List.range n).map (fun j => (listEntry t (fieldAt l (8 * j) 4), fieldAt l (8 * j + 4) 4))
      if es.any (fun e => e.1.isNone) then (s, .error .wvDispatchConfig)
      else
        let at_ (j : Nat) : Nat × Nat := (wdSrc t + j * wdSstr1 t, wdSscale t + j * scaleStep (wdSfmt t) (wdE0 t))
        match s.readRows c (wdSfmt t) (wdE0 t) ((List.range n).map at_) with
        | (s, .error e) => (s, .error e)
        | (s, .ok rows) =>
          let row (r : WvRow × Option (Nat × Nat) × Nat) : List WvWrite :=
            valueWrites (wdDst t + ((r.2.1.getD (0, 0)).1 - wdRowbase t) * wdDstr1 t, 0) (wdDfmt t) f32One (s.propagates c)
              ((r.1.decode (wdSfmt t) (wdE0 t) (wdScoarse t)).map (f32Mul r.2.2))
          let m : Moved := ⟨[(wdDest t, ((rows.zip es).map row).flatten)], n, n * wdE0 t, true, false⟩
          (s, .ok m)

/-- COMBINE (R241): an expert's output rows, weighted, added into the tokens' rows. -/
def execCombine (eng plan : Nat) (ecc : List (Nat × EccError)) (s : State) : Result := s.under (islHub) fun s =>
  let i := planIx eng plan
  match s.entryOf i 6 with
  | none => .next s
  | some (p, t) =>
    match s.rowsCheck p.ctx t true with
    | .ok =>
      let (s, m) := (s.eccFound ecc).combineMoved p.ctx t
      .next (s.moveEntry i p t m)
    | e => .next ((s.countRefused (i / 16) e).moveEntry i p t (.error e))

/-! ## Weight delivery (R244 to R248) -/

/-- R245: the bytes of a manifest's header and hash list. -/
def wmBytes (h : List Byte) : Nat := 128 + 48 * fieldAt h 28 4

def wmLength (h : List Byte) : Nat := fieldAt h 32 8
def wmChunks (h : List Byte) : Nat := fieldAt h 28 4
def wmChunk (h : List Byte) : Nat := 2 ^ fieldAt h 24 1
def wmSetid (h : List Byte) : List Byte := (h.drop 8).take 16
def wmPubkeyid (h : List Byte) : Nat := beNat ((h.drop 48).take 48)

/-- R245: the header's rules. -/
def wmFormed (h : List Byte) : Bool :=
  h.take 4 = [0x4B#8, 0x57#8, 0x4D#8, 0x31#8] && fieldAt h 4 2 = 1 && fieldAt h 6 2 = 128 && 20 ≤ fieldAt h 24 1
    && fieldAt h 24 1 ≤ 28 && fieldAt h 25 3 = 0 && 1 ≤ wmChunks h && wmChunks h ≤ 65536
    && (wmChunks h - 1) * wmChunk h < wmLength h && wmLength h ≤ wmChunks h * wmChunk h && fieldAt h 44 4 = 0
    && fieldAt h 96 32 = 0

/-- R401: the manifest store without the security buffer, in bytes. -/
def State.storeBytes (s : State) : Nat := (s.rd .wvMstoresize 0 - 64) * 2 ^ 20

/-- The manifest slots bound. -/
def State.boundSlots (s : State) : List Bound := s.weave.bound.filterMap (·.2)

/-- The lowest place of the manifest store with room for n bytes. -/
def State.storePlace (s : State) (n : Nat) : Option Nat :=
  let ends := (0 :: s.boundSlots.map (fun b => roundUp (b.off + b.len) 64)).filter (fun o =>
    o + n ≤ s.storeBytes && !s.boundSlots.any (fun b => rangesMeet o n b.off b.len))
  argMin id ends

/-- The stored copy of a bound manifest. -/
def State.storedMfst (s : State) (b : Bound) : Except Status (List Byte) :=
  s.memRead false (s.rd .wvMstorebase 0 + b.off) b.len

/-- A trusted publisher's key record by its hash (R246). -/
def State.publisher (s : State) (id : Nat) : Option (List Byte) := s.sec.pubs.find? (fun r => (Config.sha384 r).toNat = id)

/-- R246 step 5 and 6: the signature block that follows the hash list. -/
def State.mfstSig (s : State) (c dva : Nat) : State × Except Status (List Byte) :=
  match s.readDva c dva 104 with
  | (s, .error e) => (s, .error e)
  | (s, .ok b) =>
    match s.readDva c (dva + 104) (fieldAt b 100 4) with
    | (s, .error e) => (s, .error e)
    | (s, .ok l) => (s, .ok (b ++ l))

/-- R407: a content-key slot holds the key of a set. -/
def State.keyslotHolds (s : State) (c k : Nat) (set : List Byte) : Bool :=
  k < 16 && (match sget none s.sec.content (c * 16 + k) with
    | none => false
    | some x => x.label = set)

/-- R246: bind the manifest at WD_AUX to a slot: the status. -/
def State.bindMfst (s : State) (c : Nat) (t : List Byte) : State × Status :=
  let ix := c * 4 + wdMslot t
  let s : State := { s with weave := { s.weave with bound := sput none s.weave.bound ix none } }
  match s.readDva c (wdAux t) 128 with
  | (s, .error e) => (s, e)
  | (s, .ok h) =>
    let n := wmBytes h
    match s.storePlace n with
    | none => (s, .wvMfstSpace)
    | some off =>
      match s.readDva c (wdAux t) n with
      | (s, .error e) => (s, e)
      | (s, .ok copy) =>
        match s.memWrite false (s.rd .wvMstorebase 0 + off) copy with
        | (s, .ok) =>
          if !wmFormed copy then (s, .wvMfstFormat)
          else
            match s.publisher (wmPubkeyid copy) with
            | none => (s, .wvMfstKey)
            | some record =>
              match s.mfstSig c (wdAux t + n) with
              | (s, .error e) => (s, e)
              | (s, .ok sig) =>
                if !Config.verifies record (Config.sha384 copy) sig then (s, .wvMfstSig)
                else if !s.keyslotHolds c (wdKeyslot t) (wmSetid copy) then (s, .secKeyslot)
                else ({ s with weave := { s.weave with bound := sput none s.weave.bound ix (some ⟨off, n, wdKeyslot t⟩) } }, .ok)
        | (s, e) => (s, e)

/-- MANIFEST (R246, R248, R407): a manifest is copied, verified and bound. -/
def execManifest (eng plan : Nat) (ecc : List (Nat × EccError)) (s : State) : Result :=
  let i := planIx eng plan
  match s.entryOf i 7 with
  | none => .next s
  | some (p, t) =>
    match firstBad [s.gradCheck p.ctx t, refuseIf (!wpWeights p.hdr) .wvWeightsPlan] with
    | .ok =>
      let (s, st) := (s.eccFound ecc).bindMfst p.ctx t
      .next (s.issueEntry i p t st false 0 false [])
    | e => .next (s.issueEntry i p t e false 0 false [])

/-- R247: a destination range meets a mapping with SHARED set. -/
def State.sharedRange (s : State) (c dva n : Nat) : Bool :=
  (s.leaves c).any (fun l => bitAt l.entry 5 && rangesMeet l.dva l.size dva n)

/-- R247 steps 2 to 4: the plaintext of a chunk, or why it is refused. -/
def State.chunkPlain (s : State) (c : Nat) (b : Bound) (copy : List Byte) (i : Nat) (ct tag : List Byte) : Except Status (List Byte) :=
  let key := match sget none s.sec.content (c * 16 + b.keyslot) with
    | none => 0
    | some k => k.key
  let nonce := beNat ((copy.drop 40).take 4 ++ leBytes 8 i)
  match Config.gcmOpen (BitVec.ofNat 256 key) (BitVec.ofNat 96 nonce) (wmSetid copy ++ leBytes 8 i) ct
      (BitVec.ofNat 128 (beNat tag)) with
  | none => .error .wvChunkTag
  | some x =>
    if (Config.sha384 x).toNat = beNat ((copy.drop (128 + 48 * i)).take 48) then .ok x else .error .wvChunkHash

/-- R247: load a chunk of a context's manifest into the destination's context: the status. On a failure the destination is zeroed. -/
def State.loadChunk (s : State) (e c d : Nat) (t : List Byte) : State × Status :=
  match sget none s.weave.bound (c * 4 + wdMslot t) with
  | none => (s, .wvMfstFormat)
  | some b =>
    match s.storedMfst b with
    | .error st => (s.poisonMet [(⟨0, s.rd .wvMstorebase 0 + b.off, b.len⟩, b.len)], st)
    | .ok copy =>
      let i := wdChunk t
      if wmChunks copy ≤ i then (s, .wvMfstFormat)
      else
        let n := min (wmChunk copy) (wmLength copy - i * wmChunk copy)
        if s.sharedRange d (wdDst t) n then (s, .wvSharedDest)
        else
          match s.readDva c (wdSrc t) (roundUp n 16 + 16) with
          | (s, .error st) => (s, st)
          | (s, .ok x) =>
            match s.chunkPlain c b copy i (x.take n) (x.drop (roundUp n 16)) with
            | .ok plain => s.dvaWrite d (wdDst t) plain
            | .error st =>
              let s := (s.dvaWrite d (wdDst t) (zeros n)).1
              (s.bump (if st = .wvChunkTag then .wvTagfail else .wvHashfail) e 1, st)

/-- LOAD (R233, R247, R248): a chunk of the manifest of a slot is decrypted, verified and written to context WD_DSTCTX. -/
def execLoad (eng plan : Nat) (ecc : List (Nat × EccError)) (s : State) : Result := s.under (islHub) fun s =>
  let i := planIx eng plan
  match s.entryOf i 8 with
  | none => .next s
  | some (p, t) =>
    let d : WvDest := { wdDest t with remote := false }
    match firstBad [s.gradCheck p.ctx t, refuseIf (!wpWeights p.hdr) .wvWeightsPlan,
        refuseIf (wdSrcrem t) .wvRemoteBoth, s.destCheck p.ctx false d] with
    | .ok =>
      let (s, st) := (s.eccFound ecc).loadChunk (eng % 4) p.ctx d.ctx t
      .next (s.issueEntry i p t st false 0 false [])
    | e => .next ((s.countRefused (i / 16) e).issueEntry i p t e false 0 false [])

/-- R249: a reset of a context abandons its plans, refuses incoming writes, empties its manifest slots and opens its gate. -/
def State.weaveReset (s : State) (c : Nat) : State :=
  let mine := s.weave.plans.filterMap (fun p => match p.2 with
    | some x => if x.ctx = c then some p.1 else none
    | none => none)
  let s := mine.foldl (fun s i =>
    let a := Agent.plan (i / 16) (i % 16)
    ((s.withdrawWait a).takeWait a).setPlan i none) s
  let s : State := { s with weave := { s.weave with bound := sclear s.weave.bound (4 * c) (4 * c + 4) } }
  (s.wr .wvJob c 0).wr .wvGate c 0

end Sys2Proof.Machine
end

