-- ==== Sys2Proof/Machine/ResetOps.lean ====
section
/-!
DEFINITION. What the resets share (R15 to R17, R378, R379, R461, R462): fields that return to their reset values, DEFAULTED, harts that are
held, and the end of all of a context's work.
-/
namespace Sys2Proof.Machine
open Sys2Proof

/-! ## Fields that return to reset values -/

/-- R475: some shadow of the page holds an uncommitted write. -/
def State.pageDirty (s : State) (p : Nat) : Bool := s.cfg.shadows.any (fun q => keyOnPage p q.1)

/-- R475: a page without a dirty shadow leaves the staged set. -/
def State.unstage (s : State) : State :=
  { s with cfg := { s.cfg with staged := s.cfg.staged.filter (fun q => s.cfg.shadows.any (fun r => keyOnPage q.1 r.1)) } }

/-- Fields return to their reset values (R461), with their shadows and what is being adopted of them (R475). -/
def State.dropRegs (s : State) (lost : Reg → Nat → Bool) : State :=
  let gone (k : Nat) : Bool := lost (regOfKey k) (copyOfKey k)
  let s : State := { s with
    regs := s.regs.filter (fun q => !gone q.1)
    cfg := { s.cfg with
      shadows := s.cfg.shadows.filter (fun q => !gone q.1)
      adopting := s.cfg.adopting.map (fun a => { a with vals := a.vals.filter (fun q => !gone q.1) }) } }
  s.unstage

/-- R17, R462: DEFAULTED on pages. -/
def State.setDefaulted (s : State) (ps : List Nat) : State := ps.foldl (fun s p => s.wr .defaulted p 1) s

/-- The pages of the register space (R471). -/
def allPages : List Nat := (List.range 8192).filter pageExists

/-- R461: the fields of these classes are lost; DEFAULTED is set on the pages that hold one (R462). -/
def State.loseClasses (s : State) (classes : List Survival) : State :=
  let s := s.dropRegs (fun r i => classes.contains (r.survivesOn (r.pageOf i)))
  let bit : Survival → Nat
    | .F => 0
    | .K => 1
    | .W => 2
    | .C => 3
    | .I => 4
  s.setDefaulted (allPages.filter (fun p => classes.any (fun c => bitAt (pageClasses p) (bit c))))

/-- R379, R15: copy i of a field belongs to context c: a block of the context, or the header of its page. -/
def Reg.ofContext (r : Reg) (i c : Nat) : Bool :=
  match r.info.block with
  | .ctx | .lrnCtx | .seqCtx | .kvCtx | .kvCnt | .smpCtx | .wvCtx => i = c
  | .header => i = 0x1000 + c
  | _ => false

/-! ## Harts -/

/-- R487, R12: a hart is HELD: it holds no register, waits in no queue and keeps no capture. -/
def State.holdHart (s : State) (h : Nat) : State :=
  let s := (s.withdrawWait (.hart h)).setCore (.hart h) Core.idle
  let s := s.wr .gqHarts (h / 4) (setBits (s.rd .gqHarts (h / 4)) (2 * (h % 4)) 2 0)
  { s with cfg := { s.cfg with captures := s.cfg.captures.filter (fun q => q.1 / 2 ^ 40 ≠ 64 + h) } }

/-- The quads a context names. -/
def State.quadsOf (s : State) (c : Nat) : List Nat := setBitsOf (s.rd .ctxQuads c) 16

/-! ## The end of a context's work (R378, R379) -/

/-- R379: the context's tiles stop where they stand; tasks, deferred queues and accumulators are dropped and the slots freed. -/
def State.endClusters (s : State) (c : Nat) : State :=
  let s : State :=
    if s.flag .ctxSlotvalid c then
      let k := s.rd .ctxSlot c
      let busy := (List.range 192).filter (fun n => ((s.cluster n).cur.map (·.slot)) = some k)
      let s := busy.foldl (fun s n => ((s.withdrawWait (.vector n)).setCore (.vector n) Core.idle).wr .cluRun n 0) s
      let s := (List.range 192).foldl (fun s n => (s.withdrawWait (.taskSlot n k)).takeWait (.taskSlot n k)) s
      s.freeSlot c k
    else s
  { s with clu := { s.clu with
      waiting := sdrop s.clu.waiting c, lastRing := sdrop s.clu.lastRing c, maskEmpty := sdrop s.clu.maskEmpty c } }

/-- R379: update units stop at chunk boundaries, and the context's chains are dropped. -/
def State.endChains (s : State) (c : Nat) : State :=
  let units := ((s.upd.chains.filter (·.ctx = c)).map (fun x => match x.desc with
    | some d => d.units
    | none => [])).flatten
  let s := units.foldl (fun s ch => s.wr .updRun ch 0) s
  { s with upd := { s.upd with chains := s.upd.chains.filter (·.ctx ≠ c) } }

/-- R165, R200, R379: the step is abandoned, the samplers drop its rows, every entry returns to FREE, and the references of
sequences, anchors and handles are dropped. Far pages so freed wait for their release. -/
def State.endSequences (s : State) (c : Nat) : State :=
  let free0 := s.rd .kvFarfree 0
  let far := (s.poolTaken true).filter (fun p => s.kmKind p ≠ 0 && s.kmCtx p = c && !s.pageLost p)
  let s := (s.seqsOf c).foldl (fun s i => (s.releasePages i).freeSeq i) s
  let live := (List.range 1024).filter (fun k => (s.pfx c k).live)
  let s := live.foldl (fun s k => s.pfxRelease c k) s
  let gone := far.filter (fun p => s.kmKind p = 0)
  let s : State := { s.wr .kvFarfree 0 free0 with
    kv := { s.kv with farDue := s.kv.farDue ++ gone }
    seq := { s.seq with ctxs := sdrop s.seq.ctxs c, sent := s.seq.sent.filter (fun p => p.1 / 131072 ≠ c) } }
  let units := (List.range 6).filter (fun u => s.rd .smpRun u ≠ 0 && s.rd .smpCtx u = c)
  let s := units.foldl (fun s u => ((s.wr .smpRun u 0).withdrawWait (.sampler u)).takeWait (.sampler u)) s
  (s.withdrawWait (.sequencer c)).takeWait (.sequencer c)

/-- R379 row 6: pending events are dropped, and the shares of channels and spans returned. -/
def State.endShares (s : State) (c : Nat) : State :=
  { s with
    events := sdrop s.events c
    mem := { s.mem with buckets := s.mem.buckets.filter (fun q => q.1 % 64 ≠ c) }
    span := { s.span with links := s.span.links.map (fun q => (q.1, { q.2 with deficits := sdrop q.2.deficits c })) } }

/-- The rings that a context owns. -/
def State.ringsOf (s : State) (c : Nat) : List Nat :=
  ((s.regs.filter (fun q => regOfKey q.1 = .dbState)).map (fun q => copyOfKey q.1)).filter (fun r => s.rd .dbCtx r = c)

/-- R407: the context's content keys are gone. -/
def State.endKeys (s : State) (c : Nat) : State :=
  { s with sec := { s.sec with content := sclear s.sec.content (16 * c) (16 * c + 16) } }

/-- R487: the harts of the context's quads are HELD, and the quads leave the context. -/
def State.endQuads (s : State) (c : Nat) : State :=
  (s.quadsOf c).foldl (fun s q =>
    ((((List.range 4).foldl (fun s h => s.holdHart (4 * q + h)) s).wr .gqCtx q 0).wr .gqCtxvalid q 0).wr .gqBootdva q 0) s

/-- R383: nothing of a context's page, and nothing that its boundary waits for, is being adopted any more. -/
def State.endAdoption (s : State) (c : Nat) : State :=
  s.epochsDone (s.cfg.adopting.map (fun a =>
    { a with islands := if a.page = ctxPage c then [] else a.islands.filter (·.2 ≠ some c) }))

/-- R378, R379, R464: every piece of a context's work ends, and its resources return to the module: the context is EMPTY. -/
def State.endContext (s : State) (c : Nat) : State :=
  let quads := s.quadsOf c
  let slots := if s.flag .ctxSlotvalid c then (List.range 192).map (· + 0x100) else []
  let s := (((s.endClusters c).endChains c).weaveReset c).endSequences c
  let s := (((s.tallyReset c).endQuads c).endShares c).endKeys c
  let s := ((s.ringsOf c).foldl (fun s r => s.freeRing r) s).meterClose c
  let s := (((s.endAdoption c).setRunning c 0).bump .rstCtxresets 0 1).dropRegs (fun r i => r.survivesOn (r.pageOf i) = .C && r.ofContext i c)
  s.setDefaulted ([ctxPage c, 0x400, 0x402, 0x403] ++ (List.range 6).map (· + 0x408) ++ (List.range 4).map (· + 0x410) ++ [0x420]
    ++ slots ++ quads.map (· + 0x440))

end Sys2Proof.Machine
end

