-- ==== Sys2Proof/Machine/ContextEnd.lean ====
section
/-!
DEFINITION. The context commands that reach into every block: RESET and its completion (R378, R379), the release of far pages,
RING_DESTROY (R368), and the turn boundary (R366).
-/
namespace Sys2Proof.Machine
open Sys2Proof

/-- R340: the context of a command is the armed context of a WORKER that is a MEMBER. -/
def State.armedWorker (s : State) (c : Nat) : Bool := s.flag .fhArm 0 && s.rd .fhArmctx 0 = c && s.rd .fhRole 0 = 0 && s.isMember

/-- CTX_RESET (R378): accepted in any state but EMPTY; of a RESETTING context it completes together with the reset in progress. -/
def execCtxReset (rdr : Reader) (c : Nat) (s : State) : Result :=
  .next (
    if c ≥ 64 then s.reply rdr .genPageAbsent 0
    else if !s.ctxMay rdr c .owner then s.reply rdr .sesRights 0
    else if s.rd .ctxState c = 0 then s.ctxEnd rdr c .ctxState
    else if s.rd .ctxState c = 3 then s.reply rdr .ok 0
    else
      let s := if s.armedWorker c then s.declareFault .fhSelfFault else s
      (s.startReset c).reply rdr .ok 0)

/-- CTX_RESET_COMPLETE (R379): the reset's last row. -/
def execCtxResetComplete (c : Nat) (s : State) : Result :=
  if c < 64 ∧ s.rd .ctxState c = 3 then .next (s.endContext c) else .next s

/-- FAR_PAGE_RELEASE (R379): the oldest of the far pages that reset contexts left is released, and counts in KV_FARFREE. -/
def execFarPageRelease (s : State) : Result :=
  match s.kv.farDue with
  | [] => .next s
  | p :: t =>
    let s : State := { s with kv := { s.kv with farDue := t } }
    .next (if s.pageLost p then s else s.bump .kvFarfree 0 1)

/-- R368: work taken from a ring still runs: a task, a chain, a plan, or a command not yet applied. -/
def State.ringRuns (s : State) (r : Nat) : Bool :=
  s.clu.clusters.any (fun p => p.2.slots.any (fun q => match q.2.task with
    | none => false
    | some t => t.ring = r))
  || s.clu.waiting.any (fun p => p.2.any (fun w => w.ring = r))
  || s.upd.chains.any (·.ring = r)
  || s.weave.plans.any (fun p => match p.2 with
    | none => false
    | some x => x.ring = r)
  || s.seq.ctxs.any (fun p => p.2.cmds.any (·.ring = r))

/-- R368: a pending entry of a context's ring names r as its completion ring. -/
def State.entryNames (s : State) (c r q : Nat) : Bool :=
  (List.range (s.ringUsed q)).any (fun k =>
    match s.dvaRead c (s.entryDva q (s.rd .dbHead q + k)) 64 with
    | .error _ => false
    | .ok b => fieldAt b 2 2 = r && (s.rd .dbType q = 2 || bitAt (fieldAt b 1 1) 0))

/-- R368: the checks of RING_DESTROY, in their order. -/
def State.destroyCheck (s : State) (c : Nat) : Status :=
  let r := bitsAt (s.cmdArg c 0) 0 16
  if s.rd .ctxCmdarg c ≠ r ∨ s.rd .dbState r = 0 ∨ s.rd .dbCtx r ≠ c then .ctxCmd
  else if s.rd .dbType r ≠ 3 then (if s.rd .dbTail r ≠ s.rd .dbHead r ∨ s.ringRuns r then .ringBusy else .ok)
  else if (s.ring r).reserved ≠ 0 then .ringBusy
  else if (s.ringsOf c).any (fun q => s.rd .dbType q ≠ 3 && s.entryNames c r q) then .ringBusy
  else if (s.seqsOf c).any (fun i => (s.seqAt i).cring = r) then .ringBusy
  else if s.rd .ctxEvtring c = r ∧ (s.rd .ctxEvtdest c = 1 ∨ s.rd .ctxEvtdest c = 2) then .ringBusy
  else .ok

/-- RING_DESTROY (R368): the ring returns to FREE; records not yet consumed are abandoned with it. -/
def execRingDestroy (rdr : Reader) (c : Nat) (s : State) : Result :=
  .next (s.ctxCommand rdr c .gondola (fun s =>
    match s.destroyCheck c with
    | .ok => ((s.freeRing (bitsAt (s.cmdArg c 0) 0 16)).wr .ctxRings c (s.rd .ctxRings c - 1), .ok)
    | e => (s, e)))

/-- R366: nothing of the context holds up a pending change of its class. -/
def State.turnReady (s : State) (c : Nat) : Bool :=
  !s.hasTask c && !s.hasDeferred c && s.upd.chains.all (·.ctx ≠ c)
    && s.weave.plans.all (fun p => match p.2 with
      | none => true
      | some x => x.ctx ≠ c)
    && (s.seqsOf c).isEmpty

/-- CLASS_CHANGE (R366): at the turn boundary the pending class takes effect. -/
def execClassChange (c : Nat) (s : State) : Result :=
  if c < 64 ∧ s.flag .ctxClasspend c ∧ s.turnReady c then
    .next ((s.wr .ctxClass c (1 - s.rd .ctxClass c)).wr .ctxClasspend c 0)
  else .next s

end Sys2Proof.Machine
end

