-- ==== Sys2Proof/Machine/Clusters.lean ====
section
/-!
DEFINITION. The cluster commands (chapter "Compute Clusters and Tile Programs"): tasks, tile boundaries, the tiles' work, drains,
completions and fencing.
-/
namespace Sys2Proof.Machine
open Sys2Proof

/-! ## Tasks -/

/-- TASK_ENTRY_TAKE (R370, R82): the entry at the head of a tile-work ring becomes a waiting task. -/
def execTaskEntryTake (ring : Nat) (ecc : List (Nat × EccError)) (s : State) : Result :=
  let c := s.rd .dbCtx ring
  if !(s.ringPending ring 0 && s.rd .ctxState c = 2 && sget 0 s.ctxRunning c ≠ 4 && s.serves c && !s.stopped c) then .next s
  else
    match (s.eccFound ecc).takeWork ring with
    | (s, none) => .next s
    | (s, some e) =>
      if e.kind ≠ 1 then .next (s.reservedEntry ring 5 (ctxPage c) e)
      else if e.ptr % 64 ≠ 0 then
        .next ((s.workDone 5 e.complete e.cring Status.dvaAccess.code ring e.tag e.ptr 0 0).raise (ctxPage c) .dvaAccess (some c)
          e.ptr 0)
      else
        let t : Task := ⟨c, ring, e.dva, e.complete, e.cring, e.tag, e.ptr, 0, 0, false, false, none, e.ptr, false⟩
        let w := sget [] s.clu.waiting c
        .next { s with clu := { s.clu with waiting := sput [] s.clu.waiting c (w ++ [⟨ring, t⟩]) } }

/-- R83: the rings of a context that hold waiting tasks, the next in turn first: each ring after the last one used, then the others. -/
def ringTurn (last : Nat) (w : List Waiting) : Option Nat :=
  let rings := (w.map (·.ring)).eraseDups.mergeSort (· ≤ ·)
  match rings.find? (fun r => last < r) with
  | some r => some r
  | none => rings.head?

/-- R83: the lowest-numbered unfenced cluster of the mask (as that cluster has adopted it, R383) whose slot for the context is empty. -/
def State.placeFor (s : State) (c : Nat) : Option Nat :=
  (List.range 192).find? (fun n =>
    bitAt (s.rdAt (islCluster n) .ctxMask c) n && !s.flag .cluFenced n && (s.slot n (s.rd .ctxSlot c)).task.isNone)

/-- R83: the context is told once while its mask holds no unfenced cluster. -/
def State.tellMaskEmpty (s : State) (c : Nat) : State :=
  if s.effClusters c = 0 then
    if sget false s.clu.maskEmpty c then s
    else { s with clu := { s.clu with maskEmpty := sput false s.clu.maskEmpty c true } }.raise (ctxPage c) .cluMaskEmpty (some c) 0 0
  else { s with clu := { s.clu with maskEmpty := sput false s.clu.maskEmpty c false } }

/-- TASK_PLACE (R83): a waiting task of a context takes its slot on a cluster. -/
def execTaskPlace (c : Nat) (s : State) : Result :=
  let w := sget [] s.clu.waiting c
  if w = [] ∨ s.stopped c ∨ sget 0 s.ctxRunning c = 4 then .next s
  else
    let s := s.tellMaskEmpty c
    if !s.flag .ctxLanesok c then .next s
    else match s.placeFor c, ringTurn (sget 0 s.clu.lastRing c) w with
    | some n, some r =>
      match w.find? (fun x => x.ring = r) with
      | none => .next s
      | some x =>
        let s : State := { s with clu := { s.clu with
          waiting := sput [] s.clu.waiting c (w.erase x)
          lastRing := sput 0 s.clu.lastRing c r } }
        .next (s.setSlotShown n (s.rd .ctxSlot c) (fun y => { y with task := some x.task }))
    | _, _ => .next s

/-! ## Tile boundaries -/

/-- R28, R29: a TALLY tile that begins with a fence: one with TD_FENCE, and a SIGNAL. -/
def Tile.fences (t : Tile) : Bool := t.stage = .chosen && (tdFence t.td || tdTallyOp t.td = 1)

/-- R28: the fence of a TALLY tile waits for a cluster's outstanding accesses, and no tile starts before it completes (log entry 107). -/
def State.fencePending (s : State) (n : Nat) : Bool :=
  (s.cluster n).draining && (List.range 8).any (fun k => (s.slot n k).tally.any Tile.fences)

/-- R114: a tile boundary of a cluster: it is idle and not fenced, and no fence of a TALLY tile is pending. -/
def State.atBoundary (s : State) (n : Nat) : Bool := (s.cluster n).cur.isNone && !s.flag .cluFenced n && !s.fencePending n

/-- R113: a descriptor enters the deferred queue. -/
def State.enqueue (s : State) (n k : Nat) (t : Task) (td : List Byte) : State :=
  s.modSlot n k (fun x => { x with queue := x.queue ++ [t.next], task := some (t.advance td) })

/-- R115, R114: the head entry of a deferred queue starts. -/
def State.startDeferred (s : State) (n k c dva : Nat) (forced : Bool) : State :=
  let s := s.modSlot n k (fun x => { x with queue := x.queue.tail })
  let s := if forced then s.bump .lrnDefforced c 1 else s
  match s.tdAt c dva with
  | .ok td => s.startTile n k c dva td true
  | .error e => s.setCur n (some ((Tile.start k c dva (zeros 192) true).fail e 0))

/-- The context of the task in a slot. -/
def State.taskCtx (s : State) (n k : Nat) : Nat := match (s.slot n k).task with
  | none => 0
  | some t => t.ctx

/-- TILE_BOUNDARY (R114, R372): the ready chain tile of the context with the least virtual time starts, or a queued entry that runs
ahead of it, or the descriptor enters the deferred queue: a deferred tile is checked when it runs (R86, R113). -/
def execTileBoundary (n : Nat) (ecc : List (Nat × EccError)) (s : State) : Result := s.under (islCluster n) fun s =>
  if !s.atBoundary n then .next s
  else
    let s := (s.eccFound ecc).readyTime n
    match s.leastV n ((List.range 8).filter (fun k => (s.nextTile n k).ready)) with
    | none => .next s
    | some k =>
      match s.nextTile n k with
      | .none => .next s
      | .forced d => .next (s.startDeferred n k (s.taskCtx n k) d true)
      | .chain t (.error e) =>
        let s := s.modSlot n k (fun x => { x with task := some { t with ended := true } })
        .next (s.setCur n (some ((Tile.start k t.ctx t.next (zeros 192) false).fail e 0)))
      | .chain t (.ok td) =>
        if tdDefer td ∧ s.deferCheck t.ctx td = .ok then .next (s.enqueue n k t td)
        else
          let s := s.modSlot n k (fun x => { x with task := some (t.advance td) })
          .next (s.startTile n k t.ctx t.next td false)

/-- DEFERRED_TILE_RUN (R114): with no chain tile ready, the head entry of a deferred queue, chosen by the same weighted issue. -/
def execDeferredTileRun (n : Nat) (ecc : List (Nat × EccError)) (s : State) : Result := s.under (islCluster n) fun s =>
  if !s.atBoundary n ∨ (List.range 8).any (fun k => (s.nextTile n k).ready) then .next s
  else
    let s := (s.eccFound ecc).readyTime n
    match s.leastV n ((List.range 8).filter (s.deferReady n)) with
    | none => .next s
    | some k =>
      match (s.slot n k).queue with
      | d :: _ => .next (s.startDeferred n k (s.taskCtx n k) d false)
      | [] => .next s

/-! ## The tiles' work -/

/-- R372, R111: a tile's cycles are charged at the end of its work on the unit. -/
def State.chargeTile (s : State) (n : Nat) (t : Tile) : State :=
  let s := s.chargeV n t.slot t.ctx t.cycles
  if tdKind t.td = 4 then s.bump .ctxCycles t.ctx t.cycles else s.matrixCycles n t.ctx t.cycles

/-- A tile that stops on the matrix unit after some cycles: its accumulator is discarded (R101, R110). -/
def State.stopMatrix (s : State) (n : Nat) (t : Tile) (cyc : Nat) (st : Status) : State :=
  let idx := if s.isLearn t.ctx then tdAccslot t.td else (s.slot n t.slot).half
  let s := s.setSlotShown n t.slot (fun x => { x with held := x.held.filter (fun a => a.slot ≠ idx) })
  let t := { t with cycles := cyc }.fail st 0
  (s.chargeTile n t).setCur n (some t)

/-- R95 to R97: the accumulator of a tile is handed to the epilogue: it leaves its slot, the other half fills, and the units are free
for the next tile. -/
def State.handOver (s : State) (n : Nat) (t : Tile) (a : Acc) : State :=
  let learn := s.isLearn t.ctx
  let s := s.setSlotShown n t.slot (fun x => { x with
    held := x.held.filter (fun h => h.slot ≠ a.slot)
    half := if learn then x.half else 1 - x.half })
  let cl := s.cluster n
  (s.setCluster n { cl with cur := none, tiles := cl.tiles ++ [{ t with stage := .draining, acc := some a }] }).wr .cluRun n 0

/-- R92 to R102: the product of a MATMUL tile goes into its slot or half. DESIGN CHOICE (log entry 112): the saturation that ACC_SAT (R77) and TD_ACCSAT
(R98) tell of includes one of an earlier tile whose sums the accumulator still holds: the flag is kept with the sums. -/
def State.runMatmul (s : State) (n : Nat) (t : Tile) : State :=
  let td := t.td
  let x := s.slot n t.slot
  let idx := if s.isLearn t.ctx then tdAccslot td else x.half
  let old := if tdAdds td then x.held.find? (fun a => a.slot = idx) else none
  let rows := min (tdM td) (roundUp t.written 16)
  let cells := tdM td * tdN td
  let w := if tdAccfmt td = 2 then 64 else 32
  let (vals, sat) := matProduct td x.scratch (s.propagates t.ctx) (old.map (·.vals)) (s.freeList w cells) rows
  let s := if rows < tdM td ∧ old.isNone then s.drawnMany cells else s
  let sat := sat || (match old with
    | none => false
    | some a => a.sat)
  let acc : Acc := ⟨idx, tdM td, tdN td, tdAccfmt td, vals, sat⟩
  let t := { t with
    accSat := sat
    cycles := matmulCycles td x.scratch rows
    macs := matmulMacs td x.scratch rows
    rate := pairRate (tdFmtA td) (tdFmtB td) }
  let s := s.chargeTile n t
  if tdDrains td then s.handOver n t acc
  else
    let s := s.setSlotShown n t.slot (fun x => { x with held := acc :: x.held.filter (fun a => a.slot ≠ idx) })
    s.setCur n (some t.finish)

/-- MATMUL (R92): the tile's matrix product runs. `stop` is the matrix cycle at which the self-check finds a residue mismatch (R110). -/
def execMatmul (n : Nat) (stop : Option Nat) (ecc : List (Nat × EccError)) (s : State) : Result := s.under (islCluster n) fun s =>
  match s.chosenTile n 0 with
  | none => .next s
  | some t =>
    let (s, t) := if t.pred then (s, t) else (s.eccFound ecc).predicate t
    if t.stage = .ready then .next (s.setCur n (some t))
    else
      let scr := (s.slot n t.slot).scratch
      let total := matmulCycles t.td scr (min (tdM t.td) (roundUp t.written 16))
      if !metaOk t.td scr then
        .next (s.drawn.stopMatrix n t ((s.freeNext 32).toNat % (total + 1)) .cluSpmetaInvalid)
      else
        match stop with
        | some cyc => .next ((s.stopMatrix n t (min cyc total) .cluResidue).residueError n)
        | none => .next (s.runMatmul n t)

/-- ATTN (R184): new keys and values are appended, the rows attend, and the tile drains. -/
def execAttn (n : Nat) (stop : Option Nat) (ecc : List (Nat × EccError)) (s : State) : Result := s.under (islCluster n) fun s =>
  match s.chosenTile n 1 with
  | none => .next s
  | some t =>
    let s := s.eccFound ecc
    let h := tileHead t.td (s.slot n t.slot).scratch
    if s.cowBusy (s.rd .seqLayers t.ctx) h (s.rd .kvTokpage t.ctx) then .next s
    else
      match stop with
      | some cyc =>
        match s.attnBegin n t with
        | (s, some t) => .next (s.setCur n (some t))
        | (s, none) => .next ((s.stopMatrix n t cyc .cluResidue).residueError n)
      | none =>
        let (s, t) := s.attnRun n t
        match t.acc with
        | none => .next (s.setCur n (some t))
        | some a =>
          let s := s.chargeTile n t
          .next (s.handOver n t { a with slot := if s.isLearn t.ctx then tdAccslot t.td else (s.slot n t.slot).half })

/-- R87: the rows of a copy in memory. -/
def copyRows (td : List Byte) : List (Nat × Nat) :=
  (List.range (tdM td)).map (fun i => (tdOut td + i * tdOutstride td, tdScrA td + i * tdK td))

/-- R44, R87: rows are copied in, one after another; the first failure ends the copy. -/
def State.copyInRows (s : State) (n : Nat) (t : Tile) : List (Nat × Nat) → State × Status
  | [] => (s, .ok)
  | (m, a) :: rest =>
    match s.readDva t.ctx m (tdK t.td) with
    | (s, .error e) => (s, e)
    | (s, .ok b) => (s.modSlot n t.slot (fun x => { x with scratch := writeBytes x.scratch a b })).copyInRows n t rest

/-- R103: the scratch after a copy with TD_ZBUILD has written its bitmap. -/
def zmapInto (td : List Byte) (scr : Sparse Byte) : Sparse Byte :=
  if !tdZbuild td then scr
  else
    match fmtInfo (tdFmtA td), zbuildElems td with
    | some f, some e => writeBytes scr (tdScrZmap td) (zeroBitmap f.elem ((ScrArray.mk (tdScrA td) (tdM td) (tdK td)).all scr) e)
    | _, _ => scr

/-- R103: the bitmap of a copy with TD_ZBUILD. -/
def State.buildZmap (s : State) (n : Nat) (t : Tile) : State := s.modSlot n t.slot (fun x => { x with scratch := zmapInto t.td x.scratch })

/-- COPY_IN (R87): TD_M rows of TD_K bytes go from memory to scratch, with their zero-block bitmap where TD_ZBUILD asks for it. -/
def execCopyIn (n : Nat) (ecc : List (Nat × EccError)) (s : State) : Result :=
  match s.chosenTile n 2 with
  | none => .next s
  | some t =>
    match (s.eccFound ecc).copyInRows n t (copyRows t.td) with
    | (s, .ok) => .next ((s.buildZmap n t).setCur n (some t.finish))
    | (s, e) => .next (s.setCur n (some (t.fail e 0)))

/-- COPY_OUT (R87): rows of scratch go to memory. -/
def execCopyOut (n : Nat) (ecc : List (Nat × EccError)) (s : State) : Result :=
  match s.chosenTile n 3 with
  | none => .next s
  | some t =>
    let scr := (s.slot n t.slot).scratch
    let (s, st) := (s.eccFound ecc).writeAll t.ctx ((copyRows t.td).map (fun r => (r.1, readBytes scr r.2 (tdK t.td))))
    .next (s.setCur n (some (t.after st)))

/-- FENCE_TILE (R28): the fence completes when no write of the cluster is outstanding. -/
def execFenceTile (n : Nat) (s : State) : Result :=
  match s.chosenTile n 6 with
  | none => .next s
  | some t => if (s.cluster n).draining then .next s else .next (s.setCur n (some t.finish))

/-- The tally operation of a TALLY tile (R87): its outcome, or that it waits. -/
def State.tallyTileOp (s : State) (n k : Nat) (t : Tile) : State × Tile :=
  let bank := bankOfIsland (islCluster n)
  let (vid, cnt) := (tdTallyId t.td, tdTallyN t.td)
  let fin (r : State × Status) : State × Tile := (r.1, if r.2 = .ok then t.finish else t.fail r.2 0)
  match tdTallyOp t.td with
  | 1 => fin (s.tallySignal bank t.ctx vid cnt false)
  | 3 => fin (s.tallyTake bank t.ctx vid cnt)
  | _ =>
    match s.tallyWait bank t.ctx vid cnt (.taskSlot n k) with
    | (s, .ok true) => (s, t.finish)
    | (s, .ok false) => (s, { t with stage := .under })
    | (s, .error e) => (s, t.fail e 0)

/-- TALLY_TILE (R87, R28, R29): after its fence, the tile's operation at its bank; a WAIT that has not completed leaves the tile under way until it has. -/
def execTallyTile (n k : Nat) (s : State) : Result :=
  match (s.slot n k).tally with
  | none => .next s
  | some t =>
    if t.stage = .ready ∨ s.rd .ctxState t.ctx ≠ 2 then .next s
    else if t.stage = .under then
      match s.waitDone (.taskSlot n k) with
      | none => .next s
      | some st =>
        .next ((s.takeWait (.taskSlot n k)).modSlot n k (fun x => { x with
          tally := some (if st = .ok then t.finish else t.fail st 0) }))
    else if t.fences ∧ (s.cluster n).draining then .next s
    else
      let (s, t) := s.tallyTileOp n k t
      .next (s.modSlot n k (fun x => { x with tally := some t }))

/-! ## Drains and completions -/

/-- The first tile of a cluster that meets a condition, and the others. -/
def takeTile (p : Tile → Bool) : List Tile → Option (Tile × List Tile)
  | [] => none
  | t :: r =>
    if p t then some (t, r)
    else match takeTile p r with
      | none => none
      | some (x, l) => some (x, t :: l)

/-- R184: an ATTN tile's log-sum-exp values, at AH_LSE. -/
def State.writeLse (s : State) (t : Tile) : State × Tile :=
  if tdKind t.td ≠ 1 ∨ t.status ≠ .ok ∨ t.lseAt = 0 then (s, t)
  else
    let (s, st) := s.dvaWrite t.ctx t.lseAt ((t.lse.map (leBytes 4)).flatten)
    (s, if st = .ok then t else t.fail st 0)

/-- EPILOGUE_DRAIN (R62): the oldest accumulator handed to the epilogue of a cluster drains. -/
def execEpilogueDrain (n : Nat) (ecc : List (Nat × EccError)) (s : State) : Result := s.under (islCluster n) fun s =>
  match takeTile (fun t => t.stage = .draining) (s.cluster n).tiles with
  | none => .next s
  | some (t, _) =>
    match t.acc with
    | none => .next s
    | some a =>
      if s.rd .ctxState t.ctx ≠ 2 then .next s
      else
        let s := s.eccFound ecc
        let (s, t') := if tdRoute t.td ∧ tdKind t.td = 0 then s.drainRoute n t a
          else
            let (s, t') := s.drainPlain n t a
            s.writeLse t'
        .next (s.setTiles n ((s.cluster n).tiles.map (fun x => if x = t then t' else x)))

/-- TILE_COMPLETE (R88): a tile whose work is done or that has failed completes: the tile of a TALLY slot, the oldest drained tile, or
the tile on the units. A signal of the tile on the units waits for the cluster's earlier writes (R29). -/
def execTileComplete (n : Nat) (met : Met (Option Nat)) (s : State) : Result :=
  let s := s.eccFound met.ecc
  match met.op with
  | some k =>
    match (s.slot n k).tally with
    | none => .next s
    | some t =>
      if t.stage = .ready then .next ((s.modSlot n k (fun x => { x with tally := none })).completeTile n t) else .next s
  | none =>
    match takeTile (fun t => t.stage = .ready) (s.cluster n).tiles with
    | some (t, l) => .next ((s.setTiles n l).completeTile n t)
    | none =>
      match (s.cluster n).cur with
      | none => .next s
      | some t =>
        if t.stage = .ready ∧ !(t.status = .ok && tdTallyOp t.td = 1 && (s.cluster n).draining) then .next (((s.setCur n none).wr .cluRun n 0).completeTile n t) else .next s

/-- CLU_FENCE_REQ (R111): session 0 fences the cluster. -/
def execCluFenceReq (rdr : Reader) (n v : Nat) (s : State) : Result :=
  if rdr ≠ .session 0 then .next (s.reply rdr .sesRights 0)
  else if v % 2 = 0 ∨ 192 ≤ n then .next (s.reply rdr .ok 0)
  else .next ((s.fenceCluster n 2).reply rdr .ok 0)

end Sys2Proof.Machine
end

