-- ==== Sys2Proof/Machine/RegOps.lean ====
section
/-!
DEFINITION. Register words (R10, R13): the fields of a 32-bit word of a page, together.
-/
namespace Sys2Proof.Machine
open Sys2Proof

/-- The bits of a field's value that stand in a word. -/
def WordPart.show_ (p : WordPart) (v : Nat) : Nat := bitsAt v p.valLsb p.width * 2 ^ p.wordLsb

/-- A field's value with a word's bits put in. -/
def WordPart.take (p : WordPart) (old w : Nat) : Nat := setBits old p.valLsb p.width (bitsAt w p.wordLsb p.width)

/-- The word at byte offset o of a page as stored: write-only fields read zero, reserved bits are zero. -/
def State.storedWord (s : State) (rd p o : Nat) : Nat :=
  ((wordParts rd p o).map (fun q => if q.reg.info.access = .wo then 0 else q.show_ (s.rd q.reg q.idx))).foldl (· + ·) 0

/-- Put a word's bits into every field of a word. -/
def State.putWord (s : State) (rd p o w : Nat) : State :=
  (wordParts rd p o).foldl (fun s q => s.wr q.reg q.idx (q.take (s.rd q.reg q.idx) w)) s

/-- n words from byte offset o of a page, as bytes. -/
def State.wordBytes (s : State) (p o n : Nat) : List Byte :=
  ((List.range n).map (fun i => leBytes 4 (s.storedWord 0 p (o + 4 * i)))).flatten

/-- Put bytes back into n words. -/
def State.putBytes (s : State) (p o n : Nat) (b : List Byte) : State :=
  (List.range n).foldl (fun s i => s.putWord 0 p (o + 4 * i) (fieldAt b (4 * i) 4)) s

end Sys2Proof.Machine
end

