-- ==== Sys2Proof/Machine/StageOps.lean ====
section
/-!
DEFINITION. Staging and ballast (R334 to R338): where an image lies, and what arrives from a ward.
-/
namespace Sys2Proof.Machine
open Sys2Proof

/-- R334: where byte `off` of an image area starting at `base` lies: far or near, and the physical address. In the CXL tier the 2 MiB units
go round the staging ports. -/
def State.stagePlace (s : State) (base off : Nat) : Bool × Nat :=
  if s.flag .fhStagetier 0 then
    let ports := setBitsOf (s.rd .fhStageports 0) 8
    let u := off / 2 ^ 21
    let n := max 1 ports.length
    (true, ports.getD (u % n) 0 * 2 ^ 40 + base + u / n * 2 ^ 21 + off % 2 ^ 21)
  else (false, base + off)

/-- The pieces of n bytes from `off`, unit by unit: offset and length. -/
def stagePieces (off n : Nat) : List (Nat × Nat) :=
  (unitsOf (2 ^ 21) off n).map (fun u =>
    let lo := max off (u * 2 ^ 21)
    (lo, min (off + n) (u * 2 ^ 21 + 2 ^ 21) - lo))

/-- Write bytes at an offset of an image area; the first failure is the status. -/
def State.stageWrite (s : State) (base off : Nat) (bs : List Byte) : State × Status :=
  (stagePieces off bs.length).foldl (fun (a : State × Status) p =>
    let (far, pa) := a.1.stagePlace base p.1
    let (t, st) := a.1.memWrite far pa ((bs.drop (p.1 - off)).take p.2)
    (t, if a.2 = .ok then st else a.2)) (s, .ok)

/-- Read n bytes at an offset of an image area. -/
def State.stageRead (s : State) (base off n : Nat) : Except Status (List Byte) :=
  (stagePieces off n).foldl (fun a p =>
    match a with
    | .error e => .error e
    | .ok b =>
      let (far, pa) := s.stagePlace base p.1
      match s.memRead far pa p.2 with
      | .ok c => .ok (b ++ c)
      | .error e => .error e) (.ok [])

/-- R337: the index of a ward at this member. -/
def State.wardIx (s : State) (m : Nat) : Option Nat :=
  if s.flag .fhWard0v 0 ∧ s.rd .fhWard0 0 = m then some 0
  else if s.flag .fhWard1v 0 ∧ s.rd .fhWard1 0 = m then some 1
  else none

/-- R337: the offset of slot j of ward w in the ballast region. -/
def State.slotOffset (s : State) (w j : Nat) : Nat := (2 * w + j) * (s.rd .fhSlotsize 0 * 2 ^ 21)

/-- R337: bytes of the header of slot j of ward w. -/
def State.slotBytes (s : State) (w j o n : Nat) : List Byte :=
  match s.stageRead (s.rd .fhBallastbase 0) (s.slotOffset w j + o) n with
  | .ok b => b
  | .error _ => zeros n

/-- BL_STATE and BL_STEP of slot j of ward w. -/
def State.slotState (s : State) (w j : Nat) : Nat := fieldAt (s.slotBytes w j 16 1) 0 1
def State.slotStep (s : State) (w j : Nat) : Nat := fieldAt (s.slotBytes w j 8 8) 0 8

/-- Write BL_STATE of slot j of ward w. -/
def State.setSlotState (s : State) (w j v : Nat) : State :=
  stateOf (s.stageWrite (s.rd .fhBallastbase 0) (s.slotOffset w j + 16) (leBytes 1 v))

/-- R334: a port of the staging and ballast is lost: staging and every hosted slot are gone, the next capture sends every block, and the lead is
told. -/
def State.stagingPortLost (s : State) (p : Nat) : State :=
  if s.flag .fhStagetier 0 ∧ bitAt (s.rd .fhStageports 0) p then
    let s : State := { s with fh := { s.fh with staged := [], sendAll := true } }
    let s := [(0, 0), (0, 1), (1, 0), (1, 1)].foldl (fun s x => s.setSlotState x.1 x.2 0) s
    if s.isMember then s.ledgerTo (s.rd .fltLead 0) .stagingLost else s
  else s

/-- R336: a ward's frame lands in its slot: WH_DSTCTX names the slot and WH_DVA the offset (log entry 58). It carries the run's WV_JOB. -/
def State.landBallast (s : State) (src job j off : Nat) (bs : List Byte) : State × Status :=
  match s.wardIx src with
  | none => (s, .wvRemoteRefused)
  | some w =>
    if !s.flag .fhArm 0 ∨ job = 0 ∨ s.rdNew .wvJob (s.rd .fhArmctx 0) ≠ job ∨ 2 ≤ j ∨ s.rd .fhSlotsize 0 * 2 ^ 21 < off + bs.length then
      (s, .wvRemoteRefused)
    else s.stageWrite (s.rd .fhBallastbase 0) (s.slotOffset w j + off) bs

end Sys2Proof.Machine
end

