-- ==== Sys2Proof/Machine/TrustOps.lean ====
section
/-!
DEFINITION. The module's identity and keys (R395, R405 to R411): certificates, signature blocks, quotes, the signature index, random
values and the wrapped form of keys.
-/
namespace Sys2Proof.Machine
open Sys2Proof

/-! ## Random values and key pairs (R405) -/

/-- Draw a random value of w bits. -/
def State.draw (s : State) (w : Nat) : State × Nat := (s.drawn, (s.freeNext w).toNat)

/-- A fresh ephemeral key pair, named by its number. -/
def State.freshKey (s : State) : State × Nat := s.draw 384

/-- The 97 bytes of a key pair's public key. -/
def publicBytes (k : Nat) : List Byte := beBytes 97 (Config.publicKey k).toNat

/-- The number of the key-agreement key pair (R405): a name of its own, which no drawn key has. -/
def agreementKey : Nat := 2 ^ 384

/-- The ECDH shared secret's 48 bytes. -/
def ecdhBytes (k : Nat) (peer : List Byte) : List Byte := beBytes 48 (Config.ecdh k peer).toNat

/-- SHA-384 as 48 bytes. -/
def shaBytes (b : List Byte) : List Byte := beBytes 48 (Config.sha384 b).toNat

/-- HKDF-Extract as 48 bytes. -/
def extractBytes (salt z : List Byte) : List Byte := beBytes 48 (Config.hkdfExtract salt z).toNat

/-! ## Certificates (R408, R409) -/

/-- The bytes of a certificate before its signature block. -/
def certBody (b : List Byte) : List Byte := b.take (268 + fieldAt b 264 4)

/-- The key record: bytes 64 to the end of the LMS public key. -/
def certRecord (b : List Byte) : List Byte := (certBody b).drop 64

/-- The signature block. -/
def certSig (b : List Byte) : List Byte := b.drop (268 + fieldAt b 264 4)

def certKind (b : List Byte) : Nat := fieldAt b 6 1
def certSubject (b : List Byte) : Nat := fieldAt b 8 8
def certIssuer (b : List Byte) : Nat := beNat ((b.drop 16).take 48)
def certKeyHash (b : List Byte) : Nat := (Config.sha384 (certRecord b)).toNat

/-- R408: the layout of a certificate of a kind. -/
def certFormed (b : List Byte) (kind : Nat) : Bool :=
  b.take 4 = [0x4B#8, 0x43#8, 0x52#8, 0x31#8] && fieldAt b 4 2 = 1 && certKind b = kind && fieldAt b 7 1 = 0
    && fieldAt b 161 3 = 0 && fieldAt b 261 3 = 0 && (kind = 1 || fieldAt b 164 97 = 0) && 268 + fieldAt b 264 4 < b.length

/-- R409: a certificate verifies under an issuer's key record. -/
def certSigned (b record : List Byte) : Bool :=
  certIssuer b = (Config.sha384 record).toNat && Config.verifies record (Config.sha384 (certBody b)) (certSig b)

/-- R409: a DEVICE certificate is valid under one of the fused vendor identity keys. -/
def State.deviceValid (s : State) (b : List Byte) : Bool :=
  certFormed b 1 && (List.range (s.rd .fuseVendorids 0)).any (fun k => certSigned b (Config.vendorRecord false k))

/-- R409: an OWNER certificate is valid under its own keys. -/
def ownerValid (b : List Byte) : Bool := certFormed b 2 && certSigned b (certRecord b)

/-- The fused owner key hash: its register holds the hash's bytes in order (R9). -/
def State.ownerHash (s : State) : Nat := beNat (leBytes 48 (s.rd .fuseOwnerhash 0))

/-- R409: a CLIENT or PUBLISHER certificate is valid under the current owner key. -/
def State.issuedValid (s : State) (b : List Byte) (kind : Nat) : Bool :=
  certFormed b kind && s.rd .fuseOwnerused 0 ≠ 0 && certIssuer b = s.ownerHash && certSigned b s.sec.owner

/-- R408: the identity hash of a certificate. -/
def idHash (cert : List Byte) : Nat := (Config.sha384 cert).toNat

/-! ## Quotes (R410, R411) -/

/-- R411: signatures in all. -/
def sigTotal : Nat := 2 ^ 35

/-- R410: the quote's 256 bytes. -/
def State.quoteBody (s : State) (report : List Byte) (index : Nat) : List Byte :=
  [0x4B#8, 0x41#8, 0x51#8, 0x31#8] ++ leBytes 2 1 ++ zeros 2 ++ beBytes 48 (idHash Config.identityCert)
    ++ beBytes 48 (match s.sec.running with | some r => r.1 | none => 0) ++ report
    ++ leBytes 48 (s.rd .fuseOwnerhash 0) ++ leBytes 1 (s.rd .fuseOwnerused 0) ++ leBytes 1 (s.rd .fuseFwepoch 0)
    ++ leBytes 1 (s.rd .fuseCeilused 0) ++ zeros 1 ++ leBytes 2 (s.rd .fuseCeiling 0)
    ++ leBytes 2 (s.rd .fltMember 0 + 2 ^ 14 * s.rd .fltMembervalid 0) ++ leBytes 8 index
    ++ leBytes 4 (b2n s.sec.running.isSome + 2 * b2n (s.rd .mtrState 0 = 2) + 4 * s.rd .fuseDebugclosed 0) ++ zeros 36

/-- R411: sign a quote with the next signature index, taking a block of 4,096 indices first where none is left of the last; none when
none remain. -/
def State.quote (s : State) (report : List Byte) : State × Option (List Byte) :=
  let i := s.sec.sigNext
  if sigTotal ≤ i then (s, none)
  else
    let body := s.quoteBody report i
    let s : State := { s with sec := { s.sec with
      sigNext := i + 1, sigEnd := if s.sec.sigEnd ≤ i then i + 4096 else s.sec.sigEnd } }
    (s.wr .secLmsleft 0 (sigTotal - (i + 1)), some (body ++ Config.signs 1 i (Config.sha384 body)))

/-- R308: a peer's quote over report data verifies under its certificate. -/
def quoteVerifies (cert q report : List Byte) : Bool :=
  q.take 4 = [0x4B#8, 0x41#8, 0x51#8, 0x31#8] && fieldAt q 4 2 = 1 && (q.drop 8).take 48 = shaBytes cert
    && (q.drop 104).take 48 = report && Config.verifies (certRecord cert) (Config.sha384 (q.take 256)) (q.drop 256)

/-! ## Wrapped keys (R406) -/

/-- R406: unwrap a key of 32 bytes: label, ephemeral key, wrapped key, tag. -/
def unwrapKey (b : List Byte) : Option Nat :=
  let label := b.take 16
  let e := (b.drop 16).take 97
  let prk := extractBytes (zeros 48) (ecdhBytes agreementKey e)
  let k := (Config.hkdfExpand 44 prk (asciiBytes "kerilo key wrap" ++ e)).toNat
  (Config.gcmOpen (BitVec.ofNat 256 (k / 2 ^ 96)) (BitVec.ofNat 96 k) label ((b.drop 113).take 32)
    (BitVec.ofNat 128 (beNat ((b.drop 145).take 16)))).map beNat

end Sys2Proof.Machine
end

