-- ==== Sys2Proof/Machine/SpanFrames.lean ====
section
/-!
DEFINITION. What the spans' frames say (R239, R266, R304, R308 to R312): hails and their checks, heartbeats, forwarding, and what DATA, SIGNAL
and CONFIRM frames do at their destination.
-/
namespace Sys2Proof.Machine
open Sys2Proof

/-! ## Hails (R308, R309) -/

/-- R309: a hail's payload. -/
def State.hailPayload (s : State) (n key nonce : Nat) : List Byte :=
  [0x4B#8, 0x48#8, 0x4C#8, 0x31#8] ++ leBytes 2 1 ++ leBytes 1 n ++ leBytes 1 (s.rd .fltState 0) ++ leBytes 8 (s.rd .fltId 0)
    ++ leBytes 2 (s.rd .fltMember 0 + 2 ^ 14 * s.rd .fltMembervalid 0) ++ leBytes 2 (s.rd .fltFeedtag 0) ++ leBytes 1 (s.rd .fltFeedok 0)
    ++ zeros 3 ++ leBytes 8 (s.rd .fltEpoch 0) ++ beBytes 48 (match s.sec.running with | some r => r.1 | none => 0)
    ++ shaBytes Config.identityCert ++ beBytes 32 nonce ++ publicBytes key ++ zeros 3 ++ Config.identityCert

def hlSpan (b : List Byte) : Nat := fieldAt b 6 1 % 32
def hlState (b : List Byte) : Nat := fieldAt b 7 1 % 8
def hlFlight (b : List Byte) : Nat := fieldAt b 8 8
def hlMember (b : List Byte) : Option Nat := if bitAt (fieldAt b 16 2) 14 then some (fieldAt b 16 2 % 2 ^ 14) else none
def hlTag (b : List Byte) : Nat := fieldAt b 18 2
def hlFeedok (b : List Byte) : Bool := bitAt (fieldAt b 20 1) 0
def hlEpoch (b : List Byte) : Nat := fieldAt b 24 8
def hlMfst (b : List Byte) : Nat := beNat ((b.drop 32).take 48)
def hlIdhash (b : List Byte) : Nat := beNat ((b.drop 80).take 48)
def hlNonce (b : List Byte) : List Byte := (b.drop 128).take 32
def hlKey (b : List Byte) : List Byte := (b.drop 160).take 97
def hlCert (b : List Byte) : List Byte := b.drop 260

/-- R308, R309: a hail is well formed and of version 1. -/
def hailFormed (b : List Byte) : Bool :=
  260 < b.length && b.take 4 = [0x4B#8, 0x48#8, 0x4C#8, 0x31#8] && fieldAt b 4 2 = 1 && fieldAt b 6 1 < 32 && fieldAt b 7 1 < 8
    && fieldAt b 16 2 < 2 ^ 15 && fieldAt b 20 1 < 2 && fieldAt b 21 3 = 0 && fieldAt b 257 3 = 0 && fieldAt b 160 1 = 4

/-- R308, R303: a frame outside the session: HAIL or HAIL_PROOF, unprotected, with no counter (log entry 57). -/
def State.plainFrame (s : State) (n ty : Nat) (payload : List Byte) : State :=
  let f : Frame := ⟨ty, 0, 1, s.rd .fltMember 0, 0, payload, false, none, none, 0, []⟩
  let bytes := frameHeader f false 0 0 ++ payload ++ zeros 16
  (s.emit (.span n bytes)).bump .spnTxbytes n bytes.length

/-- Send the hail of a link's key pair and nonce, as the module stands now. -/
def State.sendHail (s : State) (n : Nat) : State :=
  let l := s.link n
  let p := s.hailPayload n l.ownKey l.nonce
  (s.setLink n { l with hail := p }).plainFrame n 6 p

/-- R308, R405: steps 1 and 2: a fresh key pair and nonce, and the hail. Without entropy there is none. -/
def State.startHail (s : State) (n : Nat) : State :=
  if s.sec.entropyBad then s
  else
    let (s, k) := s.freshKey
    let (s, r) := s.draw 256
    (s.setLink n { s.link n with ownKey := k, nonce := r }).sendHail n

/-- R308: the report data: SHA-384 of the low end's hail and the high end's. -/
def hailReport (a b : List Byte) : List Byte := if hlIdhash a < hlIdhash b then shaBytes (a ++ b) else shaBytes (b ++ a)

/-- R308: step 3: the proof; with no signature left the hail fails. -/
def State.sendProof (s : State) (n : Nat) : State :=
  let l := s.link n
  match s.quote (hailReport l.hail l.peerHail) with
  | (s, none) => if s.rd .spnState n = spUp then s else s.refuseSpan n .secLmsExhausted
  | (s, some q) => s.plainFrame n 7 q

/-- R308: step 4 for a peer's hail and quote, in order. -/
def State.hailCheck (s : State) (own peer q : List Byte) : Status :=
  if !hailFormed peer then .spnHailFormat
  else if hlIdhash peer = idHash Config.identityCert then .spnLoopback
  else if !(s.deviceValid (hlCert peer) && idHash (hlCert peer) = hlIdhash peer && quoteVerifies (hlCert peer) q (hailReport own peer)) then
    .spnHailIdentity
  else if s.rd .fltId 0 = 0 then .fltUnconfigured
  else if hlFlight peer ≠ 0 ∧ hlFlight peer ≠ s.rd .fltId 0 then .fltForeign
  else
    match hlMember peer with
    | none => .ok
    | some m =>
      match sget none s.flt.members m with
      | some x => if x.idhash = hlIdhash peer then .ok else .fltMemberConflict
      | none => .ok

/-- R308: step 5: the link's session keys. -/
def SpanLink.derive (l : SpanLink) : SpanLink :=
  let low := hlIdhash l.hail < hlIdhash l.peerHail
  let nonces := if low then hlNonce l.hail ++ hlNonce l.peerHail else hlNonce l.peerHail ++ hlNonce l.hail
  let prk := extractBytes nonces (ecdhBytes l.ownKey (hlKey l.peerHail))
  let lh := keyOf (Config.hkdfExpand 36 prk (asciiBytes "kerilo span lh")) false
  let hl := keyOf (Config.hkdfExpand 36 prk (asciiBytes "kerilo span hl")) false
  { SpanLink.dark with
    tx := if low then lh else hl
    rx := if low then hl else lh
    ownKey := l.ownKey, nonce := l.nonce, hail := l.hail, peerHail := l.peerHail }

/-- R319, R320: what a member does that hears another module's state, member ID and epoch: the lead fences a member that is ahead. -/
def State.aheadCheck (s : State) (m : Option Nat) (epoch : Nat) : State :=
  match m with
  | some m => if s.isMember ∧ s.flag .fltIslead 0 ∧ s.rd .fltCommitted 0 < epoch then s.propose 6 (fenceBody m Status.fltAhead.code) else s
  | none => s

/-- R320, R315: with a member behind an UP span, a module alone becomes CANDIDATE; without a flight region its admission is refused (log entry 120). -/
def State.maybeCandidate (s : State) (peerState : Nat) : State :=
  if peerState = fltMember ∧ s.rd .fltState 0 = 0 ∧ s.rd .fltId 0 ≠ 0 then
    if s.rd .fltRegion 0 = 0 then (s.wr .fltState 0 2).wr .fltGroundreason 0 Status.fltUnconfigured.code else s.wr .fltState 0 1
  else s

/-- R308: step 6, R320: the span enters UP; a member forwards a candidate's hail to the lead; a module isolated until now declares its own
fault (R339). -/
def State.spanUp (s : State) (n : Nat) : State :=
  let l := s.link n
  let h := l.peerHail
  let cand := s.isMember && hlState h ≠ fltMember && hlState h ≠ 4 && hlState h ≠ 5
  let s := (s.setLink n { l.derive with lastRx := s.now, lastAck := s.now }).wr .spnState n spUp
  let s := ((s.wr .spnPeer n ((hlMember h).getD 0)).wr .spnPeervalid n (b2n (hlMember h).isSome)).wr .spnPeerspan n (hlSpan h)
  let s := s.wr .spnPeerstate n (if cand then 1 else hlState h)
  let s := if cand then s.ledgerTo (s.rd .fltLead 0) (.hail h) else s.maybeCandidate (hlState h)
  let s := s.aheadCheck (hlMember h) (hlEpoch h)
  let s := if s.flag .fhIsolated 0 then s.declareFault .fhIsolated else s
  s.retryStuck

/-! ## Heartbeats (R312) -/

/-- R312: a heartbeat's payload. -/
def State.heartbeat (s : State) : List Byte :=
  leBytes 2 (s.rd .fltMember 0 + 2 ^ 14 * s.rd .fltMembervalid 0) ++ leBytes 1 (s.rd .fltState 0) ++ leBytes 1 (s.rd .fhLevel 0)
    ++ leBytes 8 (s.rd .fltEpoch 0) ++ leBytes 8 (s.rd .fltId 0) ++ zeros 12

/-- R312, R328: the highest risk level of UP spans' peers. -/
def State.neighbourLevel (s : State) : Nat :=
  ((List.range 32).filter (fun n => s.rd .spnState n = spUp)).foldl (fun a n => max a (s.link n).level) 0

/-- R312, R319, R320: what a received heartbeat says. -/
def State.hearHeartbeat (s : State) (n : Nat) (p : List Byte) : State :=
  let w := fieldAt p 0 2
  let st := fieldAt p 2 1 % 8
  let old := s.rd .spnPeerstate n
  let s := ((s.wr .spnPeer n w).wr .spnPeervalid n (w / 2 ^ 14)).wr .spnPeerstate n st
  let s := s.setLink n { s.link n with level := fieldAt p 3 1 % 8 }
  let s := s.wr .fhNbrlevel 0 s.neighbourLevel
  let s := if s.isMember ∧ st = 1 ∧ old ≠ 1 then s.ledgerTo (s.rd .fltLead 0) (.hail (s.link n).peerHail) else s.maybeCandidate st
  s.aheadCheck (if bitAt w 14 then some (w % 2 ^ 14) else none) (fieldAt p 4 8)

/-! ## Forwarding (R304) -/

/-- R304: the origin of a frame that goes no further is told, with the header of the frame dropped. -/
def State.notice (s : State) (src : Nat) (hdr : List Byte) : State :=
  s.originate 4 1 src (leBytes 2 Status.spnNoRoute.code ++ zeros 2 ++ hdr) none none

/-- R304: a frame in transit that arrived on span n: its hops are counted down and it takes its next hop. -/
def State.forward (s : State) (n : Nat) (b p : List Byte) : State :=
  if 1 ≤ fType b ∧ fType b ≤ 3 ∧ !s.isMember then s.bump .spnDrops n 1
  else if fHops b ≤ 1 then
    let s := s.bump .spnDrops n 1
    if fType b = 4 then s else s.notice (fSrc b) (b.take 16)
  else (s.bump .spnFwd n 1).route ⟨fType b, fVc b, fHops b - 1, fSrc b, fDst b, p, true, none, none, n, b.take 16⟩

/-- A frame received in order is this module's. -/
def State.forMe (s : State) (b : List Byte) : Bool := s.flag .fltMembervalid 0 && fDst b = s.rd .fltMember 0

/-! ## DATA, SIGNAL and CONFIRM (R233, R239, R266) -/

def whJob (p : List Byte) : Nat := fieldAt p 0 4
def whSrc (p : List Byte) : Nat := fieldAt p 4 2 % 2 ^ 14
def whDstctx (p : List Byte) : Nat := fieldAt p 6 1 % 64
def whGrad (p : List Byte) : Bool := bitAt (fieldAt p 7 1) 0
def whNf (p : List Byte) : Bool := bitAt (fieldAt p 7 1) 1
def whAccum (p : List Byte) : Bool := bitAt (fieldAt p 7 1) 2
def whDcs (p : List Byte) : Bool := bitAt (fieldAt p 7 1) 3
def whDva (p : List Byte) : Nat := fieldAt p 8 8
def whLen (p : List Byte) : Nat := fieldAt p 16 4
def whDtally (p : List Byte) : Nat := fieldAt p 20 2
def whDtallyn (p : List Byte) : Nat := fieldAt p 22 1
def whDfmt (p : List Byte) : Nat := fieldAt p 23 1 % 32
def whEntry (p : List Byte) : Nat := fieldAt p 24 2
def whSeq (p : List Byte) : Nat := fieldAt p 26 2
def whTotal (p : List Byte) : Nat := fieldAt p 28 4

/-- R336, log entry 58: the WH_ENTRY that marks a securing copy. -/
def copyMark : Nat := 0xFFFF

/-- R239: a confirmation: the weave header and the status (log entry 54). -/
def State.confirm (s : State) (p : List Byte) (st : Status) : State :=
  s.originate 3 1 (whSrc p) (p.take 32 ++ leBytes 2 st.code) none none

/-- R239: the bytes counted of an entry. -/
def State.rxBytes (s : State) (src seq entry : Nat) : Nat :=
  match s.weave.rx.find? (fun r => r.src = src ∧ r.seq = seq ∧ r.entry = entry) with
  | some r => r.bytes
  | none => 0

/-- Count bytes of an entry; 0 forgets it. -/
def State.setRx (s : State) (src seq entry bytes : Nat) : State :=
  let rest := s.weave.rx.filter (fun r => !(r.src = src && r.seq = seq && r.entry = entry))
  { s with weave := { s.weave with rx := if bytes = 0 then rest else rest ++ [⟨src, seq, entry, bytes⟩] } }

/-- R266, R263: a signal of another module's: applied once, or refused with an event of the context. -/
def State.foreignSignal (s : State) (e ctx vid n : Nat) : State × Status :=
  match s.tallySignal (bankOfIsland (islWeavin e)) ctx vid n true with
  | (s, .ok) => (s, .ok)
  | (s, st) => (s.raise (0x410 + e) st (some ctx) vid n, st)

/-- R238, R239: the data of a frame lands: the gradient flag first, then the bytes; the entry is confirmed when all of it is
committed. -/
def State.landData (s : State) (e : Nat) (vc : Nat) (p : List Byte) : State :=
  let src := whSrc p
  let ctx := whDstctx p
  let bs := p.drop 32
  if whLen p ≠ bs.length then s
  else
    let copy := vc = 3 && whEntry p = copyMark
    let refused := !copy && (s.rdNew .wvJob ctx = 0 || s.rdNew .wvJob ctx ≠ whJob p)
    if refused then (s.bump .wvRefused e 1).confirm p .wvRemoteRefused
    else
      let (s, st) :=
        if copy then s.landBallast src (whJob p) ctx (whDva p) bs
        else
          let s := if whGrad p ∧ whNf p then (s.bump .wvNfrecv ctx 1).setPendnf ctx else s
          let (s, st, _) := s.landRow ctx (whAccum p) (whGrad p) (whDfmt p) (whDva p) bs
          (s, st)
      if st ≠ .ok then (s.setRx src (whSeq p) (whEntry p) 0).confirm p st
      else
        let s := s.bump .wvRxbytes e bs.length
        let n := s.rxBytes src (whSeq p) (whEntry p) + bs.length
        if n < whTotal p then s.setRx src (whSeq p) (whEntry p) n
        else
          let s := s.setRx src (whSeq p) (whEntry p) 0
          let (s, st) := if whDcs p ∧ !copy then s.foreignSignal e ctx (whDtally p) (whDtallyn p) else (s, .ok)
          s.confirm p st

/-- R266: a bare remote signal. -/
def State.landSignal (s : State) (e : Nat) (p : List Byte) : State :=
  let ctx := whDstctx p
  if s.rdNew .wvJob ctx = 0 ∨ s.rdNew .wvJob ctx ≠ whJob p then (s.bump .wvRefused e 1).confirm p .wvRemoteRefused
  else
    let (s, st) := s.foreignSignal e ctx (whDtally p) (whDtallyn p)
    s.confirm p st

/-- R233: an entry's destination has confirmed. -/
def Plan.confirmed (p : Plan) (idx m ctx : Nat) : Plan :=
  { p with inprog := p.inprog.map (fun e => if e.idx = idx then { e with waiting := e.waiting.erase (m, ctx) } else e) }

/-- R336, R337, R333: the header of a slot that a capture sends, in a state. -/
def State.slotHeader (s : State) (c : Capture) (state : Nat) : List Byte :=
  let b := match s.stageRead (s.rd .fhStagebase 0) 0 4096 with
    | .ok b => b
    | .error _ => zeros 4096
  b.take 16 ++ leBytes 1 state ++ zeros 3 ++ leBytes 4 c.blocks.length ++ b.drop 24

/-- R336: frames of a securing copy to a partner: n bytes at an offset of the slot, of a transfer of some total. -/
def State.sendCopy (s : State) (m slot seq off total : Nat) (bs : List Byte) : State :=
  let job := s.rdNew .wvJob (s.rd .fhArmctx 0)
  (List.range (ceilDiv bs.length 1024)).foldl (fun s i =>
    let part := (bs.drop (1024 * i)).take 1024
    s.originate 1 3 m (weaveHeader job (s.rd .fltMember 0) slot 0 (off + 1024 * i) part.length 0 0 0 copyMark seq total ++ part) none
      none) s

/-- R336: a partner has confirmed the blocks, and gets the COMPLETE header; or it has confirmed that header. -/
def State.copyConfirmed (s : State) (m seq : Nat) (ok : Bool) : State :=
  match s.fh.copying with
  | none => s
  | some c =>
    if !ok then s
    else if seq = 0 ∧ c.blocksTo.contains m then
      let c' : Capture := { c with blocksTo := c.blocksTo.erase m, headTo := c.headTo ++ [m] }
      let s : State := { s with fh := { s.fh with copying := some c' } }
      s.sendCopy m c.slot 1 0 4096 (s.slotHeader c 2)
    else if seq = 1 then
      let c' : Capture := { c with headTo := c.headTo.erase m }
      { s with fh := { s.fh with copying := some c' } }
    else s

/-- R233, R263, R342: a confirmation reaches the sender: the entry waits for one destination less, or fails. -/
def State.hearConfirm (s : State) (m : Nat) (p : List Byte) : State :=
  let code := fieldAt p 32 2
  if whEntry p = copyMark then s.copyConfirmed m (whSeq p) (code = 0)
  else
    let s : State := { s with weave := { s.weave with
      orphans := s.weave.orphans.filter (fun o => !(o.2.1 = whSeq p && o.2.2.1 = whEntry p && o.2.2.2 = m)) } }
    match Status.ofCode code with
    | some .ok =>
      match s.planOfSeq (whSeq p) with
      | none => s
      | some (k, x) => s.setPlan k (some (x.confirmed (whEntry p) m (whDstctx p)))
    | some st => s.failEntry (whSeq p) (whEntry p) st
    | none => s.failEntry (whSeq p) (whEntry p) .wvRemoteRefused

end Sys2Proof.Machine
end

