-- ==== Sys2Proof/Machine/HideOps.lean ====
section
/-!
DEFINITION. Securing and recovery at a member (R327 to R353): the secured regions and their image, captures, the rewind, the restore, and a
mirror's promotion.
-/
namespace Sys2Proof.Machine
open Sys2Proof

/-- The page of securing and recovery (R355). -/
def hidePage : Nat := 0x429

/-- The armed context. -/
def State.armed (s : State) : Nat := s.rd .fhArmctx 0

/-- R327: a WORKER with an armed context. -/
def State.isWorker (s : State) : Bool := s.flag .fhArm 0 && s.rd .fhRole 0 = 0

/-- R334: the region list's bytes. -/
def State.regionBytes (s : State) : Except Status (List Byte) := s.dvaRead s.armed (s.rd .fhRegions 0) (16 * s.rd .fhRegioncnt 0)

/-- R334: the secured regions: base DVA and size in units of 2 MiB. -/
def State.regions (s : State) : List (Nat × Nat) :=
  match s.regionBytes with
  | .ok b => (List.range (s.rd .fhRegioncnt 0)).map (fun i => (fieldAt b (16 * i) 8, fieldAt b (16 * i + 8) 4))
  | .error _ => []

/-- R334: the regions with the offset of each in the image. -/
def placedRegions : Nat → List (Nat × Nat) → List (Nat × Nat × Nat)
  | _, [] => []
  | o, r :: t => (r.1, r.2, o) :: placedRegions (o + r.2 * 2 ^ 21) t

/-- R334: the image's bytes: a 4 KiB header and the regions. -/
def imageBytes (rs : List (Nat × Nat)) : Nat := 4096 + (rs.map (·.2)).foldl (· + ·) 0 * 2 ^ 21

/-- R334: where a 64 KiB block of the context (by DVA / 65,536) lies in the image; none outside the secured regions. -/
def imageOffset (rs : List (Nat × Nat)) (blk : Nat) : Option Nat :=
  ((placedRegions 4096 rs).find? (fun r => r.1 ≤ blk * 65536 && blk * 65536 < r.1 + r.2.1 * 2 ^ 21)).map (fun r =>
    r.2.2 + (blk * 65536 - r.1))

/-- Every block of the secured regions. -/
def secureBlocks (rs : List (Nat × Nat)) : List Nat := (rs.map (fun r => (List.range (r.2 * 32)).map (· + r.1 / 65536))).flatten

/-- R335: the dirty map of a slot. -/
def State.dirty (s : State) (slot : Nat) : Sparse Bool := if slot = 0 then s.mem.dirty0 else s.mem.dirty1
def State.setDirty (s : State) (slot : Nat) (m : Sparse Bool) : State :=
  if slot = 0 then { s with mem := { s.mem with dirty0 := m } } else { s with mem := { s.mem with dirty1 := m } }

/-- A map that marks these blocks. -/
def mapOf (bl : List Nat) : Sparse Bool := bl.foldl (fun m b => sput false m b true) []

/-- R141: the 56 bytes of the armed context's learning block. -/
def State.learnBlock (s : State) : List Byte := s.wordBytes 0x420 (0x100 + 0x38 * s.armed) 14

/-- R333, R337: loss-log entries of the steps after one and up to another, as captured. -/
def State.lossLog (s : State) (after upto : Nat) : List Byte :=
  ((List.range (min 64 (upto - after))).map (fun i =>
    match s.dvaRead s.armed (s.rd .fhLossbase 0 + 16 * ((upto - i) % 64)) 16 with
    | .ok b => if fieldAt b 0 8 = upto - i then b else []
    | .error _ => [])).flatten

/-- R337: the target slot: the one that does not hold the newer committed point. -/
def State.targetSlot (s : State) : Nat :=
  if 0 < s.rd .fhSecures 0 ∧ s.fh.points.getD 0 none = some (s.rd .fhPoint 0) then 1 else 0

/-- R337: the header of a capture of step r. -/
def State.captureHeader (s : State) (r n : Nat) : List Byte :=
  let prev := if s.rd .fhSecures 0 = 0 then 0 else s.rd .fhPoint 0
  let hash := match s.regionBytes with
    | .ok b => shaBytes b
    | .error _ => zeros 48
  let log := s.lossLog prev r
  [0x4B#8, 0x42#8, 0x4C#8, 0x31#8] ++ leBytes 2 1 ++ leBytes 2 (s.rd .fltMember 0) ++ leBytes 8 r ++ leBytes 1 1 ++ zeros 3
    ++ leBytes 4 n ++ s.learnBlock ++ hash ++ (log ++ zeros (3968 - log.length))

/-- R333: a capture of step r into staging: the blocks, and the header. The first failure is the status. -/
def State.captureBlocks (s : State) (r : Nat) (rs : List (Nat × Nat)) (bl : List Nat) : State × Status :=
  bl.foldl (fun (a : State × Status) b =>
    if a.2 ≠ .ok then a
    else
      match a.1.readDva a.1.armed (b * 65536) 65536, imageOffset rs b with
      | (t, .ok d), some o =>
        let (t, st) := t.stageWrite (t.rd .fhStagebase 0) o d
        ({ t with fh := { t.fh with staged := sput none t.fh.staged b (some r) } }, st)
      | (t, .error e), _ => (t, e)
      | (t, _), none => (t, .ok)) (s, .ok)

/-- R333, R334: the capture of step r at the STEP_CLOSE that falls due. One whose image exceeds its room, or that meets an error, makes no
point. -/
def State.capture (s : State) (r : Nat) : State :=
  let rs := s.regions
  let x := s.targetSlot
  let all := secureBlocks rs
  let waited := match s.fh.waitSince with
    | some t => (s.now - t) / 1000
    | none => 0
  let s := (s.bump .fhCapturewait 0 waited).wr .fhState 0 1
  let s : State := { s with fh := { s.fh with captured := some r, waitSince := none } }
  let room := min (s.rd .fhStagesize 0) (s.rd .fhSlotsize 0) * 2 ^ 21
  if room < imageBytes rs then (s.recordError hidePage .fhStageFull 0).raise hidePage .fhStageFull (some s.armed) r 0
  else
    let bl := if s.fh.sendAll then all else all.filter (fun b => sget false (s.dirty x) b)
    match s.captureBlocks r rs bl with
    | (s, .ok) =>
      match s.stageWrite (s.rd .fhStagebase 0) 0 (s.captureHeader r bl.length) with
      | (s, .ok) =>
        let s := (s.setDirty x []).meterAdd s.armed 12 (65536 * bl.length)
        let s := if s.fh.sendAll then s.setDirty (1 - x) (mapOf all) else s
        { s with fh := { s.fh with
            sendAll := false
            points := s.fh.points.set x none
            copying := some ⟨r, x, bl.filterMap (imageOffset rs), false, [], []⟩ } }
      | (s, e) => s.recordError hidePage e 0
    | (s, e) => s.recordError hidePage e 0

/-! ## The partners -/

/-- R338: this member's partners. -/
def State.partners (s : State) : List Nat :=
  (if s.flag .fhPartnerav 0 then [s.rd .fhPartnera 0] else []) ++ (if s.flag .fhPartnerbv 0 then [s.rd .fhPartnerb 0] else [])

/-- R336: the copy of a capture to a partner: the FILLING header, then the blocks. -/
def State.copyTo (s : State) (m : Nat) (c : Capture) : State :=
  let total := 4096 + 65536 * c.blocks.length
  let s := s.sendCopy m c.slot 0 0 total (s.slotHeader c 1)
  c.blocks.foldl (fun s o =>
    match s.stageRead (s.rd .fhStagebase 0) o 65536 with
    | .ok b => s.sendCopy m c.slot 0 o total b
    | .error _ => s) s

/-! ## The rewind (R342) -/

/-- Complete the pending entries of a TILE or TRANSFER ring with FH_REWOUND. -/
def State.rewindRing (s : State) (r : Nat) : Nat → State
  | 0 => s
  | fuel + 1 =>
    if s.rd .dbState r ≠ 1 ∨ s.rd .dbTail r = s.rd .dbHead r then s
    else
      match s.takeWork r with
      | (s, none) => s
      | (s, some e) =>
        (s.workDone (if s.rd .dbType r = 0 then 5 else 6) e.complete e.cring Status.fhRewound.code r e.tag e.dva 0 0).rewindRing r fuel

/-- A wait that an agent makes completes with FH_REWOUND. -/
def State.rewindWait (s : State) (a : Agent) : State :=
  if s.tly.queues.any (fun p => p.2.any (fun w => w.agent = a)) then (s.withdrawWait a).finishWait a .fhRewound else s

/-- R342: tasks of a context end with FH_REWOUND at the next tile boundary: those with a tile in flight when it completes. Their queues are discarded,
and no tile of theirs waits for a tally. -/
def State.rewindTasks (s : State) (c : Nat) : State :=
  let s := (List.range 192).foldl (fun s n =>
    ((s.cluster n).slots.map (·.1)).foldl (fun s k =>
      match (s.slot n k).task with
      | none => s
      | some t =>
        if t.ctx ≠ c then s
        else
          let s := if (s.cluster n).cur.any (fun x => x.slot = k) then s.rewindWait (.vector n) else s
          let s := (s.withdrawWait (.taskSlot n k)).takeWait (.taskSlot n k)
          let t : Task := { t with ended := true, lastDone := true, fail := some (.fhRewound, t.entry) }
          (s.modSlot n k (fun x => { x with task := some t, queue := [], tally := none })).maybeRelease n k) s) s
  let ws := sget [] s.clu.waiting c
  let s : State := { s with clu := { s.clu with waiting := sdrop s.clu.waiting c } }
  ws.foldl (fun s w => s.workDone 5 w.task.complete w.task.cring Status.fhRewound.code w.ring w.task.tag w.task.entry 0 0) s

/-- A tile of a context is in flight on a cluster. -/
def State.tilesRun (s : State) (c : Nat) : Bool :=
  s.clu.clusters.any (fun p => p.2.cur.any (fun t => t.ctx = c) || p.2.tiles.any (fun t => t.ctx = c))

/-- Chains and plans of a context end; a plan's writes to other members that are not confirmed are remembered until they are. -/
def State.rewindChains (s : State) (c : Nat) : State :=
  let chains := s.upd.chains.filter (·.ctx = c)
  let s := s.endChains c
  let s := chains.foldl (fun s x =>
    s.workDone 6 x.complete x.cring Status.fhRewound.code x.ring x.tag x.entry x.done 0) s
  s.weave.plans.foldl (fun s q =>
    match q.2 with
    | none => s
    | some p =>
      if p.ctx ≠ c then s
      else
        let a := Agent.plan (q.1 / 16) (q.1 % 16)
        let left := (p.inprog.map (fun e => e.waiting.map (fun w => (c, p.seq, e.idx, w.1)))).flatten
        let s : State := { s with weave := { s.weave with orphans := s.weave.orphans ++ left } }
        (((s.withdrawWait a).takeWait a).setPlan q.1 none).workDone 6 p.complete p.cring Status.fhRewound.code p.ring p.tag p.entry
          0xFFFFFFFF 0) s

/-- R342: every queued waiter of the context's tallies completes with FH_REWOUND, and the tallies are 0. -/
def State.rewindTallies (s : State) (c : Nat) : State :=
  let mine := s.tly.owner.filterMap (fun p => if p.2 = some c then some p.1 else none)
  mine.foldl (fun s p =>
    let q := s.tallyQueue p
    q.foldl (fun s w => s.finishWait w.agent .fhRewound) ((s.setTallyQueue p []).setTallyVal p 0)) s

/-- The TILE and TRANSFER rings of a context. -/
def State.workRings (s : State) (c : Nat) : List Nat := (s.ringsOf c).filter (fun r => s.rd .dbType r ≤ 1)

/-- R342, steps 2 to 4: chains and plans end, pending entries complete as their completion rings have room, waiters complete and tallies are 0, and
LRN_PENDNF is clear. -/
def State.sweepNow (s : State) : State :=
  let c := s.armed
  let s := s.rewindChains c
  let s := (s.workRings c).foldl (fun s r => s.rewindRing r (s.ringUsed r)) s
  let s := (s.rewindTallies c).wr .lrnPendnf c 0
  { s with fh := { s.fh with swept := (s.workRings c).all (fun r => s.rd .dbState r ≠ 1 || s.rd .dbTail r = s.rd .dbHead r) } }

/-- R342: the steps after the first, once no tile of the armed context is in flight. -/
def State.sweep (s : State) : State := if s.fh.rewinding ∧ !s.fh.swept ∧ !s.tilesRun s.armed then s.sweepNow else s

/-- R342: the rewind of the armed context: it is quiesced, and the rest follows at the tile boundary. -/
def State.rewind (s : State) : State :=
  let s := s.wr .fhState 0 3
  let s : State := { s with fh := { s.fh with
    rewinding := true, swept := false, reported := false, captured := none, waitSince := none, replan := none } }
  (s.rewindTasks s.armed).sweep

/-! ## The restore (R344) -/

/-- R344: the slot at the partners that holds a point. -/
def State.slotOfPoint (s : State) (p : Nat) : Nat := if s.fh.points.getD 1 none = some p then 1 else 0

/-- R344: what a restore takes from where: the blocks to restore, with the bytes of each: from staging where it holds the block for P, or
from what the partner sent (log entry 60); none while a block is missing. -/
def State.restoreSource (s : State) (rs : List (Nat × Nat)) (p : Nat) (heir : Bool) (sent : List (Nat × List Byte)) :
    Option (List (Nat × List Byte)) :=
  let bl := (secureBlocks rs).filter (fun b => heir || sget false (s.dirty (s.slotOfPoint p)) b)
  bl.foldr (fun b acc =>
    let own : Option (List Byte) :=
      if !heir ∧ sget none s.fh.staged b = some p then
        match (imageOffset rs b).map (fun o => s.stageRead (s.rd .fhStagebase 0) o 65536) with
        | some (.ok d) => some d
        | _ => none
      else none
    match own.or ((sent.find? (fun q => q.1 = b)).map (·.2)), acc with
    | some d, some l => some ((b, d) :: l)
    | _, _ => none) (some [])

/-- R344: the loss log after a restore: entries after P give way to those of the slot. -/
def State.restoreLog (s : State) (p : Nat) (hdr : List Byte) : State :=
  let c := s.armed
  let base := s.rd .fhLossbase 0
  let s := (List.range 64).foldl (fun s i =>
    match s.dvaRead c (base + 16 * i) 16 with
    | .ok b => if p < fieldAt b 0 8 then (s.dvaWrite c (base + 16 * i) (zeros 16)).1 else s
    | .error _ => s) s
  (List.range 64).foldl (fun s i =>
    let e := (hdr.drop (128 + 16 * i)).take 16
    if bitAt (fieldAt e 12 4) 0 ∧ fieldAt e 0 8 ≤ p then (s.dvaWrite c (base + 16 * (fieldAt e 0 8 % 64)) e).1 else s) s

/-- R344: the restore to P is done: blocks, learning block, run step, loss log, both maps, and REPLAY. -/
def State.restore (s : State) (p : Nat) (heir : Bool) (hdr : List Byte) (blocks : List (Nat × List Byte)) : State :=
  let c := s.armed
  let old := if heir then none else s.lossEntry (p + 1)
  let s := blocks.foldl (fun s b => (s.dvaWrite c (b.1 * 65536) b.2).1) s
  let s := s.putBytes 0x420 (0x100 + 0x38 * c) 14 ((hdr.drop 24).take 56)
  let s := ((s.wr .fhRunstep 0 p).restoreLog p hdr).meterAdd c 11 (65536 * blocks.length)
  let m := mapOf (blocks.map (·.1))
  let s := ((s.setDirty 0 m).setDirty 1 m).wr .fhState 0 5
  let s : State := { s.bump .fhRecoveries 0 1 with fh := { s.fh with
    rewinding := false, swept := false, reported := false, replan := none, captured := none, oldLoss := old, copying := none } }
  s.raise hidePage .fhRewound (some c) p 0

/-! ## Halting (R353) -/

/-- R353: the armed context stops, and the loss is told. -/
def State.halt (s : State) : State :=
  if s.flag .fhArm 0 then
    let s := s.rewind.wr .fhState 0 6
    s.raise hidePage .unhiddenLoss (some s.armed) (s.rd .fhExportstep 0) 0
  else s

/-! ## Generation (R350, R351) -/

/-- R145, R350: a sequence of a promoted mirror is to be prefilled again from position 0, from its record region, which holds RB_LPSUM too. -/
def State.requeueSeq (s : State) (i : Nat) : State :=
  let s := s.releasePages i
  let x := s.seqAt i
  let sum := match s.dvaRead x.ctx (x.record + 36) 4 with
    | .ok b => leNat b
    | .error _ => x.lpsum
  s.setSeq i { x with
    state := 1, ret := 0, continued := true, len := 0, recent := [], recovery := true, mempause := false, cmdpause := false, filling := false
    lpsum := sum, cancelpend := false, reason := 0 }

/-- R350: the stream record of a sequence's last mirrored token is written again. -/
def State.reemit (s : State) (c i : Nat) : State :=
  let x := s.seqAt i
  if x.gencnt = 0 ∨ x.nostream then s
  else
    match s.dvaRead c (x.record + 64 + regionG x + 8 * (x.gencnt - 1)) 8 with
    | .ok b =>
      s.seqRecord c x.cring (streamRecord x (s.handleOf i) (x.gencnt - 1) (fieldAt b 0 4) (fieldAt b 4 4) (s.step_ c).num false x.widened
        false) none
    | .error _ => s

/-- R350: the mirror becomes LEAD of its context: its sequences are continued, none is admitted until a SEQ_GROUPLIST is committed, and the
records of the last mirrored boundary are written again. -/
def State.promote (s : State) : State :=
  let cs := (List.range 64).filter (fun c => s.ctxLive c ∧ s.rd .ctxClass c = 1 ∧ s.rd .seqRole c = 2)
  cs.foldl (fun s c =>
    let s := (s.wr .seqRole c 1).wr .smpTpindex c 0
    let live := (s.seqsOf c).filter (fun i => 1 ≤ (s.seqAt i).state && (s.seqAt i).state ≤ 5)
    let s := live.foldl (fun s i => s.reemit c i) s
    let s := live.foldl (fun s i => s.requeueSeq i) s
    s.setStep c { s.step_ c with frozen := true, due := true, entries := [], stage := .idle }) s

/-- R351: a group that lost a member: its sequences have lost pages that they can recover. -/
def State.loseFollower (s : State) (c : Nat) : State :=
  let live := (s.seqsOf c).filter (fun i => 2 ≤ (s.seqAt i).state && (s.seqAt i).state ≤ 4)
  live.foldl (fun s i => s.setSeq i { s.seqAt i with lost := true }) s

end Sys2Proof.Machine
end

