-- ==== Sys2Proof/Machine/Memory.lean ====
section
/-!
DEFINITION. The commands of the memory channels and the CXL ports: scrubbing, counting windows, retirement, fencing, retraining (R279 to
R286, R384), and the CXL links (R287 to R289).
-/
namespace Sys2Proof.Machine
open Sys2Proof

/-! ## Near memory -/

/-- R282: the length of a counting window in nanoseconds. -/
def State.windowLength (s : State) : Nat :=
  (if s.rd .memScrubhours 0 = 0 then 12 else s.rd .memScrubhours 0) * 3600000000000

/-- R282: what a scrubber does with an error it finds: as any reader, with no other initiator to inform. -/
def State.scrubError (s : State) (e : Nat × EccError) : State :=
  match e.2 with
  | .cxl => s
  | .address => s.granuleBad e.1
  | .symbols n => if n = 0 then s else if n = 1 then s.correctedError e.1 else s.granuleBad e.1

/-- SCRUB_PASS (R282): a channel's pass ends: every granule that was already poisoned, and each other error found, is treated as any reader treats
it. -/
def execScrubPass (ch : Nat) (ecc : List (Nat × EccError)) (s : State) : Result :=
  if !sget false s.mem.scrubbing ch ∨ s.rd .memState ch ≠ 1 then .next s
  else
    let mine (pa : Nat) : Bool := pa < nearTop && s.channelOf pa = ch
    let old := (s.mem.poison.map (fun p => p.1 * 256)).filter mine
    let s := (old.map (fun a => (a, EccError.address)) ++ ecc.filter (fun e => mine e.1 && !old.contains (e.1 / 256 * 256))).foldl State.scrubError s
    let due := sget 0 s.mem.scrubDue ch
    let s : State := { s with mem := { s.mem with
      scrubbing := sput false s.mem.scrubbing ch (0 < due)
      scrubDue := sput 0 s.mem.scrubDue ch (due - 1) } }
    .next (s.bump .memScrubpass ch 1)

/-- R282: the counts of a window restart, and each channel that is in use starts a pass, or has one due; with scrubbing off no pass runs. -/
def State.startWindow (s : State) : State :=
  let off := s.rd .memScrubhours 0 = 0
  let s : State := { s with mem := { s.mem with
    frameCe := [], window := s.now
    scrubbing := if off then [] else s.mem.scrubbing
    scrubDue := if off then [] else s.mem.scrubDue } }
  (List.range 48).foldl (fun s ch =>
    let s := s.wr .memPoisoned ch 0
    if off ∨ s.rd .memState ch ≠ 1 then s
    else if sget false s.mem.scrubbing ch then
      { s with mem := { s.mem with scrubDue := sput 0 s.mem.scrubDue ch (sget 0 s.mem.scrubDue ch + 1) } }
    else { s with mem := { s.mem with scrubbing := sput false s.mem.scrubbing ch true } }) s

/-- COUNTING_WINDOW_START (R282): a window has run its length, and the next one starts. -/
def execCountingWindowStart (s : State) : Result :=
  if s.now < s.mem.window + s.windowLength then .next s else .next s.startWindow

/-- FRAME_RETIRE_COMPLETE (R283, R285): every block is copied: the pair enters the redirect table, in place of the entry of a frame that
is retired again. -/
def execFrameRetireComplete (met : Met Nat) (s : State) : Result :=
  let s := s.eccFound met.ecc
  match s.mem.copying.find? (fun p => p.1 = met.op) with
  | none => .next s
  | some (f, r) =>
    let m := s.mem
    let again := m.redirect.any (fun p => p.1 = f)
    let s : State := { s with mem := { m with
      copying := m.copying.filter (fun p => p.1 ≠ f)
      worn := m.worn ++ (m.redirect.filter (fun p => p.1 = f)).map (·.2)
      redirect := if again then m.redirect.map (fun p => if p.1 = f then (f, r) else p) else m.redirect ++ [(f, r)]
      frameCe := sdrop m.frameCe f } }
    .next (s.wr .memRetired 0 s.mem.redirect.length)

/-- MEM_FENCE_REQ (R286, R291): session 0 fences a channel. -/
def execMemFenceReq (rdr : Reader) (ch v : Nat) (s : State) : Result :=
  if rdr ≠ .session 0 then .next (s.reply rdr .sesRights 0)
  else if v % 2 = 1 then .next ((s.fenceChannel (ch % 48)).reply rdr .ok 0)
  else .next (s.reply rdr .ok 0)

/-- MEM_RETRAIN (R384, R286): a channel retrains, and serves the requests it held in order; one that fails training is fenced. -/
def execMemRetrain (ch : Nat) (ok : Bool) (s : State) : Result :=
  if s.rd .memState (ch % 48) ≠ 1 ∨ ok then .next s else .next (s.fenceChannel (ch % 48))

/-! ## CXL ports -/

/-- A port takes a device's width, speed and capacity (R287: at most 1 TiB). What the tier holds stays as it is (log entry 5). -/
def State.cxlDevice (s : State) (p : Nat) (d : CxlDevice) : State :=
  ((s.wr .cxlWidth p d.width).wr .cxlSpeed p d.speed).wr .cxlCapacity p (min d.units 524288)

/-- R289: a new device waits on a port for CXL_ENABLE, or no longer does. -/
def State.setFound (s : State) (p : Nat) (b : Bool) : State := { s with mem := { s.mem with found := sput false s.mem.found p b } }

/-- R289: a port has lost its link, or its new device has been admitted. -/
def State.setCxlLost (s : State) (p : Nat) (b : Bool) : State := { s with mem := { s.mem with cxlLost := sput false s.mem.cxlLost p b } }

/-- CXL_LINK_UP (R287, R289, R405): a port trains: with a Type 3 device it is UP, but after a link loss only once CXL_ENABLE admits the
device; with another device it stays DISABLED; with none it is EMPTY. Without entropy IDE has no keys, and the link stays in training. -/
def execCxlLinkUp (port : Nat) (dev : Option CxlDevice) (s : State) : Result :=
  let p := port % 8
  let st := s.rd .cxlState p
  if st = 2 then .next s
  else
    match dev with
    | none => .next (if st = 3 then s.setFound p false else (s.setFound p false).wr .cxlState p 0)
    | some d =>
      if !d.type3 then .next ((s.setFound p false).wr .cxlState p 4)
      else if s.flag .cxlIde p ∧ s.sec.entropyBad then .next (s.wr .cxlState p 1)
      else
        let s := s.cxlDevice p d
        if sget false s.mem.cxlLost p then .next ((s.setFound p true).wr .cxlState p 3)
        else .next (s.wr .cxlState p 2)

/-- CXL_LINK_DOWN (R289, R334): accesses to the port fail, its key-value pages are lost, and staging on it with them. -/
def execCxlLinkDown (port : Nat) (s : State) : Result :=
  let p := port % 8
  if s.rd .cxlState p ≠ 2 then .next s
  else
    let base := s.rd .kvFarbase 0
    let pages := (List.range (s.rd .kvFarpages 0)).filter (fun k =>
      (base + 65536 * k) / 2 ^ 40 = p || (s.rd .kvFarmetabase 0 + 2048 * k) / 2 ^ 40 = p)
    let s := pages.foldl (fun s k => s.losePage (farFirst + k)) s
    let s := ((s.setCxlLost p true).wr .cxlState p 3).bump .cxlDowns p 1
    .next (s.stagingPortLost p)

/-- CXL_ENABLE (R289, R293): session 0 admits a device found after link loss. -/
def execCxlEnable (rdr : Reader) (port v : Nat) (s : State) : Result :=
  let p := port % 8
  if rdr ≠ .session 0 then .next (s.reply rdr .sesRights 0)
  else if v % 2 = 1 ∧ sget false s.mem.found p then
    .next ((((s.setFound p false).setCxlLost p false).wr .cxlState p 2).reply rdr .ok 0)
  else .next (s.reply rdr .ok 0)

/-- CXL_LINK_DEGRADE (R289): a link runs on at its new width and speed. -/
def execCxlLinkDegrade (port width speed : Nat) (s : State) : Result :=
  let p := port % 8
  if s.rd .cxlState p ≠ 2 then .next s else .next ((s.wr .cxlWidth p width).wr .cxlSpeed p speed)

end Sys2Proof.Machine
end

