-- ==== Sys2Proof/Machine/TetherRx.lean ====
section
/-!
DEFINITION. Receiving on the tether (R390, R392, R393): link order on a port, counter order on a session.
-/
namespace Sys2Proof.Machine
open Sys2Proof

/-! ## A port (R390, R392) -/

/-- R392: the next LINK frame NAKs a number. -/
def State.nakPort (s : State) (p k : Nat) : State := s.setPort p { s.port p with nak := some k }

/-- R390: the frame is longer than 9,216 bytes, of a reserved type, or a LINK frame whose CRC fails. -/
def tfCorrupt (b : List Byte) : Bool :=
  9216 < b.length || 14 ≤ tfType b
    || (tfType b = tfLink && fieldAt b (24 + tfLen b) 4 ≠ crc32c (b.take (24 + tfLen b)))

/-- R390: header, payload and tail make up the frame, and it has the type of the command that brings it. -/
def tfFormed (b : List Byte) (ty : Nat) : Bool := 24 ≤ b.length && tfType b = ty && b.length = 24 + tfLen b + tfTail ty

/-- R393: a frame ahead of a gap of its session for which no more room is left. -/
def State.holdFull (s : State) (b : List Byte) : Bool :=
  let x := s.sess (tfSession b)
  tfType b ≠ tfHandshake && tfType b ≠ tfMetrology && s.isOpen (tfSession b) && 64 ≤ x.held.length
    && (tfPhase b ≠ x.rx.phase || x.rx.count < tfCtr b)

/-- R392: receive a frame of a type other than LINK: true where it is taken, in link order. `bad` is an uncorrectable codeword. -/
def State.portReceive (s : State) (p ty : Nat) (b : List Byte) (bad : Bool) : State × Bool :=
  if !s.portUp p then (s, false)
  else
    let x := s.port p
    if bad then (s.nakPort p x.expect, false)
    else if tfCorrupt b then ((s.bump .tethCorrupt 0 1).nakPort p x.expect, false)
    else if !tfFormed b ty ∨ s.holdFull b then (s.nakPort p x.expect, false)
    else if tfLseq b ≠ x.expect then
      if (tfLseq b + 2 ^ 32 - x.expect) % 2 ^ 32 < 2 ^ 31 then (s.nakPort p x.expect, false)
      else (s.setPort p { x with lastRx := s.now }, false)
    else
      let x : TetherPort := { x.acked (tfLack b) s.now with
        expect := (x.expect + 1) % 2 ^ 32, owed := x.owed + tfUnits b, lastRx := s.now }
      (((s.setPort p x).bump .tethRxframes 0 1).pumpPort p, true)

/-! ## A session (R393, R394) -/

/-- Where a frame stands in its session's order. -/
inductive Order where
  /-- The next one, under this key. -/
  | next (k : SpanKey)
  | ahead
  | past
  deriving DecidableEq, Repr

/-- R393, R394: both phases are accepted from KEY_UPDATE until the first frame of the new one. -/
def Session.order (x : Session) (b : List Byte) : Order :=
  if tfPhase b = x.rx.phase then
    if tfCtr b < x.rx.count then .past else if tfCtr b = x.rx.count then .next x.rx else .ahead
  else if x.rxUpdate ∧ tfCtr b = 0 then .next (tethNext x.rx)
  else if x.rxUpdate ∨ 2 ^ 40 ≤ x.rx.count + 64 then .ahead
  else .past

/-- R393: a tag failure: it counts, and the sixteenth within 1 s closes the session. -/
def State.tethTagFailure (s : State) (n : Nat) : State :=
  let s := (s.bump .tethTagfail 0 1).bump .tsTagfail n 1
  let recent := ((s.sess n).tagFails.filter (fun t => s.now < t + 1000000000)) ++ [s.now]
  let s := s.setSess n { s.sess n with tagFails := recent }
  if 16 ≤ recent.length then s.endSession n .tag else s

/-- R393: a frame of an OPEN session: its plaintext when it is the next one and its tag holds; it is held when it is ahead of a gap. -/
def State.sessionReceive (s : State) (b : List Byte) : State × Option (List Byte) :=
  let n := tfSession b
  let x := s.sess n
  if !s.isOpen n then (s, none)
  else
    match x.order b with
    | .past => (s, none)
    | .ahead =>
      (s.setSess n { x with held := x.held ++ [b], gapAt := some (x.gapAt.getD s.now) }, none)
    | .next k =>
      match tfOpen k b with
      | none => (s.tethTagFailure n, none)
      | some pay =>
        let turned := decide (k.phase ≠ x.rx.phase)
        let s := s.setSess n { x with rx := { k with count := tfCtr b + 1 }, rxUpdate := if turned then false else x.rxUpdate }
        ((s.wr .tsRxctr n (tfCtr b)).wr .tsKeyphase n (b2n k.phase), some pay)

/-- The held frame of a session that is next in order, and the session without the frames that need no longer be held. -/
def State.takeHeld (s : State) (n : Nat) : State × Option (List Byte) :=
  let x := s.sess n
  let keep := x.held.filter (fun b => x.order b ≠ .past)
  let isNext (b : List Byte) : Bool := match x.order b with
    | .next _ => true
    | _ => false
  match keep.find? isNext with
  | some b => (s.setSess n { x with held := keep.erase b, gapAt := if keep.erase b = [] then none else x.gapAt }, some b)
  | none => (s.setSess n { x with held := keep, gapAt := if keep = [] then none else x.gapAt }, none)

end Sys2Proof.Machine
end

