-- ==== Sys2Proof/Machine/PowerOps.lean ====
section
/-!
DEFINITION. Resets and power states as operations (R445 to R461, R497, R502): island resets, the module-wide resets, the loss of power, entering and
leaving P2.
-/
namespace Sys2Proof.Machine
open Sys2Proof

/-! ## Islands (R19 to R21) -/

def islandCount : Nat := 317

/-- R21: the variable islands: clusters, gondola quads and sampler units. -/
def variableIsland (i : Nat) : Bool := i < 208 || (303 ≤ i && i < 309)

/-- R19: the frequency in MHz of a fixed island. -/
def fixedFreq (i : Nat) : Nat :=
  if i < 256 then 2500 else if i < 288 then 1600 else if i < 296 then 1000 else if i < 298 then 800 else if i < 303 then 2000
  else if i = 309 then 1200 else if i < 316 then 2400 else 1000

/-- R19: the least and the greatest frequency in MHz of an island in P0. -/
def freqRange (i : Nat) : Nat × Nat :=
  if i < 192 then (600, 3300) else if i < 208 then (800, 3000) else if 303 ≤ i ∧ i < 309 then (600, 2400) else (fixedFreq i, fixedFreq i)

/-- R19: the frequency nearest to f that an island may have. -/
def freqWithin (i f : Nat) : Nat := max (freqRange i).1 (min (freqRange i).2 f)

/-- An island runs, at its frequency and voltage: of a variable island one within its range that its governor chooses (log entry 68), of a cluster while
the power stage limits them 600 MHz (R448). -/
def State.runIsland (s : State) (i : Nat) : State :=
  let f := if i < 192 ∧ s.pow.limited then 600 else freqWithin i (Config.startFreq i).toNat
  ((s.wr .islFreq i f).wr .islVolt i (Config.startVolt i).toNat).wr .islState i 1

/-- Every island takes a state of ISL_STATE. -/
def State.setIslands (s : State) (v : Nat) : State := (List.range islandCount).foldl (fun s i => s.wr .islState i v) s

/-! ## Island resets (R459) -/

/-- R330: the islands that are reset one by one: CXL ports, tether ports, Weavin engines and sampler units. -/
def resettable (i : Nat) : Bool := (288 ≤ i && i < 302) || (303 ≤ i && i < 309)

/-- The register page of such an island. -/
def islandPage (i : Nat) : Nat :=
  if i < 296 then 0x340 + (i - 288) else if i < 298 then 0x40 else if i < 302 then 0x410 + (i - 298) else 0x408 + (i - 303)

/-- A copy of a field belongs to such an island. -/
def Reg.ofIsland (r : Reg) (i isl : Nat) : Bool :=
  match r.info.block with
  | .cxl => isl = islCxl i
  | .sampler => isl = islSampler i
  | .weavin => isl = islWeavin i
  | .island => isl = i
  | .tether => (isl = islTether 0 && (r == .tethPortstate0 || r == .tethHome0)) || (isl = islTether 1 && (r == .tethPortstate1 || r == .tethHome1))
  | _ => false

/-- R459: the entries in progress on a Weavin engine fail. -/
def State.failEngine (s : State) (e : Nat) : State :=
  (s.weave.plans.filter (fun q => q.1 / 16 = e)).foldl (fun s q =>
    match q.2 with
    | none => s
    | some p =>
      let a := Agent.plan e (q.1 % 16)
      let p := (p.inprog.map (·.idx)).foldl (fun (p : Plan) i => p.failEntry i .fhIslandReset) p
      ((s.withdrawWait a).takeWait a).setPlan q.1 (some p)) s

/-- R214: the third reset of a sampler unit within 1 s fences it. -/
def State.samplerReset (s : State) (u : Nat) : State :=
  let s := s.handAgain u
  let times := ((sget [] s.seq.unitResets u).filter (fun t => s.now < t + 1000000000)) ++ [s.now]
  let s : State := { s with seq := { s.seq with unitResets := sput [] s.seq.unitResets u times } }
  if 3 ≤ times.length then s.fenceSampler u 1 else s

/-- R459: an island reset begins: its work fails, its fields of class I return to their reset values, and it is HELD_IN_RESET. A CXL port trains its
link again, and a tether port goes through TRAINING while its sessions move. -/
def State.resetIsland (s : State) (isl : Nat) : State :=
  let s := (s.bump .rstIslands 0 1).wr .rstLastisland 0 isl
  let s := if 298 ≤ isl ∧ isl < 302 then s.failEngine (isl - 298) else s
  let s := if 303 ≤ isl ∧ isl < 309 then s.samplerReset (isl - 303) else s
  let s := if 288 ≤ isl ∧ isl < 296 then s.stagingPortLost (isl - 288) else s
  let s := (s.dropRegs (fun r i => r.survivesOn (r.pageOf i) = .I && r.ofIsland i isl)).setDefaulted [islandPage isl, 4]
  if 288 ≤ isl ∧ isl < 296 then (s.setFound (isl - 288) false).wr .cxlState (isl - 288) 1
  else if 296 ≤ isl ∧ isl < 298 then (s.wr (portReg (isl - 296)) 0 tpTraining).rehome
  else s

/-! ## Module-wide resets (R454 to R458) -/

/-- R464: the record of a module-wide reset. -/
def State.noteReset (s : State) (kind cause : Nat) : State :=
  ((s.wr .rstLast 0 kind).wr .rstCause 0 cause).wr .rstTime 0 s.now

def State.setResetting (s : State) (k : Option ResetKind) : State := { s with pow := { s.pow with resetting := k } }

/-- R456: the module is a MEMBER that holds work of the flight. -/
def State.flightWork (s : State) : Bool :=
  s.isMember && ((s.flag .fhArm 0 && s.rd .fhRole 0 = 0)
    || (List.range 64).any (fun c => s.rd .ctxState c ≠ 0 && s.rd .ctxClass c = 1 && (s.rd .seqRole c = 1 || s.rd .seqRole c = 2)))

/-- R412: the image that has been verified is the one the keel holds. -/
def State.takeImage (s : State) : State :=
  match s.sec.staged with
  | none => s
  | some (h, e) =>
    let s : State := { s with sec := { s.sec with running := some (h, e), staged := none } }
    (s.wr .keelFwhash 0 (leNat (beBytes 48 h))).wr .keelFwepoch 0 e

/-- R456: a warm reset begins: every context is reset, and every island; near memory keeps its bytes and sessions stay OPEN. Spans that are not fenced
are DARK, and links train again. -/
def State.beginWarm (s : State) (cause : Nat) : State :=
  let s := ((s.noteReset 3 cause).bump .rstWarms 0 1).takeImage
  let s := (List.range 64).foldl (fun s c => if s.rd .ctxState c = 0 then s else s.endContext c) s
  let fenced := (List.range 32).filter (fun n => s.rd .spnState n = spFenced)
  let cxl := (List.range 8).filter (fun p => s.rd .cxlState p ≠ 0)
  let tether := (List.range 2).filter (fun p => s.portState p ≠ tpDark)
  let s := cxl.foldl (fun s p => s.stagingPortLost p) s
  let s := (List.range 32).foldl (fun s n => if s.rd .spnState n = spFenced then s else s.spanDark n) s
  let s := (List.range 4).foldl (fun s e => s.failEngine e) s
  let s := ((s.loseClasses [.C, .I]).setResetting (some .warm)).wr .pwrState 0 0
  let s := fenced.foldl (fun s n => s.wr .spnState n spFenced) s
  let s := cxl.foldl (fun s p => s.wr .cxlState p 1) s
  let s := tether.foldl (fun s p => s.wr (portReg p) 0 tpTraining) s
  { s with pow := { s.pow with warmWaits := none } }

/-- R454, R456, R460: start a warm reset: one that comes during a module-wide reset does nothing more; a member that holds work of the flight declares
its own fault first, and the reset waits for the FENCE. -/
def State.startWarm (s : State) (cause : Nat) : State :=
  if s.pow.resetting.isSome ∨ s.pow.warmWaits.isSome then s
  else if s.flightWork then
    { s.declareFault .fhSelfFault with pow := { s.pow with warmWaits := some cause } }
  else s.beginWarm cause

/-- R456: the module's own FENCE is committed: a warm reset that waited for it begins. -/
def State.warmAfterFence (s : State) : State :=
  match s.pow.warmWaits with
  | some cause => s.beginWarm cause
  | none => s

/-- R144, R146: the sequence table after a module reset: every entry is FREE, and the generation counts stand, those of entries in use one higher (log
entry 106). -/
def State.coldTable (s : State) : Sparse Seq :=
  (s.seq.table.map (fun p => (p.1, Seq.free (if p.2.state = 0 then p.2.gen else (p.2.gen + 1) % 2 ^ 15)))).filter (fun p => p.2 ≠ Seq.free 0)

/-- What keeps no register and is gone with class W: every memory, queue and engine of the block but the CXL tier, the redirect table, the keys and the
keel's image, the cartridge and the always-on domain. -/
def State.coldParts (s : State) : State :=
  { State.reset with
    regs := s.regs
    mem := { State.reset.mem with far := s.mem.far, farPoison := s.mem.farPoison, redirect := s.mem.redirect, worn := s.mem.worn }
    flt := { FlightState.alone with lastTerm := s.flt.lastTerm, votedTerm := s.flt.votedTerm }
    health := { Health.start with fencedEver := s.health.fencedEver }
    cart := s.cart
    sec := { s.sec with ports := [], sessions := [], content := [], entropyBad := false, staged := none, ownerClose := false }
    pow := { s.pow with resetting := none, warmWaits := none, wakeHeld := none, spans := [], ports := [], doorbells := [], deferred := [], limited := false }
    cfg := { State.reset.cfg with answer := s.cfg.answer }
    seq := { State.reset.seq with table := s.coldTable }
    chosor := s.chosor
    out := s.out
    freeCount := s.freeCount
    pending := s.pending }

/-- R454, R455, R457, R458: a module reset begins: classes W, C and I are lost, near memory is zero, every session is closed with reason RESET, and the
meter boot rises. -/
def State.beginModule (s : State) (cause : Nat) : State :=
  let open_ := (List.range 64).filter s.isOpen
  let s := (s.noteReset 2 cause).bump .rstModules 0 1
  let s := ((s.coldParts.loseClasses [.W, .C, .I]).bump .mtrBoot 0 1).setResetting (some .module)
  open_.foldl (fun s n => s.wr .tsClosereason n CloseReason.reset.code) s

/-- R454, R460: start a module reset: one that comes during a module reset or a power-on does nothing more. -/
def State.startModule (s : State) (cause : Nat) : State :=
  if s.pow.resetting = some .module ∨ s.pow.resetting = some .powerOn then s else s.beginModule cause

/-- R20, R447: the registers that stand in the always-on domain: the device-time counter's and the metering interface's. -/
def Reg.alwaysOn (r : Reg) : Bool :=
  r == .glbDevtime || (match r.info.block with
    | .meter | .mtrPeek | .mtrCtx => true
    | _ => false)

/-- R454, R497, R502, R411: power is gone from the islands, and every field but those of class F is lost. Where the always-on domain stays powered
(aon), device time counts on, the metering interface keeps its state, and the sideband its addresses. The signature index goes on at the next block. -/
def State.dropPower (s : State) (aon : Bool) : State :=
  let k := s.sec.sigEnd
  let t := s.coldParts
  let t : State := { t with
    regs := t.regs.filter (fun q => (regOfKey q.1).survivesOn (pageOfKey q.1) = .F || (aon && (regOfKey q.1).alwaysOn))
    mem := { t.mem with redirect := [], worn := [] }
    chosor := []
    flt := .alone
    health := .start
    meter := if aon then s.meter else t.meter
    sec := { t.sec with psks := [], pubs := [], running := none, kick := 0, sigNext := k }
    pow := { PowerState.start with
      resetting := none, heldOff := s.pow.heldOff, tripped := s.pow.tripped
      address := if aon then s.pow.address else none
      eid := if aon then s.pow.eid else 0 } }
  t.wr .secLmsleft 0 (sigTotal - k)

/-- R497: the input no longer powers the module: the always-on domain is without power too. -/
def State.losePower (s : State) : State := s.dropPower false

/-- R502, R504: the power stage removes power from every island and holds the module off. -/
def State.holdOff (s : State) : State :=
  let s := s.dropPower true
  { s with pow := { s.pow with heldOff := true } }

/-- R497, R498, R495, R457: a power-on begins: the meter boot rises, and the straps are read into FLT_FEEDTAG. DEFAULTED is set on every page (its
reset value). -/
def State.beginPowerOn (s : State) (straps : Nat) : State :=
  let s : State := { s.losePower with pow := .start }
  (s.bump .mtrBoot 0 1).wr .fltFeedtag 0 straps

/-! ## The end of a module-wide reset (R454 to R456, R498) -/

/-- R412, R455: the keel runs the image it holds; without one, or with one whose hash fails, it stays in its boot ROM. -/
def State.startKeel (s : State) (imageOk : Bool) : State :=
  if s.sec.running.isSome ∧ imageOk then
    { s.wr .keelState 0 2 with sec := { s.sec with kick := s.now } }
  else
    let s : State := { s with sec := { s.sec with running := none } }
    ((s.wr .keelState 0 0).wr .keelFwhash 0 0).wr .keelFwepoch 0 0

/-- Every island runs, and every memory channel that is not fenced. -/
def State.islandsUp (s : State) : State :=
  let s := (List.range islandCount).foldl (fun s i => s.runIsland i) s
  (List.range 48).foldl (fun s c => if s.rd .memState c = 2 then s else s.wr .memState c 1) s

/-- R454: the module-wide reset in progress is complete. -/
def State.endReset (s : State) (imageOk : Bool) : State :=
  match s.pow.resetting with
  | none => s
  | some k =>
    let s := (s.islandsUp.startKeel (k ≠ .module || imageOk)).setResetting none
    if k = .warm then s.raise0 0x9 .rstWarmDone 0 0
    else (List.range 2).foldl (fun s p => s.wr (portReg p) 0 tpTraining) s.startWindow

/-! ## P2 (R449 to R453) -/

/-- R449: a ring of entries holds one that has not been taken. -/
def State.ringUntaken (s : State) (r : Nat) : Bool := s.rd .dbState r ≠ 0 && s.rd .dbType r ≠ 3 && s.ringUsed r ≠ 0

/-- The rings that exist. -/
def State.allRings (s : State) : List Nat :=
  (s.regs.filter (fun q => regOfKey q.1 = .dbState)).map (fun q => copyOfKey q.1)

/-- R449: the conditions, in their order; a hart that is HELD runs nothing and passes (log entry 69). -/
def State.p2Conditions (s : State) : List (Bool × Status) :=
  let harts := (List.range 64).map (fun h => bitsAt (s.rd .gqHarts (h / 4)) (2 * (h % 4)) 2)
  [ (s.rd .fltState 0 = 0 || s.rd .fltState 0 = 5, .pwrInFlight),
    ((List.range 64).all (fun c => s.rd .ctxState c < 2), .pwrNotQuiesced),
    (!s.allRings.any s.ringUntaken && s.upd.chains = [] && !s.weave.plans.any (fun q => q.2.isSome), .pwrNotQuiesced),
    (!s.seq.table.any (fun q => q.2.state = 2 || q.2.state = 3 || q.2.state = 5), .pwrNotQuiesced),
    (harts.all (fun h => h ≠ 1), .pwrNotQuiesced),
    (s.flt.command.isNone && s.ctxRunning = [] && s.rd .pwrState 0 = 0 && s.cfg.adopting = [], .pwrNotQuiesced),
    (s.mem.copying = [] && s.kv.moves = [], .pwrNotQuiesced),
    (s.pow.resetting.isNone && s.pow.warmWaits.isNone && (List.range islandCount).all (fun i => s.rd .islState i ≠ 0), .pwrNotQuiesced) ]

/-- The first condition that fails: its number and status. -/
def firstUnmet : Nat → List (Bool × Status) → Option (Nat × Status)
  | _, [] => none
  | n, (ok, st) :: t => if ok then firstUnmet (n + 1) t else some (n, st)

/-- R449: ENTER_P2 from session 0: refused with the first condition that fails, or the entry begins. -/
def State.enterP2 (s : State) : State :=
  match firstUnmet 1 s.p2Conditions with
  | some (n, st) => (s.wr .pwrCmdstatus 0 st.code).wr .pwrRefusecond 0 n
  | none =>
    let s := (s.wr .pwrState 0 1).wr .pwrRefusecond 0 0
    { s with pow := { s.pow with enteredAt := s.now } }

/-- A doorbell word that was recorded takes effect; who wrote it has had its answer. -/
def State.takeDoorbell (s : State) (d : HeldDoorbell) : State :=
  let a := s.cfg.answer
  let t := if d.off = 0 then s.dbTailWrite d.rdr d.ring d.v
    else if d.off = 4 then s.dbHeadWrite d.rdr d.ring d.v else s.dbResume d.rdr d.ring
  { t with cfg := { t.cfg with answer := a } }

/-- R453: P0 again: doorbell words recorded since the entry are taken in the order they were written. -/
def State.backToP0 (s : State) : State :=
  let ds := s.pow.doorbells
  let s : State := { s.wr .pwrState 0 0 with pow := { s.pow with doorbells := [], wakeHeld := none } }
  ds.foldl (fun s d => s.takeDoorbell d) s

/-- R453 row 1: a wake begins. -/
def State.startWake (s : State) (src idx : Nat) : State :=
  (((s.wr .wakeSource 0 src).wr .wakeIndex 0 idx).wr .pwrWaketime 0 s.now).wr .pwrState 0 3

/-- R450: event 3 of the entry begins 2 µs after its acceptance (log entry 70). -/
def retentionBegins : Nat := 2000

/-- R450, R451: wake activity of a source that PWR_WAKEMASK lets through: in P2 the module wakes; during the entry it aborts it, or is held. -/
def State.wakeActivity (s : State) (src idx : Nat) : State :=
  if src = 0 ∨ 6 < src ∨ !bitAt (s.rd .pwrWakemask 0) (src - 1) then s
  else if s.rd .pwrState 0 = 2 then s.startWake src idx
  else if s.rd .pwrState 0 = 1 then
    if s.now < s.pow.enteredAt + retentionBegins then (s.wr .pwrCmdstatus 0 Status.pwrEntryAborted.code).backToP0
    else if s.pow.wakeHeld.isSome then s
    else { s with pow := { s.pow with wakeHeld := some (src, idx) } }
  else s

/-- R450 rows 3 to 6: the entry is complete: every island is RETAINED, spans and tether ports LISTEN. Wake activity held meanwhile wakes the module at
once. -/
def State.reachP2 (s : State) : State :=
  let spans := (List.range 32).filterMap (fun n => if s.rd .spnState n = spFenced then none else some (n, s.rd .spnState n))
  let ports := (List.range 2).map (fun p => (p, s.portState p))
  let s := s.setIslands 3
  let s := spans.foldl (fun s q => s.wr .spnState q.1 spListen) s
  let s := ports.foldl (fun s q => s.wr (portReg q.1) 0 tpListen) s
  let s := ((s.wr .pwrCmdstatus 0 0).wr .pwrState 0 2).bump .pwrP2count 0 1
  let s : State := { s with pow := { s.pow with
    spans := spans.filter (fun q => q.2 ≠ spDark), ports := ports.filter (fun q => q.2 ≠ tpDark) } }
  match s.pow.wakeHeld with
  | some (src, idx) => s.startWake src idx
  | none => s

/-- R453 rows 2 to 7: islands run with the state they had; tether ports go on; spans that were not DARK relock. -/
def State.leaveP2 (s : State) : State :=
  let spans := s.pow.spans
  let ports := s.pow.ports
  let s := s.setIslands 1
  let s := (List.range 2).foldl (fun s p =>
    (s.setPort p { s.port p with lastRx := s.now, lastAck := s.now, lastLink := s.now }).wr (portReg p) 0 (sget tpDark ports p)) s
  let s := (List.range 32).foldl (fun s n =>
    if s.rd .spnState n = spListen then s.wr .spnState n (if sget spDark spans n = spDark then spDark else spTraining) else s) s
  let s : State := { s with pow := { s.pow with spans := [], ports := [] } }
  s.backToP0.rehome.raise0 0x8 .pwrWoken 0 0

end Sys2Proof.Machine
end

