-- ==== Sys2Proof/Machine/FlightOps.lean ====
section
/-!
DEFINITION. The flight ledger (R313 to R322): entries and their application, the lead's and the stewards' parts, the distribution tree, and
what the lead decides for the run (R332, R336, R338, R343, R346).
-/
namespace Sys2Proof.Machine
open Sys2Proof

/-- The flight's page (R325). -/
def flightPage : Nat := 0x430

/-- This module's member ID. -/
def State.me (s : State) : Nat := s.rd .fltMember 0

/-- The module takes part in the ledger: CANDIDATE, MEMBER or LEAVING. -/
def State.inLedger (s : State) : Bool := s.rd .fltState 0 = 1 || s.rd .fltState 0 = 3 || s.rd .fltState 0 = 4

/-- The members in force, in ascending order. -/
def State.memberIds (s : State) : List Nat := (s.flt.members.filter (fun p => match p.2 with
  | some x => x.state = fltMember
  | none => false)).map (·.1)

/-- The record of a member. -/
def State.member (s : State) (m : Nat) : Option Member := sget none s.flt.members m

def State.setMember (s : State) (m : Nat) (x : Option Member) : State :=
  let s : State := { s with flt := { s.flt with members := sput none s.flt.members m x } }
  s.wr .fltSize 0 s.memberIds.length

/-! ## Entries (R315, R316) -/

/-- R316: the 512 bytes of an entry. -/
def entryBytes (e : LedgerEntry) : List Byte :=
  leBytes 8 e.epoch ++ leBytes 4 e.term ++ leBytes 1 e.kind ++ zeros 1 ++ leBytes 2 e.body.length ++ leBytes 2 e.proposer ++ zeros 46
    ++ e.body ++ zeros (448 - e.body.length)

/-- R316: an entry from its bytes. -/
def entryOfBytes (b : List Byte) : LedgerEntry :=
  ⟨fieldAt b 0 8, fieldAt b 8 4, fieldAt b 12 1, fieldAt b 16 2 % 2 ^ 14, (b.drop 64).take (fieldAt b 14 2)⟩

/-- R315: the place of an epoch's entry in the ledger ring. -/
def State.ringPlace (s : State) (epoch : Nat) : Nat := s.rd .fltRegion 0 + 512 * (epoch % 65536)

/-- Hashes of a body, 48 bytes each from an offset. -/
def bodyHashes (b : List Byte) (o n : Nat) : List Nat := (List.range n).map (fun i => beNat ((b.drop (o + 48 * i)).take 48))

/-- A member ID with a valid bit. -/
def optMember (w : Nat) : Option Nat := if bitAt w 14 then some (w % 2 ^ 14) else none

/-! ## The distribution tree (R317) -/

/-- R317: the tree's order: the lead, then the other members in ascending order. -/
def State.treeOrder (s : State) : List Nat :=
  let l := s.rd .fltLead 0
  l :: s.memberIds.filter (· ≠ l)

/-- R317: a member's children. -/
def State.children (s : State) : List Nat :=
  match s.treeOrder.findIdx? (· = s.me) with
  | none => []
  | some k => (s.treeOrder.drop (16 * k + 1)).take 16

/-- R317: a member's parent. -/
def State.parent (s : State) : Option Nat :=
  match s.treeOrder.findIdx? (· = s.me) with
  | some (k + 1) => s.treeOrder[k / 16]?
  | _ => none

/-- R317: an entry is forwarded before it is applied; an admitted candidate gets it from the member that forwarded its hail. -/
def State.forwardEntry (s : State) (e : LedgerEntry) : State :=
  let s := if s.isMember ∨ s.rd .fltState 0 = 4 then s.children.foldl (fun s m => s.ledgerTo m (.committed e)) s else s
  if e.kind = 4 then
    let id := beNat ((e.body.drop 4).take 48)
    ((List.range 32).filter (fun n => s.rd .spnState n = spUp && s.rd .spnPeerstate n ≠ fltMember && hlIdhash (s.link n).peerHail = id)).foldl
      (fun s n => s.ledgerAcross n (.committed e)) s
  else s

/-- Ask the parent, or a member at the end of a span, for the epochs from the next one on (R317). -/
def State.requestEpochs (s : State) : State :=
  let first := s.rd .fltEpoch 0 + 1
  let s := s.bump .fltCatchups 0 1
  let s : State := { s with flt := { s.flt with gapAt := some s.now } }
  match s.parent with
  | some m => s.ledgerTo m (.request first)
  | none =>
    match (List.range 32).find? (fun n => s.rd .spnState n = spUp && s.rd .spnPeerstate n = fltMember) with
    | some n => s.ledgerAcross n (.request first)
    | none => s

/-! ## Members come and go (R316, R320, R322) -/

/-- The module's own place in the ledger ends. -/
def State.leaveLedger (s : State) (st : Nat) : State :=
  ((((s.wr .fltState 0 st).wr .fltMembervalid 0 0).wr .fltIslead 0 0).wr .fltIssteward 0 0).wr .fltLeadvalid 0 0

/-- R319, R313: the module is FENCED. -/
def State.fenceSelf (s : State) : State := ((s.leaveLedger 5).wr .fltGroundreason 0 Status.fltFenced.code).warmAfterFence

/-- The module becomes MEMBER under an ID. -/
def State.becomeMember (s : State) (m : Nat) : State :=
  let s := ((s.wr .fltMember 0 m).wr .fltMembervalid 0 1).wr .fltState 0 fltMember
  { s with flt := { s.flt with heard := s.now, quorumTold := false } }

/-- R322, R250, R311: what every member does when m leaves or is fenced. -/
def State.loseMember (s : State) (m : Nat) (st : Status) : State :=
  let s := match s.member m with
    | some x => s.setMember m (some { x with state := 5 })
    | none => s
  let s := s.failMember m .wvPeerLost
  let s : State := { s with span := { s.span with
    stuck := s.span.stuck.filter (fun k => k.frame.dst ≠ m)
    links := s.span.links.map (fun q => (q.1, { q.2 with queue := q.2.queue.filter (fun f => f.dst ≠ m || !f.routed) })) } }
  let s := (s.peerSpans m).foldl (fun s n => s.refuseSpan n st) s
  let s : State := { s with flt := { s.flt with
    silent := s.flt.silent.filter (fun p => p.1 ≠ m), reports := sdrop s.flt.reports m } }
  let s := if s.rd .fltLead 0 = m then s.wr .fltLeadvalid 0 0 else s
  ((List.range 64).filter (fun c => s.seqLead c && (s.groupMembers c).contains m)).foldl (fun s c => s.loseFollower c) s

/-! ## The run, as the ledger knows it (R327, R332, R338) -/

/-- A member of the run, by the SECURE PAIR entries (log entry 45). -/
def State.runMember (s : State) (m : Nat) : Bool := s.flt.pairs.any (fun p => p.1 = m) || (m = s.me && s.isWorker)

/-- The run's WORKERs that the lead knows of. -/
def State.workers (s : State) : List Nat := s.memberIds.filter (fun m => match sget none s.flt.reports m with
  | some r => r.role = 0
  | none => false)

/-- R331: the required interval of a risk level. -/
def requiredInterval (level k : Nat) : Nat :=
  if level ≤ 1 then k else if level = 2 then ceilDiv k 2 else if level = 3 then ceilDiv k 4 else if level = 4 then ceilDiv k 8
  else if level = 5 then 2 else 1

/-- K in force; until a schedule sets it, FH_K. -/
def State.kFlight (s : State) : Nat := if s.rd .fhKflight 0 = 0 then s.rd .fhK 0 else s.rd .fhKflight 0

/-- R332: this member's report to the lead. -/
def State.reportRisk (s : State) : State :=
  if s.isMember ∧ s.flag .fhArm 0 ∨ s.isMember ∧ s.flag .fhMirrorvalid 0 then
    s.ledgerTo (s.rd .fltLead 0) (.risk (s.rd .fhLevel 0) (s.rd .fhRunstep 0) (if s.flag .fhArm 0 then s.rd .fhRole 0 else 2)
      (if s.flag .fhMirrorvalid 0 then some (s.rd .fhMirror 0) else none))
  else s

/-- A kind of entry, and of SECURE its first body byte, is with the lead and not yet applied. -/
def State.underWay (s : State) (kind sub : Nat) : Bool :=
  let hit (k : Nat) (b : List Byte) : Bool := k = kind && (kind ≠ 10 || fieldAt b 0 1 = sub)
  s.flt.inbox.any (fun p => hit p.kind p.body) || s.flt.stored.any (fun e => s.rd .fltEpoch 0 < e.epoch && hit e.kind e.body)

/-- The bodies of SECURE entries (log entry 45). -/
def scheduleBody (i k b : Nat) : List Byte := leBytes 1 1 ++ leBytes 1 i ++ leBytes 1 k ++ zeros 5 ++ leBytes 8 b
def pointBody (p : Nat) : List Byte := leBytes 1 2 ++ zeros 7 ++ leBytes 8 p
def pairBody (m : Nat) (ps : List Nat) (exposed : Bool) (emptied : Option Nat) : List Byte :=
  let opt (x : Option Nat) : Nat := match x with
    | some p => p + 2 ^ 14
    | none => 0
  leBytes 1 3 ++ zeros 1 ++ leBytes 2 m ++ leBytes 2 (opt ps[0]?) ++ leBytes 2 (opt ps[1]?) ++ leBytes 1 (b2n exposed) ++ zeros 1
    ++ leBytes 2 (opt emptied)

/-- R332: the lead's schedule for K, where it differs from the one in force; `late` adds twice FH_MARGIN (R332). -/
def State.reschedule (s : State) (k : Nat) (late : Bool) : State :=
  let rs := s.workers.filterMap (fun m => sget none s.flt.reports m)
  if rs = [] ∨ s.underWay 10 1 then s
  else
    let i := rs.foldl (fun a r => min a (requiredInterval r.level k)) k
    let margin := if rs.any (fun r => r.level = 7) then 2 else if late then 2 * s.rd .fhMargin 0 else s.rd .fhMargin 0
    let b := rs.foldl (fun a r => max a r.runstep) 0 + margin
    if i ≠ s.rd .fhInterval 0 ∨ k ≠ s.rd .fhKflight 0 ∨ late then s.propose 10 (scheduleBody i k b) else s

/-- R338: the partners of each WORKER, in ascending order: assignments so far give how many wards a member hosts. -/
def State.assignPairs (s : State) : List (Nat × List Nat × Bool) :=
  let ids := s.memberIds
  let tag (m : Nat) : Nat := ((s.member m).map (·.tag)).getD 0
  s.workers.foldl (fun acc m =>
    let hosts (x : Nat) : Nat := (acc.filter (fun a => a.2.1.contains x)).length
    let order := ids.filter (fun x => m < x) ++ ids.filter (fun x => x < m)
    let room := order.filter (fun x => hosts x < 2)
    match room.find? (fun x => tag x ≠ tag m && (x ≠ s.me || s.flag .fltFeedok 0)) with
    | some p => acc ++ [(m, [p], false)]
    | none => if room = [] then acc else acc ++ [(m, room.take 2, true)]) []

/-- R338: the lead assigns partners anew. -/
def State.repair (s : State) : State :=
  if s.flt.recovery.isSome ∨ s.underWay 10 3 then s
  else
    s.assignPairs.foldl (fun s a =>
      if (s.flt.pairs.filter (fun p => p.1 = a.1)).map (·.2) = a.2.1 then s else s.propose 10 (pairBody a.1 a.2.1 a.2.2 none)) s

/-- R343: every survivor has reported REWOUND: the lead commits REPLAN. With no point that survives, the loss is not hidden (R352, R353). -/
def State.maybeReplan (s : State) : State :=
  match s.flt.recovery with
  | none => s
  | some (m, step, _) =>
    if s.underWay 11 0 ∨ !s.workers.all (fun w => s.flt.rewound.contains w) then s
    else
      let report := sget none s.flt.reports m
      let standby := s.memberIds.find? (fun x => match sget none s.flt.reports x with
        | some r => r.role = 1 && r.level ≤ 3
        | none => false)
      let held := 0 < s.rd .fhSecures 0 && (step || s.flt.holders.any (fun p => p.1 = m && s.memberIds.contains p.2))
      let mirror := report.bind (·.mirror)
      if held then
        s.propose 11 (replanBody m (if step then some m else standby)
          ((if step then Status.fhStepFault else Status.fhRewound).code % 256) (s.rd .fhPoint 0) mirror)
      else s.propose 11 (replanBody m none (Status.unhiddenLoss.code % 256) noPoint mirror)

/-- R318: the steward set the lead keeps: the current ones that are members, filled up to the target with members whose feed tags no steward
holds first, the lowest-numbered first. -/
def State.wantedStewards (s : State) : List Nat :=
  let ids := s.memberIds
  let n := s.rd .fltStewtarget 0
  let tag (m : Nat) : Nat := ((s.member m).map (·.tag)).getD 0
  if ids.length ≤ n then ids
  else
    let rec fill : Nat → List Nat → List Nat
      | 0, l => l
      | fuel + 1, l =>
        if n ≤ l.length then l
        else
          let rest := ids.filter (fun m => !l.contains m)
          match (rest.find? (fun m => !l.any (fun x => tag x = tag m))).or rest.head? with
          | none => l
          | some m => fill fuel (l ++ [m])
    (fill n (s.flt.stewards.filter (fun m => ids.contains m))).mergeSort (· ≤ ·)

/-- What the lead sees to after an entry. -/
def State.leadDuties (s : State) : State :=
  if !s.flag .fltIslead 0 then s
  else
    let w := s.wantedStewards
    let s := if w ≠ s.flt.stewards ∧ !s.underWay 8 0 then
      s.propose 8 (leBytes 1 w.length ++ zeros 1 ++ (w.map (leBytes 2)).flatten) else s
    (s.repair.reschedule s.kFlight false).maybeReplan

/-! ## Applying an entry (R316 to R322, and failure hiding's kinds) -/

/-- FOUND: the founder becomes member 0 and lead. -/
def State.applyFound (s : State) (e : LedgerEntry) : State :=
  let id := beNat ((e.body.drop 12).take 48)
  let own := id = idHash Config.identityCert
  let s : State := { s with flt := { s.flt with
    members := [], permits := [], stewards := [0], founder := id, accepted := bodyHashes e.body 64 (fieldAt e.body 9 1) } }
  let s := s.setMember 0 (some ⟨fltMember, id, if own then s.rd .fltFeedtag 0 else 0,
    if own then (match s.sec.running with | some r => r.1 | none => 0) else 0, e.epoch⟩)
  let s := ((((s.wr .fltStewtarget 0 (fieldAt e.body 8 1)).wr .fltStewards 0 1).wr .fltTerm 0 e.term).wr .fltLead 0 0).wr .fltLeadvalid 0 1
  if own then ((s.becomeMember 0).wr .fltIslead 0 1).wr .fltIssteward 0 1 else s

/-- PERMIT and REVOKE. -/
def State.applyPermit (s : State) (e : LedgerEntry) (add : Bool) : State :=
  let id := beNat (e.body.take 48)
  let rest := s.flt.permits.filter (fun p => p.1 ≠ id)
  { s with flt := { s.flt with permits := if add then rest ++ [(id, optMember (fieldAt e.body 48 2))] else rest } }

/-- ADMIT: the member is added; the candidate itself becomes MEMBER (R320). -/
def State.applyAdmit (s : State) (e : LedgerEntry) : State :=
  let m := fieldAt e.body 0 2 % 2 ^ 14
  let id := beNat ((e.body.drop 4).take 48)
  let s := s.setMember m (some ⟨fltMember, id, fieldAt e.body 2 2, beNat ((e.body.drop 52).take 48), e.epoch⟩)
  if id = idHash Config.identityCert then s.becomeMember m else s

/-- An entry names this module as a member: one that is CANDIDATE catches up on what became of its earlier membership (log entry 120). -/
def State.namesMe (s : State) (m : Nat) : Bool :=
  s.flag .fltMembervalid 0 && m = s.me && (s.isMember || s.rd .fltState 0 = 4)

/-- LEAVE (R322). -/
def State.applyLeave (s : State) (e : LedgerEntry) : State :=
  let m := fieldAt e.body 0 2 % 2 ^ 14
  let own := s.namesMe m
  let s := s.loseMember m .wvPeerLost
  if own then s.leaveLedger 0 else s

/-- FENCE (R311, R322, R342): the member is lost; a run member's loss makes the others rewind. -/
def State.applyFence (s : State) (e : LedgerEntry) : State :=
  let m := fieldAt e.body 0 2 % 2 ^ 14
  let own := s.namesMe m
  let report := sget none s.flt.reports m
  let run := s.runMember m
  let s := (s.loseMember m .fltFenced).failFar
  let s : State := if run then
      { s with flt := { s.flt with recovery := some (m, false, s.now), rewound := [], dones := [], replays := [] } }
    else s
  if own then s.fenceSelf
  else
    let s := if run ∧ s.isWorker ∧ s.isMember then s.rewind else s
    match report with
    | some r => if !run ∧ r.mirror.isSome ∧ s.flag .fltIslead 0 then s.propose 11 (replanBody m none 0 noPoint r.mirror) else s
    | none => s

/-- STEWARDS (R318). -/
def State.applyStewards (s : State) (e : LedgerEntry) : State :=
  let l := (List.range (fieldAt e.body 0 1)).map (fun i => fieldAt e.body (2 + 2 * i) 2 % 2 ^ 14)
  let s : State := { s with flt := { s.flt with stewards := l } }
  (s.wr .fltStewards 0 l.length).wr .fltIssteward 0 (b2n (s.flag .fltMembervalid 0 && l.contains s.me))

/-- BARRIER (R319, R346): the member answers with its applied epoch; a replay that matched is over. -/
def State.applyBarrier (s : State) (e : LedgerEntry) : State :=
  let s : State := { s with flt := { s.flt with barrier := e.epoch } }
  let s := if s.rd .fltState 0 = 1 then s else s.ledgerTo (s.rd .fltLead 0) (.barrierAnswer e.epoch)
  let s : State := if s.flt.recovery.isSome then { s with flt := { s.flt with recovery := none, mismatch := 0, replays := [] } } else s
  if s.rd .fhState 0 = 5 then s.wr .fhState 0 1 else s

/-- SECURE SCHEDULE (R332). -/
def State.applySchedule (s : State) (e : LedgerEntry) : State :=
  let b := fieldAt e.body 8 8
  let s := ((s.wr .fhInterval 0 (fieldAt e.body 1 1)).wr .fhKflight 0 (fieldAt e.body 2 1)).wr .fhBase 0 b
  if s.isWorker ∧ b + 1 ≤ s.rd .fhRunstep 0 then s.ledgerTo (s.rd .fltLead 0) (.late (s.rd .fhRunstep 0)) else s

/-- SECURE POINT (R336, R338, R340): the slots of the point are COMMITTED; wards that are no longer this member's leave, and a member at
risk level 7 evacuates. One that was not committed before a FENCE of a run member does nothing (R343). -/
def State.applyPoint (s : State) (e : LedgerEntry) : State :=
  if s.flt.recovery.isSome then s
  else
    let p := fieldAt e.body 8 8
    let s := (s.wr .fhPrevpoint 0 (if s.rd .fhSecures 0 = 0 then 2 ^ 64 - 1 else s.rd .fhPoint 0)).wr .fhPoint 0 p
    let s := s.bump .fhSecures 0 1
    let s := (List.range 2).foldl (fun s w => (List.range 2).foldl (fun s j =>
      if (if w = 0 then s.flag .fhWard0v 0 else s.flag .fhWard1v 0) ∧ s.slotStep w j = p ∧ s.slotState w j = 2 then s.setSlotState w j 3
      else s) s) s
    let kept (m : Nat) : Bool := s.flt.pairs.contains (m, s.me)
    let s := if s.flag .fhWard0v 0 ∧ !kept (s.rd .fhWard0 0) then s.wr .fhWard0v 0 0 else s
    let s := if s.flag .fhWard1v 0 ∧ !kept (s.rd .fhWard1 0) then s.wr .fhWard1v 0 0 else s
    let s : State := { s with flt := { s.flt with dones := s.flt.dones.filter (fun d => p < d.2), holders := s.flt.pairs } }
    if s.rd .fhLevel 0 = 7 ∧ s.isWorker ∧ s.rd .fhBase 0 ≤ p then s.declareFault .fhEvacuate else s

/-- R338: this member takes a ward, with empty slots. -/
def State.takeWard (s : State) (m : Nat) : State :=
  match s.wardIx m with
  | some _ => s
  | none =>
    let kept (x : Nat) : Bool := s.flt.pairs.contains (x, s.me)
    let w := if !s.flag .fhWard0v 0 then 0 else if !s.flag .fhWard1v 0 then 1 else if !kept (s.rd .fhWard0 0) then 0 else 1
    let s := if w = 0 then (s.wr .fhWard0 0 m).wr .fhWard0v 0 1 else (s.wr .fhWard1 0 m).wr .fhWard1v 0 1
    (s.setSlotState w 0 0).setSlotState w 1 0

/-- SECURE PAIR (R338, R334): the partners of a member; a new one has empty slots, and so has one whose staging is lost. -/
def State.applyPair (s : State) (e : LedgerEntry) : State :=
  let m := fieldAt e.body 2 2 % 2 ^ 14
  let a := fieldAt e.body 4 2
  let b := fieldAt e.body 6 2
  let ps := (optMember a).toList ++ (optMember b).toList
  let exposed := bitAt (fieldAt e.body 8 1) 0
  let s : State := { s with flt := { s.flt with pairs := s.flt.pairs.filter (fun p => p.1 ≠ m) ++ ps.map (fun p => (m, p)) } }
  let emptied := optMember (fieldAt e.body 10 2)
  let s := if s.flag .fltMembervalid 0 ∧ ps.contains s.me then s.takeWard m else s
  let s : State := match emptied with
    | none => s
    | some p =>
      let s : State := { s with flt := { s.flt with holders := s.flt.holders.filter (· ≠ (m, p)) } }
      match s.wardIx m with
      | some w => if s.flag .fltMembervalid 0 ∧ p = s.me then (s.setSlotState w 0 0).setSlotState w 1 0 else s
      | none => s
  if s.flag .fltMembervalid 0 ∧ m = s.me then
    let changed := s.partners ≠ ps ∨ emptied.isSome
    let s := ((s.wr .fhPartnera 0 a).wr .fhPartnerav 0 (a / 2 ^ 14)).wr .fhPartnerb 0 b
    let s := (s.wr .fhPartnerbv 0 (b / 2 ^ 14)).wr .fhExposed 0 (b2n exposed)
    let s : State := if changed then
        { s with fh := { s.fh with sendAll := true, copying := none } }
      else s
    if exposed then s.raise hidePage .fhExposed (some s.armed) m 0 else s
  else s

/-- The fields of a REPLAN (R343). -/
def rpLost (b : List Byte) : Nat := fieldAt b 0 2 % 2 ^ 14
def rpHeir (b : List Byte) : Option Nat := optMember (fieldAt b 2 2)
def rpReason (b : List Byte) : Nat := fieldAt b 4 1
def rpPoint (b : List Byte) : Nat := fieldAt b 8 8
def rpMirror (b : List Byte) : Option Nat := optMember (fieldAt b 16 2)

/-- R344: the partner of a lost member maps its slot for P, read-only, at FH_WARDWINDOW in its armed context. -/
def State.mapWard (s : State) (w p : Nat) : State :=
  let j := if s.slotStep w 1 = p ∧ s.slotState w 1 = 3 then 1 else 0
  let n := s.rd .fhSlotsize 0
  let s := (List.range n).foldl (fun s u =>
    let (far, pa) := s.stagePlace (s.rd .fhBallastbase 0) (s.slotOffset w j + u * 2 ^ 21)
    stateOf <| s.mapSmall s.armed (s.rd .fhWardwindow 0 + u * 2 ^ 21) (1 + 2 + 4 + 64 * b2n far + pa / 4096 * 4096)) s
  { s with fh := { s.fh with window := some (2 * w + j, n * 2 ^ 21) } }

/-- REPLAN (R341 to R344, R350, R353): the first one of a step fault rewinds; with a restore point the WORKERs and the heir restore, the heir
taking over the lost member's place; without one the loss is not hidden. -/
def State.applyReplan (s : State) (e : LedgerEntry) : State :=
  let b := e.body
  let lost := rpLost b
  let s := if rpMirror b = some s.me ∧ s.flag .fltMembervalid 0 then s.promote else s
  if rpReason b = Status.unhiddenLoss.code % 256 then
    let s : State := { s with flt := { s.flt with recovery := none } }
    if s.isMember then s.halt else s
  else if rpPoint b = noPoint then
    if rpHeir b = some lost then
      let s : State := { s with flt := { s.flt with recovery := some (lost, true, s.now), rewound := [], dones := [], replays := [] } }
      if s.isWorker ∧ s.isMember then s.rewind else s
    else s
  else
    let p := rpPoint b
    let older := p ≠ s.rd .fhPoint 0
    let before := s.flt.heir
    let s : State := { s with flt := { s.flt with heir := rpHeir b } }
    let s := if older then (s.wr .fhPoint 0 p).wr .fhPrevpoint 0 (2 ^ 64 - 1) else s
    let pairs0 := s.flt.pairs
    let step := rpHeir b = some lost
    let s : State := match rpHeir b with
      | none => s
      | some h => if step then s else { s with flt := { s.flt with
          pairs := pairs0.map (fun q => (if q.1 = lost then h else q.1, if q.2 = lost then h else q.2))
          holders := s.flt.holders.map (fun q => (if q.1 = lost then h else q.1, q.2)) } }
    let rename (m : Nat) : Nat := match rpHeir b with
      | some h => if m = lost then h else m
      | none => m
    let s := if s.flag .fhWard0v 0 then s.wr .fhWard0 0 (rename (s.rd .fhWard0 0)) else s
    let s := if s.flag .fhWard1v 0 then s.wr .fhWard1 0 (rename (s.rd .fhWard1 0)) else s
    let hadLost := !step && s.partners.contains lost
    let s := if s.flag .fhPartnerav 0 then s.wr .fhPartnera 0 (rename (s.rd .fhPartnera 0)) else s
    let s := if s.flag .fhPartnerbv 0 then s.wr .fhPartnerb 0 (rename (s.rd .fhPartnerb 0)) else s
    let s : State := if hadLost then { s with fh := { s.fh with sendAll := true } } else s
    if !s.isMember then s
    else if !step ∧ rpHeir b = some s.me then
      let s := if s.isWorker ∧ !s.fh.rewinding then s.rewind else s
      let mine := pairs0.filter (fun q => q.1 = lost)
      let s := match mine.map (·.2) with
        | [] => s
        | a :: t =>
          let s := (s.wr .fhPartnera 0 a).wr .fhPartnerav 0 1
          match t with
          | [] => s.wr .fhPartnerbv 0 0
          | c :: _ => (s.wr .fhPartnerb 0 c).wr .fhPartnerbv 0 1
      let s := (pairs0.filter (fun q => q.2 = lost)).foldl (fun s q => s.takeWard q.1) s
      let s : State := { s.wr .fhState 0 4 with fh := { s.fh with replan := some (p, lost, true) } }
      s
    else
      let s := if rpHeir b = none then
          let heirs := if rpReason b = Status.fhHeirLayout.code % 256 then before.bind s.wardIx else none
          match (s.wardIx lost).or heirs with
          | some w => s.mapWard w p
          | none => s
        else s
      if s.isWorker then
        let s := if s.fh.rewinding then s else s.rewind
        { s.wr .fhState 0 4 with fh := { s.fh with replan := some (p, lost, false) } }
      else s

/-- LEAD (R318): the lead of a new term; reports are made to it anew. -/
def State.applyLead (s : State) (e : LedgerEntry) : State :=
  let m := fieldAt e.body 0 2 % 2 ^ 14
  let s := ((s.wr .fltTerm 0 (max (s.rd .fltTerm 0) e.term)).wr .fltLead 0 m).wr .fltLeadvalid 0 1
  let s := if m = s.me ∧ s.flag .fltMembervalid 0 then s else s.wr .fltIslead 0 0
  let s : State := { s with fh := { s.fh with reported := false }, flt := { s.flt with rewound := [] } }
  s.reportRisk

/-- The effect of an entry, by its kind (R316). -/
def State.applyKind (s : State) (e : LedgerEntry) : State :=
  match e.kind with
  | 1 => s.applyFound e
  | 2 => s.applyPermit e true
  | 3 => s.applyPermit e false
  | 4 => s.applyAdmit e
  | 5 => s.applyLeave e
  | 6 => s.applyFence e
  | 7 => { s with flt := { s.flt with accepted := bodyHashes e.body 16 (fieldAt e.body 0 1) } }
  | 8 => s.applyStewards e
  | 9 => s.applyBarrier e
  | 10 =>
    match fieldAt e.body 0 1 with
    | 1 => s.applySchedule e
    | 2 => s.applyPoint e
    | 3 => s.applyPair e
    | _ => s
  | 11 => s.applyReplan e
  | 12 => s.applyLead e
  | _ => s

/-- R321: the command whose entry this is ends with OK. -/
def State.commandDone (s : State) (e : LedgerEntry) : State :=
  match s.flt.command with
  | none => s
  | some (k, b) =>
    if e.kind = k ∧ e.body = b then
      let s : State := { s with flt := { s.flt with command := none } }
      s.wr .fltCmdstatus 0 0
    else s

/-- R317: apply an entry: it is forwarded first, kept in the ledger ring, and raises the applied epoch. -/
def State.applyEntry (s : State) (e : LedgerEntry) : State :=
  let s := s.forwardEntry e
  let s := if s.rd .fltRegion 0 = 0 then s else (s.memWrite false (s.ringPlace e.epoch) (entryBytes e)).1
  let s := ((s.wr .fltEpoch 0 e.epoch).bump .fltApplied 0 1).wr .fltCommitted 0 (max (s.rd .fltCommitted 0) e.epoch)
  let rest := s.flt.stored.filter (fun x => e.epoch < x.epoch)
  let s : State := { s with flt := { s.flt with
    stored := rest
    held := s.flt.held.filter (fun x => e.epoch < x.epoch)
    acks := s.flt.acks.filter (fun a => e.epoch < a.1)
    lastTerm := if rest = [] then e.term else s.flt.lastTerm
    heard := s.now
    quorumTold := false
    gapAt := none } }
  ((s.applyKind e).commandDone e).leadDuties

/-- Entries held ahead of a gap that has closed. -/
def State.drainHeld (s : State) : Nat → State
  | 0 => s
  | fuel + 1 =>
    match s.flt.held.find? (fun e => e.epoch = s.rd .fltEpoch 0 + 1) with
    | some e => (s.applyEntry e).drainHeld fuel
    | none => if s.flt.held = [] then s else { s with flt := { s.flt with gapAt := some s.now } }

/-- R317: a committed entry arrives: applied in epoch order; up to 64 are held ahead of a gap. -/
def State.hearCommitted (s : State) (e : LedgerEntry) : State :=
  let next := s.rd .fltEpoch 0 + 1
  if !s.inLedger ∨ e.epoch < next then s
  else if e.epoch = next then (s.applyEntry e).drainHeld 64
  else
    let s : State := { s with flt := { s.flt with
      held := if s.flt.held.length < 64 ∧ !s.flt.held.any (fun x => x.epoch = e.epoch) then s.flt.held ++ [e] else s.flt.held
      gapAt := s.flt.gapAt.or (some s.now) } }
    let s := s.wr .fltCommitted 0 (max (s.rd .fltCommitted 0) e.epoch)
    if s.flt.held.length < 64 ∨ s.flt.held.any (fun x => x.epoch = e.epoch) then s else s.requestEpochs

/-! ## The lead and the stewards (R314, R317, R318) -/

/-- The last epoch this module has stored or applied. -/
def State.lastEpoch (s : State) : Nat := s.flt.stored.foldl (fun a e => max a e.epoch) (s.rd .fltEpoch 0)

/-- R314: a majority of the stewards in force. -/
def State.majority (s : State) (ms : List Nat) : Bool :=
  s.flt.stewards.length < 2 * (s.flt.stewards.filter (fun m => ms.contains m)).length

/-- R314, R317: the lead commits, in epoch order, what a majority stores in its term. -/
def State.commitReady (s : State) : Nat → State
  | 0 => s
  | fuel + 1 =>
    let next := s.rd .fltEpoch 0 + 1
    let ready := s.flt.stored.any (fun e => next ≤ e.epoch && e.term = s.rd .fltTerm 0
      && s.majority ((s.flt.acks.filter (fun a => a.1 = e.epoch)).map (·.2)))
    if !(ready && s.flag .fltIslead 0) then s
    else
      match s.flt.stored.find? (fun e => e.epoch = next) with
      | some e => (s.applyEntry e).commitReady fuel
      | none => s

/-- R317: the lead assigns the next epoch and its term, stores the entry and sends it to every steward. -/
def State.leadAppend (s : State) (kind proposer : Nat) (body : List Byte) : State :=
  let e : LedgerEntry := ⟨s.lastEpoch + 1, s.rd .fltTerm 0, kind, proposer, body⟩
  let s : State := { s with flt := { s.flt with
    stored := s.flt.stored ++ [e]
    lastTerm := e.term
    acks := s.flt.acks ++ (if s.flt.stewards.contains s.me then [(e.epoch, s.me)] else []) } }
  let s := (s.flt.stewards.filter (· ≠ s.me)).foldl (fun s m => s.ledgerTo m (.store e)) s
  s.commitReady (s.flt.stored.length)

/-- R321: the lead's own checks of a proposal. -/
def State.proposalRefused (s : State) (kind : Nat) (body : List Byte) : Bool :=
  kind = 0 || 12 < kind || kind = 1
    || (kind = 7 && (let hs := bodyHashes body 16 (fieldAt body 0 1)
        s.memberIds.any (fun m => !hs.contains (((s.member m).map (·.mfst)).getD 0))))
    || (kind = 3 && beNat (body.take 48) = s.flt.founder && s.memberIds.any (fun m => ((s.member m).map (·.idhash)) = some s.flt.founder))

/-- R317, R321, R331: the lead takes a proposal: refused, or assigned its epoch. K proposed by SETK becomes a schedule. -/
def State.leadTake (s : State) (p : Proposal) : State :=
  if !s.flag .fltIslead 0 then s
  else if s.proposalRefused p.kind p.body then s.ledgerTo p.proposer (.refused p.kind)
  else if p.kind = 6 ∧ !s.memberIds.contains (fieldAt p.body 0 2 % 2 ^ 14) then s
  else if p.kind = 10 ∧ fieldAt p.body 0 1 = 1 ∧ fieldAt p.body 1 1 = 0 then s.reschedule (fieldAt p.body 2 1) false
  else s.leadAppend p.kind p.proposer p.body

/-- R317: a steward stores an entry of the lead of its term or a later one, and acknowledges it. -/
def State.storeEntry (s : State) (lead : Nat) (e : LedgerEntry) : State :=
  if !s.flag .fltIssteward 0 ∨ e.term < s.rd .fltTerm 0 ∨ e.epoch ≤ s.rd .fltEpoch 0 then s
  else
    let s := ((s.wr .fltTerm 0 e.term).wr .fltLead 0 lead).wr .fltLeadvalid 0 1
    let s := if lead = s.me then s else s.wr .fltIslead 0 0
    let s : State := { s with flt := { s.flt with
      stored := s.flt.stored.filter (fun x => x.epoch ≠ e.epoch && !(e.epoch < x.epoch && x.term < e.term)) ++ [e]
      lastTerm := e.term
      heard := s.now
      standing := none } }
    s.ledgerTo lead (.stored e.epoch e.term)

/-- R317: an acknowledgement reaches the lead. -/
def State.storeAck (s : State) (m epoch term : Nat) : State :=
  if !s.flag .fltIslead 0 ∨ term ≠ s.rd .fltTerm 0 ∨ s.flt.acks.contains (epoch, m) then s
  else
    let s : State := { s with flt := { s.flt with acks := s.flt.acks ++ [(epoch, m)] } }
    s.commitReady (s.flt.stored.length)

/-- R318: a candidate with a majority is the lead: what it has stored goes out again in its term, and its LEAD entry comes before any other. -/
def State.becomeLead (s : State) : State :=
  let s := ((s.wr .fltIslead 0 1).wr .fltLead 0 s.me).wr .fltLeadvalid 0 1
  let s : State := { s with flt := { s.flt with
    stored := s.flt.stored.map (fun e => { e with term := s.rd .fltTerm 0 })
    standing := none, votes := [], acks := s.flt.stored.map (fun e => (e.epoch, s.me)), silent := [] } }
  let s := s.flt.stored.foldl (fun s e =>
    (s.flt.stewards.filter (· ≠ s.me)).foldl (fun s m => s.ledgerTo m (.store e)) s) s
  s.leadAppend 12 s.me (leBytes 2 s.me)

/-- R318: a vote is granted to this candidate. -/
def State.hearVote (s : State) (m term : Nat) : State :=
  if s.flt.standing ≠ some term ∨ s.flt.votes.contains m then s
  else
    let s : State := { s with flt := { s.flt with votes := s.flt.votes ++ [m] } }
    if s.majority s.flt.votes then s.becomeLead else s

/-- R318: an election: a new term, this steward's own vote, and requests to the others. -/
def State.stand (s : State) : State :=
  let t := s.rd .fltTerm 0 + 1
  let s := (((s.wr .fltTerm 0 t).bump .fltElections 0 1).wr .fltLeadvalid 0 0).wr .fltIslead 0 0
  let s : State := { s with flt := { s.flt with votes := [], standing := some t, votedTerm := t, heard := s.now } }
  let s := (s.flt.stewards.filter (· ≠ s.me)).foldl (fun s m => s.ledgerTo m (.voteRequest t s.flt.lastTerm s.lastEpoch)) s
  s.hearVote s.me t

/-- R318: another steward asks for a vote. -/
def State.hearCandidate (s : State) (m term lastTerm lastEpoch : Nat) : State :=
  if !s.flag .fltIssteward 0 ∨ term ≤ s.flt.votedTerm ∨ term < s.rd .fltTerm 0 then s
  else
    let s := if s.rd .fltTerm 0 < term then ((s.wr .fltTerm 0 term).wr .fltIslead 0 0).wr .fltLeadvalid 0 0 else s
    let fresh := s.flt.lastTerm < lastTerm ∨ (s.flt.lastTerm = lastTerm ∧ s.lastEpoch ≤ lastEpoch)
    if fresh then
      { s with flt := { s.flt with votedTerm := term, standing := none, heard := s.now } }.ledgerTo m (.voteGrant term)
    else s

/-- R318, R319: a keep-alive: the lead of this term lives. A module ahead of its lead's committed epoch fences itself. -/
def State.hearKeepAlive (s : State) (lead term committed : Nat) : State :=
  if !s.inLedger ∨ term < s.rd .fltTerm 0 then s
  else
    let s := ((s.wr .fltTerm 0 term).wr .fltLead 0 lead).wr .fltLeadvalid 0 1
    let s := if lead = s.me then s else s.wr .fltIslead 0 0
    let s : State := { s with flt := { s.flt with heard := s.now, quorumTold := false, standing := none } }
    if committed < s.rd .fltEpoch 0 then s.fenceSelf
    else
      let s := s.wr .fltCommitted 0 (max (s.rd .fltCommitted 0) committed)
      if s.rd .fltEpoch 0 < committed then { s with flt := { s.flt with gapAt := s.flt.gapAt.or (some s.now) } } else s

/-! ## Catching up (R317) -/

/-- Who asked: a member, or the module at the end of a span. -/
inductive Asker where
  | member (m : Nat)
  | neighbour (n : Nat)
  deriving DecidableEq, Repr

def State.answer (s : State) (a : Asker) (m : LedgerMsg) : State :=
  match a with
  | .member x => s.ledgerTo x m
  | .neighbour n => s.ledgerAcross n m

/-- R317: a snapshot: the member table, the accepted set and the stewards at the applied epoch. -/
def State.snapshotMsg (s : State) : LedgerMsg :=
  .snapshot (s.rd .fltEpoch 0)
    (s.flt.members.filterMap (fun p => p.2.map (fun x => (p.1, x.state, x.idhash, x.tag, x.mfst, x.epoch)))) s.flt.accepted s.flt.stewards

/-- R317: a request for the epochs from a first one on: entries of the ring, or a snapshot (log entry 120). -/
def State.hearRequest (s : State) (a : Asker) (first : Nat) : State :=
  let e := s.rd .fltEpoch 0
  if first ≤ 1 ∨ e < first ∨ 65536 < e + 1 - first ∨ s.rd .fltRegion 0 = 0 then s.answer a s.snapshotMsg
  else
    (List.range (e + 1 - first)).foldl (fun s k =>
      match s.memRead false (s.ringPlace (first + k)) 512 with
      | .ok b => s.answer a (.committed (entryOfBytes b))
      | .error _ => s) s

/-- R317, R320: a snapshot later than what is applied takes its place; a candidate that it lists is a MEMBER. -/
def State.hearSnapshot (s : State) (epoch : Nat) (members : List (Nat × Nat × Nat × Nat × Nat × Nat)) (accepted stewards : List Nat) :
    State :=
  if !s.inLedger ∨ epoch ≤ s.rd .fltEpoch 0 then s
  else
    let s : State := { s with flt := { s.flt with
      members := members.foldl (fun m x => sput none m x.1 (some ⟨x.2.1, x.2.2.1, x.2.2.2.1, x.2.2.2.2.1, x.2.2.2.2.2⟩)) []
      accepted := accepted
      stewards := stewards
      stored := s.flt.stored.filter (fun e => epoch < e.epoch)
      held := s.flt.held.filter (fun e => epoch < e.epoch)
      heard := s.now
      gapAt := none } }
    let s := ((s.wr .fltEpoch 0 epoch).wr .fltCommitted 0 (max (s.rd .fltCommitted 0) epoch)).wr .fltSize 0 s.memberIds.length
    let own := s.memberIds.find? (fun m => ((s.member m).map (·.idhash)) = some (idHash Config.identityCert))
    let s := match own with
      | some m => if s.rd .fltState 0 = 1 then s.becomeMember m else s
      | none => s
    let s := (s.wr .fltStewards 0 stewards.length).wr .fltIssteward 0 (b2n (s.flag .fltMembervalid 0 && stewards.contains s.me))
    s.drainHeld 64

/-! ## Admission (R320) -/

/-- R320: the lead's checks of a candidate's hail, in order. -/
def State.admissionCheck (s : State) (h : List Byte) : Status :=
  let id := hlIdhash h
  match s.flt.permits.find? (fun p => p.1 = id) with
  | none => .fltNotPermitted
  | some (_, want) =>
    if !s.flt.accepted.contains (hlMfst h) then .fltFirmware
    else if !hlFeedok h then .fltFeedtagUnconfirmed
    else if 16384 ≤ s.memberIds.length then .fltFull
    else
      match (hlMember h).or want with
      | none => .ok
      | some m =>
        match s.member m with
        | some x => if x.state = fltMember ∧ x.idhash ≠ id then .fltMemberConflict else .ok
        | none => .ok

/-- R320: the ID a candidate gets: the one it holds or its permit names, or the lowest free one. -/
def State.admitId (s : State) (h : List Byte) : Nat :=
  let want := (s.flt.permits.find? (fun p => p.1 = hlIdhash h)).bind (·.2)
  match (hlMember h).or want with
  | some m => m
  | none => s.memberIds.foldl (fun k m => if m = k then k + 1 else k) 0

/-- R320: the lead answers a candidate's hail: ADMIT, or GROUND to the member that forwarded it. -/
def State.leadAdmit (s : State) (via : Nat) (h : List Byte) : State :=
  if !s.flag .fltIslead 0 then s
  else
    match s.admissionCheck h with
    | .ok => s.leadAppend 4 s.me (leBytes 2 (s.admitId h) ++ leBytes 2 (hlTag h) ++ beBytes 48 (hlIdhash h) ++ beBytes 48 (hlMfst h))
    | e => s.ledgerTo via (.ground (hlIdhash h) e.code)

/-- R320: a GROUND reply: the candidate is GROUNDED; the member that forwarded its hail passes the reply on. -/
def State.hearGround (s : State) (id status : Nat) : State :=
  if id = idHash Config.identityCert then
    if s.rd .fltState 0 = 1 then (s.wr .fltState 0 2).wr .fltGroundreason 0 status else s
  else
    ((List.range 32).filter (fun n => s.rd .spnState n = spUp && hlIdhash (s.link n).peerHail = id)).foldl
      (fun s n => s.ledgerAcross n (.ground id status)) s

end Sys2Proof.Machine
end

