-- ==== Sys2Proof/Machine/Flight.lean ====
section
/-!
DEFINITION. The commands of the flight: FLT_CMD (R321), the ledger's messages and timers (R317 to R319), the entries applied (R316) and
admission (R320).
-/
namespace Sys2Proof.Machine
open Sys2Proof

/-! ## FLT_CMD (R321) -/

/-- The bytes of FLT_CMDBODY. -/
def State.cmdBody (s : State) (n : Nat) : List Byte := leBytes n (s.rd .fltCmdbody 0)

/-- The end of a flight command. -/
def State.fltEnd (s : State) (rdr : Reader) (st : Status) : State := (s.wr .fltCmdstatus 0 st.code).reply rdr .ok 0

/-- R325: who may issue a flight command, and one at a time. -/
def State.fltCommand (s : State) (rdr : Reader) (f : State → State) : State :=
  if rdr ≠ .session 0 then s.reply rdr .sesRights 0
  else if s.flt.command.isSome then s.reply rdr .genCmdBusy 0
  else f s

/-- A command that becomes a proposal: it ends when its entry is applied, or the lead refuses it. -/
def State.proposeCommand (s : State) (rdr : Reader) (kind : Nat) (body : List Byte) : State :=
  if !s.isMember then s.fltEnd rdr .fltCmdRefused
  else
    let s : State := { s with flt := { s.flt with command := some (kind, body) } }
    (s.propose kind body).reply rdr .ok 0

/-- FLT_FOUND (R315, R321): local, while ALONE: epoch 1 is committed on this module. -/
def execFltFound (rdr : Reader) (s : State) : Result :=
  .next (s.fltCommand rdr (fun s =>
    let n := fieldAt (s.cmdBody 512) 9 1
    let body := s.cmdBody (64 + 48 * min n 4)
    let t := fieldAt body 8 1
    if s.rd .fltState 0 ≠ 0 then s.fltEnd rdr .fltCmdRefused
    else if s.rd .fltId 0 = 0 ∨ s.rd .fltRegion 0 = 0 then s.fltEnd rdr .fltUnconfigured
    else if fieldAt body 0 8 ≠ s.rd .fltId 0 ∨ !(t = 5 || t = 7) ∨ n = 0 ∨ 4 < n ∨ fieldAt body 10 2 ≠ 0
        ∨ beNat ((body.drop 12).take 48) ≠ idHash Config.identityCert then s.fltEnd rdr .fltCmdRefused
    else
      let s : State := { s with flt := { FlightState.alone with routes := s.flt.routes } }
      (((s.wr .fltEpoch 0 0).wr .fltCommitted 0 0).applyEntry ⟨1, 1, 1, 0, body⟩).fltEnd rdr .ok))

/-- FLT_PERMIT, FLT_REVOKE, FLT_ACCEPT, FLT_BARRIER (R321). -/
def execFltPermit (rdr : Reader) (s : State) : Result := .next (s.fltCommand rdr (fun s => s.proposeCommand rdr 2 (s.cmdBody 50)))
def execFltRevoke (rdr : Reader) (s : State) : Result := .next (s.fltCommand rdr (fun s => s.proposeCommand rdr 3 (s.cmdBody 48)))
def execFltAccept (rdr : Reader) (s : State) : Result :=
  .next (s.fltCommand rdr (fun s =>
    let n := fieldAt (s.cmdBody 1) 0 1
    if n = 0 ∨ 4 < n then s.fltEnd rdr .fltCmdRefused else s.proposeCommand rdr 7 (s.cmdBody (16 + 48 * n))))
def execFltBarrier (rdr : Reader) (s : State) : Result := .next (s.fltCommand rdr (fun s => s.proposeCommand rdr 9 (s.cmdBody 8)))

/-- FLT_LEAVE (R321): the module is LEAVING, and proposes LEAVE. -/
def execFltLeave (rdr : Reader) (s : State) : Result :=
  .next (s.fltCommand rdr (fun s =>
    if !s.isMember then s.fltEnd rdr .fltCmdRefused
    else
      let body := leBytes 2 s.me
      let s : State := { s with flt := { s.flt with command := some (5, body) } }
      ((s.propose 5 body).wr .fltState 0 4).reply rdr .ok 0))

/-- FLT_ROUTE (R305, R321): route entries, which the next commit of the flight page puts in force. -/
def execFltRoute (rdr : Reader) (s : State) : Result :=
  .next (s.fltCommand rdr (fun s =>
    let b := s.cmdBody 512
    let first := fieldAt b 0 2
    let n := fieldAt b 2 2
    if n = 0 ∨ 127 < n ∨ 16384 < first + n then s.fltEnd rdr .fltCmdRefused
    else if s.rd .fltRegion 0 = 0 then s.fltEnd rdr .fltUnconfigured
    else
      let new := (List.range n).map (fun i => (first + i, fieldAt b (4 + 4 * i) 4))
      let s : State := { s with flt := { s.flt with routes := s.flt.routes ++ new } }
      s.fltEnd rdr .ok))

/-! ## Proposals, stores and acknowledgements (R317) -/

/-- LEDGER_PROPOSAL (R317): a proposal (proposer, kind, body) reaches the lead, or the lead takes the oldest one it holds. -/
def execLedgerProposal (p : Option (Nat × Nat × List Byte)) (s : State) : Result :=
  match p with
  | some (m, k, b) => .next (s.leadTake ⟨m, k, b⟩)
  | none =>
    match s.flt.inbox with
    | [] => .next s
    | q :: t =>
      let s : State := { s with flt := { s.flt with inbox := t } }
      .next (if s.flag .fltIslead 0 then s.leadTake q else s.propose q.kind q.body)

/-- LEDGER_STORE (R317). -/
def execLedgerStore (lead : Nat) (e : LedgerEntry) (s : State) : Result := .next (s.storeEntry lead e)

/-- LEDGER_STORE_ACK (R317). -/
def execLedgerStoreAck (m epoch term : Nat) (s : State) : Result := .next (s.storeAck m epoch term)

/-! ## Entries applied (R316): each arrives committed, from the parent in the distribution tree -/

/-- An entry of a kind arrives. -/
def State.hearKind (s : State) (k : Nat) (e : LedgerEntry) : State := if e.kind = k then s.hearCommitted e else s

/-- A SECURE entry of a kind arrives. -/
def State.hearSecure (s : State) (k : Nat) (e : LedgerEntry) : State :=
  if e.kind = 10 ∧ fieldAt e.body 0 1 = k then s.hearCommitted e else s

def execLedgerFound (e : LedgerEntry) (s : State) : Result := .next (s.hearKind 1 e)
def execLedgerPermit (e : LedgerEntry) (s : State) : Result := .next (s.hearKind 2 e)
def execLedgerRevoke (e : LedgerEntry) (s : State) : Result := .next (s.hearKind 3 e)
def execLedgerAdmit (e : LedgerEntry) (s : State) : Result := .next (s.hearKind 4 e)
def execLedgerLeave (e : LedgerEntry) (s : State) : Result := .next (s.hearKind 5 e)
def execLedgerFence (e : LedgerEntry) (s : State) : Result := .next (s.hearKind 6 e)
def execLedgerAccept (e : LedgerEntry) (s : State) : Result := .next (s.hearKind 7 e)
def execLedgerStewards (e : LedgerEntry) (s : State) : Result := .next (s.hearKind 8 e)
def execLedgerBarrier (e : LedgerEntry) (s : State) : Result := .next (s.hearKind 9 e)
def execSecureSchedule (e : LedgerEntry) (s : State) : Result := .next (s.hearSecure 1 e)
def execSecurePoint (e : LedgerEntry) (s : State) : Result := .next (s.hearSecure 2 e)
def execSecurePair (e : LedgerEntry) (s : State) : Result := .next (s.hearSecure 3 e)
def execLedgerReplan (e : LedgerEntry) (s : State) : Result := .next (s.hearKind 11 e)
def execLedgerLead (e : LedgerEntry) (s : State) : Result := .next (s.hearKind 12 e)

/-! ## Catching up, keep-alives and elections (R317, R318) -/

/-- LEDGER_GAP_TIMEOUT (R317): after a gap of 5 ms the missing epochs are asked for. -/
def execLedgerGapTimeout (s : State) : Result :=
  match s.flt.gapAt with
  | some t => if t + 5000000 ≤ s.now then .next s.requestEpochs else .next s
  | none => .next s

/-- LEDGER_SNAPSHOT (R317). -/
def execLedgerSnapshot (epoch : Nat) (members : List (Nat × Nat × Nat × Nat × Nat × Nat)) (accepted stewards : List Nat) (s : State) :
    Result := .next (s.hearSnapshot epoch members accepted stewards)

/-- LEAD_KEEPALIVE (R318): the lead's timer sends it to each steward; or one (lead, term, committed epoch) arrives. -/
def execLeadKeepalive (k : Option (Nat × Nat × Nat)) (s : State) : Result :=
  match k with
  | some (m, t, c) => .next (s.hearKeepAlive m t c)
  | none =>
    if s.flag .fltIslead 0 then
      let s : State := { s with flt := { s.flt with heard := s.now, quorumTold := false } }
      .next ((s.flt.stewards.filter (· ≠ s.me)).foldl (fun s m =>
        s.ledgerTo m (.keepAlive (s.rd .fltTerm 0) (s.rd .fltCommitted 0))) s)
    else .next s

/-- ELECTION_TIMEOUT (R318): a steward that has heard nothing from a lead for 10 ms + (ID mod 8) * 1.25 ms stands. -/
def execElectionTimeout (s : State) : Result :=
  if s.flag .fltIssteward 0 ∧ !s.flag .fltIslead 0 ∧ s.flt.heard + 10000000 + s.me % 8 * 1250000 ≤ s.now then .next s.stand else .next s

/-- VOTE_REQUEST (R318). -/
def execVoteRequest (m term lastTerm lastEpoch : Nat) (s : State) : Result := .next (s.hearCandidate m term lastTerm lastEpoch)

/-- VOTE_GRANT (R318). -/
def execVoteGrant (m term : Nat) (s : State) : Result := .next (s.hearVote m term)

/-- FLT_NO_QUORUM (R318): nothing committed and no keep-alive for 100 ms. -/
def execFltNoQuorum (s : State) : Result :=
  if s.isMember ∧ !s.flt.quorumTold ∧ s.flt.heard + 100000000 ≤ s.now then
    let s : State := { s with flt := { s.flt with quorumTold := true } }
    .next (s.raise0 flightPage .fltNoQuorum (s.rd .fltEpoch 0) 0)
  else .next s

/-- BARRIER_ANSWER (R319): a member that reports an epoch above the BARRIER's is ahead. -/
def execBarrierAnswer (m epoch : Nat) (s : State) : Result :=
  if s.flag .fltIslead 0 ∧ s.flt.barrier < epoch then
    .next (s.propose 6 (fenceBody m Status.fltAhead.code))
  else .next s

/-! ## Admission (R313, R320) -/

/-- ADMISSION_REQUEST (R320): a candidate's hail, forwarded by a member, reaches the lead. -/
def execAdmissionRequest (via : Nat) (hail : List Byte) (s : State) : Result := .next (s.leadAdmit via hail)

/-- GROUND_REPLY (R320). -/
def execGroundReply (id status : Nat) (s : State) : Result := .next (s.hearGround id status)

/-- ADMISSION_RETRY (R313, R315): a GROUNDED module with a flight region asks again: it is CANDIDATE, as its heartbeats tell the members beside it. -/
def execAdmissionRetry (s : State) : Result :=
  if s.rd .fltState 0 = 2 then
    .next (if s.rd .fltRegion 0 = 0 then s.wr .fltGroundreason 0 Status.fltUnconfigured.code else s.wr .fltState 0 1)
  else .next s

end Sys2Proof.Machine
end

