-- ==== Sys2Proof/Machine/Meter.lean ====
section
/-!
DEFINITION. The commands of the metering interface and of the Assize cartridge (R422 to R441, R443).
-/
namespace Sys2Proof.Machine
open Sys2Proof

/-! ## The metering interface -/

/-- R431: the counter frame of a stream: its context (64 for the aggregate), METERED and CLOSED, the instance, and the counters. -/
def State.counterFrame (s : State) (ctx flags seq : Nat) (x : MeterInstance) : List Byte :=
  let body := [0x4B#8, 0x4D#8, 0x43#8, 0x31#8] ++ leBytes 2 1 ++ leBytes 1 ctx ++ leBytes 1 flags
    ++ leBytes 6 (s.rd .glbSerial 0) ++ zeros 2 ++ leBytes 4 (s.rd .mtrBoot 0) ++ leBytes 4 x.number ++ leBytes 8 seq
    ++ ((List.range 13).map (fun i => leBytes 8 (sget 0 x.counts i))).flatten
  body ++ leBytes 4 (crc32c body) ++ zeros 4

/-- R431: the streams that have a frame every 10 ms: open METERED instances, the aggregate, and closed ones in their tail. -/
def State.meterStreams (s : State) : List (Nat × Nat × MeterInstance) :=
  ((List.range 64).filterMap (fun c =>
    if s.rd .mtrInstance c ≠ 0 && s.flag .mtrMetered c then some (c, 1, s.instance_ c) else none))
  ++ [(64, 0, { s.instance_ 64 with number := 0 })]
  ++ s.meter.tails.map (fun t => (t.ctx, 3, t.inst))

/-- COUNTER_FRAME_SEND (R431): one frame for each stream, numbered by MTR_SEQ. -/
def execCounterFrameSend (s : State) : Result :=
  .next (s.meterStreams.foldl (fun s f =>
    let b := s.counterFrame f.1 f.2.1 (s.rd .mtrSeq 0) f.2.2
    (s.emit (.counterFrame b)).bump .mtrSeq 0 1) s)

/-- STREAM_TAIL_END (R431): an instance leaves its tail 60 s after its closure. -/
def execStreamTailEnd (ctx inst : Nat) (s : State) : Result :=
  let due (t : MeterTail) : Bool := t.ctx == ctx && t.inst.number == inst && t.closedAt + 60000000000 ≤ s.now
  let s : State := { s with meter := { s.meter with tails := s.meter.tails.filter (fun t => !due t) } }
  .next (s.wr .mtrTail 0 (min 64 s.meter.tails.length))

/-- MTR_LEARNTOK (R430): declared tokens are added to MTR_LEARNPEND, unless it would pass 2^32 - 1. -/
def execMtrLearntok (rdr : Reader) (ctx n : Nat) (s : State) : Result :=
  if !s.mayWriteCtx rdr ctx then .next (s.reply rdr .sesRights 0)
  else if s.rd .mtrLearnpend ctx + n % 2 ^ 32 > 2 ^ 32 - 1 then
    .next ((s.recordError 0x438 .mtrDeclRange ctx).reply rdr .ok 0)
  else .next ((s.bump .mtrLearnpend ctx (n % 2 ^ 32)).reply rdr .ok 0)

/-- R425: the cartridge may light its carrier. -/
def Cartridge.mayLight (c : Cartridge) : Bool := c.present && c.sealIntact && c.selfTests && 0 < c.calibrations

/-- R434: the cartridge is in its socket, with power on the input that runs through it. -/
def State.cartOn (s : State) : Bool := s.cart.present && (s.pow.on || s.pow.lockout)

/-- CARRIER_APPEAR (R425): the carrier is there; MTR_STATE leaves ABSENT for SETTLING. -/
def execCarrierAppear (s : State) : Result :=
  if s.cartOn ∧ s.cart.mayLight ∧ s.meter.carrierAt = none then
    let s : State := { s with meter := { s.meter with carrierAt := some s.now } }
    .next (if s.rd .mtrState 0 = 0 then s.setMtrState 1 else s)
  else .next s

/-- R425: the cartridge lights its carrier no longer: what had settled of it is gone. -/
def State.dark (s : State) : State := { s with meter := { s.meter with carrierAt := none } }

/-- CARRIER_SETTLED (R425): VALID after 100 ms of uninterrupted carrier. -/
def execCarrierSettled (s : State) : Result :=
  match s.meter.carrierAt with
  | none => .next s
  | some t => if s.rd .mtrState 0 = 1 ∧ t + 100000000 ≤ s.now then .next (s.setMtrState 2) else .next s

/-- CARRIER_LOSS (R425, R426): an interruption of 1 ms or longer makes MTR_STATE ABSENT. -/
def execCarrierLoss (s : State) : Result :=
  .next ({ s with
    meter := { s.meter with carrierAt := none }
    cart := { s.cart with intervalValid := false } }.setMtrState 0)

/-! ## The cartridge's log and records -/

/-- R433: the bytes of a record. -/
def Cartridge.record (c : Cartridge) (kind flags number serial boot inst ctx seq : Nat) (counts : List Nat) : List Byte :=
  [0x4B#8, 0x41#8, 0x52#8, 0x31#8] ++ leBytes 1 kind ++ leBytes 1 flags ++ zeros 2 ++ leBytes 8 number ++ leBytes 8 c.clock
    ++ leBytes 6 serial ++ zeros 2 ++ leBytes 4 boot ++ leBytes 4 inst ++ leBytes 1 ctx ++ zeros 7 ++ leBytes 8 seq
    ++ leBytes 8 c.energy ++ ((List.range 13).map (fun i => leBytes 8 (counts.getD i 0))).flatten
    ++ leBytes 8 c.newestLog ++ leBytes 1 c.calibrations ++ zeros 79

/-- R433: RC_FLAGS: seal intact, valid for the whole interval, a gap of frames over 1 s, calibration changed, and counter 2
declared. -/
def Cartridge.flags (c : Cartridge) (gap : Bool) : Nat :=
  b2n c.sealIntact + 2 * b2n c.intervalValid + 4 * b2n gap + 8 * b2n c.intervalCal + 16

/-- R433: keep a new record in the ring of 262,144. -/
def Cartridge.keep (c : Cartridge) (mk : Nat → List Byte) : Cartridge :=
  let n := c.newest + 1
  { c with records := sput [] (if n > 262144 then sdrop c.records (n - 262144) else c.records) n (mk n), newest := n }

/-- R433: the stream has gone more than 1 s of device time without a frame in the interval. -/
def MeterStream.gapped (x : MeterStream) (now : Nat) : Bool := x.gap || decide (x.at_ + 1000000000 < now)

/-- A record of a stream. -/
def Cartridge.streamRecord (c : Cartridge) (now kind : Nat) (x : MeterStream) : Cartridge :=
  c.keep (fun n => c.record kind (c.flags (x.gapped now)) n x.serial x.boot x.inst x.ctx x.seq x.counts)

/-- R432: the first counter of a frame that lies below the kept value. -/
def regressAt : Nat → List Nat → List Nat → Option Nat
  | _, [], _ => none
  | _, _, [] => none
  | i, a :: s, b :: t => if a < b then some i else regressAt (i + 1) s t

/-- R432: a frame with a new, higher boot: BOOT_NEW is logged, and the older boot's open streams of that serial are closed with CLOSE_UNSEEN records.
A later frame of one has a lower boot, and is logged as that. -/
def Cartridge.newBoot (c : Cartridge) (now serial boot : Nat) : Cartridge :=
  let c := c.logEvent 6 (leBytes 8 serial ++ leBytes 4 boot)
  let old (x : MeterStream) : Bool := x.serial = serial && x.boot < boot && !x.closed
  let c := (c.streams.filter old).foldl (fun c x => c.streamRecord now 3 x) c
  { c with boots := sput 0 c.boots serial boot, streams := c.streams.filter (fun x => !old x) }

/-- R432: a frame that is taken comes from another module than the last one. -/
def Cartridge.fromModule (c : Cartridge) (serial : Nat) : Cartridge :=
  if c.lastSerial = some serial then c
  else { c.logEvent 5 (leBytes 8 (c.lastSerial.getD 0) ++ leBytes 8 serial) with lastSerial := some serial }

/-- R432: the cartridge's treatment of a frame whose CRC, magic and version are correct, at a device time. -/
def Cartridge.takeFrame (c : Cartridge) (now : Nat) (b : List Byte) : Cartridge :=
  let serial := fieldAt b 8 6
  let boot := fieldAt b 16 4
  let inst := fieldAt b 20 4
  let seq := fieldAt b 24 8
  let counts := (List.range 13).map (fun i => fieldAt b (32 + 8 * i) 8)
  let closed := bitAt (fieldAt b 7 1) 1
  let c := if c.linkLost then { c.logEvent 12 (leBytes 8 seq) with linkLost := false } else c
  let regress (i : Nat) : Cartridge :=
    c.logEvent 10 (leBytes 8 serial ++ leBytes 4 boot ++ leBytes 4 inst ++ leBytes 4 i)
  match c.streams.find? (fun x => x.serial = serial ∧ x.boot = boot ∧ x.inst = inst) with
  | some x =>
    if x.closed then c
    else if boot < sget 0 c.boots serial then regress 0
    else
      match regressAt 0 counts x.counts with
      | some i => regress i
      | none =>
        let y : MeterStream := { x with
          ctx := fieldAt b 6 1 % 128, counts := counts, seq := seq, closed := closed, heard := true, gap := x.gapped now, at_ := now }
        let c := c.fromModule serial
        let c := if closed then c.streamRecord now 2 y else c
        { c with streams := c.streams.map (fun z => if z.serial = serial ∧ z.boot = boot ∧ z.inst = inst then y else z) }
  | none =>
    if boot < sget 0 c.boots serial then regress 0
    else
      let c := c.fromModule serial
      let c := if boot > sget 0 c.boots serial then c.newBoot now serial boot else c
      let y : MeterStream := ⟨serial, boot, inst, fieldAt b 6 1 % 128, counts, seq, closed, true, false, now⟩
      let c := if closed then c.streamRecord now 2 y else c
      { c with streams := c.streams ++ [y] }

/-- CARTRIDGE_FRAME_ACCEPT (R432): a counter frame as it arrives; only one with correct CRC, magic and version is accepted. -/
def execCartridgeFrameAccept (b : List Byte) (s : State) : Result :=
  if s.cartOn ∧ b.length = 144 ∧ b.take 4 = [0x4B#8, 0x4D#8, 0x43#8, 0x31#8] ∧ fieldAt b 4 2 = 1
      ∧ fieldAt b 136 4 = crc32c (b.take 136) then
    .next { s with cart := s.cart.takeFrame s.now b }
  else .next s

/-- The cartridge's measurement up to now: energy drawn in µWh and seconds passed. -/
def Cartridge.advance (c : Cartridge) (energy secs : Nat) : Cartridge :=
  { c with energy := (c.energy + energy) % 2 ^ 64, clock := c.clock + secs }

/-- INTERVAL_RECORD (R433): every 300 s, a record of the module-wide energy and one for each open stream heard in the interval;
`energy` and `secs` are what the cartridge has measured since its last measurement in this model. -/
def execIntervalRecord (energy secs : Nat) (s : State) : Result :=
  if !s.cartOn then .next s
  else
    let c := s.cart.advance energy secs
    let c := c.keep (fun n => c.record 1 (c.flags false) n (c.lastSerial.getD 0) 0 0 0xFF 0 [])
    let c := (c.streams.filter (fun x => !x.closed ∧ x.heard)).foldl (fun c x => c.streamRecord s.now 1 x) c
    .next { s with cart := { c with
      streams := c.streams.map (fun x => { x with heard := false, gap := false })
      intervalValid := c.mayLight
      intervalCal := false } }

/-- OVERCURRENT (R422): one event for each second above Imax, with the peak current in mA. -/
def execOvercurrent (peak : Nat) (s : State) : Result :=
  if s.cartOn then .next { s with cart := s.cart.logEvent 14 (leBytes 4 peak) } else .next s

/-- SEAL_BROKEN (R435): permanent; it is logged, whether the cartridge is installed or stored. -/
def execSealBroken (s : State) : Result :=
  if s.cart.sealIntact then
    .next { s.dark with cart := { s.cart.logEvent 7 [] with sealIntact := false, intervalValid := false } }
  else .next s

/-- CARTRIDGE_REMOVED (R436). -/
def execCartridgeRemoved (s : State) : Result :=
  if s.cart.present then
    .next { s.dark with cart := { s.cart.logEvent 3 (leBytes 8 s.cart.energy) with present := false, held := [] } }
  else .next s

/-- CARTRIDGE_INSERTED (R436): the cartridge that was withdrawn, or another one with the serial, calibrations and energy
register given. -/
def execCartridgeInserted (serial calibrations energy clock : Nat) (s : State) : Result :=
  if s.cart.present then .next s
  else
    let c := if s.cart.serial = serial then { s.cart with clock := max s.cart.clock clock }
      else { Cartridge.absent with
        serial := serial, calibrations := min 16 calibrations, energy := energy % 2 ^ 64, clock := clock }
    .next { s with cart := { c with present := true }.logEvent 4 [] }

/-- LINK_LOST (R434): counter frames have stopped arriving; the entry holds the last CF_SEQ. -/
def execLinkLost (s : State) : Result :=
  if s.cartOn ∧ !s.cart.linkLost then
    let last := (s.cart.streams.map (·.seq)).foldl max 0
    .next { s with cart := { s.cart.logEvent 11 (leBytes 8 last) with linkLost := true } }
  else .next s

/-- SELFTEST_FAIL (R425, R434): logged with the test's code; the carrier is no longer lit. -/
def execSelftestFail (code : Nat) (s : State) : Result :=
  if s.cartOn then
    .next { s.dark with cart := { s.cart.logEvent 13 (leBytes 4 code) with selfTests := false, intervalValid := false } }
  else .next s

/-! ## Readout (R439, R440) -/

/-- A held request that has all its fragments. -/
def MeterRequest.whole (r : MeterRequest) : Bool := r.frags.length = r.total

/-- A whole request: its first fragment's bytes 0 to 3, and the bodies of its fragments in index order. -/
def MeterRequest.message (r : MeterRequest) : List Byte :=
  ((r.frags.head?.map (·.2)).getD []).take 4 ++ (r.frags.map (fun p => p.2.drop 4)).flatten

/-- R439, R440: the requests held with one more fragment: it joins the request that is still incomplete where it belongs to the same message, and
begins one otherwise; a request that arrives while four are held is discarded. -/
def heldWith (held : List MeterRequest) (payload : List Byte) : List MeterRequest :=
  let kind := fieldAt payload 0 1
  let idx := fieldAt payload 1 1
  let total := fieldAt payload 2 1
  let done := held.filter (·.whole)
  match held.find? (fun r => !r.whole && r.total = total && fieldAt r.message 0 1 = kind && sget [] r.frags idx = []) with
  | some r => done ++ [{ r with frags := sput [] r.frags idx payload }]
  | none => if 4 ≤ done.length then held else done ++ [⟨[(idx, payload)], total⟩]

/-- R440, R441: a signed reply; with the signatures spent, METER_SIG_EXHAUSTED without body. -/
def State.meterReply (s : State) (c : Cartridge) (kind : Nat) (st : Status) (nonce body : List Byte) : State :=
  let spent := c.signatures = 0
  let st := if spent then Status.meterSigExhausted else st
  let msg := leBytes 1 (kind ||| 0x80) ++ zeros 3 ++ leBytes 2 st.code ++ zeros 2 ++ (nonce ++ zeros 32).take 32
    ++ (if spent then [] else body)
  let signed := msg ++ (if spent then [] else Config.signs 2 (2 ^ 30 - c.signatures) (Config.sha384 msg))
  { s with cart := { c with signatures := c.signatures - 1 } }.sendMetrology signed

/-- R439, R440: a fragment of a request is relayed to the cartridge. Without one the request it completes is answered with METER_ABSENT, unsigned; a
request of a reserved kind is malformed. -/
def State.relayMetrology (s : State) (payload : List Byte) : State :=
  let idx := fieldAt payload 1 1
  let total := fieldAt payload 2 1
  if payload.length < 4 ∨ total = 0 ∨ 8 < total ∨ total ≤ idx ∨ fieldAt payload 3 1 ≠ 0 then s
  else
    let s : State := { s with cart := { s.cart with held := heldWith s.cart.held payload } }
    match s.cart.held.getLast? with
    | none => s
    | some r =>
      let m := r.message
      let kind := fieldAt m 0 1
      let nonce := (m.drop 4).take 32
      if !r.whole ∨ (s.cart.present ∧ 1 ≤ kind ∧ kind ≤ 6) then s
      else
        let c : Cartridge := { s.cart with held := s.cart.held.dropLast }
        if s.cart.present then s.meterReply c kind .meterBadRequest nonce []
        else { s with cart := c }.sendMetrology (leBytes 1 (kind ||| 0x80) ++ zeros 3 ++ leBytes 2 Status.meterAbsent.code ++ zeros 2
          ++ (nonce ++ zeros 32).take 32)

/-- METROLOGY (R404, R439): a METROLOGY frame on a tether port is relayed byte for byte. -/
def execMetrology (p : Nat) (b : List Byte) (bad : Bool) (s : State) : Result :=
  match s.portReceive p tfMetrology b bad with
  | (s, true) => .next (s.relayMetrology ((b.drop 24).take (tfLen b)))
  | (s, false) => .next s

/-- Take the first whole request of a kind out of those held. -/
def Cartridge.takeRequest (c : Cartridge) (kind : Nat) : Option (List Byte × Cartridge) :=
  match c.held.find? (fun r => r.whole ∧ fieldAt r.message 0 1 = kind) with
  | none => none
  | some r => some (r.message, { c with held := c.held.erase r })

/-- R440: answer the first held request of a kind; one without its fixed fields is malformed. -/
def State.meterAnswer (s : State) (kind : Nat)
    (f : Cartridge → List Byte → Cartridge × Status × List Byte) : State :=
  if !s.cart.present then s
  else
    match s.cart.takeRequest kind with
    | none => s
    | some (m, c) =>
      let (c, st, body) := if m.length < 48 then (c, Status.meterBadRequest, []) else f c m
      s.meterReply c kind st ((m.drop 4).take 32) body

/-- A 384-bit value as 48 bytes, most significant first, as its standard writes it. -/
def bytes384 (v : BitVec 384) : List Byte := (leBytes 48 v.toNat).reverse

/-- IDENTIFY (R440). -/
def execIdentify (s : State) : Result :=
  .next (s.meterAnswer 1 (fun c _ =>
    (c, .ok, Config.cartridgeCert ++ bytes384 Config.cartridgeImage ++ leBytes 4 c.calibrations ++ leBytes 4 (b2n c.sealIntact)
      ++ leBytes 8 c.energy ++ leBytes 8 c.newest ++ leBytes 8 c.newestLog)))

/-- READ_RECORDS (R440): the records held from the first number, at most 32. -/
def execReadRecords (s : State) : Result :=
  .next (s.meterAnswer 2 (fun c m =>
    let first := fieldAt m 36 8
    let n := fieldAt m 44 4
    if n > 32 then (c, .meterBadRequest, [])
    else (c, .ok, ((List.range n).map (fun k => sget [] c.records (first + k))).flatten)))

/-- READ_LOG (R440): the event-log entries held, at most 128; count 0 returns the metrological log. -/
def execReadLog (s : State) : Result :=
  .next (s.meterAnswer 3 (fun c m =>
    let first := fieldAt m 36 8
    let n := fieldAt m 44 4
    if n > 128 then (c, .meterBadRequest, [])
    else if n = 0 then (c, .ok, c.metroLog.flatten)
    else (c, .ok, ((List.range n).map (fun k => sget [] c.log (first + k))).flatten)))

/-- READ_NOW (R440): an ENERGY record formed now, not stored. -/
def execReadNow (energy secs : Nat) (s : State) : Result :=
  .next (s.meterAnswer 4 (fun c _ =>
    let c := c.advance energy secs
    (c, .ok, c.record 4 (c.flags false) 0 (c.lastSerial.getD 0) 0 0 0xFF 0 [])))

/-- CALIBRATE (R437): the checks in order, then the log entries, then the constants. The body (from byte 48) is the serial in 8
bytes, the ordinal in 4, five FP32 constants and the signature block (log entry 31). -/
def execCalibrate (s : State) : Result :=
  .next (s.meterAnswer 5 (fun c m =>
    let b := m.drop 48
    let serial := fieldAt b 0 8
    let ord := fieldAt b 8 4
    let consts := (List.range 5).map (fun i => fieldAt b (12 + 4 * i) 4)
    if !Config.verifies Config.calibrationAuthority (Config.sha384 (b.take 32)) (b.drop 32) then (c, .meterAuth, [])
    else if serial ≠ c.serial then (c, .meterAuth, [])
    else if ord ≠ c.calibrations + 1 then (c, .meterBadRequest, [])
    else if c.calibrations ≥ 16 then (c, .meterBudget, [])
    else if (List.range 5).any (fun i => !Config.calibrationBound i (BitVec.ofNat 32 (consts.getD i 0))) then
      (c, .meterBadRequest, [])
    else
      let c := c.logEvent 8 (leBytes 4 ord ++ (consts.map (leBytes 4)).flatten)
      ({ c with calibrations := ord, constants := consts, intervalCal := true }, .ok, [])))

/-- TIME_SET (R438): moves the clock by at most 60 s under a signed request, once in 24 h. The body is the serial in 8 bytes, the new
time in 8, and the signature block (log entry 31). -/
def execTimeSet (s : State) : Result :=
  .next (s.meterAnswer 6 (fun c m =>
    let b := m.drop 48
    let t := fieldAt b 8 8
    if !Config.verifies Config.calibrationAuthority (Config.sha384 (b.take 16)) (b.drop 16) then (c, .meterAuth, [])
    else if fieldAt b 0 8 ≠ c.serial then (c, .meterAuth, [])
    else if t > c.clock + 60 ∨ c.clock > t + 60 then (c, .meterBadRequest, [])
    else if (match c.lastTimeSet with | none => false | some u => c.clock < u + 86400) then (c, .meterBudget, [])
    else
      let c := c.logEvent 9 (leBytes 8 c.clock ++ leBytes 8 t)
      ({ c with clock := t, lastTimeSet := some t }, .ok, [])))

end Sys2Proof.Machine
end

