-- ==== Sys2Proof/Machine/Power.lean ====
section
/-!
DEFINITION. The commands of power, resets, clocks and the keel (R22, R33, R36, R330, R412, R445 to R465, R483, R494 to R502).
-/
namespace Sys2Proof.Machine
open Sys2Proof

/-! ## Clocks and device time (R22, R33, R36) -/

/-- FREQUENCY_CHANGE (R19, R21, R22): the governor of a variable island that runs gives it a frequency in MHz within its range and a voltage in mV. While
the power stage limits the clusters they stay at 600 MHz (R448). A governor chooses no other frequency: the row then changes nothing (log entry 7). -/
def execFrequencyChange (isl freq volt : Nat) (s : State) : Result :=
  if !variableIsland isl ∨ s.rd .islState isl ≠ 1 ∨ (isl < 192 ∧ s.pow.limited) ∨ freqWithin isl freq ≠ freq then .next s
  else .next ((s.wr .islFreq isl freq).wr .islVolt isl volt)

/-- DEVTIME_REF_FAULT (R36): the status is raised on page 0x0000, the health monitor is told, and device time runs from the monitor oscillator until a
module reset. -/
def execDevtimeRefFault (s : State) : Result :=
  if s.flag .glbDevtimemon 0 then .next s
  else
    let s : State := { s.wr .glbDevtimemon 0 1 with health := { s.health with devtimeFault := true } }
    .next (s.raise0 0x0 .devtimeRefFault 0 0)

/-- DEVTIME_WRAP (R33): device time passes its last value and wraps to zero. -/
def execDevtimeWrap (s : State) : Result := if s.now = 2 ^ 64 - 1 then .next (s.wr .glbDevtime 0 0) else .next s

/-! ## Island resets (R330, R459) -/

/-- ISLAND_WATCHDOG (R330): an engine, unit or port made no progress for 100 ms: its island is reset, and the expiry counts. -/
def execIslandWatchdog (isl : Nat) (s : State) : Result :=
  if !resettable isl ∨ s.pow.resetting.isSome then .next s
  else
    let s : State := { s.bump .fhWatchdogs 0 1 with health := { s.health with watchdogAt := some s.now } }
    .next (s.resetIsland isl)

/-- ISLAND_RESET_COMPLETE (R459): the island returns to RUNNING. -/
def execIslandResetComplete (isl : Nat) (s : State) : Result :=
  if resettable isl ∧ s.rd .islState isl = 0 ∧ s.pow.resetting.isNone then .next (s.runIsland isl) else .next s

/-! ## Gating (R446) -/

/-- R446: an island that may gate has no queued work. -/
def State.islandIdle (s : State) (isl : Nat) : Bool :=
  if isl < 192 then
    (s.cluster isl).cur.isNone && (s.cluster isl).tiles = []
      && (s.cluster isl).slots.all (fun q => q.2.task.isNone && q.2.tally.isNone && q.2.queue = [])
  else if isl < 208 then true
  else if 298 ≤ isl ∧ isl < 302 then s.weave.plans.all (fun q => q.1 / 16 ≠ isl - 298 || q.2.isNone)
  else if isl = 302 then s.seq.ctxs.all (fun q => q.2.stage == .idle && q.2.cmds = [])
  else if 303 ≤ isl ∧ isl < 309 then s.rd .smpRun (isl - 303) = 0
  else false

/-- The harts of a quad in one state of GQ_HARTS take another. -/
def State.hartsFrom (s : State) (q old new : Nat) : State :=
  (List.range 4).foldl (fun s h =>
    if bitsAt (s.rd .gqHarts q) (2 * h) 2 = old then s.wr .gqHarts q (setBits (s.rd .gqHarts q) (2 * h) 2 new) else s) s

/-- ISLAND_GATE (R446): an idle island gates its clock. A quad gates when its harts that run are all in WFI, and GQ_HARTS shows them so. -/
def execIslandGate (isl : Nat) (s : State) : Result :=
  if s.flag .pwrGateen 0 ∧ s.rd .islState isl = 1 ∧ s.islandIdle isl then
    let s := if 192 ≤ isl ∧ isl < 208 then s.hartsFrom (isl - 192) 1 2 else s
    .next ((s.wr .islState isl 2).bump .pwrGatings 0 1)
  else .next s

/-- ISLAND_UNGATE (R446): work reaches a gated island, and it restarts. -/
def execIslandUngate (isl : Nat) (s : State) : Result :=
  if s.rd .islState isl = 2 ∧ isl < islandCount then
    let s := if 192 ≤ isl ∧ isl < 208 then s.hartsFrom (isl - 192) 2 1 else s
    .next (s.wr .islState isl 1)
  else .next s

/-! ## Input power (R448, R497, R498) -/

/-- POWER_EXCURSION (R448): input power of so many watts above the ceiling; above 5,500 W, or above the ceiling for more than 2 ms (long), the power stage
limits the clusters. -/
def execPowerExcursion (watts : Nat) (long : Bool) (s : State) : Result :=
  let s := s.wr .pwrPeak 0 (max (s.rd .pwrPeak 0) (min watts 65535))
  if watts ≤ s.rd .fuseCeiling 0 then .next s
  else
    let s := s.bump .pwrExcursions 0 1
    if watts ≤ 5500 ∧ !long then .next s
    else
      let s := (List.range 192).foldl (fun s n => if s.rd .islState n = 1 then s.wr .islFreq n 600 else s) s
      let s : State := { s with pow := { s.pow with limited := true } }
      .next ((s.bump .pwrLimited 0 1).raise0 0x8 .pwrExcursion 0 0)

/-- POWER_ON (R497, R498, R502): the input rises through 40 V with the feed-tag straps as they are, and the cartridge logs POWER_UP (R434). A module that
is held off stays so, and one that has tripped while an island still reads 80 °C or more (hot). -/
def execPowerOn (straps : Nat) (hot : Bool) (s : State) : Result :=
  if s.pow.on then .next s
  else
    let s := s.cartPower 1
    if s.pow.heldOff ∨ (s.pow.tripped ∧ hot) then .next { s with pow := { s.pow with on := true, lockout := false, heldOff := true } }
    else .next (s.beginPowerOn straps)

/-- POWER_OFF (R497): the input is below 40 V for longer than 10 ms, or below 36 V: power is gone, and the cartridge has logged POWER_DOWN (R434). Below
5 V (low) a module that was held off may start again. -/
def execPowerOff (low : Bool) (s : State) : Result :=
  let s := if s.pow.on ∨ s.pow.lockout then s.cartPower 2 else s
  let s := s.losePower
  .next { s with pow := { s.pow with on := false, lockout := false, heldOff := s.pow.heldOff && !low } }

/-- OVERVOLTAGE_LOCKOUT (R497): the input is above 62 V: power is gone until it has fallen below 60 V and risen again through 40 V. -/
def execOvervoltageLockout (s : State) : Result :=
  let s := s.losePower
  .next { s with pow := { s.pow with on := false, lockout := true } }

/-- SUPPLY_DROOP (R328, R497): the input dips below 44 V for at least 1 µs, or a rail droops. -/
def execSupplyDroop (s : State) : Result :=
  .next { s.bump .fhDroops 0 1 with health := { s.health with droops := s.health.droops ++ [s.now] } }

/-! ## Temperature (R502) -/

/-- The clusters that give up clock when an island is at its throttle temperature: the island itself, where it is variable, or the clusters of its die. -/
def throttled (isl : Nat) : List Nat :=
  if variableIsland isl then [isl]
  else if isl = 310 then List.range 96 else if isl = 311 then (List.range 96).map (· + 96) else []

/-- THERMAL_THROTTLE (R502, R19): an island is at 95 °C: clocks are lowered to a frequency in MHz, at the lowest to the bottom of their range. -/
def execThermalThrottle (isl freq : Nat) (s : State) : Result :=
  .next ((throttled isl).foldl (fun s i => if s.rd .islState i = 1 then s.wr .islFreq i (min (s.rd .islFreq i) (freqWithin i freq)) else s) s)

/-- THERMAL_TRIP (R502): an island is at 105 °C: power is removed from every island, THERMAL_TRIP_N is driven low, and the module is held off. -/
def execThermalTrip (s : State) : Result :=
  let s := s.holdOff
  .next { s with pow := { s.pow with tripped := true } }

/-! ## Module-wide resets (R454 to R460, R494) -/

/-- MODULE_RESET (R454): session 0 writes MODULE to RST_CMD. -/
def execModuleReset (rdr : Reader) (s : State) : Result :=
  if rdr ≠ .session 0 then .next (s.reply rdr .sesRights 0) else .next ((s.startModule 2).reply rdr .ok 0)

/-- RST_WARM (R454, R456): the keel writes WARM to RST_CMD; from a session it is refused. -/
def execRstWarm (rdr : Reader) (s : State) : Result :=
  if rdr ≠ .keel then .next (s.reply rdr .sesRights 0) else .next ((s.startWarm 5).reply rdr .ok 0)

/-- RESET_COMPLETE (R454): the module-wide reset in progress is complete. After a module reset the keel's image has been hashed (R455). -/
def execResetComplete (imageOk : Bool) (s : State) : Result := .next (s.endReset imageOk)

/-- R494, R460: the pin starts a module reset; while the module enters, is in or leaves P2 it is wake activity, and the reset runs from P0. -/
def State.pinReset (s : State) : State :=
  if s.rd .pwrState 0 = 0 then s.startModule 4
  else
    let s := s.wakeActivity 5 0
    if s.rd .pwrState 0 = 0 then s.startModule 4 else { s with pow := { s.pow with deferred := s.pow.deferred ++ [.pin] } }

/-- RESET_REQUEST_PIN (R494): RESET_REQUEST_N has been low for so many nanoseconds: from 10 µs on a module reset; below 1 µs nothing; between them it is
open which (a free value). -/
def execResetRequestPin (low : Nat) (s : State) : Result :=
  if low < 1000 ∨ !s.pow.on ∨ s.pow.heldOff then .next s
  else if 10000 ≤ low then .next s.pinReset
  else if s.freeNext 1 = 1#1 then .next s.drawn.pinReset
  else .next s.drawn

/-! ## P2 (R449 to R453) -/

/-- ENTER_P2 (R449): written to PWR_CMD. -/
def execEnterP2 (rdr : Reader) (s : State) : Result :=
  if rdr ≠ .session 0 then .next (s.reply rdr .sesRights 0) else .next (s.enterP2.reply rdr .ok 0)

/-- P2_ENTRY_COMPLETE (R450). -/
def execP2EntryComplete (s : State) : Result := if s.rd .pwrState 0 = 1 then .next s.reachP2 else .next s

/-- WAKE (R450, R451): wake activity of a source, at a span or a tether port. -/
def execWake (src idx : Nat) (s : State) : Result := .next (s.wakeActivity src idx)

/-- PWR_LIFT (R452, R463): session 0 has the named spans that are DARK or REFUSED send the lift pattern. -/
def execPwrLift (rdr : Reader) (mask : Nat) (s : State) : Result :=
  if rdr ≠ .session 0 then .next (s.reply rdr .sesRights 0)
  else
    let s := (setBitsOf mask 32).foldl (fun s n =>
      if s.rd .spnState n = spDark ∨ s.rd .spnState n = spRefused then s.emit (.lift n) else s) s
    .next (s.reply rdr .ok 0)

/-! ## The keel (R412, R413, R483) -/

/-- R413: a blocked access of the keel: it counts, it is noted, and session 0 is told its address. -/
def State.bridleBlock (s : State) (addr kind : Nat) : State :=
  (((s.bump .secBrdviol 0 1).wr .brdLastaddr 0 addr).wr .brdLastkind 0 kind).raise0 0x2 .bridleViolation addr 0

/-- BRIDLE_VIOLATION (R413): a keel access that a row of the bridle blocks. It completes as a read of zero or a discarded write. -/
def execBridleViolation (addr kind : Nat) (s : State) : Result := .next ((s.bridleBlock addr kind).reply .keel .ok 0)

/-- R328, R340: the keel watchdog expires: the health monitor is told, and a member declares its own fault. -/
def State.keelExpires (s : State) : State :=
  { s.bump .fhWatchdogs 0 1 with health := { s.health with keelWatchdog := true } }.declareFault .fhSelfFault

/-- KEEL_LOCKSTEP_MISMATCH (R412): the keel halts, and its watchdog expires. -/
def execKeelLockstepMismatch (s : State) : Result :=
  .next ((s.bump .keelMismatch 0 1).wr .keelState 0 3).keelExpires

/-- KEEL_WDKICK (R483): the keel restarts its watchdog. -/
def execKeelWdkick (rdr : Reader) (v : Nat) (s : State) : Result :=
  if rdr ≠ .keel then .next (s.reply rdr .sesRights 0)
  else
    let s : State := if v % 2 = 1 then { s with sec := { s.sec with kick := s.now } } else s
    .next (s.reply rdr .ok 0)

/-- KEEL_WATCHDOG_EXPIRE (R483): the running keel has not kicked for KEEL_WDPERIOD. -/
def execKeelWatchdogExpire (s : State) : Result :=
  if s.rd .keelState 0 = 2 ∧ s.sec.kick + s.rd .keelWdperiod 0 * 1000000 ≤ s.now then .next s.keelExpires else .next s

end Sys2Proof.Machine
end

