-- ==== Sys2Proof/Machine/Quads.lean ====
section
/-!
DEFINITION. Starting and stopping harts (R487).
-/
namespace Sys2Proof.Machine
open Sys2Proof

/-- R487: session 0 and the owner session of the quad's context write the quad's page. -/
def State.mayQuad (s : State) (rdr : Reader) (q : Nat) : Bool :=
  match rdr with
  | .session n => n = 0 || (s.flag .gqCtxvalid q && s.owns n (s.rd .gqCtx q))
  | _ => false

/-- R487: a HELD hart starts at GQ_BOOTDVA. -/
def State.startHart (s : State) (q h : Nat) : State :=
  if bitsAt (s.rd .gqHarts q) (2 * h) 2 ≠ 0 then s
  else
    let s := s.setCore (.hart (4 * q + h)) { Core.idle with running := true, pc := s.rd .gqBootdva q }
    (s.wr .gqHarts q (setBits (s.rd .gqHarts q) (2 * h) 2 1)).bump .gqStarts q 1

/-- GQ_START (R487): the named harts that are HELD start; refused with CTX_STATE without a context that is DEFINED or RESIDENT. -/
def execGqStart (rdr : Reader) (q v : Nat) (s : State) : Result :=
  if 16 ≤ q then .next (s.reply rdr .genPageAbsent 0)
  else if !s.mayQuad rdr q then .next (s.reply rdr .sesRights 0)
  else if v % 16 = 0 then .next (s.reply rdr .ok 0)
  else if !s.flag .gqCtxvalid q ∨ !s.ctxLive (s.rd .gqCtx q) then .next (s.reply rdr .ctxState 0)
  else .next (((setBitsOf v 4).foldl (fun s h => s.startHart q h) s).reply rdr .ok 0)

/-- GQ_STOP (R487): the named harts stop at their next instruction boundary and are HELD. -/
def execGqStop (rdr : Reader) (q v : Nat) (s : State) : Result :=
  if 16 ≤ q then .next (s.reply rdr .genPageAbsent 0)
  else if !s.mayQuad rdr q then .next (s.reply rdr .sesRights 0)
  else .next (((setBitsOf v 4).foldl (fun s h => s.holdHart (4 * q + h)) s).reply rdr .ok 0)

end Sys2Proof.Machine
end

