-- ==== Sys2Proof/Machine/Hiding.lean ====
section
/-!
DEFINITION. The commands of failure hiding (R327 to R353): the health monitor, silence, captures and their copies, the reports of a recovery,
and FH_CMD.
-/
namespace Sys2Proof.Machine
open Sys2Proof

/-! ## The health monitor (R328, R329, R331, R332) -/

/-- The corrected memory errors of all channels. -/
def State.ceTotal (s : State) : Nat := ((List.range 48).map (fun c => s.rd .memCe c)).foldl (· + ·) 0

/-- An event of the last n nanoseconds. -/
def State.within (s : State) (at_ : Option Nat) (n : Nat) : Bool :=
  match at_ with
  | some t => s.now ≤ t + n
  | none => false

/-- The highest of some levels whose condition holds. -/
def levelOf (l : List (Nat × Bool)) : Nat := l.foldl (fun a p => if p.2 then max a p.1 else a) 0

/-- R328: the level of input i, from 1 to 9. -/
def State.inputLevel (s : State) (x : HealthSample) (i : Nat) : Nat :=
  let h := s.health
  let minute := 60000000000
  match i with
  | 1 =>
    let old := (((h.ce.find? (fun p => s.now ≤ p.1 + 1000000000)).or h.ce.getLast?).map (·.2)).getD 0
    let n := (s.ceTotal + 48 * 2 ^ 32 - old) % 2 ^ 32
    levelOf [(2, 100 ≤ n), (3, 1000 ≤ n), (4, 10000 ≤ n)]
  | 2 => levelOf [(4, h.retireFull), (5, s.within h.ueAt minute)]
  | 3 => levelOf [(2, x.lanes.any (fun l => decide (s.rd .spnLanethresh l.1 ≤ 4 * l.2.2.1))),
      (3, x.lanes.any (fun l => decide (s.rd .spnLanethresh l.1 ≤ 2 * l.2.2.1)) || s.within h.laneAt minute),
      (4, x.lanes.any (fun l => decide (l.2.2.2 ≤ 1)))]
  | 4 => levelOf [(2, x.therm ≤ 10), (3, x.therm ≤ 5 || 30 < x.inlet), (4, x.therm ≤ 2), (5, x.throttling), (6, x.trip ≤ 3)]
  | 5 =>
    let n := (h.droops.filter (fun t => s.now < t + 1000000000)).length
    levelOf [(2, 1 ≤ n), (3, 10 ≤ n), (5, 100 ≤ n), (6, x.vin < 40000)]
  | 6 => levelOf [(4, h.devtimeFault || h.watchdogAt.isSome), (6, h.keelWatchdog)]
  | 7 => levelOf [(2, h.fencedEver), (3, s.within h.residueAt minute), (4, s.within h.fencedAt minute)]
  | 8 => s.neighbourLevel - 3
  | 9 => s.rd .fhLevelmin 0
  | _ => 0

/-- R328, R448: the registers that a sample fills. The power stage lets go of the clusters below 95 % of the ceiling. -/
def State.measured (s : State) (x : HealthSample) : State :=
  let s := x.lanes.foldl (fun s l => s.wr .spnMargin (l.1 % 32) (setBits (s.rd .spnMargin (l.1 % 32)) (4 * (l.2.1 % 16)) 4 l.2.2.2)) s
  let s := x.corrected.foldl (fun s p => s.bump .spnFeccorr (p.1 % 32) p.2) s
  let s := (((s.wr .fhThermmargin 0 (min 255 x.therm)).wr .fhNbrlevel 0 s.neighbourLevel).wr .pwrVin 0 x.vin).wr .pwrPin 0 x.pin
  if s.pow.limited ∧ x.pin * 100 < s.rd .fuseCeiling 0 * 95 then { s with pow := { s.pow with limited := false } } else s

/-- R329: what the monitor remembers: samples of one second, and since when inputs hold level 6. -/
def State.remember (s : State) (levels : List Nat) : State :=
  let h := s.health
  let second := 1000000000
  let ce := (h.ce.filter (fun p => s.now < p.1 + second)) ++ [(s.now, s.ceTotal)]
  let six := (List.range 9).foldl (fun m i =>
    let at_ := sget 0 h.level6 (i + 1)
    sput 0 m (i + 1) (if 6 ≤ levels.getD i 0 then (if at_ = 0 then s.now + 1 else at_) else 0)) []
  { s with health := { h with ce := ce, droops := h.droops.filter (fun t => s.now < t + second), level6 := six } }

/-- R329: level 7: an input has held level 6 for 100 ms, or FH_LEVELMIN is 7. -/
def State.levelSeven (s : State) : Bool :=
  s.rd .fhLevelmin 0 = 7 || s.health.level6.any (fun p => decide (p.2 + 100000000 ≤ s.now + 1))

/-- R329: the new level: a rise at once, a fall by one after 10 s without the current level. -/
def State.setLevel (s : State) (level src : Nat) : State :=
  let cur := s.rd .fhLevel 0
  let change (s : State) (v : Nat) : State := ((s.wr .fhLevel 0 v).bump .fhLevelchg 0 1).wr .fhLastchg 0 s.now
  let reached (s : State) : State := { s with health := { s.health with reachedAt := s.now } }
  if cur < level then ((reached (change s level)).wr .fhLevelsrc 0 src)
  else if cur = level then reached s
  else if s.health.reachedAt + 10000000000 ≤ s.now then reached (change s (cur - 1))
  else s

/-- R332: a report to the lead when the required interval has changed. -/
def State.reportChange (s : State) : State :=
  let r := requiredInterval (s.rd .fhLevel 0) s.kFlight + (if s.rd .fhLevel 0 = 7 then 128 else 0)
  if r = s.health.reported then s
  else { s with health := { s.health with reported := r } }.reportRisk

/-- R451: an input that was below level 6 has reached it: wake activity. -/
def State.sixWakes (s : State) (levels : List Nat) : State :=
  if (List.range 9).any (fun i => 6 ≤ levels.getD i 0 && sget 0 s.health.level6 (i + 1) = 0) then s.wakeActivity 6 0 else s

/-- HEALTH_EVALUATE (R328, R329): every 1 ms. -/
def execHealthEvaluate (x : HealthSample) (s : State) : Result :=
  let s := s.measured x
  let levels := (List.range 9).map (fun i => s.inputLevel x (i + 1))
  let s := (s.sixWakes levels).remember levels
  let s := s.wr .fhInlevels 0 ((levels.zipIdx.map (fun p => p.1 * 2 ^ (3 * p.2))).foldl (· + ·) 0)
  let top := levels.foldl max 0
  let level := if s.levelSeven then 7 else min 6 top
  let src := match levels.findIdx? (· = top) with
    | some i => if top = 0 then 0 else i + 1
    | none => 0
  .next (s.setLevel level src).reportChange

/-- RISK_REPORT (R332): a member's report reaches the lead: level, run step, role and mirror. -/
def execRiskReport (m level runstep role : Nat) (mirror : Option Nat) (s : State) : Result :=
  if s.flag .fltIslead 0 ∧ s.memberIds.contains m then
    let new := (sget none s.flt.reports m).map (·.role) ≠ some role
    let s : State := { s with flt := { s.flt with reports := sput none s.flt.reports m (some ⟨level, runstep, role, mirror⟩) } }
    let s := s.reschedule s.kFlight false
    .next (if new then s.repair else s)
  else .next s

/-! ## Silence (R339) -/

/-- SILENCE_REPORT (R339): an UP or SILENT span has had no frame from its member for 20 ms. -/
def execSilenceReport (n : Nat) (s : State) : Result :=
  if n < 32 ∧ s.rd .spnState n = spUp ∧ s.flag .spnPeervalid n ∧ (s.link n).lastRx + 20000000 ≤ s.now then
    .next (s.reportSilence (s.rd .spnPeer n))
  else .next s

/-- SILENCE_PROBE (R339): the lead's first report of a member's silence: a probe goes out. -/
def execSilenceProbe (m : Nat) (s : State) : Result :=
  if s.flag .fltIslead 0 ∧ s.memberIds.contains m then .next (s.leadSilence m) else .next s

/-- PROBE_TIMEOUT (R339): no frame from the member within 2 ms. -/
def execProbeTimeout (m : Nat) (s : State) : Result :=
  match s.flt.silent.find? (fun p => p.1 = m) with
  | some (_, t, _) =>
    if s.flag .fltIslead 0 ∧ t + 2000000 ≤ s.now then
      let s : State := { s with flt := { s.flt with silent := s.flt.silent.filter (fun p => p.1 ≠ m) } }
      .next (s.propose 6 (fenceBody m Status.fhSilence.code))
    else .next s
  | none => .next s

/-- FH_ISOLATED (R339): every span and the tether have been silent for 20 ms: the armed context is quiesced and not resumed. -/
def execFhIsolated (s : State) : Result :=
  let quiet (t : Nat) : Bool := t + 20000000 ≤ s.now
  let spans := (List.range 32).all (fun n => s.rd .spnState n ≠ spUp || quiet (s.link n).lastRx)
  let ports := (List.range 2).all (fun p => quiet (sget TetherPort.dark s.sec.ports p).lastRx)
  if spans ∧ ports then .next (s.wr .fhIsolated 0 1) else .next s

/-! ## Securing (R333 to R336) -/

/-- R333: a STEP_CLOSE of the armed context is held. -/
def State.closeHeld (s : State) : Bool :=
  s.upd.chains.any (fun c => c.ctx = s.armed && match c.desc with
    | some d => udOp d.ud = 5 && !d.started
    | none => false)

/-- SECURE_CAPTURE (R333, R336): the capture that the held STEP_CLOSE waits for; while the previous copy has not finished, it waits too. -/
def execSecureCapture (s : State) : Result :=
  match s.secureDue s.armed with
  | none => .next s
  | some r =>
    if s.fh.captured = some r ∨ !s.closeHeld then .next s
    else if s.fh.copying.isSome then
      let s : State := { s with fh := { s.fh with waitSince := s.fh.waitSince.or (some s.now) } }
      .next (s.wr .fhState 0 2)
    else .next (s.capture r)

/-- BALLAST_COPY (R336): the captured blocks go to the target slot of every partner. -/
def execBallastCopy (s : State) : Result :=
  match s.fh.copying with
  | none => .next s
  | some c =>
    if c.begun ∨ s.partners = [] then .next s
    else
      let s := s.partners.foldl (fun s m => s.copyTo m c) s
      .next { s with fh := { s.fh with copying := some { c with begun := true, blocksTo := s.partners } } }

/-- BALLAST_COPY_DONE (R336): every partner's slot is COMPLETE: DONE to the lead. -/
def execBallastCopyDone (s : State) : Result :=
  match s.fh.copying with
  | none => .next s
  | some c =>
    if c.begun ∧ c.blocksTo = [] ∧ c.headTo = [] then
      let s : State := { s with fh := { s.fh with copying := none, points := s.fh.points.set c.slot (some c.step) } }
      .next (s.ledgerTo (s.rd .fltLead 0) (.done c.step))
    else .next s

/-- SECURE_DONE_REPORT (R336): with DONE from every WORKER, the lead commits the point; none while a recovery is under way (R343). -/
def execSecureDoneReport (m step : Nat) (s : State) : Result :=
  if s.flag .fltIslead 0 ∧ s.memberIds.contains m ∧ s.flt.recovery.isNone then
    let dones := s.flt.dones.filter (· ≠ (m, step)) ++ [(m, step)]
    let s : State := { s with flt := { s.flt with dones := dones } }
    let due := s.workers ≠ [] ∧ s.workers.all (fun w => dones.contains (w, step)) ∧ !s.underWay 10 2
      ∧ (s.rd .fhSecures 0 = 0 ∨ s.rd .fhPoint 0 < step)
    .next (if due then s.propose 10 (pointBody step) else s)
  else .next s

/-! ## Recovery (R342 to R346) -/

/-- R342: the rewind is done, and no entry sent for the armed context waits for a confirmation any more. -/
def State.rewoundReady (s : State) : Bool := s.rd .fhState 0 = 3 && s.fh.swept && !s.fh.reported && s.weave.orphans.all (fun o => o.1 ≠ s.armed)

/-- REWOUND_REPORT (R342, R343): this member's rewind goes on, and with it done it reports; or a member's report reaches the lead, which commits REPLAN after the last one. -/
def execRewoundReport (m : Option Nat) (s : State) : Result :=
  match m with
  | none =>
    let s := s.sweep
    if s.rewoundReady then
      let s : State := { s with fh := { s.fh with reported := true } }
      .next (s.ledgerTo (s.rd .fltLead 0) .rewound)
    else .next s
  | some m =>
    if s.flag .fltIslead 0 ∧ s.flt.recovery.isSome ∧ !s.flt.rewound.contains m then
      let s : State := { s with flt := { s.flt with rewound := s.flt.rewound ++ [m] } }
      .next s.maybeReplan
    else .next s

/-- REWIND_TIMEOUT (R342): survivors that have not reported within 100 ms are fenced. -/
def execRewindTimeout (s : State) : Result :=
  match s.flt.recovery with
  | some (_, _, t) =>
    if s.flag .fltIslead 0 ∧ t + 100000000 ≤ s.now ∧ !s.underWay 11 0 then
      let late := s.workers.filter (fun w => !s.flt.rewound.contains w)
      .next (late.foldl (fun s w => s.propose 6 (fenceBody w Status.fhStepFault.code)) s)
    else .next s
  | none => .next s

/-- RESTORE_COMPLETE (R344): with the header and the blocks that the partner's slot supplies (log entry 60), the restore is done. An heir
whose region list differs leaves REPLAN unapplied and tells the lead. -/
def execRestoreComplete (hdr : List Byte) (blocks : List (Nat × List Byte)) (s : State) : Result :=
  let s := s.sweep
  match s.fh.replan with
  | none => .next s
  | some (p, _, heir) =>
    let own := match s.stageRead (s.rd .fhStagebase 0) 0 4096 with
      | .ok b => if !heir ∧ fieldAt b 8 8 = p ∧ b.take 4 = [0x4B#8, 0x42#8, 0x4C#8, 0x31#8] then some b else none
      | .error _ => none
    let hdr := own.getD hdr
    let hash := match s.regionBytes with
      | .ok b => shaBytes b
      | .error _ => []
    if fieldAt hdr 8 8 ≠ p ∨ (s.fh.rewinding ∧ !s.fh.swept) then .next s
    else if heir ∧ (hdr.drop 80).take 48 ≠ hash then
      let s := (s.wr .fhPartnerav 0 0).wr .fhPartnerbv 0 0
      let s : State := { s.wr .fhState 0 0 with fh := { s.fh with replan := none } }
      .next (s.ledgerTo (s.rd .fltLead 0) .heirLayout)
    else
      match s.restoreSource s.regions p heir blocks with
      | none => .next s
      | some l =>
        let s := s.restore p heir hdr l
        .next (if heir then (s.wr .fhRole 0 0).reportRisk else s)

/-- R346: the lead's decision once every WORKER in REPLAY has compared. -/
def State.replayDecision (s : State) : State :=
  if !s.workers.all (fun w => s.flt.replays.any (fun r => r.1 = w)) then s
  else if s.flt.replays.any (fun r => r.2 = 2) then
    let lost := match s.flt.recovery with
      | some (m, _, _) => m
      | none => s.me
    let step := match s.flt.recovery with
      | some (_, b, _) => b
      | none => true
    let older := s.rd .fhPrevpoint 0
    let s : State := { s.bump .fhMismatches 0 1 with flt := { s.flt with replays := [], mismatch := s.flt.mismatch + 1 } }
    if s.flt.mismatch = 1 ∧ older ≠ 2 ^ 64 - 1 then
      s.propose 11 (replanBody lost (if step then some lost else s.flt.heir) (Status.fhReplayMismatch.code % 256) older none)
    else s.propose 11 (replanBody lost none (Status.unhiddenLoss.code % 256) noPoint none)
  else if s.flt.replays.any (fun r => r.2 = 1) ∧ !s.underWay 9 0 then s.propose 9 (zeros 8)
  else s

/-- REPLAY_REPORT (R346): a member's comparison reaches the lead: 0 none made, 1 match, 2 mismatch. -/
def execReplayReport (m result : Nat) (s : State) : Result :=
  if s.flag .fltIslead 0 ∧ s.memberIds.contains m then
    let s : State := { s with flt := { s.flt with replays := s.flt.replays.filter (fun r => r.1 ≠ m) ++ [(m, result)] } }
    .next s.replayDecision
  else .next s

/-! ## FH_CMD (R355) -/

/-- R354: only session 0 commands; the status of the command. -/
def State.fhCommand (s : State) (rdr : Reader) (f : State → State × Status) : State :=
  if rdr ≠ .session 0 then s.reply rdr .sesRights 0
  else
    let (s, st) := f s
    (s.wr .fhCmdstatus 0 st.code).reply rdr .ok 0

/-- FH_SETK (R331, R355): FH_K is proposed as the flight's K. -/
def execFhSetk (rdr : Reader) (s : State) : Result :=
  .next (s.fhCommand rdr (fun s =>
    if s.isMember then (s.propose 10 (scheduleBody 0 (s.rd .fhK 0) 0), .ok) else (s, .fhCmdRefused)))

/-- FH_DECLARE_FAULT (R340). -/
def execFhDeclareFault (rdr : Reader) (s : State) : Result :=
  .next (s.fhCommand rdr (fun s => if s.isMember then (s.declareFault .fhSelfFault, .ok) else (s, .fhCmdRefused)))

/-- FH_RESUME (R353): UPDATE entries are taken again. -/
def execFhResume (rdr : Reader) (s : State) : Result :=
  .next (s.fhCommand rdr (fun s =>
    if s.rd .fhState 0 = 6 then
      let s := if s.fh.swept then s else s.sweepNow
      ({ s.wr .fhState 0 1 with fh := { s.fh with rewinding := false, swept := false } }, .ok)
    else (s, .fhCmdRefused)))

/-- FH_RELEASE_WARD (R344): the lost ward's slot is unmapped. -/
def execFhReleaseWard (rdr : Reader) (s : State) : Result :=
  .next (s.fhCommand rdr (fun s =>
    match s.fh.window with
    | none => (s, .fhCmdRefused)
    | some (k, n) =>
      let s := (List.range (n / 2 ^ 21)).foldl (fun s u => stateOf (s.unmapPage s.armed (s.rd .fhWardwindow 0 + u * 2 ^ 21) false)) s
      let s := if k / 2 = 0 then s.wr .fhWard0v 0 0 else s.wr .fhWard1v 0 0
      ({ s with fh := { s.fh with window := none } }, .ok)))

end Sys2Proof.Machine
end

