-- ==== Sys2Proof/Machine/CommitOps.lean ====
section
/-!
DEFINITION. Commits of RWS fields (R381 to R384, R475): the checks of each field's range, the checks across fields of each page, which islands a
commit affects, and what a commit does besides.
-/
namespace Sys2Proof.Machine
open Sys2Proof

/-! ## Ranges (the first rule of R382) -/

/-- The configuration status of a page's chapter (R488: GEN_CONFIG where the chapter names none). -/
def configStatus (p : Nat) : Status :=
  if 0x1000 ≤ p then .ctxConfig
  else match pageGroup p with
    | 0x400 => .seqConfig
    | 0x401 => .kvConfig
    | 0x402 => .kvConfig
    | 0x408 => .smpConfig
    | 0x410 => .wvConfig
    | 0x420 => .lrnConfig
    | 0x428 => .fhConfig
    | 0x429 => .fhConfig
    | 0x430 => .fltConfig
    | 0x200 => .memConfig
    | _ => .genConfig

/-- R175, R176: the formats of key-value pages. -/
def kvFormats : List Nat := [0x01, 0x03, 0x04, 0x16, 0x0B]

/-- Is a value within its field's own range? -/
def Reg.inRange (r : Reg) (v : Nat) : Bool :=
  match r with
  | .lrnGrowth | .memRetirethresh | .spnUncorrthresh | .ctxMemburst | .ctxSpanburst | .ctxEvtrate | .ctxEvtburst | .ctxWeight => v ≠ 0
  | .lrnSavecoarse => f32PosNormal v
  | .seqRole => v < 3
  | .seqMaxbatch => 1 ≤ v && v ≤ 16384
  | .seqLayers => 1 ≤ v && v ≤ 1024
  | .seqMaxtok => v ≤ 262144
  | .seqPfchunk => 16 ≤ v && v ≤ 65536 && v % 16 = 0
  | .seqStopcnt => v ≤ 4096
  | .kvNearpages => v ≤ 4194304
  | .kvFarpages => v ≤ 130023424
  | .kvPagefmt | .kvAppfmt => kvFormats.contains v
  | .kvHeads => 1 ≤ v && v ≤ 24
  | .kvHeaddim => 32 ≤ v && v ≤ 256 && v % 32 = 0
  | .kvBudget => v ≤ 65536
  | .kvDecay => f32Finite v && !bitAt v 31 && f32Lt v f32One
  | .kvPfxmax => v ≤ 1024
  | .smpParambase | .smpLogitbase | .smpLogitstride => v % 64 = 0
  | .smpVoclen => 1 ≤ v && v ≤ 2 ^ 20
  | .smpParamcnt => v ≤ 4096
  | .smpKmax => 20 ≤ v && v ≤ 1024
  | .memScrubhours => v ≤ 168
  | .memResvframes => v ≤ 256
  | .spnLanethresh => 1 ≤ v && v ≤ 2 ^ 31
  | .fhRole => v < 2
  | .fhK => 1 ≤ v && v ≤ 64
  | .fhMargin => 2 ≤ v && v ≤ 64
  | .fhRegioncnt => v ≤ 256
  | .fhTol => f32Finite v && !bitAt v 31 && v ≠ 0
  | .fhMinclusters => 1 ≤ v && v ≤ 192
  | .ctxOvfmode | .ctxEvtdest => v < 3
  | .ctxScrslice | .ctxAccslice => v ≤ 128
  | .ctxMemshare | .ctxSpanshare => v ≤ 1024
  | .gqBootdva => v % 4 = 0
  | _ => true

/-- The status of a value outside its field's range (R57 and R176 for formats, else the page's). -/
def rangeStatus (p : Nat) (r : Reg) (v : Nat) : Status :=
  if r = .kvPagefmt ∨ r = .kvAppfmt then (if fmtReserved v then .fmtReserved else .fmtUnsupported) else configStatus p

/-- The dirty shadows of a page. -/
def State.dirtyOn (s : State) (p : Nat) : List (Nat × Nat) :=
  s.cfg.shadows.filterMap (fun q => match q.2 with
    | some v => if keyOnPage p q.1 then some (q.1, v) else none
    | none => none)

/-- The values of a page that a commit takes: those within their ranges. -/
def State.candidates (s : State) (p : Nat) : List (Nat × Nat) := (s.dirtyOn p).filter (fun q => (regOfKey q.1).inRange q.2)

/-- R382: the status of the first value outside its range. -/
def State.rangeError (s : State) (p : Nat) : Option Status :=
  ((s.dirtyOn p).find? (fun q => !(regOfKey q.1).inRange q.2)).map (fun q => rangeStatus p (regOfKey q.1) q.2)

/-! ## Rules across fields (the second rule of R382)

`s` is the state before the commit and `t` the registers as they would stand after it. -/

/-- A field's committed value changes. -/
def State.changed (s t : State) (r : Reg) (i : Nat) : Bool := s.rdNew r i != t.rd r i

/-- R284: a region of near memory meets the retirement reserve. -/
def State.inReserve (t : State) (rs : List Region) : Bool := rs.any (fun r => t.reserve.meets r.far r.base r.size)

/-- R202: no page of either pool is in use. -/
def State.poolsFree (s : State) : Bool :=
  s.kv.farDue = [] && (s.poolTaken false).all s.pageLost && (s.poolTaken true).all s.pageLost
    && s.kv.lost.all (fun q => s.kmKind q.1 = 0 && s.kmPin q.1 = 0)

/-- R202, R276, R288: a region lies in its memory: below the top of near memory, or within one port's capacity. -/
def State.regionFits (t : State) (r : Region) : Bool :=
  if r.size = 0 then true
  else if r.far then r.base / 2 ^ 40 < 8 && r.base % 2 ^ 40 + r.size ≤ t.cxlBytes (r.base / 2 ^ 40)
  else r.base + r.size ≤ nearTop

/-- R202: a region meets a physical page mapped into some context. -/
def State.regionMapped (t : State) (r : Region) : Bool :=
  (List.range 64).any (fun c => t.rd .ctxState c ≠ 0 && (t.leaves c).any (fun l =>
    bitsAt l.entry 6 2 = b2n r.far && r.meets r.far (bitsAt l.entry 12 40 * 4096) l.size))

/-- Two regions of a list overlap. -/
def regionsOverlap : List Region → Bool
  | [] => false
  | r :: l => l.any (fun q => q.meets r.far r.base r.size) || regionsOverlap l

/-- R202: the checks of the pools. -/
def State.poolCheck (s t : State) : Status :=
  let four := t.kvRegions
  let others := t.tableAreas none ++ t.moduleRegions.drop 4
  if !s.poolsFree ∨ four.any (fun r => r.base % 65536 ≠ 0) ∨ regionsOverlap four
      ∨ four.any (fun r => others.any (fun o => o.meets r.far r.base r.size))
      ∨ four.any t.regionMapped ∨ four.any (fun r => !t.regionFits r) then .kvConfig
  else if t.inReserve four then .memReserved
  else .ok

/-- R169, R181: the checks of a context's block of the sequencer page. -/
def State.seqBlockCheck (s t : State) (c : Nat) : Status :=
  if t.rd .seqMaxtok c < t.rd .seqMaxbatch c ∨ 4096 < t.rd .seqStopbase c + t.rd .seqStopcnt c then .seqConfig
  else if s.changed t .seqLayers c ∧ (s.rd .kvHeld c ≠ 0 ∨ s.rd .kvFarheld c ≠ 0 ∨ s.rd .kvPfxlive c ≠ 0) then .seqConfig
  else if s.changed t .seqRole c ∧ t.rd .seqRole c ≠ 0 ∧ t.rd .kvListtally c = 0 then .kvConfig
  else .ok

/-- R203, R175, R176, R181: the checks of a context's block of the key-value page. -/
def State.kvBlockCheck (s t : State) (c : Nat) : Status :=
  if tokensPerPage (t.rd .kvHeads c) (t.rd .kvHeaddim c) (t.rd .kvPagefmt c) < 16 then .kvGeometry
  else if !t.kvFits c (t.rd .kvAppfmt c) then .kvConfig
  else if (s.changed t .kvPagefmt c ∨ s.changed t .kvHeads c ∨ s.changed t .kvHeaddim c) ∧ (s.rd .kvHeld c ≠ 0 ∨ s.rd .kvFarheld c ≠ 0) then
    .kvConfig
  else if s.changed t .kvListtally c ∧ t.rd .kvListtally c = 0 ∧ t.rd .seqRole c ≠ 0 then .kvConfig
  else .ok

/-- R224: the checks of a context's block of the sampler pages whose commit writes one of the fields concerned. -/
def State.smpBlockCheck (t : State) (dirty : List Reg) (c : Nat) : Status :=
  if (dirty.contains .smpVocbase ∨ dirty.contains .smpVoclen) ∧ 2 ^ 20 < t.rd .smpVocbase c + t.rd .smpVoclen c then .smpConfig
  else if (dirty.contains .smpLogitstride ∨ dirty.contains .smpVoclen ∨ dirty.contains .smpLogitfmt)
      ∧ t.rd .smpLogitstride c < t.rd .smpVoclen c * (if t.flag .smpLogitfmt c then 2 else 4) then .smpConfig
  else .ok

/-- R141: base and size of the save window within its address range. -/
def State.lrnBlockCheck (t : State) (c : Nat) : Status :=
  if 2 ^ 27 < t.rd .lrnWinbase c + t.rd .lrnWinsize c then .lrnConfig else .ok

/-- R334: the region list of the armed context: aligned, mapped READ and WRITE, and its last words zero. -/
def State.regionListOk (t : State) : Bool :=
  let c := t.rd .fhArmctx 0
  (List.range (t.rd .fhRegioncnt 0)).all (fun i =>
    match t.dvaRead c (t.rd .fhRegions 0 + 16 * i) 16 with
    | .error _ => false
    | .ok b =>
      let n := fieldAt b 8 4 * 2 ^ 21
      fieldAt b 0 8 % 2 ^ 21 = 0 && fieldAt b 12 4 = 0 && t.mapped c (fieldAt b 0 8) n .read && t.mapped c (fieldAt b 0 8) n .write)

/-- R334: the CXL ports that are UP, as FH_STAGEPORTS shows them. -/
def State.portsUp (s : State) : Nat := ((List.range 8).filter (fun p => s.rd .cxlState p = 2)).foldl (fun m p => m + 2 ^ p) 0

/-- R334, R276, R284, R288: the checks of the securing page. -/
def State.fhPageCheck (t : State) (dirty : List Reg) : Status :=
  let t := if dirty.contains .fhStagetier then t.wr .fhStageports 0 t.portsUp else t
  let areas := t.stageRegions (t.rd .fhStagebase 0) (t.rd .fhStagesize 0) ++ t.stageRegions (t.rd .fhBallastbase 0) (4 * t.rd .fhSlotsize 0)
  if dirty.contains .fhStagetier ∧ t.flag .fhStagetier 0 ∧ (List.range 8).all (fun p => t.rd .cxlState p ≠ 2) then .fhConfig
  else if t.flag .fhArm 0 ∧ [Reg.fhArm, .fhArmctx, .fhRegions, .fhRegioncnt].any dirty.contains ∧ !t.regionListOk then .fhConfig
  else if !([Reg.fhStagebase, .fhStagesize, .fhBallastbase, .fhSlotsize, .fhStagetier].any dirty.contains) then .ok
  else if areas.any (fun r => !t.regionFits r) then .memPaRange
  else if t.inReserve areas then .memReserved
  else .ok

/-- R325, R276, R284: the checks of the flight page. -/
def State.fltPageCheck (s t : State) : Status :=
  let id := s.changed t .fltId 0
  let region := s.changed t .fltRegion 0
  if (id ∨ region) ∧ s.rd .fltState 0 ≠ 0 ∧ s.rd .fltState 0 ≠ 2 then .fltConfig
  else if region ∧ t.rd .fltRegion 0 % 2 ^ 21 ≠ 0 then .fltConfig
  else if region ∧ t.rd .fltRegion 0 ≠ 0 ∧ !t.regionFits ⟨false, t.rd .fltRegion 0, 2 ^ 26⟩ then .memPaRange
  else if region ∧ t.rd .fltRegion 0 ≠ 0 ∧ t.inReserve [⟨false, t.rd .fltRegion 0, 2 ^ 26⟩] then .memReserved
  else .ok

/-- R251, R276, R284: the checks of the manifest store. -/
def State.storeCheck (s t : State) : Status :=
  if !(s.changed t .wvMstorebase 0 || s.changed t .wvMstoresize 0) then .ok
  else if s.boundSlots ≠ [] ∨ t.rd .wvMstorebase 0 % 2 ^ 21 ≠ 0 then .wvConfig
  else if !t.regionFits ⟨false, t.rd .wvMstorebase 0, t.rd .wvMstoresize 0 * 2 ^ 20⟩ then .memPaRange
  else if t.inReserve [⟨false, t.rd .wvMstorebase 0, t.rd .wvMstoresize 0 * 2 ^ 20⟩] then .memReserved
  else .ok

/-- R276, R284: the reserve lies in near memory, and changes only while the redirect table is empty. -/
def State.reserveCheck (s t : State) : Status :=
  if !(s.changed t .memResvbase 0 || s.changed t .memResvframes 0) then .ok
  else if s.mem.redirect ≠ [] then .memConfig
  else if !t.regionFits t.reserve then .memPaRange
  else .ok

/-- R374: the sum of a share over the contexts that are not EMPTY. -/
def State.shareSum (t : State) (r : Reg) : Nat :=
  ((List.range 64).map (fun c => if t.rd .ctxState c = 0 then 0 else t.rd r c)).foldl (· + ·) 0

/-- R365, R374, R385: the checks of a context page. -/
def State.ctxPageCheck (s t : State) (dirty : List Reg) (c : Nat) : Status :=
  if s.rd .ctxState c = 2 ∧ (s.changed t .ctxScrslice c ∨ s.changed t .ctxAccslice c) then .ctxState
  else if (dirty.contains .ctxMemshare ∧ 1024 < t.shareSum .ctxMemshare) ∨ (dirty.contains .ctxSpanshare ∧ 1024 < t.shareSum .ctxSpanshare) then
    .ctxQosOvercommit
  else if dirty.contains .ctxQuads ∧ (List.range 64).any (fun d => d ≠ c && (setBitsOf (t.rd .ctxQuads d) 16).any (bitAt (t.rd .ctxQuads c))) then
    .ctxConfig
  else if (dirty.contains .ctxEvtring ∨ dirty.contains .ctxEvtdest) ∧ t.rd .ctxEvtdest c ≠ 0 ∧ !t.isCring c (t.rd .ctxEvtring c) then .ctxConfig
  else .ok

/-- The first failure of a list of checks. -/
def firstFail (l : List Status) : Status := (l.find? (· ≠ .ok)).getD .ok

/-- R382: the checks across fields of a page, of which the values `cand` are committed. -/
def State.pageCheck (s t : State) (p : Nat) (cand : List (Nat × Nat)) : Status :=
  let dirtyOf (c : Nat) : List Reg := (cand.filter (fun q => copyOfKey q.1 = c)).map (fun q => regOfKey q.1)
  let blocks := (cand.map (fun q => copyOfKey q.1)).eraseDups
  if cand = [] then .ok
  else if 0x1000 ≤ p then s.ctxPageCheck t (dirtyOf (p - 0x1000)) (p - 0x1000)
  else match pageGroup p with
    | 0x400 => firstFail (blocks.map (s.seqBlockCheck t))
    | 0x401 => s.poolCheck t
    | 0x402 => firstFail (blocks.map (s.kvBlockCheck t))
    | 0x408 => firstFail (blocks.map (fun c => t.smpBlockCheck (dirtyOf c) c))
    | 0x410 => if p = 0x410 then s.storeCheck t else .ok
    | 0x420 => firstFail (blocks.map t.lrnBlockCheck)
    | 0x429 => t.fhPageCheck (dirtyOf 0)
    | 0x430 => s.fltPageCheck t
    | 0x200 => s.reserveCheck t
    | _ => .ok

/-! ## The islands that a commit affects (R383) -/

/-- The clusters with a tile of a context under way. -/
def State.tilesOf (s : State) (c : Nat) : List Nat :=
  (List.range 192).filter (fun n =>
    ((s.cluster n).cur.map (·.ctx)) = some c || (s.cluster n).tiles.any (·.ctx = c))

/-- An update descriptor of a context runs. -/
def State.descRuns (s : State) (c : Nat) : Bool :=
  s.upd.chains.any (fun x => x.ctx = c && (match x.desc with
    | some d => d.started
    | none => false))

/-- The engines with an entry of a context in progress. -/
def State.enginesOf (s : State) (c : Nat) : List Nat :=
  (List.range 4).filter (fun e => s.weave.plans.any (fun q => q.1 / 16 = e && (match q.2 with
    | some p => p.ctx = c && p.inprog ≠ []
    | none => false)))

/-- The islands that have work under way that uses a field, and so do not adopt its new value at once. -/
def State.waitsFor (s : State) (k old new : Nat) : List (Nat × Option Nat) :=
  let r := regOfKey k
  let c := copyOfKey k
  let tiles := (s.tilesOf c).map (fun n => (islCluster n, none))
  let units := if s.descRuns c then (List.range 48).map (fun ch => (islChannel ch, none)) else []
  let engines := (s.enginesOf c).map (fun e => (islWeavin e, none))
  if r.atBoundary then
    (if s.rd .seqRole c ≠ 0 ∧ s.seqsOf c ≠ [] then [(islSequencer, some c)] else [])
  else if r.info.block = .lrnCtx then tiles ++ units
  else match r with
    | .ctxOvfmode => tiles ++ units ++ engines
    | .wvJob => engines
    | .smpSeed => tiles ++ units ++ engines
        ++ ((List.range 6).filter (fun u => s.rd .smpRun u ≠ 0 && s.rd .smpCtx u = c)).map (fun u => (islSampler u, none))
    | .ctxMask => ((List.range 192).filter (fun n => bitAt old n != bitAt new n && (s.cluster n).cur.isSome)).map
        (fun n => (islCluster n, none))
    | _ => []

/-! ## What a commit does besides -/

/-- R385: the quads that a context names are its own. -/
def State.quadsCommitted (s : State) : State :=
  (List.range 16).foldl (fun s q =>
    match (List.range 64).find? (fun c => bitAt (s.rd .ctxQuads c) q) with
    | some c => (s.wr .gqCtx q c).wr .gqCtxvalid q 1
    | none => (s.wr .gqCtx q 0).wr .gqCtxvalid q 0) s

/-- R202: the pools committed: every page is FREE, with metadata of zeros (log entry 63). The ID of a lost page stays withheld (R199). -/
def State.poolsCommitted (s : State) : State :=
  let s := s.clearNear (s.rd .kvMetabase 0) (2048 * s.rd .kvNearpages 0)
  let far := sclear s.mem.far (s.rd .kvFarmetabase 0) (s.rd .kvFarmetabase 0 + 2048 * s.rd .kvFarpages 0)
  let s : State := { s with mem := { s.mem with far := far } }
  let lost (far : Bool) : Nat := (s.kv.lost.filter (fun q => pageFar q.1 == far && s.pageKnown q.1)).length
  (s.wr .kvNearfree 0 (s.rd .kvNearpages 0 - lost false)).wr .kvFarfree 0 (s.rd .kvFarpages 0 - lost true)

/-- R305: the route entries written by ROUTE take effect: 4 bytes each at 0x300_0000 of the flight region. -/
def State.routesCommitted (s : State) : State :=
  let base := s.rd .fltRegion 0 + 0x3000000
  let s := if s.rd .fltRegion 0 = 0 then s else
    s.flt.routes.foldl (fun s r => (s.memWrite false (base + 4 * r.1) (leBytes 4 r.2)).1) s
  { s with flt := { s.flt with routes := [] } }

/-- What the commit of a page's values does besides; `old` is the state before it. -/
def State.committed (old s : State) (p : Nat) (cand : List (Nat × Nat)) : State :=
  let s := cand.foldl (fun s q =>
    let c := copyOfKey q.1
    match regOfKey q.1 with
    | .lrnLsen => if old.rdNew .lrnLsen c ≠ q.2 then s.scaleStart c (q.2 = 1) else s
    | .seqGrouplist | .seqGroupsize => s.setStep c { s.step_ c with frozen := false }
    | .ctxClass => s.wr .ctxClasspend c (if s.rd .ctxClass c = q.2 then 0 else 1)
    | .ctxQuads => s.quadsCommitted
    | .memScrubhours => if old.rd .memScrubhours 0 ≠ q.2 then s.startWindow else s
    | .fhStagetier => s.wr .fhStageports 0 s.portsUp
    | .fhArm => (s.wr .fhState 0 (if q.2 = 1 ∧ s.rd .fhRole 0 = 0 then 1 else 0)).wr .fhRunstep 0 0
    | _ => s) s
  let s := if p = 0x401 ∧ cand ≠ [] then s.poolsCommitted else s
  if p = 0x430 then s.routesCommitted else s

/-! ## The commit -/

/-- The registers as they would stand if these values were committed. -/
def State.after (s : State) (cand : List (Nat × Nat)) : State :=
  ((s.cfg.adopting.foldl (fun s a => s.putVals a.vals) s).putVals cand)

/-- Commit the values of one page at an epoch: errors of values outside their ranges, the shadows, the islands that adopt later, and what the
commit does besides. -/
def State.commitPage (s : State) (epoch p : Nat) : State :=
  let cand := s.candidates p
  let s := match s.rangeError p with
    | some st => s.recordError p st 0
    | none => s
  let vals := cand.filter (fun q => regOfKey q.1 ≠ .ctxClass)
  let late := (vals.map (fun q =>
    if s.committedVal q.1 = q.2 then [] else s.waitsFor q.1 (s.committedVal q.1) q.2)).flatten.eraseDups
  let t : State := { s with cfg := { s.cfg with
    shadows := s.cfg.shadows.filter (fun q => !keyOnPage p q.1)
    staged := sdrop s.cfg.staged p } }
  let sorted := vals.foldl (fun m q => sput (2 ^ 4096) m q.1 q.2) []
  let t := t.epochsDone (t.cfg.adopting ++ [⟨epoch, p, sorted, late⟩])
  State.committed s t p cand

/-- R381, R382: commit a set of pages at one new epoch, or none of them: the status of the first page that breaks a rule, and that page. -/
def State.commitPages (s : State) (ps : List Nat) : State × Option (Nat × Status) :=
  let t := s.after (ps.map s.candidates).flatten
  match ps.find? (fun p => s.pageCheck t p (s.candidates p) ≠ .ok) with
  | some p => (s, some (p, s.pageCheck t p (s.candidates p)))
  | none =>
    let e := (s.rd .glbEpoch 0 + 1) % 2 ^ 32
    (ps.foldl (fun s p => s.commitPage e p) (s.wr .glbEpoch 0 e), none)

/-- COMMIT (R381, R382). -/
def State.commitOne (s : State) (p : Nat) : State :=
  match s.commitPages [p] with
  | (s, none) => s
  | (s, some (q, st)) => s.recordError q st 0

/-- COMMIT_STAGED (R381, R382): every staged page, or none; the staged set is emptied. -/
def State.commitStagedSet (s : State) : State :=
  let ps := s.cfg.staged.map (·.1)
  if ps = [] then s
  else
    match s.commitPages ps with
    | (s, none) => s
    | (s, some (_, st)) => { s.recordError 0 st 0 with cfg := { s.cfg with staged := [] } }

/-- STAGE (R381). -/
def State.stagePage (s : State) (p : Nat) : State := { s with cfg := { s.cfg with staged := sput false s.cfg.staged p true } }

/-- DISCARD (R381, R475): the shadows return to their last committed values, and the page leaves the staged set. -/
def State.discardPage (s : State) (p : Nat) : State :=
  { s with cfg := { s.cfg with
    shadows := s.cfg.shadows.filter (fun q => !keyOnPage p q.1)
    staged := sdrop s.cfg.staged p } }

end Sys2Proof.Machine
end

