-- ==== Sys2Proof/Machine/RegView.lean ====
section
/-!
DEFINITION. Reads of the register and doorbell spaces (R12, R14, R399, R466 to R469, R474, R478, R480, R481): what each field reads as, who may read it,
captures of high words, and the bits that a read clears.
-/
namespace Sys2Proof.Machine
open Sys2Proof

/-! ## What fields read as -/

/-- R272: the blocked waiters of a bank. -/
def State.bankWaiters (s : State) (b : Nat) : Nat :=
  ((s.tly.queues.filter (fun q => bankOf q.1 = b)).map (fun q => q.2.length)).foldl (· + ·) 0

/-- R474: BUSY of a page to a reader: a command of the page runs, or an epoch of it is being adopted. Commands of the pages 0x0040, 0x0418 and
0x0438 end within their step. -/
def State.busyPage (s : State) (p : Nat) : Bool :=
  if p = 0x40 ∨ p = 0x418 ∨ p = 0x438 then false
  else s.cfg.adopting.any (fun a => a.page = p)
    || (0x1000 ≤ p && (s.ctxBusy (p - 0x1000) || s.rd .ctxState (p - 0x1000) = 3))
    || (p = 0x430 && s.flt.command.isSome)
    || (p = 0x8 && s.rd .pwrState 0 = 1)

/-- R443: the context whose counters a reader's MTR_PEEK shows, if it may see them. -/
def State.peekOf (s : State) (rdr : Reader) : Option Nat :=
  let c := s.rd .mtrPeekctx rdr.num
  if 64 < c then none
  else match rdr with
    | .session 0 => some c
    | .session n => if s.flag .tsReadall n || (c < 64 && s.owns n c) then some c else none
    | .hart h => if c < 64 ∧ s.ctxOfHart h = some c then some c else none
    | .keel => none

/-- R443: counters 0 to 12, 8 bytes each. -/
def State.peekValue (s : State) (rdr : Reader) : Nat :=
  match s.peekOf rdr with
  | none => 0
  | some c => leNat (((List.range 13).map (fun i => leBytes 8 (sget 0 (s.instance_ c).counts i))).flatten)

/-- R169: the entry that SEQ_PEEKIDX names, to a reader that owns its context or is session 0. -/
def State.seqPeek (s : State) (rdr : Reader) : Nat :=
  let x := s.seqAt (s.rd .seqPeekidx 0)
  let mine : Bool := match rdr with
    | .session n => s.owns n x.ctx
    | .hart h => s.ctxOfHart h = some x.ctx
    | .keel => false
  if mine then leNat (seqImage x) else 0

/-- R251: an engine's plans, and what it does. -/
def State.plansOf (s : State) (e : Nat) : List Plan :=
  (s.weave.plans.filter (fun q => q.1 / 16 = e)).filterMap (·.2)
def State.engineRun (s : State) (e : Nat) : Nat :=
  let ps := s.plansOf e
  if ps = [] then 0
  else if ps.all (fun p => p.inprog.any (·.blocked) || p.inprog.any (fun x => x.waiting ≠ [])) then 2
  else 1

/-- R251: the free manifest store in MiB. -/
def State.storeFree (s : State) : Nat :=
  (s.storeBytes - (s.boundSlots.map (·.len)).foldl (· + ·) 0) / 2 ^ 20

/-- R45: the state of an island: FENCED islands show it whatever else they do. -/
def State.islandState (s : State) (i : Nat) : Nat :=
  let fenced : Bool :=
    if i < 192 then s.flag .cluFenced i
    else if 208 ≤ i ∧ i < 256 then s.rd .memState (i - 208) = 2
    else if 256 ≤ i ∧ i < 288 then s.rd .spnState (i - 256) = 6
    else if 303 ≤ i ∧ i < 309 then s.flag .smpFenced (i - 303)
    else false
  if fenced then 4 else s.rd .islState i

/-- R418, R391: a port is home to some open session. -/
def State.portHome (s : State) (p : Nat) : Nat :=
  b2n ((List.range 64).any (fun n => s.rd .tsState n ≠ 0 && s.rd .tsPort n = p))

/-- What copy i of a field reads as to a reader (R14): write-only fields read zero, and fields that show other state show it. -/
def State.show (s : State) (rdr : Reader) (r : Reg) (i : Nat) : Nat :=
  if r.info.access = .wo then 0
  else match r with
    | .ctxEffclusters => s.effClusters i
    | .ctxEvtpend => (s.evList i).items.length
    | .glbStaged => s.cfg.staged.length
    | .glbClusters => s.usableClusters
    | .glbChannels => ((List.range 48).filter (fun c => s.rd .memState c ≠ 2)).length
    | .tlyWaiters => s.bankWaiters i
    | .pwrCeiling => s.rd .fuseCeiling 0
    | .pwrGated => ((List.range 317).filter (fun n => s.islandState n = 2)).length
    | .memRetirelist => (s.mem.redirect.getD (s.rd .memRetireidx 0) (0, 0)).1
    | .seqPeekdata => s.seqPeek rdr
    | .mtrPeek => s.peekValue rdr
    | .wvRun => s.engineRun i
    | .wvPlans => (s.plansOf i).length
    | .wvMslots => ((List.range 4).map (fun k => b2n (sget none s.weave.bound (i * 4 + k)).isSome * 2 ^ k)).foldl (· + ·) 0
    | .wvMstorefree => s.storeFree
    | .secIdcert => leNat Config.identityCert
    | .secIdcertlen => Config.identityCert.length
    | .secPubcount => s.sec.pubs.length
    | .secOwnerset => b2n (s.rd .fuseOwnerused 0 ≠ 0)
    | .tethHome0 => s.portHome 0
    | .tethHome1 => s.portHome 1
    | .tethOpen => ((List.range 64).map (fun n => b2n (s.rd .tsState n = 2) * 2 ^ n)).foldl (· + ·) 0
    | .islState => s.islandState i
    | .islFreq => if s.islandState i = 1 then s.rd .islFreq i else 0
    | .islVolt => if s.islandState i = 4 then 0 else s.rd .islVolt i
    | .busy => b2n (s.busyPage i)
    | .staged => b2n (sget false s.cfg.staged i)
    | .shadowdirty => b2n (s.pageDirty i)
    | r => s.rd r i

/-- The value of the word at byte offset o of page p to a reader. -/
def State.readWord (s : State) (rdr : Reader) (p o : Nat) : Nat :=
  ((wordParts rdr.num p o).map (fun q => q.show_ (s.show rdr q.reg q.idx))).foldl (· + ·) 0

/-! ## Views (R479 to R481) -/

/-- R480: the page that a view page of context c presents. -/
def viewPage (c v : Nat) : Option Nat :=
  match v with
  | 0 => some (0x1000 + c)
  | 1 => some 0x400
  | 2 => some 0x402
  | 3 => some 0x403
  | 4 => some 0x408
  | 5 => some 0x410
  | 6 => some 0x418
  | 7 => some 0x420
  | 8 => some 0x438
  | _ => none

/-- R480, R481: the view of context c presents offset o of page p. -/
def viewShows (c p o : Nat) : Bool :=
  let block (first size : Nat) : Bool := first + size * c ≤ o && o < first + size * (c + 1)
  if p = 0x1000 + c then true
  else match p with
    | 0x400 => o < 0x38 || block 0x100 0x38
    | 0x402 => o < 0x38 || block 0x100 0x38
    | 0x403 => o < 0x38 || block 0x100 0x10
    | 0x408 => o < 0x38 || block 0x200 0x38
    | 0x410 => o < 0x38 || block 0x200 0x38
    | 0x418 => o < 0x38 || (0x200 ≤ o && o < 0x214)
    | 0x420 => o < 0x38 || block 0x100 0x38
    | 0x438 => o < 0x38 || (0x100 ≤ o && o < 0x104) || (0x11C ≤ o && o < 0x188) || block 0x200 0x10
    | _ => false

/-- R481: what a header word reads as through view pages 1 to 8: PAGE_STATUS shows BUSY only, the event and error fields read zero. -/
def State.viewHeader (s : State) (rdr : Reader) (p o : Nat) : Nat :=
  if o = 0x008 then 2 * b2n (s.busyPage p)
  else if 0x010 ≤ o ∧ o < 0x030 then 0
  else s.readWord rdr p o

/-! ## Who may read (R399, R469) -/

/-- The context whose block lies at an offset of a page of per-context blocks. -/
def blockCtx (p o : Nat) : Option Nat :=
  let at_ (first size : Nat) : Option Nat := if first ≤ o ∧ o < first + size * 64 then some ((o - first) / size) else none
  if 0x1000 ≤ p then some (p - 0x1000)
  else match pageGroup p with
    | 0x400 => at_ 0x100 0x38
    | 0x402 => at_ 0x100 0x38
    | 0x403 => at_ 0x100 0x10
    | 0x408 => at_ 0x200 0x38
    | 0x410 => at_ 0x200 0x38
    | 0x420 => at_ 0x100 0x38
    | 0x438 => at_ 0x200 0x10
    | _ => none

/-- The session whose argument area lies at an offset of a page (R420). -/
def argSession (p o : Nat) : Option Nat :=
  if 0x42 ≤ p ∧ p ≤ 0x49 ∧ 0x100 ≤ o then some ((p - 0x42) * 8 + (o - 0x100) / 0x1E0) else none

/-- R399: a session's rights to read offset o of page p. Registers that each reader has a copy of, and the peek registers, are open to every
session (log entry 64). -/
def State.mayRead (s : State) (rdr : Reader) (p o : Nat) : Bool :=
  match rdr with
  | .keel => true
  | .hart h =>
    match s.ctxOfHart h with
    | none => false
    | some c => viewShows c p o
  | .session n =>
    match argSession p o with
    | some m => m = n
    | none =>
      n = 0 || s.flag .tsReadall n
      || o = 0x000 || o = 0x004 || o = 0x00C
      || (p = 0 && 0x110 ≤ o && o < 0x118)
      || (p = 0x41 && 0x100 + 0x30 * n ≤ o && o < 0x130 + 0x30 * n)
      || (p = 0x40 && 0x130 ≤ o && o < 0x138)
      || (p = 0x418 && 0x200 ≤ o && o < 0x214)
      || (p = 0x438 && 0x11C ≤ o && o < 0x188)
      || (p = 0x400 && 0xF20 ≤ o && o < 0xF80)
      || (match blockCtx p o with
          | some c => s.owns n c
          | none => false)
      || (0x440 ≤ p && p ≤ 0x44F && s.flag .gqCtxvalid (p - 0x440) && s.owns n (s.rd .gqCtx (p - 0x440)))

/-! ## Reads of the register space -/

/-- R12: the register address of the low word of the 64-bit register that a word belongs to. A register that several pages share (R224, R252)
is one register: its address is the one on the first of them. -/
def low64 (rd p o : Nat) : Option Nat :=
  match wordParts rd p o with
  | q :: _ =>
    let page := if q.reg.info.block.place.shared then q.reg.info.block.place.page else p
    if q.reg.info.words = 2 then some (page * 4096 + o - 4 * (q.valLsb / 32))
    else if q.reg = .mtrPeek then some (page * 4096 + o - 4 * (q.valLsb / 32 % 2))
    else none
  | [] => none

/-- R12: the key of a reader's capture for the 64-bit register whose low word has this address. -/
def captureKey (rdr : Reader) (addr : Nat) : Nat := rdr.num * 2 ^ 40 + addr

def State.setCapture (s : State) (k : Nat) (v : Option Nat) : State :=
  { s with cfg := { s.cfg with captures := sput none s.cfg.captures k v } }

/-- R12, R462, R463: what a read of a word does besides: a low word captures its high word, a high word uses the capture up, PAGE_STATUS read with
DEFAULTED clears it, and PWR_PEAK starts anew. Answers the value read. -/
def State.readEffects (s : State) (rdr : Reader) (p o : Nat) : State × Nat :=
  let v := s.readWord rdr p o
  match low64 rdr.num p o with
  | some a =>
    if a % 4096 = o then (s.setCapture (captureKey rdr a) (some (s.readWord rdr p (o + 4))), v)
    else
      match sget none s.cfg.captures (captureKey rdr a) with
      | some w => (s.setCapture (captureKey rdr a) none, w)
      | none => (s, v)
  | none =>
    if o = 0x008 then (s.wr .defaulted p 0, v)
    else if p = 0x8 ∧ o = 0x128 then (s.wr .pwrPeak 0 0, v)
    else (s, v)

/-- A read of a page the reader may read: a hart sees the page's header as its view shows it. -/
def State.pageRead (s : State) (rdr : Reader) (p o : Nat) : State × Status × Nat :=
  let through : State × Status × Nat :=
    let (s, v) := s.readEffects rdr p o
    (s, .ok, v)
  match rdr with
  | .hart _ => if p < 0x1000 ∧ o < 0x38 then (s, .ok, s.viewHeader rdr p o) else through
  | _ => through

/-- R468, R469, R399, R481: a read at a register address: its status and value. -/
def State.spaceRead (s : State) (rdr : Reader) (addr : Nat) : State × Status × Nat :=
  let p := addr / 4096
  let o := addr % 4096
  if addr % 4 ≠ 0 then (s, .genAccessSize, 0)
  else if 8192 ≤ p then (s, .genAddrRange, 0)
  else if !pageExists p then (s, .genPageAbsent, 0)
  else if !s.mayRead rdr p o then (s, .sesRights, 0)
  else s.pageRead rdr p o

/-! ## Reads of the doorbell space (R478) -/

/-- A doorbell block's word: the block of a FREE ring reads zero. -/
def State.doorbellWord (s : State) (r o : Nat) : Nat :=
  if s.rd .dbState r = 0 then 0
  else if o = 0 then s.rd .dbTail r
  else if o = 4 then s.rd .dbHead r
  else if o = 8 then s.rd .dbState r + 4 * s.rd .dbType r + 16 * s.rd .dbLog2 r + 512 * s.rd .dbCtx r
  else if o = 0xC then s.rd .dbErr r
  else 0

/-- A read at an address of the doorbell space; a CLAIM session has none (R397). The keel does not reach it (R470); a hart sees the rings of its own context (R480). -/
def State.doorbellRead (s : State) (rdr : Reader) (addr : Nat) : Status × Nat :=
  let r := addr / 64
  if addr % 4 ≠ 0 then (.genAccessSize, 0)
  else if 65536 ≤ r then (.genAddrRange, 0)
  else match rdr with
    | .keel => (.ok, 0)
    | .hart h => (.ok, if s.ctxOfHart h = some (s.rd .dbCtx r) then s.doorbellWord r (addr % 64) else 0)
    | .session n =>
      if s.isClaim n then (.sesRights, 0)
      else if n = 0 ∨ s.flag .tsReadall n ∨ s.rd .dbState r = 0 ∨ s.owns n (s.rd .dbCtx r) then (.ok, s.doorbellWord r (addr % 64))
      else (.sesRights, 0)

end Sys2Proof.Machine
end

