-- ==== Sys2Proof/Machine/Spans.lean ====
section
/-!
DEFINITION. The commands of the spans (R297 to R312): light, lanes, hails, heartbeats, frames received, replay and key updates. Frames of the
ledger are in LedgerFrames.lean.
-/
namespace Sys2Proof.Machine
open Sys2Proof

/-! ## Light, lanes and training (R297, R307) -/

/-- SPAN_LIGHT (R307): a DARK span trains. -/
def execSpanLight (n : Nat) (s : State) : Result :=
  if n < 32 ∧ s.rd .spnState n = spDark then .next (s.wr .spnState n spTraining) else .next s

/-- R307: lanes locked: the lanes' mask and width. -/
def State.setLanes (s : State) (n lanes : Nat) : State := (s.wr .spnLanes n lanes).wr .spnWidth n (setBitsOf (lanes % 2 ^ 16) 16).length

/-- SPAN_FEC_LOCK (R307, R308): the span trained over these lanes, and hails. -/
def execSpanFecLock (n lanes : Nat) (s : State) : Result :=
  if n < 32 ∧ s.rd .spnState n = spTraining ∧ lanes % 2 ^ 16 ≠ 0 then
    .next ((((s.setLanes n lanes).wr .spnLaneslost n 0).wr .spnState n spHailing).startHail n)
  else .next s

/-- SPAN_DARK (R307, R310): no light or lock on any lane for 1 ms. -/
def execSpanDark (n : Nat) (s : State) : Result :=
  if n < 32 ∧ s.rd .spnState n ≠ spFenced ∧ s.rd .spnState n ≠ spListen then .next (s.spanDark n) else .next s

/-- Frames that wait on a span look for another one (R304). -/
def State.requeue (s : State) (n : Nat) : State :=
  let l := s.link n
  let (go, stay) := l.queue.partition Frame.routed
  go.foldl State.route (s.setLink n { l with queue := stay })

/-- R297: the fault is one for which a lane is removed, by the span's thresholds. -/
def State.laneFaulty (s : State) (n : Nat) (x : LaneFault) : Bool :=
  match x with
  | .lost => true
  | .corrected k => s.rd .spnLanethresh n < k
  | .uncorrectable k => s.rd .spnUncorrthresh n ≤ k

/-- LANE_REMOVE (R297): a faulty lane leaves the span, which drains and retrains; with no lane left it goes DARK. -/
def execLaneRemove (n : Nat) (lane : FaultyLane) (s : State) : Result :=
  let k := lane.lane % 16
  if n < 32 ∧ bitAt (s.rd .spnLanes n) k ∧ s.laneFaulty n lane.fault then
    let lanes := setBits (s.rd .spnLanes n) k 1 0
    let s := (s.setLanes n lanes).wr .spnLaneslost n (setBits (s.rd .spnLaneslost n) k 1 1)
    let s := s.bump .spnWidthchg n 1
    let s : State := { s with health := { s.health with laneAt := some s.now } }
    if lanes = 0 then .next (s.spanDark n)
    else if s.rd .spnState n = spUp then .next ((s.wr .spnState n spDraining).requeue n)
    else .next s
  else .next s

/-- SPAN_RETRAIN_DONE (R297): what was not acknowledged is replayed, and the span is UP at its new width. -/
def execSpanRetrainDone (n : Nat) (s : State) : Result :=
  if n < 32 ∧ s.rd .spnState n = spDraining then
    let s := s.wr .spnState n spUp
    let s := (s.setLink n { s.link n with lastAck := s.now, lastRx := s.now }).replay n (s.link n).sent
    .next (s.retryStuck.pump n)
  else .next s

/-- SPAN_SILENT (R310): an UP span has had no frame for 1 ms. -/
def execSpanSilent (n : Nat) (s : State) : Result :=
  if n < 32 ∧ s.rd .spnState n = spUp ∧ !s.flag .spnSilent n ∧ (s.link n).lastRx + 1000000 ≤ s.now then
    .next ((s.wr .spnSilent n 1).requeue n)
  else .next s

/-- SPAN_RELOCK_FALLBACK (R453): a span that has not relocked after a wake trains in full. -/
def execSpanRelockFallback (n : Nat) (s : State) : Result :=
  if n < 32 ∧ s.rd .spnState n = spTraining then .next ((s.setLanes n 0).wr .spnLaneslost n 0) else .next s

/-! ## Hails and heartbeats (R307 to R312) -/

/-- SPAN_HAIL_RETRY (R307): a REFUSED span hails again, with the key pair and nonce it has (log entry 57). -/
def execSpanHailRetry (n : Nat) (s : State) : Result :=
  if n < 32 ∧ s.rd .spnState n = spRefused ∧ !s.sec.entropyBad then
    if (s.link n).hail = [] then .next (s.startHail n) else .next (s.sendHail n)
  else .next s

/-- SPAN_HAIL_FRAME (R308): the peer's hail is checked as far as it goes, and answered with the proof. On an UP span a hail of the same key
pair and nonce is answered again, and another one starts the exchange anew (log entry 57). -/
def execSpanHailFrame (n : Nat) (b : List Byte) (bad : Bool) (s : State) : Result :=
  let st := s.rd .spnState n
  if 32 ≤ n ∨ !(st = spHailing || st = spRefused || st = spUp) then .next s
  else if bad then .next (s.bump .spnFecuncorr n 1)
  else
    let p := (b.drop 16).take (b.length - 32)
    let s := s.bump .spnRxbytes n b.length
    let old := (s.link n).peerHail
    let same := hlKey p = hlKey old && hlNonce p = hlNonce old
    if st = spUp ∧ !same ∧ (!frameFormed b 6 ∨ !hailFormed p) then .next s
    else
      let s : State := if st = spUp ∧ !same then ((s.linkDown n).wr .spnState n spHailing).startHail n else s
      if !frameFormed b 6 ∨ !hailFormed p then .next (s.refuseSpan n .spnHailFormat)
      else if hlIdhash p = idHash Config.identityCert then .next (s.refuseSpan n .spnLoopback)
      else if (s.link n).hail = [] then .next (s.setLink n { s.link n with peerHail := p })
      else .next ((s.setLink n { s.link n with peerHail := p }).sendProof n)

/-- SPAN_HAIL_PROOF_FRAME (R308): the checks in their order; then keys, and UP. -/
def execSpanHailProofFrame (n : Nat) (b : List Byte) (bad : Bool) (s : State) : Result :=
  let st := s.rd .spnState n
  let l := s.link n
  if 32 ≤ n ∨ !(st = spHailing || st = spRefused) ∨ l.hail = [] ∨ l.peerHail = [] then .next s
  else if bad then .next (s.bump .spnFecuncorr n 1)
  else
    let q := (b.drop 16).take (b.length - 32)
    let s := s.bump .spnRxbytes n b.length
    match (if frameFormed b 7 then s.hailCheck l.hail l.peerHail q else .spnHailFormat) with
    | .ok => .next (s.spanUp n)
    | e => .next (s.refuseSpan n e)

/-- HEARTBEAT_SEND (R312): every UP span sends a heartbeat every 250 µs. -/
def execHeartbeatSend (n : Nat) (s : State) : Result :=
  if n < 32 ∧ s.rd .spnState n = spUp then .next (s.sendVc0 n 5 s.heartbeat) else .next s

/-- SPAN_HEARTBEAT_FRAME (R312). -/
def execSpanHeartbeatFrame (n : Nat) (b : List Byte) (bad : Bool) (s : State) : Result :=
  if 32 ≤ n then .next s
  else
    match s.receive n 5 b bad with
    | (s, none) => .next s
    | (s, some p) => .next (s.hearHeartbeat n p)

/-! ## LINK frames, replay and keys (R300, R301, R303) -/

/-- R300: the counter that low 32 bits stand for, at or after the expected one. -/
def counterNear (expect low : Nat) : Nat := expect + (low + 2 ^ 32 - expect % 2 ^ 32) % 2 ^ 32

/-- SPAN_LINK_FRAME (R299 to R301): acknowledgement, credits, and a replay where a counter is NAKed. One with a fault is discarded, and the expected
counter NAKed. -/
def execSpanLinkFrame (n : Nat) (b : List Byte) (bad : Bool) (s : State) : Result :=
  if 32 ≤ n ∨ s.rd .spnState n ≠ spUp then .next s
  else if bad then .next ((s.bump .spnFecuncorr n 1).sendLink n (some (s.link n).rx.count))
  else
    let l := s.link n
    let k := if l.rxUpdate ∧ fPhase b ≠ l.rx.phase then l.rx.after else l.rx
    if !frameFormed b 0 then .next (s.sendLink n (some l.rx.count))
    else
      match openSpanFrame k (counterNear k.count (fSeq b)) b with
      | none =>
        let s := s.tagFailure n
        .next (if s.rd .spnState n = spUp then s.sendLink n (some (s.link n).rx.count) else s)
      | some p =>
        let l := l.acked (fAck b) s.now
        let l : SpanLink := { l with credits := (List.range 4).map (fun v => l.credit v + fieldAt p (4 + 2 * v) 2) }
        let s := ((s.setLink n l).bump .spnRxbytes n b.length).heardSpan n
        let nak := fieldAt p 0 4
        let s := if nak = 0xFFFFFFFF then s
          else s.replay n ((s.link n).sentFrom nak)
        .next (s.pump n)

/-- SPAN_REPLAY_TIMEOUT (R300): no acknowledgement for 100 µs. -/
def execSpanReplayTimeout (n : Nat) (s : State) : Result :=
  let l := s.link n
  if n < 32 ∧ s.rd .spnState n = spUp ∧ l.sent ≠ [] ∧ l.lastAck + 100000 ≤ s.now then
    .next ((s.setLink n { l with lastAck := s.now }).replay n l.sent)
  else .next s

/-- SPAN_KEY_ROLLOVER (R303): at counter 2^40 KEY_UPDATE is sent, as credit and the replay buffer allow (R300, R301), and the next key and phase
follow. -/
def execSpanKeyRollover (n : Nat) (s : State) : Result :=
  let l := s.link n
  let f : Frame := ⟨9, 0, 1, s.rd .fltMember 0, s.rd .spnPeer n, [], false, none, none, 0, []⟩
  if n < 32 ∧ s.rd .spnState n = spUp ∧ 2 ^ 40 ≤ l.tx.count ∧ frameUnits f ≤ l.credit 0 ∧ l.replayBytes + 32 ≤ 2 ^ 20 then
    let s := s.sendFrame n l f
    let l := s.link n
    .next (((s.setLink n { l with tx := l.tx.after }).bump .spnKeyupd n 1).pump n)
  else .next s

/-- SPAN_KEY_UPDATE_FRAME (R303): both phases are accepted until the first frame of the new one. -/
def execSpanKeyUpdateFrame (n : Nat) (b : List Byte) (bad : Bool) (s : State) : Result :=
  if 32 ≤ n then .next s
  else
    match s.receive n 9 b bad with
    | (s, none) => .next s
    | (s, some _) => .next (s.setLink n { s.link n with rxUpdate := true })

/-! ## Frames that go further than one hop (R304, R233, R239, R266) -/

/-- Receive a frame that may be forwarded; what is this module's own goes to f. DATA, SIGNAL and CONFIRM are accepted by a MEMBER only, and
never from a member the ledger has let go (R313, R250). -/
def State.receiveRouted (s : State) (n ty : Nat) (b : List Byte) (bad : Bool) (f : State → List Byte → State) : State :=
  if 32 ≤ n then s
  else
    match s.receive n ty b bad with
    | (s, none) => s
    | (s, some p) =>
      if !s.forMe b then s.forward n b p
      else if ty ≤ 3 ∧ (!s.isMember ∨ s.memberLost (fSrc b)) then s
      else f s p

/-- SPAN_DATA_FRAME (R239), with the errors that the reads of an accumulation find. -/
def execSpanDataFrame (n : Nat) (b : List Byte) (bad : Bool) (ecc : List (Nat × EccError)) (s : State) : Result :=
  .next (s.receiveRouted n 1 b bad (fun s p => (s.eccFound ecc).landData (n / 8) (fVc b) p))

/-- SPAN_SIGNAL_FRAME (R266). -/
def execSpanSignalFrame (n : Nat) (b : List Byte) (bad : Bool) (s : State) : Result :=
  .next (s.receiveRouted n 2 b bad (fun s p => s.landSignal (n / 8) p))

/-- SPAN_CONFIRM_FRAME (R233, R263). -/
def execSpanConfirmFrame (n : Nat) (b : List Byte) (bad : Bool) (s : State) : Result :=
  .next (s.receiveRouted n 3 b bad (fun s p => s.hearConfirm (fSrc b) p))

/-- SPAN_NOTICE_FRAME (R304): the entries that wait on the member the dropped frame was for fail. -/
def execSpanNoticeFrame (n : Nat) (b : List Byte) (bad : Bool) (s : State) : Result :=
  .next (s.receiveRouted n 4 b bad (fun s p => s.failMember (fDst (p.drop 4)) .spnNoRoute))

/-- SPAN_NO_ROUTE_TIMEOUT (R304): frames that have waited 20 ms for a next hop. -/
def execSpanNoRouteTimeout (s : State) : Result :=
  let (late, rest) := s.span.stuck.partition (fun k => decide (k.since + 20000000 ≤ s.now))
  let s : State := { s with span := { s.span with stuck := rest } }
  .next (late.foldl (fun s k =>
    let f := k.frame
    if f.transit then
      let s := s.bump .spnDrops f.via 1
      if f.ty = 4 then s else s.notice f.src f.header
    else s.frameLost f .spnNoRoute) s)

/-- SPN_FENCE_REQ (R307, R324). -/
def execSpnFenceReq (rdr : Reader) (n v : Nat) (s : State) : Result :=
  if rdr ≠ .session 0 then .next (s.reply rdr .sesRights 0)
  else if 32 ≤ n then .next (s.reply rdr .genPageAbsent 0)
  else if v % 2 = 1 then .next ((s.fenceSpan n .ok).reply rdr .ok 0)
  else .next (s.reply rdr .ok 0)

end Sys2Proof.Machine
end

