-- ==== Sys2Proof/Machine/Trust.lean ====
section
/-!
DEFINITION. The security commands (R406, R407, R412, R414 to R417) and the entropy source (R405).
-/
namespace Sys2Proof.Machine
open Sys2Proof

/-! ## Arguments -/

/-- R420: a session's argument area. -/
def State.secArgs (s : State) (n : Nat) : List Byte := leBytes 480 (s.rd .secArg n)

/-- R401: bytes of the security buffer, the last 64 MiB of the manifest store. -/
def State.secBytes (s : State) (off n : Nat) : Except Status (List Byte) :=
  if s.rd .wvMstoresize 0 < 64 ∨ 2 ^ 26 < off + n then .error .secState
  else s.memRead false (s.rd .wvMstorebase 0 + s.storeBytes + off) n

/-- The length of the signature block at an offset of the buffer (R395). -/
def State.secSigLen (s : State) (off : Nat) : Except Status Nat :=
  (s.secBytes (off + 100) 4).map (fun b => 104 + leNat b)

/-- A certificate at offset 0 of the buffer (R408). -/
def State.secCert (s : State) : Except Status (List Byte) :=
  match s.secBytes 264 4 with
  | .error e => .error e
  | .ok l =>
    match s.secSigLen (268 + leNat l) with
    | .error e => .error e
    | .ok n => s.secBytes 0 (268 + leNat l + n)

/-! ## The outcome of a command (R417) -/

/-- R417, R418: the status of session n's last command. -/
def State.secEnd (s : State) (n : Nat) (st : Status) : State := s.wr .secCmdstatus n st.code

/-- R397, R417: session n may issue a command of session 0: never in CLAIM mode, but for OWNER_SET. -/
def State.maySec0 (s : State) (n : Nat) : Bool := n = 0 && !s.isClaim 0

/-- A security command: refused with SES_RIGHTS where the session may not issue it; else its status is noted. -/
def State.secCommand (s : State) (n : Nat) (may : Bool) (f : State → State × Status) : State :=
  if !may then s.reply (.session n) .sesRights 0
  else
    let (t, st) := f s
    (t.secEnd n st).reply (.session n) .ok 0

/-! ## Fuses (R414, R416) -/

/-- R416: burn an entry of the fuse log. -/
def State.burn (s : State) (n setting ordinal value : Nat) (hash : List Byte) : State :=
  let e := leBytes 1 setting ++ leBytes 1 ordinal ++ zeros 2 ++ leBytes 4 value ++ hash ++ leBytes 8 (s.sess n).subject
  (s.wr .fuseLog (s.rd .fuseLogcount 0) (leNat e)).bump .fuseLogcount 0 1

/-! ## Closing what a command closes -/

/-- R417: PSK_SET and BIND close the session that they concern. -/
def State.rebound (s : State) (n : Nat) : State := s.endSession n .rebound

/-- R415: after the RESPONSE to an OWNER_SET that succeeded, every session closes. -/
def State.ownerCloses (s : State) : State :=
  if s.sec.ownerClose then
    let s := (List.range 64).foldl (fun s n => s.endSession n .owner) s
    { s with sec := { s.sec with ownerClose := false } }
  else s

/-! ## The commands -/

/-- R415: every PSK, binding, right, publisher key and content key is cleared. -/
def State.clearTrust (s : State) : State :=
  let s := (List.range 64).foldl (fun s n =>
    (((((s.wr .tsEnabled n 0).wr .tsPskok n 0).wr .tsReadall n 0).wr .tsKeys n 0).wr .tsPskset n 0).wr .tsBindhash n 0) s
  { s with sec := { s.sec with psks := [], pubs := [], content := [] } }

/-- OWNER_SET (R414, R415). -/
def State.ownerSet (s : State) (n : Nat) : State :=
  s.secCommand n (n = 0) (fun s =>
    if 8 ≤ s.rd .fuseOwnerused 0 then (s, .secBudget)
    else
      match s.secCert with
      | .error e => (s, e)
      | .ok b =>
        if !ownerValid b then (s, .sesAuth)
        else if (List.range 64).any (fun c => s.rd .ctxState c ≠ 0) then (s, .secState)
        else
          let h := beBytes 48 (certKeyHash b)
          let s := s.burn n 1 (s.rd .fuseOwnerused 0 + 1) 0 h
          let s := ((s.bump .fuseOwnerused 0 1).wr .fuseOwnerhash 0 (leNat h)).clearTrust
          ({ s with sec := { s.sec with owner := certRecord b, ownerClose := true } }, .ok))

/-- R412: the image's header is well formed. -/
def fwFormed (h : List Byte) : Bool :=
  h.take 4 = [0x4B#8, 0x46#8, 0x57#8, 0x31#8] && fieldAt h 4 2 = 1 && fieldAt h 6 1 ≤ 127 && fieldAt h 7 1 = 0
    && fieldAt h 8 8 ≤ 48 * 2 ^ 20 && fieldAt h 112 16 = 0

/-- R412: the fused vendor firmware key record whose hash the header names. -/
def State.fwSigner (s : State) (h : List Byte) : Option (List Byte) :=
  ((List.range (s.rd .fuseVendorfw 0)).map (Config.vendorRecord true)).find? (fun r => shaBytes r = (h.drop 64).take 48)

/-- R412: check an image: its header, signature block and body; the first failure. -/
def State.fwCheck (s : State) (h sig body : List Byte) : Status :=
  if !fwFormed h ∨ body.length ≠ fieldAt h 8 8 then .secFwFormat
  else if fieldAt h 6 1 < s.rd .fuseFwepoch 0 then .secFwRollback
  else
    match s.fwSigner h with
    | none => .secFwSig
    | some r =>
      if !Config.verifies r (Config.sha384 h) sig ∨ shaBytes body ≠ (h.drop 16).take 48 then .secFwSig else .ok

/-- R412: a verified image is copied into keel memory, and a warm reset starts it. -/
def State.fwStart (s : State) (h : List Byte) : State :=
  let s : State := { s with sec := { s.sec with staged := some ((Config.sha384 h).toNat, fieldAt h 6 1) } }
  s.startWarm 6

/-- FW_LOAD (R412): the image at offset 0 of the security buffer; parts that lie beyond it make it malformed. -/
def State.fwLoad (s : State) (n : Nat) : State :=
  let outside (e : Status) : Status := if e = .secState then .secFwFormat else e
  s.secCommand n (s.maySec0 n) (fun s =>
    match s.secBytes 0 128, s.secSigLen 128 with
    | .error e, _ => (s, e)
    | .ok _, .error e => (s, outside e)
    | .ok h, .ok l =>
      match s.secBytes 128 l, s.secBytes (roundUp (128 + l) 64) (fieldAt h 8 8) with
      | .ok sig, .ok body =>
        match s.fwCheck h sig body with
        | .ok => (s.fwStart h, .ok)
        | e => (s, e)
      | .error e, _ => (s, outside e)
      | _, .error e => (s, outside e))

/-- FW_EPOCH (R414): one raise, to no more than the running image's epoch. -/
def State.fwEpoch (s : State) (n : Nat) : State :=
  s.secCommand n (s.maySec0 n) (fun s =>
    let e := s.rd .fuseFwepoch 0
    if 127 ≤ e then (s, .secBudget)
    else
      match s.sec.running with
      | none => (s, .secValue)
      | some r =>
        if r.2 < e + 1 then (s, .secValue)
        else ((s.burn n 2 (e + 1) (e + 1) (zeros 48)).wr .fuseFwepoch 0 (e + 1), .ok))

/-- POWER_LOWER (R414): a new ceiling from 1,000 W to the current one less 1 W. -/
def State.powerLower (s : State) (n : Nat) : State :=
  s.secCommand n (s.maySec0 n) (fun s =>
    let w := fieldAt (s.secArgs n) 0 2
    let k := s.rd .fuseCeilused 0
    if 4 ≤ k then (s, .secBudget)
    else if s.rd .fuseCeiling 0 ≤ w then (s, .secRaise)
    else if w < 1000 then (s, .secValue)
    else (((s.burn n 3 (k + 1) w (zeros 48)).bump .fuseCeilused 0 1).wr .fuseCeiling 0 w, .ok))

/-- PUB_ADD (R417): the PUBLISHER certificate in the security buffer. -/
def State.pubAdd (s : State) (n : Nat) : State :=
  s.secCommand n (s.maySec0 n) (fun s =>
    match s.secCert with
    | .error e => (s, e)
    | .ok b =>
      if !s.issuedValid b 4 then (s, .sesAuth)
      else if s.sec.pubs.contains (certRecord b) then (s, .ok)
      else if 16 ≤ s.sec.pubs.length then (s, .secPubFull)
      else ({ s with sec := { s.sec with pubs := s.sec.pubs ++ [certRecord b] } }, .ok))

/-- R417: a bound manifest slot names a publisher's key. -/
def State.publisherBound (s : State) (hash : List Byte) : Bool :=
  s.boundSlots.any (fun b => match s.storedMfst b with
    | .ok m => (m.drop 48).take 48 = hash
    | .error _ => false)

/-- PUB_REMOVE (R417). -/
def State.pubRemove (s : State) (n : Nat) : State :=
  s.secCommand n (s.maySec0 n) (fun s =>
    let h := (s.secArgs n).take 48
    if s.publisherBound h then (s, .secState)
    else
      match s.sec.pubs.find? (fun r => shaBytes r = h) with
      | none => (s, .secValue)
      | some r => ({ s with sec := { s.sec with pubs := s.sec.pubs.erase r } }, .ok))

/-- PSK_SET (R406, R417). -/
def State.pskSet (s : State) (n : Nat) : State :=
  s.secCommand n (s.maySec0 n) (fun s =>
    let a := s.secArgs n
    let m := fieldAt a 0 1
    let w := a.drop 16
    if m = 0 ∨ 64 ≤ m ∨ fieldAt a 1 15 ≠ 0 then (s, .secValue)
    else
      match unwrapKey w with
      | none => (s, .secUnwrap)
      | some k =>
        if w.take 16 ≠ zeros 15 ++ leBytes 1 m then (s, .secUnwrap)
        else (({ s with sec := { s.sec with psks := sput none s.sec.psks m (some k) } }.wr .tsPskset m 1).rebound m, .ok))

/-- BIND (R417, R419). -/
def State.bindSession (s : State) (n : Nat) : State :=
  s.secCommand n (s.maySec0 n) (fun s =>
    let a := s.secArgs n
    let m := fieldAt a 0 1
    let r := fieldAt a 4 4
    if m = 0 ∨ 64 ≤ m ∨ fieldAt a 1 3 ≠ 0 then (s, .secValue)
    else
      let s := (((s.wr .tsEnabled m (bitsAt r 0 1)).wr .tsPskok m (bitsAt r 1 1)).wr .tsReadall m (bitsAt r 2 1)).wr .tsKeys m (bitsAt r 3 1)
      ((s.wr .tsBindhash m (fieldAt a 8 48)).rebound m, .ok))

/-- R399, R417: session n may change the content keys of context c. -/
def State.mayKeys (s : State) (n c : Nat) : Bool := s.maySec0 n || (n ≠ 0 && s.flag .tsKeys n && c < 64 && s.owns n c)

/-- R407: a bound manifest slot of the context uses a key slot. -/
def State.keySlotBound (s : State) (c k : Nat) : Bool :=
  (List.range 4).any (fun j => match sget none s.weave.bound (4 * c + j) with
    | some b => b.keyslot = k
    | none => false)

/-- KEY_INSTALL (R406, R407). -/
def State.keyInstall (s : State) (n : Nat) : State :=
  let a := s.secArgs n
  let c := fieldAt a 0 1
  let k := fieldAt a 1 1
  s.secCommand n (s.mayKeys n c) (fun s =>
    if 64 ≤ c ∨ 16 ≤ k ∨ fieldAt a 2 14 ≠ 0 then (s, .secValue)
    else if s.keySlotBound c k then (s, .secState)
    else
      match unwrapKey (a.drop 16) with
      | none => (s, .secUnwrap)
      | some key =>
        ({ s with sec := { s.sec with content := sput none s.sec.content (c * 16 + k) (some ⟨(a.drop 16).take 16, key⟩) } }, .ok))

/-- KEY_CLEAR (R407). -/
def State.keyClear (s : State) (n : Nat) : State :=
  let a := s.secArgs n
  let c := fieldAt a 0 1
  let k := fieldAt a 1 1
  s.secCommand n (s.mayKeys n c) (fun s =>
    if 64 ≤ c ∨ 16 ≤ k then (s, .secValue)
    else if s.keySlotBound c k then (s, .secState)
    else ({ s with sec := { s.sec with content := sput none s.sec.content (c * 16 + k) none } }, .ok))

/-- R417: a write of SEC_CMD by session n. -/
def State.secCmd (s : State) (n code : Nat) : State :=
  match code with
  | 1 => s.ownerSet n
  | 2 => s.fwLoad n
  | 3 => s.fwEpoch n
  | 4 => s.powerLower n
  | 5 => s.pubAdd n
  | 6 => s.pubRemove n
  | 7 => s.pskSet n
  | 8 => s.bindSession n
  | 9 => s.keyInstall n
  | 10 => s.keyClear n
  | _ => if s.isClaim n then s.reply (.session n) .sesRights 0 else (s.secEnd n .sesOpFormat).reply (.session n) .ok 0

/-! ## The rows -/

def execOwnerSet (n : Nat) (s : State) : Result := .next (s.ownerSet n).ownerCloses
def execFwLoad (n : Nat) (s : State) : Result := .next (s.fwLoad n)
def execFwEpoch (n : Nat) (s : State) : Result := .next (s.fwEpoch n)
def execPowerLower (n : Nat) (s : State) : Result := .next (s.powerLower n)
def execPubAdd (n : Nat) (s : State) : Result := .next (s.pubAdd n)
def execPubRemove (n : Nat) (s : State) : Result := .next (s.pubRemove n)
def execPskSet (n : Nat) (s : State) : Result := .next (s.pskSet n)
def execBind (n : Nat) (s : State) : Result := .next (s.bindSession n)
def execKeyInstall (n : Nat) (s : State) : Result := .next (s.keyInstall n)
def execKeyClear (n : Nat) (s : State) : Result := .next (s.keyClear n)

/-- ENTROPY_FAILURE (R405): no key or nonce is generated, and no handshake or hail started, until a module reset; session 0 is told. -/
def execEntropyFailure (s : State) : Result :=
  if s.sec.entropyBad then .next s
  else .next ({ s with sec := { s.sec with entropyBad := true } }.raise0 0x40 .secEntropy 0 0)

/-- R402: session n acknowledges event records. -/
def State.evtAck (s : State) (n v : Nat) : State := s.wr .tsEvtwindow n (s.rd .tsEvtwindow n - v % 2 ^ 11)

/-- TS_EVTACK (R397, R402, R419): a session writes the block of session n: its own only, and not in CLAIM mode. -/
def execTsEvtack (rdr : Reader) (n v : Nat) (s : State) : Result :=
  if rdr = .session n ∧ !s.isClaim n then .next ((s.evtAck n v).reply rdr .ok 0) else .next (s.reply rdr .sesRights 0)

end Sys2Proof.Machine
end

