-- ==== Sys2Proof/Machine/RegWrite.lean ====
section
/-!
DEFINITION. Writes of the register and doorbell spaces (R12 to R14, R381, R397, R399, R466 to R470, R472 to R481, R511): who may write which field, and what the write of each does.
-/
namespace Sys2Proof.Machine
open Sys2Proof

/-! ## Rights -/

/-- The state after a command that a field's write runs. -/
def afterCmd (s : State) (r : Result) : State :=
  match r with
  | .next t => t
  | _ => s

/-- R381, R476: the pages of per-context blocks in which the owners of contexts write RWS fields. -/
def tenantPage (p : Nat) : Bool := p = 0x400 || p = 0x402 || pageGroup p = 0x408 || p = 0x420

/-- R476: a reader is entitled to write an RWS field of page p. -/
def State.entitled (s : State) (rdr : Reader) (p : Nat) : Bool :=
  match rdr with
  | .session n =>
    n = 0 || (tenantPage p && (List.range 64).any (fun c => s.owns n c)) || (0x1000 ≤ p && p < 0x1040 && s.owns n (p - 0x1000))
      || (0x440 ≤ p && p < 0x450 && s.mayQuad rdr (p - 0x440))
  | .hart h =>
    match s.ctxOfHart h with
    | some c => tenantPage p || p = 0x1000 + c
    | none => false
  | .keel => false

/-- R375: the event fields of a context page besides those of its header. -/
def Reg.ctxEvent (r : Reg) : Bool := r == .ctxEvtrate || r == .ctxEvtburst || r == .ctxEvtdest || r == .ctxEvthart || r == .ctxEvtring

/-- R476: the event and error fields of the header that are written. -/
def Reg.headEvent (r : Reg) : Bool := r == .evtPending || r == .evtMask || r == .evtRoute || r == .errValid

/-- R141, R169, R203, R224: the fields of a context's blocks that its owner and its gondola software may not write. -/
def Reg.session0Only (r : Reg) : Bool := r == .seqMaxseq || r == .seqStopbase || r == .seqStopcnt || r == .kvQuota

/-- Blocks of a context that its owner and its gondola software write. -/
def Block.tenant (b : Block) : Bool := b == .lrnCtx || b == .seqCtx || b == .kvCtx || b == .smpCtx || b == .mtrCtx

/-- R141, R360, R399, R420, R443, R470, R476, R483 to R487: a reader may write copy i of a field. -/
def State.mayWriteField (s : State) (rdr : Reader) (r : Reg) (i : Nat) : Bool :=
  match rdr with
  | .keel => r == .keelWdkick || r == .rstCmd || ((r == .evtPending || r == .errValid) && s.rd .evtRoute i = 1)
  | .session n =>
    if s.isClaim n then r == .secCmd
    else match r.info.block with
      | .tlyCmd | .mtrPeek | .secCmd => true
      | .secArg | .sess => i = n
      | .keel | .fuse => false
      | .seq => n = 0 || r == .seqPeekidx
      | .header =>
        if r.headEvent then n = 0 || (0x1000 ≤ i && s.owns n (i - 0x1000))
        else if r == .commitStaged then n = 0
        else s.entitled rdr i
      | .ctx => n = 0 || (s.owns n i && (r == .ctxClass || r == .ctxOvfmode || r == .ctxWeight || r.ctxEvent || r == .ctxCmd || r == .ctxCmdarg))
      | .quad => s.mayQuad rdr i
      | b => n = 0 || (b.tenant && !r.session0Only && s.owns n i)
  | .hart h =>
    match s.ctxOfHart h with
    | none => false
    | some c =>
      match r.info.block with
      | .tlyCmd | .mtrPeek => true
      | .header =>
        if i = 0x1000 + c then !(r == .commitStaged) else (r == .commit || r == .discard) && s.entitled rdr i
      | .ctx => i = c && (r == .ctxOvfmode || r.ctxEvent || r == .ctxCmd || r == .ctxCmdarg)
      | b => b.tenant && !r.session0Only && i = c

/-- R202, R291, R293, R324, R325, R354, R360, R463, R485: places where every write of a session is refused. -/
def State.closedTo (s : State) (n p o : Nat) : Bool :=
  p = 0x3
    || (n ≠ 0 && (p = 0x8 || (0x200 ≤ p && p ≤ 0x22F) || (0x300 ≤ p && p ≤ 0x31F) || (0x340 ≤ p && p ≤ 0x347) || p = 0x401
      || p = 0x428 || p = 0x429 || p = 0x430
      || (match blockCtx p o with
          | some c => !s.owns n c
          | none => false)))

/-! ## What the write of a field does -/

/-- A write of CTX_CMD (R357 to R361, R378, R385). -/
def State.writeCtxCmd (s : State) (rdr : Reader) (c code : Nat) : State :=
  match code with
  | 1 => afterCmd s (execCtxCreate rdr c s)
  | 2 => afterCmd s (execCtxReset rdr c s)
  | 3 => afterCmd s (execMakeResident rdr c s)
  | 4 => afterCmd s (execReleaseResidency rdr c s)
  | 5 => afterCmd s (execMap rdr ⟨c, []⟩ s)
  | 6 => afterCmd s (execUnmap rdr ⟨c, []⟩ s)
  | 7 => afterCmd s (execRingCreate rdr ⟨c, []⟩ s)
  | 8 => afterCmd s (execRingDestroy rdr c s)
  | _ => s.ctxCommand rdr c .gondola (fun s => (s, .ctxCmd))

/-- A write of TLY_CMD (R273). -/
def State.writeTlyCmd (s : State) (rdr : Reader) (code : Nat) : State :=
  match code with
  | 1 => afterCmd s (execTlyMap rdr s)
  | 2 => afterCmd s (execTlyUnmap rdr s)
  | 3 => afterCmd s (execTlySet rdr s)
  | 4 => afterCmd s (execTlySignal rdr s)
  | 5 => afterCmd s (execTlyRead rdr s)
  | _ =>
    match s.tlyGate rdr false with
    | .ok => s.tlyEnd rdr .tallyCmd
    | e => s.tlyEnd rdr e

/-- A write of FLT_CMD (R321, R325). -/
def State.writeFltCmd (s : State) (rdr : Reader) (code : Nat) : State :=
  match code with
  | 1 => afterCmd s (execFltFound rdr s)
  | 2 => afterCmd s (execFltPermit rdr s)
  | 3 => afterCmd s (execFltRevoke rdr s)
  | 4 => afterCmd s (execFltAccept rdr s)
  | 5 => afterCmd s (execFltLeave rdr s)
  | 6 => afterCmd s (execFltBarrier rdr s)
  | 7 => afterCmd s (execFltRoute rdr s)
  | _ => s.fltCommand rdr (fun s => s.fltEnd rdr .fltCmdRefused)

/-- A write of FH_CMD (R355). -/
def State.writeFhCmd (s : State) (rdr : Reader) (code : Nat) : State :=
  match code with
  | 1 => afterCmd s (execFhSetk rdr s)
  | 2 => afterCmd s (execFhDeclareFault rdr s)
  | 3 => afterCmd s (execFhResume rdr s)
  | 4 => afterCmd s (execFhReleaseWard rdr s)
  | _ => s.fhCommand rdr (fun s => (s, .fhCmdRefused))

/-- A write of PWR_CMD (R463). -/
def State.writePwrCmd (s : State) (rdr : Reader) (code : Nat) : State :=
  if code = 1 then afterCmd s (execEnterP2 rdr s)
  else (s.wr .pwrCmdstatus 0 Status.pwrCmdRefused.code).reply rdr .ok 0

/-- A write of RST_CMD (R464). -/
def State.writeRstCmd (s : State) (rdr : Reader) (code : Nat) : State :=
  if code = 1 then afterCmd s (execModuleReset rdr s)
  else if code = 2 then afterCmd s (execRstWarm rdr s)
  else s.reply rdr .pwrCmdRefused 0

/-- The write of a value to copy i of a write-only field. -/
def State.runField (s : State) (rdr : Reader) (r : Reg) (i v : Nat) : State :=
  match r with
  | .commit => if v = 1 then s.commitOne i else s
  | .stage => if v = 1 then s.stagePage i else s
  | .discard => if v = 1 then s.discardPage i else s
  | .commitStaged => if v = 1 ∧ i = 0 then s.commitStagedSet else s
  | .cluFenceReq => afterCmd s (execCluFenceReq rdr i v s)
  | .lrnLsinit => afterCmd s (execLrnLsinit rdr i v s)
  | .lrnNfset => afterCmd s (execLrnNfset rdr i v s)
  | .kvPfxrel => afterCmd s (execKvPfxrel rdr i ⟨v, []⟩ s)
  | .smpFenceReq => afterCmd s (execSmpFenceReq rdr i v s)
  | .memFenceReq => afterCmd s (execMemFenceReq rdr i v s)
  | .cxlEnable => afterCmd s (execCxlEnable rdr i v s)
  | .spnFenceReq => afterCmd s (execSpnFenceReq rdr i v s)
  | .mtrLearntok => afterCmd s (execMtrLearntok rdr i v s)
  | .tlyCmd => s.writeTlyCmd rdr v
  | .fltCmd => s.writeFltCmd rdr v
  | .fhCmd => s.writeFhCmd rdr v
  | .ctxCmd => s.writeCtxCmd rdr i v
  | .secCmd => s.secCmd rdr.num v
  | .tsEvtack => afterCmd s (execTsEvtack rdr i v s)
  | .pwrCmd => s.writePwrCmd rdr v
  | .pwrLift => afterCmd s (execPwrLift rdr v s)
  | .rstCmd => s.writeRstCmd rdr v
  | .keelWdkick => afterCmd s (execKeelWdkick rdr v s)
  | .gqStart => afterCmd s (execGqStart rdr i v s)
  | .gqStop => afterCmd s (execGqStop rdr i v s)
  | _ => s

/-- R475: write a part of an RWS field's shadow. Bit 5 of PWR_WAKEMASK reads 1 and ignores writes (R463). -/
def State.writeShadow (s : State) (q : WordPart) (w : Nat) : State :=
  let k := q.reg.key q.idx
  let old := (sget none s.cfg.shadows k).getD (s.committedVal k)
  let v := q.take old w
  let v := if q.reg = .pwrWakemask then setBits v 5 1 1 else v
  { s with cfg := { s.cfg with shadows := sput none s.cfg.shadows k (some v) } }

/-- R14: the write of a word's bits to one field by its access code, but for the write-only fields. -/
def State.writePart (s : State) (q : WordPart) (w : Nat) : State :=
  match q.reg.info.access with
  | .rws => s.writeShadow q w
  | .rw => s.wr q.reg q.idx (q.take (s.rd q.reg q.idx) w)
  | .w1c =>
    let ones := bitsAt w q.wordLsb q.width
    if q.reg = .errValid then
      (if ones = 1 then ((s.wr .errValid q.idx 0).wr .errCode q.idx 0).wr .errInfo q.idx 0 else s)
    else s.wr q.reg q.idx (s.rd q.reg q.idx - (s.rd q.reg q.idx &&& ones))
  | _ => s

/-- The place of a write-only field in the order of a word's commands (R477: COMMIT before DISCARD; a page staged by the same write is not in a
COMMIT_STAGED). -/
def Reg.cmdOrder (r : Reg) : Nat :=
  match r with
  | .stage => 5
  | .discard => 6
  | .gqStop => 5
  | _ => 0

/-- Run the commands of a word's write-only fields. -/
def State.runParts (s : State) (rdr : Reader) (ps : List WordPart) (w : Nat) : State :=
  let now := ps.filter (fun q => q.reg.info.access = .wo && q.reg.cmdOrder = 0)
  let late := ps.filter (fun q => q.reg.info.access = .wo && q.reg.cmdOrder = 5)
  let last := ps.filter (fun q => q.reg.info.access = .wo && q.reg.cmdOrder = 6)
  (now ++ late ++ last).foldl (fun s q => s.runField rdr q.reg q.idx (bitsAt w q.wordLsb q.width)) s

/-! ## Writes of words -/

/-- R14: a field whose write is not merely discarded. -/
def Access.writes : Access → Bool
  | .ro => false
  | _ => true

/-- R511: a part of a word that the writer may not write is written with another value than a read returns. -/
def State.alters (s : State) (rdr : Reader) (q : WordPart) (w : Nat) : Bool :=
  bitsAt w q.wordLsb q.width != bitsAt (s.show rdr q.reg q.idx) q.valLsb q.width

/-- R470, R413: the row of the bridle that blocks a keel write of a page. -/
def bridleRow (p : Nat) : Nat := if p = 0x438 then 3 else if p = 0x3 ∨ p = 0x40 then 8 else 0

/-- R13, R14: the parts of a word whose write is not merely discarded. COMMIT_STAGED is a reserved bit on every page but 0x0000 (R472), so a 1 written to
it is discarded. -/
def writableParts (rd p o : Nat) : List WordPart :=
  (wordParts rd p o).filter (fun q => q.reg.info.access.writes && !(q.reg == .commitStaged && q.idx != 0))

/-- R14, R511: write a word whose place is open to the writer. -/
def State.writeWord (s : State) (rdr : Reader) (p o w : Nat) : State :=
  let parts := writableParts rdr.num p o
  let mine := parts.filter (fun q => s.mayWriteField rdr q.reg q.idx)
  let others := parts.filter (fun q => !s.mayWriteField rdr q.reg q.idx)
  if rdr = .keel ∧ mine = [] then (s.bridleBlock (p * 4096 + o) (bridleRow p)).reply rdr .ok 0
  else if others.any (fun q => s.alters rdr q w) ∨ (mine = [] ∧ others ≠ []) then
    (if rdr = .keel then (s.bridleBlock (p * 4096 + o) (bridleRow p)).reply rdr .ok 0 else s.reply rdr .sesRights 0)
  else
    let s := (mine.foldl (fun s q => s.writePart q w) s).reply rdr .ok 0
    s.runParts rdr mine w

/-- R12, R468 to R470, R476, R480, R481: a write at a register address. A hart reaches only what its context's view presents. -/
def State.spaceWrite (s : State) (rdr : Reader) (addr w : Nat) : State :=
  let p := addr / 4096
  let o := addr % 4096
  if addr % 4 ≠ 0 then s.reply rdr .genAccessSize 0
  else if 8192 ≤ p then s.reply rdr .genAddrRange 0
  else if !pageExists p then s.reply rdr .genPageAbsent 0
  else
    match rdr with
    | .keel => s.writeWord rdr p o w
    | .session n =>
      if s.closedTo n p o then s.reply rdr .sesRights 0 else s.writeWord rdr p o w
    | .hart h =>
      match s.ctxOfHart h with
      | none => s.reply rdr .sesRights 0
      | some c =>
        if !viewShows c p o ∨ (p < 0x1000 ∧ 0x010 ≤ o ∧ o < 0x030) then s.reply rdr .sesRights 0
        else if p < 0x1000 ∧ o = 0x034 then s.writeWord rdr p o (w % 2 + 4 * bitsAt w 2 1)
        else s.writeWord rdr p o w

/-- R478, R397: a write at a doorbell address. The keel does not reach the doorbell space (R470). -/
def State.doorbellWrite (s : State) (rdr : Reader) (addr w : Nat) : State :=
  let r := addr / 64
  let o := addr % 64
  let claim : Bool := match rdr with
    | .session n => s.isClaim n
    | _ => false
  if rdr = .keel then s.reply rdr .ok 0
  else if addr % 4 ≠ 0 then s.reply rdr .genAccessSize 0
  else if 65536 ≤ r then s.reply rdr .genAddrRange 0
  else if claim then s.reply rdr .sesRights 0
  else if o = 0 then s.dbTailWrite rdr r w
  else if o = 4 then s.dbHeadWrite rdr r w
  else if o = 0xC ∧ bitAt w 16 then s.dbResume rdr r
  else if s.rd .dbState r = 0 then s.reply rdr .ringBusy 0
  else if !s.mayWriteCtx rdr (s.rd .dbCtx r) then s.reply rdr .sesRights 0
  else s.reply rdr .ok 0

/-! ## The rows -/

/-- REGISTER_WRITE (R14): a 32-bit write to the register space, or to the doorbell space. -/
def execRegisterWrite (rdr : Reader) (bell : Bool) (addr w : Nat) (s : State) : Result :=
  .next (if bell then s.doorbellWrite rdr addr (w % 2 ^ 32) else (s.spaceWrite rdr addr (w % 2 ^ 32)).ownerCloses)

/-- R12: a read and its answer. -/
def State.readAnswer (s : State) (rdr : Reader) (addr : Nat) : State :=
  let (t, st, v) := s.spaceRead rdr addr
  t.reply rdr st v

/-- LOW_WORD_READ (R12): a read of the low word of a 64-bit register. -/
def execLowWordRead (rdr : Reader) (addr : Nat) (s : State) : Result := .next (s.readAnswer rdr addr)

/-- HIGH_WORD_READ (R12): a read of its high word. -/
def execHighWordRead (rdr : Reader) (addr : Nat) (s : State) : Result := .next (s.readAnswer rdr addr)

/-- PAGE_STATUS_READ (R462). -/
def execPageStatusRead (rdr : Reader) (page : Nat) (s : State) : Result := .next (s.readAnswer rdr (page * 4096 + 0x008))

/-- ERR_VALID_CLEAR (R472): 1 is written to ERR_VALID. -/
def execErrValidClear (rdr : Reader) (page : Nat) (s : State) : Result := .next (s.spaceWrite rdr (page * 4096 + 0x020) 0x10000)

/-- EVT_PENDING_CLEAR (R472, R473): 1s are written to EVT_PENDING. -/
def execEvtPendingClear (rdr : Reader) (page v : Nat) (s : State) : Result := .next (s.spaceWrite rdr (page * 4096 + 0x010) (v % 2 ^ 15))

/-- COMMIT (R381). -/
def execCommit (rdr : Reader) (page : Nat) (s : State) : Result := .next (s.spaceWrite rdr (page * 4096 + 0x034) 1)

/-- STAGE (R381). -/
def execStage (rdr : Reader) (page : Nat) (s : State) : Result := .next (s.spaceWrite rdr (page * 4096 + 0x034) 2)

/-- DISCARD (R381, R475). -/
def execDiscard (rdr : Reader) (page : Nat) (s : State) : Result := .next (s.spaceWrite rdr (page * 4096 + 0x034) 4)

/-- COMMIT_STAGED (R381): on page 0x0000. -/
def execCommitStaged (rdr : Reader) (s : State) : Result := .next (s.spaceWrite rdr 0x034 8)

/-- R383: an island that adopts is at its boundary: it has no work under way that keeps it from adopting. -/
def State.mayAdopt (s : State) (isl : Nat) (ctx : Option Nat) : Bool :=
  if isl < 192 then (s.cluster isl).cur.isNone && (s.cluster isl).tiles = []
  else if 208 ≤ isl ∧ isl < 256 then
    !s.upd.chains.any (fun x => match x.desc with
      | some d => d.started && d.units.contains (isl - 208)
      | none => false)
  else if 298 ≤ isl ∧ isl < 302 then
    s.weave.plans.all (fun q => q.1 / 16 ≠ isl - 298 || (match q.2 with
      | some p => p.inprog = []
      | none => true))
  else if isl = 302 then
    match ctx with
    | some c => s.rd .seqRole c = 0 || s.seqsOf c = []
    | none => true
  else if 303 ≤ isl ∧ isl < 309 then s.rd .smpRun (isl - 303) = 0
  else true

/-- EPOCH_ADOPT (R383): an affected island adopts the committed epochs at its boundary. -/
def execEpochAdopt (isl : Nat) (ctx : Option Nat) (s : State) : Result :=
  if s.mayAdopt isl ctx then .next (s.adopt (isl, ctx)) else .next s

end Sys2Proof.Machine
end

