-- ==== Sys2Proof/Machine/Vector.lean ====
section
/-!
DEFINITION. The vector unit (R109), its derivative instructions (R122 to R124) and random bits (R211), and the tally instructions of
vector units and gondola harts (R264, R265).
-/
namespace Sys2Proof.Machine
open Sys2Proof

/-! ## A vector program -/

/-- The VECTOR tile whose program runs on cluster n. -/
def State.vecTile (s : State) (n : Nat) : Option Tile :=
  match (s.cluster n).cur with
  | none => none
  | some t => if t.stage = .under ∧ tdKind t.td = 4 ∧ s.rd .ctxState t.ctx = 2 then some t else none

/-- R109: the vector program ends: registers do not survive, and the tile's cycles are charged. -/
def State.vecEnd (s : State) (n : Nat) (t : Tile) (st : Status) (info : Nat) : State :=
  let t := { t with cycles := min 262144 ((s.core (.vector n)).cycles + s.heldCycles (.vector n)) }
  let s := (s.withdrawWait (.vector n)).setCore (.vector n) Core.idle
  (s.chargeTile n t).setCur n (some (if st = .ok then t.finish else t.fail st (info % 2 ^ 32)))

/-- R85: a tile longer than 262,144 cycles ends. -/
def State.vecTimeout (s : State) (n : Nat) (t : Tile) : State :=
  (s.setCore (.vector n) { s.core (.vector n) with cycles := 262144 }).vecEnd n t .cluVecTimeout 0

/-- R85: what a tile does next, where it does not take it beyond 262,144 cycles; otherwise it ends without doing it (log entry 48). -/
def State.vecWithin (s : State) (n : Nat) (t : Tile) (s' : State) : State :=
  if 262144 < (s'.core (.vector n)).cycles then s.vecTimeout n t else s'

/-- R109: an address of a vector program: scratch from 2^63 on, otherwise a DVA. -/
def scratchAddr (a : Nat) : Option Nat := if 2 ^ 63 ≤ a then some (a - 2 ^ 63) else none

/-- R109: an access of n bytes that does not stand at a multiple of n is misaligned (log entry 49). -/
def misaligned (a n : Nat) : Bool := n = 0 || a % n ≠ 0

/-- R109: a vector program reads n bytes. -/
def State.vecRead (s : State) (n : Nat) (t : Tile) (a len : Nat) : State × Except Status (List Byte) :=
  if misaligned a len then (s, .error .cluVecFault)
  else
    match scratchAddr a with
    | some o => (s, if o + len ≤ s.scrSlice t.ctx then .ok (readBytes (s.slot n t.slot).scratch o len) else .error .cluVecFault)
    | none => s.readDva t.ctx a len

/-- R109: a vector program writes bytes. -/
def State.vecWrite (s : State) (n : Nat) (t : Tile) (a : Nat) (bs : List Byte) : State × Status :=
  if misaligned a bs.length then (s, .cluVecFault)
  else
    match scratchAddr a with
    | some o =>
      if o + bs.length ≤ s.scrSlice t.ctx then
        (s.modSlot n t.slot (fun x => { x with scratch := writeBytes x.scratch o bs }), .ok)
      else (s, .cluVecFault)
    | none => s.dvaWrite t.ctx a bs

/-- The loads of a run of instructions: the first failure. -/
def State.vecLoads (s : State) (n : Nat) (t : Tile) : List (Nat × Nat) → State × Status
  | [] => (s, .ok)
  | (a, len) :: r =>
    match s.vecRead n t a len with
    | (s, .ok _) => s.vecLoads n t r
    | (s, .error e) => (s, e)

/-- The stores of a run of instructions: the first failure. -/
def State.vecStores (s : State) (n : Nat) (t : Tile) : List (Nat × List Byte) → State × Status
  | [] => (s, .ok)
  | (a, bs) :: r =>
    match s.vecWrite n t a bs with
    | (s, .ok) => s.vecStores n t r
    | q => q

/-- Registers after a run of standard instructions: written values are cut to their registers' widths. -/
def Core.run (c : Core) (e : CoreEffect) : Core :=
  let c := e.x.foldl (fun c p => c.writeX (p.1 % 32) p.2) c
  { c with
    pc := e.pc % 2 ^ 64
    f := e.f.foldl (fun m p => sput 0 m (p.1 % 32) (p.2 % 2 ^ 64)) c.f
    v := e.v.foldl (fun m p => sput 0 m (p.1 % 32) (p.2 % 2 ^ 8192)) c.v
    vl := e.vl
    vstart := e.vstart
    sew := e.sew
    lmul := e.lmul
    cycles := c.cycles + e.cycles }

/-- Apply a run of standard instructions to the program of a vector tile. -/
def State.vecRun (s : State) (n : Nat) (t : Tile) (e : CoreEffect) : State :=
  if (s.core (.vector n)).waitRd.isSome then s
  else if 262144 < (s.core (.vector n)).cycles + e.cycles then s.vecTimeout n t
  else
    match s.vecLoads n t e.loads with
    | (s, .ok) =>
      match s.vecStores n t e.stores with
      | (s, .ok) =>
        let s := s.setCore (.vector n) ((s.core (.vector n)).run e)
        if e.bad then s.vecEnd n t .cluVecFault 0 else s
      | (s, st) => s.vecEnd n t st 0
    | (s, st) => s.vecEnd n t st 0

/-- VECTOR (R109): the program of a VECTOR tile starts at TD_AUX with TD_OUT in a0, and runs standard instructions. The vector unit reads
it as any other data: ENT_EXEC is for gondola cores (R41). -/
def execVector (n : Nat) (eff : CoreEffect) (ecc : List (Nat × EccError)) (s : State) : Result :=
  let s := s.eccFound ecc
  match s.chosenTile n 4 with
  | some t =>
    match s.translate t.ctx (tdAux t.td) .read false with
    | .error e => .next (s.setCur n (some (t.fail e 0)))
    | .ok _ =>
      let t := { t with stage := .under }
      let c : Core := { Core.idle with running := true, pc := tdAux t.td }
      let s := (s.setCur n (some t)).setCore (.vector n) (c.writeX 10 (tdOut t.td))
      .next (s.vecRun n t eff)
  | none =>
    match s.vecTile n with
    | none => .next s
    | some t => .next (s.vecRun n t eff)

/-- CLU_VEC_TIMEOUT (R85, R265): a vector tile longer than 262,144 cycles, those of a KC.TWAIT that holds it included, ends. -/
def execCluVecTimeout (n : Nat) (s : State) : Result :=
  match s.vecTile n with
  | none => .next s
  | some t =>
    if 262144 < (s.core (.vector n)).cycles + s.heldCycles (.vector n) then .next (s.vecTimeout n t) else .next s

/-- VECTOR_ECALL (R109): ECALL ends the program: a0 zero completes the tile; otherwise, and after an illegal instruction, it fails with
CLU_VEC_FAULT. The word of an instruction of the module's own (R122, R211, R264) is none that is illegal: its own row runs it. -/
def execVectorEcall (n : Nat) (illegal : Option Nat) (s : State) : Result :=
  match s.vecTile n with
  | none => .next s
  | some t =>
    let c := s.core (.vector n)
    if c.waitRd.isSome then .next s
    else if 262144 < c.cycles then .next (s.vecTimeout n t)
    else
      match illegal with
      | some w => .next (if (kcCommand (.vector n) 0 w).isSome then s else s.vecEnd n t .cluVecFault 0)
      | none => .next (if c.readX 10 = 0 then s.vecEnd n t .ok 0 else s.vecEnd n t .cluVecFault (c.readX 10))

/-! ## Vector registers -/

/-- Element e of the register group at v, for elements of w bits. -/
def Core.elem (c : Core) (w v e : Nat) : Nat :=
  let per := 8192 / w
  bitsAt (sget 0 c.v (v + e / per)) (w * (e % per)) w

/-- Write element e of the register group at v. -/
def Core.setElem (c : Core) (w v e x : Nat) : Core :=
  let per := 8192 / w
  let r := v + e / per
  { c with v := sput 0 c.v r (setBits (sget 0 c.v r) (w * (e % per)) w x) }

/-- Write elements from vstart on; vstart returns to zero and the program goes on. -/
def Core.writeElems (c : Core) (w v : Nat) (xs : List Nat) : Core :=
  xs.zipIdx.foldl (fun c p => c.setElem w v (c.vstart + p.2) p.1) c

/-- The instruction is over: the next one, after some cycles. -/
def Core.nextInstr (c : Core) (cyc : Nat) : Core := { c with pc := c.pc + 4, vstart := 0, cycles := c.cycles + cyc }

/-- Run a vector instruction of a program that is not held by a KC.TWAIT. -/
def State.vecInstr (s : State) (n : Nat) (f : Tile → Core → State) : State :=
  match s.vecTile n with
  | none => s
  | some t => if (s.core (.vector n)).waitRd.isSome then s else s.vecWithin n t (f t (s.core (.vector n)))

/-! ## Derivatives (R122 to R124) -/

/-- The fields of a derivative descriptor (R123). -/
def ddAct (d : Nat) : Nat := bitsAt d 0 4
def ddFmt (d : Nat) : Nat := bitsAt d 4 5
def ddN (d : Nat) : Nat := bitsAt d 32 16
def ddAlpha (d : Nat) : Nat := bitsAt d 64 32
def ddCoarse (d : Nat) : Nat := bitsAt d 96 32

/-- R120: the codes whose save is a KB8 segment. -/
def keepsKb8 (a : Nat) : Bool := a = 3 || a = 4 || a = 5 || actGated a

/-- R123: a descriptor that passes its check. -/
def ddOk (d : Nat) : Bool :=
  let a := ddAct d
  1 ≤ a && a ≤ 11
  && (!(6 ≤ a && a ≤ 8) || ddFmt d ≤ 4)
  && (!keepsKb8 a || (ddN d % 16 = 0 && 64 ≤ ddN d && ddN d ≤ 256))
  && f32Finite (ddAlpha d) && f32PosNormal (ddCoarse d)

/-- R124: kept item k of the segment at address a: where its bytes lie. -/
def keptBytes (d a k : Nat) : List (Nat × Nat) :=
  let c := ddAct d
  if c = 1 ∨ c = 2 then [(a + k / 8, 1)]
  else if keepsKb8 c then [(a + k, 1), (a + ddN d + k / 16, 1)]
  else
    let w := fmtBits (ddFmt d) / 8
    [(a + k * w, w)]

/-- R124: a kept item from its bytes: a bit, or an FP32 value. -/
def keptItem (d k : Nat) (b : List Nat) : Nat :=
  let c := ddAct d
  if c = 1 ∨ c = 2 then bitsAt (b.getD 0 0) (k % 8) 1
  else if keepsKb8 c then decodeElem 0x16 (b.getD 0 0) (b.getD 1 0) (ddCoarse d)
  else decodeElem (ddFmt d) (b.getD 0 0) 0 f32One

/-- Read the pieces of an item. -/
def State.keptRead (s : State) (n : Nat) (t : Tile) : List (Nat × Nat) → State × Except Status (List Nat)
  | [] => (s, .ok [])
  | (a, w) :: r =>
    match s.vecRead n t (a % 2 ^ 64) w with
    | (s, .error e) => (s, .error e)
    | (s, .ok b) =>
      match s.keptRead n t r with
      | (s, .ok l) => (s, .ok (leNat b :: l))
      | q => q

/-- Read items k, in the order of a list. -/
def State.keptItems (s : State) (n : Nat) (t : Tile) (d a : Nat) : List Nat → State × Except Status (List Nat)
  | [] => (s, .ok [])
  | k :: r =>
    match s.keptRead n t (keptBytes d a k) with
    | (s, .error e) => (s, .error e)
    | (s, .ok b) =>
      match s.keptItems n t d a r with
      | (s, .ok l) => (s, .ok (keptItem d k b :: l))
      | q => q

/-- R124: σ, tanh, exp and Φ of an FP32 value, to the accuracy of R66; of erf it is Φ, the function of it that the table uses, that is so accurate (log entry 15). -/
def sigmaF (v : Nat) : Nat := actValue 6 0 v
def tanhF (v : Nat) : Nat := actValue 7 0 v
def phiF (v : Nat) : Nat :=
  match f32 v with
  | .nan => f32Nan
  | .inf true => 0
  | .inf false => f32One
  | _ => boundedAt 16 v

/-- R124: act′ of SILU. -/
def siluD (v : Nat) : Nat :=
  let g := sigmaF v
  f32Mul g (f32Add f32One (f32Mul v (f32Sub f32One g)))

/-- R124: act′ of GELU_TANH: 0.79788456, 0.044715 and 0.134145 as FP32 numbers. -/
def geluTanhD (v : Nat) : Nat :=
  let c := 0x3F4C422A
  let v2 := f32Mul v v
  let h := tanhF (f32Mul c (f32Add v (f32Mul 0x3D372713 (f32Mul v2 v))))
  let a := f32Mul 0x3F000000 (f32Add f32One h)
  let b := f32Mul (f32Mul 0x3F000000 v) (f32Sub f32One (f32Mul h h))
  f32Add a (f32Mul b (f32Mul c (f32Add f32One (f32Mul 0x3E095D4F v2))))

/-- R124: act′ of GELU_ERF; √(2π) as an FP32 number. -/
def geluErfD (v : Nat) : Nat :=
  let e := expF32 (f32Neg (f32Mul 0x3F000000 (f32Mul v v)))
  f32Add (phiF v) (f32Div (f32Mul v e) 0x40206C99)

/-- R124: dx from dy and a kept item. -/
def derivative (d dy y : Nat) : Nat :=
  match ddAct d with
  | 1 => if y = 1 then dy else 0
  | 2 => if y = 1 then f32Mul dy (ddAlpha d) else dy
  | 3 => f32Mul dy (geluTanhD y)
  | 4 => f32Mul dy (geluErfD y)
  | 5 => f32Mul dy (siluD y)
  | 6 => f32Mul dy (f32Mul y (f32Sub f32One y))
  | 7 => f32Mul dy (f32Sub f32One (f32Mul y y))
  | _ => f32Mul dy y

/-- R124: dg and du of a gated code. -/
def gatedDerivative (d dy g u : Nat) : Nat × Nat :=
  let a := ddAct d
  let d' := if a = 9 then siluD g else if a = 10 then geluTanhD g else if f32Lt 0 g then f32One else 0
  (f32Mul (f32Mul dy u) d', f32Mul dy (actValue (gateAct a) 0 g))

/-- KC_DACTCFG (R123): load and check a derivative descriptor. -/
def execKcDactcfg (n rs1 cyc : Nat) (s : State) : Result :=
  .next (s.vecInstr n (fun t c =>
    if c.sew ≠ 32 then s.vecEnd n t .cluVecFault 0
    else
      match s.vecRead n t (c.readX rs1) 16 with
      | (s, .error e) => s.vecEnd n t e 0
      | (s, .ok b) =>
        if ddOk (leNat b) then s.setCore (.vector n) { c.nextInstr cyc with dact := some (leNat b) }
        else s.vecEnd n t .cluVecFault Status.lrnDactConfig.code))

/-- R122: 256 elements per cycle for the codes 1, 2 and 6 to 8, and 64 for the others. -/
def dactCycles (d n : Nat) : Nat := ceilDiv n (if keepsKb8 (ddAct d) then 64 else 256)

/-- R122: register groups of the instruction that do not stand at their group's boundary are illegal. -/
def groupOk (c : Core) (regs : List Nat) : Bool := c.sew = 32 && 0 < c.lmul && regs.all (fun v => v % c.lmul = 0 && v + c.lmul ≤ 32)

/-- KC_VDACT (R124): derivatives of elements from vstart to vl - 1. -/
def execKcVdact (n vd rs1 vs2 rs2 : Nat) (s : State) : Result :=
  .next (s.vecInstr n (fun t c =>
    match c.dact with
    | none => s.vecEnd n t .cluVecFault (if groupOk c [vd, vs2] then Status.lrnDactConfig.code else 0)
    | some d =>
      if !groupOk c [vd, vs2] then s.vecEnd n t .cluVecFault 0
      else if actGated (ddAct d) then s.vecEnd n t .cluVecFault Status.lrnDactConfig.code
      else
        let es := (List.range (c.vl - c.vstart)).map (· + c.vstart)
        match s.keptItems n t d (c.readX rs1) (es.map (· + c.readX rs2)) with
        | (s, .error e) => s.vecEnd n t e 0
        | (s, .ok ys) =>
          let xs := (es.zip ys).map (fun p => derivative d (c.elem 32 vs2 p.1) p.2)
          s.setCore (.vector n) ((c.writeElems 32 vd xs).nextInstr (dactCycles d es.length))))

/-- KC_VDACTG (R124): dg and du of elements from vstart to vl - 1, to the groups at vd and vd + LMUL. -/
def execKcVdactg (n vd rs1 vs2 rs2 : Nat) (s : State) : Result :=
  .next (s.vecInstr n (fun t c =>
    match c.dact with
    | none => s.vecEnd n t .cluVecFault (if groupOk c [vd, vs2] then Status.lrnDactConfig.code else 0)
    | some d =>
      if !groupOk c [vd, vs2] ∨ 32 < vd + 2 * c.lmul then s.vecEnd n t .cluVecFault 0
      else if !actGated (ddAct d) then s.vecEnd n t .cluVecFault Status.lrnDactConfig.code
      else
        let es := (List.range (c.vl - c.vstart)).map (· + c.vstart)
        let ks := (es.map (fun e => [2 * (c.readX rs2 + e), 2 * (c.readX rs2 + e) + 1])).flatten
        match s.keptItems n t d (c.readX rs1) ks with
        | (s, .error e) => s.vecEnd n t e 0
        | (s, .ok ys) =>
          let ps := es.zipIdx.map (fun p => gatedDerivative d (c.elem 32 vs2 p.1) (ys.getD (2 * p.2) 0) (ys.getD (2 * p.2 + 1) 0))
          let c' := (c.writeElems 32 vd (ps.map (·.1))).writeElems 32 (vd + c.lmul) (ps.map (·.2))
          s.setCore (.vector n) (c'.nextInstr (dactCycles d es.length))))

/-! ## Random bits (R211) -/

/-- A random-bits instruction: each element takes the upper half of its lane's output, placed in bits [63:32] and mapped (R210). -/
def State.vecRandom (s : State) (n vd sew : Nat) (f : Nat → Nat) : State :=
  s.vecInstr n (fun t c =>
    if c.sew ≠ sew ∨ c.lmul = 0 ∨ vd % c.lmul ≠ 0 then s.vecEnd n t .cluVecFault 0
    else
      let m := c.vl - c.vstart
      let xs := (s.chosorList t.ctx (islCluster n) (genCluster n) 256 c.vstart m).map (fun o => f (o / 2 ^ 32 * 2 ^ 32))
      (s.chosorTaken (islCluster n) 256 (c.vstart + m)).setCore (.vector n) ((c.writeElems sew vd xs).nextInstr (ceilDiv m 256)))

/-- KC_VRANDB (R211): uniform bits. -/
def execKcVrandb (n vd : Nat) (s : State) : Result := .next (s.vecRandom n vd 32 (· / 2 ^ 32))

/-- KC_VRANDF (R211): FP32 uniforms. -/
def execKcVrandf (n vd : Nat) (s : State) : Result := .next (s.vecRandom n vd 32 f32Uniform)

/-- KC_VRANDO (R211): FP32 open uniforms. -/
def execKcVrando (n vd : Nat) (s : State) : Result := .next (s.vecRandom n vd 32 f32Open)

/-- KC_VRANDH (R211): BF16 uniforms. -/
def execKcVrandh (n vd : Nat) (s : State) : Result := .next (s.vecRandom n vd 16 bf16Uniform)

/-! ## Tally instructions (R264, R265) -/

/-- The context a processor runs for, while it runs. -/
def State.coreCtx (s : State) : CoreId → Option Nat
  | .vector n => (s.vecTile n).map (·.ctx)
  | .hart h => if (s.core (.hart h)).running then s.ctxOfHart h else none

/-- The bank that a processor's island translates at (R512). -/
def coreBank : CoreId → Nat
  | .vector n => bankOfIsland (islCluster n)
  | .hart h => bankOfIsland (islQuad (h / 4))

/-- The agent a processor waits as. -/
def coreAgent : CoreId → Agent
  | .vector n => .vector n
  | .hart h => .hart h

/-- Run a tally instruction of a processor that is not held: its context, the virtual ID and n. -/
def State.tallyInstr (s : State) (k : CoreId) (rs1 rs2 : Nat) (f : Nat → Nat → Nat → State) : State :=
  match s.coreCtx k with
  | none => s
  | some ctx =>
    let c := s.core k
    if c.waitRd.isSome then s
    else
      let s' := f ctx (c.readX rs1 % 65536) (c.readX rs2 % 2 ^ 32)
      match k with
      | .hart _ => s'
      | .vector n =>
        match s.vecTile n with
        | none => s'
        | some t => s.vecWithin n t s'

/-- rd takes a result, and the processor goes on. -/
def State.instrResult (s : State) (k : CoreId) (rd v : Nat) : State :=
  let c := s.core k
  s.setCore k ({ c with pc := c.pc + 4, cycles := c.cycles + 1 }.writeX rd v)

/-- R29, R259: the processor's cluster still has tile outputs to write: a signal waits until they are committed. -/
def State.signalHeld (s : State) : CoreId → Bool
  | .vector n => (s.cluster n).draining
  | .hart _ => false

/-- KC_TSIGNAL (R264): rd receives 0 or the status. The instruction starts once the cluster's earlier writes are committed (R259). -/
def execKcTsignal (k : CoreId) (rd rs1 rs2 : Nat) (s : State) : Result :=
  .next (s.tallyInstr k rs1 rs2 (fun ctx vid n =>
    if s.signalHeld k then s
    else
      let (t, st) := s.tallySignal (coreBank k) ctx vid n false
      t.instrResult k rd st.code))

/-- KC_TWAIT (R265): the processor is held until the wait completes. -/
def execKcTwait (k : CoreId) (rd rs1 rs2 : Nat) (s : State) : Result :=
  .next (s.tallyInstr k rs1 rs2 (fun ctx vid n =>
    match s.tallyWait (coreBank k) ctx vid n (coreAgent k) with
    | (t, .ok true) => t.instrResult k rd 0
    | (t, .ok false) => (t.setCore k { t.core k with waitRd := some rd, waitAt := t.now }).showHeld true k
    | (t, .error e) => t.instrResult k rd e.code))

/-- KC_TTAKE (R264): rd receives 0 or the status. -/
def execKcTtake (k : CoreId) (rd rs1 rs2 : Nat) (s : State) : Result :=
  .next (s.tallyInstr k rs1 rs2 (fun ctx vid n =>
    let (t, st) := s.tallyTake (coreBank k) ctx vid n
    t.instrResult k rd st.code))

/-- KC_TREAD (R264): rd receives the value, or bit 63 and the status. -/
def execKcTread (k : CoreId) (rd rs1 : Nat) (s : State) : Result :=
  .next (s.tallyInstr k rs1 0 (fun ctx vid _ =>
    match s.tallyRead (coreBank k) ctx vid with
    | (t, .ok v) => t.instrResult k rd v
    | (t, .error e) => t.instrResult k rd (2 ^ 63 + e.code)))

/-- TWAIT_WITHDRAW (R265): an interrupt taken by a waiting hart withdraws its wait and leaves the exception PC at the KC.TWAIT; the
hart goes on at its handler. -/
def execTwaitWithdraw (h cause handler : Nat) (s : State) : Result :=
  let c := s.core (.hart h)
  if c.running ∧ c.waitRd.isSome then
    .next ((s.withdrawWait (.hart h)).setCore (.hart h) { c with
      waitRd := none
      trap := some (cause, c.pc, 0)
      pc := handler % 2 ^ 64
      interrupt := false })
  else .next s

end Sys2Proof.Machine
end

