-- ==== Sys2Proof/Machine/Gondola.lean ====
section
/-!
DEFINITION. Loads, stores and instruction fetches of gondola harts (R12, R40 to R44, R280, R281, R335, R479 to R481).
-/
namespace Sys2Proof.Machine
open Sys2Proof

/-! ## Faults (R44, R280) -/

/-- What an access asks of its translation. -/
def hartKind : HartAccess → AccessKind
  | .load _ _ _ _ => .read
  | .store _ _ => .write
  | .fetch _ => .exec
  | .time _ => .read

/-- Its bytes: at least one, and none for a read of the time counter. -/
def hartSize : HartAccess → Nat
  | .load _ _ n _ => max 1 n
  | .store n _ => max 1 n
  | .fetch n => max 1 n
  | .time _ => 0

/-- R44: the RISC-V cause: a translation that is missing or does not permit the access is a page fault, every other failure an access fault
(log entry 71). -/
def hartCause (a : HartAccess) (st : Status) : Nat :=
  let page := st = .dvaUnmapped ∨ st = .dvaAccess ∨ st = .dvaNoncanonical
  match a with
  | .load _ _ _ _ => if page then 13 else 5
  | .store _ _ => if page then 15 else 7
  | .fetch _ => if page then 12 else 1
  | .time _ => if page then 13 else 5

/-- The hart takes the exception and goes on at its handler. -/
def State.hartTrap (s : State) (h handler : Nat) (a : HartAccess) (dva : Nat) (st : Status) : State :=
  let c := s.core (.hart h)
  s.setCore (.hart h) { c with trap := some (hartCause a st, c.pc, dva % 2 ^ 64), pc := handler % 2 ^ 64 }

/-! ## Completion -/

/-- Sign extension of a number of n bytes to 64 bits. -/
def signExtended (n v : Nat) : Nat := if 2 ^ (8 * n - 1) ≤ v then 2 ^ 64 - 2 ^ (8 * n) + v else v

/-- The hart has done with the access: a load takes its value, and the instruction of `len` bytes is over. A fetch leaves the registers as they are. -/
def State.hartDone (s : State) (h len : Nat) (a : HartAccess) (v : Nat) : State :=
  let c := s.core (.hart h)
  match a with
  | .fetch _ => s
  | .store _ _ => s.setCore (.hart h) { c with pc := (c.pc + len) % 2 ^ 64 }
  | .time rd => s.setCore (.hart h) ({ c with pc := (c.pc + len) % 2 ^ 64 }.writeX (rd % 32) (v % 2 ^ 64))
  | .load float rd n signed =>
    let c := { c with pc := (c.pc + len) % 2 ^ 64 }
    let v := if signed ∧ n < 8 then signExtended n v else v
    s.setCore (.hart h) (if float then { c with f := sput 0 c.f (rd % 32) (v % 2 ^ 64) } else c.writeX (rd % 32) (v % 2 ^ 64))

/-! ## The register and doorbell window (R479 to R481) -/

/-- R12, R468: a status that reaches a hart as an access fault: a general one, or SES_RIGHTS. -/
def Status.faultsHart (st : Status) : Bool := (st ≠ .ok && st.code < 0x100) || st = .sesRights

/-- R480: a read through section c of the window. -/
def State.windowRead (s : State) (h c off : Nat) : State × Status × Nat :=
  if off < 0x200000 then
    match viewPage c (off / 4096) with
    | none => (s, .ok, 0)
    | some p => if viewShows c p (off % 4096) then s.spaceRead (.hart h) (p * 4096 + off % 4096) else (s, .ok, 0)
  else if 0x400000 ≤ off then
    let (st, v) := s.doorbellRead (.hart h) (off - 0x400000)
    (s, st, v)
  else (s, .genAddrRange, 0)

/-- R480: a write through section c of the window. -/
def State.windowWrite (s : State) (h c off v : Nat) : State × Status :=
  let answered (s : State) : State × Status := (s, match s.cfg.answer with
    | some a => a.status
    | none => .ok)
  if off < 0x200000 then
    match viewPage c (off / 4096) with
    | none => (s, .sesRights)
    | some p => if viewShows c p (off % 4096) then answered (s.spaceWrite (.hart h) (p * 4096 + off % 4096) v) else (s, .sesRights)
  else if 0x400000 ≤ off then
    let r := (off - 0x400000) / 64
    if s.rd .dbState r = 0 ∨ s.rd .dbCtx r ≠ c then (s, .sesRights) else answered (s.doorbellWrite (.hart h) (off - 0x400000) v)
  else (s, .genAddrRange)

/-- An access to the window: an aligned load or store of 32 bits. -/
def State.windowAccess (s : State) (h len handler c : Nat) (a : HartAccess) (dva off : Nat) : State :=
  if off % 4 ≠ 0 then s.hartTrap h handler a dva .genAccessSize
  else
    match a with
    | .load _ _ 4 _ =>
      match s.windowRead h c off with
      | (s, st, v) => if st.faultsHart then s.hartTrap h handler a dva st else s.hartDone h len a v
    | .store 4 v =>
      match s.windowWrite h c off (v % 2 ^ 32) with
      | (s, st) => if st.faultsHart then s.hartTrap h handler a dva st else s.hartDone h len a 0
    | _ => s.hartTrap h handler a dva .genAccessSize

/-! ## Memory -/

/-- A load, store or fetch of near memory or the CXL tier. -/
def State.hartMemory (s : State) (h len handler c : Nat) (a : HartAccess) (dva : Nat) (ps : List (Place × Nat)) : State :=
  match a with
  | .store n v =>
    match s.writePieces c ps (leBytes (max 1 n) v) with
    | (s, .ok) => (s.markDirty c dva (max 1 n)).hartDone h len a 0
    | (s, e) => s.hartTrap h handler a dva e
  | _ =>
    match s.readPieces ps with
    | .ok b => (ps.foldl (fun s p => s.countRead (some c) (p.1.target == 1) p.1.pa p.2) s).hartDone h len a (leNat b)
    | .error .memUncorrectable => (s.poisonMet ps).hartTrap h handler a dva .memUncorrectable
    | .error e => s.hartTrap h handler a dva e

/-- GONDOLA_MEMORY_ACCESS (R44): an access of a running hart, by an instruction of `len` bytes; `handler` is where the hart goes on after an exception.
A read of the time counter reaches no memory and returns device time (R35). -/
def execGondolaMemoryAccess (h : Nat) (a : HartAccess) (dva len handler : Nat) (ecc : List (Nat × EccError)) (s : State) : Result :=
  let core := s.core (.hart h)
  if !core.running ∨ core.waitRd.isSome then .next s
  else
    match s.ctxOfHart h, a with
    | none, _ => .next s
    | some _, .time _ => .next (s.hartDone h len a s.now)
    | some c, _ =>
      match s.dvaPieces c dva (hartSize a) (hartKind a) true with
      | .error e => .next (s.hartTrap h handler a dva e)
      | .ok ps =>
        let s := s.eccFound ecc
        match ps with
        | [(p, _)] =>
          if p.target = 2 then .next (s.windowAccess h len handler c a dva (p.pa % 0x800000)) else .next (s.hartMemory h len handler c a dva ps)
        | _ =>
          if ps.any (fun p => p.1.target = 2) then .next (s.hartTrap h handler a dva .genAccessSize)
          else .next (s.hartMemory h len handler c a dva ps)

end Sys2Proof.Machine
end

