-- ==== Sys2Proof/Machine/LedgerFrames.lean ====
section
/-!
DEFINITION. A LEDGER frame received (R317): it is forwarded, or does what the message in it does when it arrives.
-/
namespace Sys2Proof.Machine
open Sys2Proof

/-- The state a meaning answers: every meaning of these answers a next state. -/
def Result.state (r : Result) (s : State) : State :=
  match r with
  | .next t => t
  | _ => s

/-- R334, R338: a member whose staging or ballast is gone: its wards' slots are EMPTY, and the partners are assigned anew. -/
def State.hearStagingLost (s : State) (m : Nat) : State :=
  if s.flag .fltIslead 0 then
    let ws := (s.flt.pairs.filter (fun p => p.2 = m)).map (·.1)
    ws.foldl (fun s w =>
      let ps := (s.flt.pairs.filter (fun p => p.1 = w)).map (·.2)
      if s.memberIds.contains w then s.propose 10 (pairBody w ps (1 < ps.length) (some m)) else s) s
  else s

/-- R344: the heir's list differs: the lead commits a down re-plan in its place. -/
def State.hearHeirLayout (s : State) : State :=
  match s.flt.recovery with
  | some (m, _, _) =>
    if s.flag .fltIslead 0 then s.propose 11 (replanBody m none (Status.fhHeirLayout.code % 256) (s.rd .fhPoint 0) none) else s
  | none => s

/-- What a message of the ledger does at the module it is for. -/
def State.hearLedger (s : State) (from_ : Asker) (msg : LedgerMsg) : State :=
  let m := match from_ with
    | .member x => x
    | .neighbour _ => 2 ^ 14
  match msg with
  | .proposal k b => (execLedgerProposal (some (m, k, b)) s).state s
  | .store e => s.storeEntry m e
  | .stored epoch term => s.storeAck m epoch term
  | .committed e => s.hearCommitted e
  | .request first => s.hearRequest from_ first
  | .snapshot e ms a st => s.hearSnapshot e ms a st
  | .keepAlive t c => s.hearKeepAlive m t c
  | .voteRequest t lt le => s.hearCandidate m t lt le
  | .voteGrant t => s.hearVote m t
  | .refused k =>
    match s.flt.command with
    | some (k', _) =>
      if k = k' then
        let s : State := { s with flt := { s.flt with command := none } }
        s.wr .fltCmdstatus 0 Status.fltCmdRefused.code
      else s
    | none => s
  | .barrierAnswer e => (execBarrierAnswer m e s).state s
  | .hail b => s.leadAdmit m b
  | .ground id st => s.hearGround id st
  | .risk l r role mir => (execRiskReport m l r role mir s).state s
  | .late r =>
    if s.flag .fltIslead 0 then
      let old := sget none s.flt.reports m
      let s : State := match old with
        | some x => { s with flt := { s.flt with reports := sput none s.flt.reports m (some { x with runstep := max x.runstep r }) } }
        | none => s
      s.reschedule s.kFlight true
    else s
  | .silence x => (execSilenceProbe x s).state s
  | .probe _ => s.reportRisk.ledgerTo m (.risk (s.rd .fhLevel 0) (s.rd .fhRunstep 0) (if s.flag .fhArm 0 then s.rd .fhRole 0 else 2) none)
  | .done step => (execSecureDoneReport m step s).state s
  | .rewound => (execRewoundReport (some m) s).state s
  | .replayed r => (execReplayReport m r s).state s
  | .stagingLost => s.hearStagingLost m
  | .heirLayout => s.hearHeirLayout

/-- SPAN_LEDGER_FRAME (R317): what the frame's payload says comes with the command (log entry 44). A frame on a span to a module that is no
member speaks for that module itself. -/
def execSpanLedgerFrame (n : Nat) (b : List Byte) (bad : Bool) (msg : Option LedgerMsg) (s : State) : Result :=
  if 32 ≤ n then .next s
  else
    match s.receive n 8 b bad with
    | (s, none) => .next s
    | (s, some p) =>
      let local_ := s.rd .spnPeerstate n ≠ fltMember || !s.flag .fltMembervalid 0
      if !local_ ∧ !s.forMe b then .next (s.forward n b p)
      else
        match msg with
        | none => .next s
        | some m =>
          if s.rd .spnPeerstate n ≠ fltMember then .next (s.hearLedger (.neighbour n) m)
          else if s.memberLost (fSrc b) then .next s
          else .next (s.hearLedger (.member (fSrc b)) m)

end Sys2Proof.Machine
end

