-- ==== Sys2Proof/Machine/Sideband.lean ====
section
/-!
DEFINITION. The sideband responder (R496, R502 to R505), firmware supplied through it (R412), and the end of a wake (R453). Messages are modelled as
commands with the values they carry; the DMTF layouts are not in the spec (log entry 66).
-/
namespace Sys2Proof.Machine
open Sys2Proof

def State.answerSideband (s : State) (c : Completion) (data : List Byte) : State := s.emit (.sideband c data)

/-! ## Commands that take effect in P0 (R504) -/

/-- R496: the board management controller confirms the feed tag. -/
def State.confirmTag (s : State) (v : Nat) : State :=
  let tag := s.rd .fltFeedtag 0
  if s.flag .fltFeedok 0 then
    (if v = tag then s.answerSideband .success []
     else (s.answerSideband .invalidData []).raise0 0x430 .fltFeedtagUnconfirmed 0 0)
  else if v = tag ∧ tag ≠ 0xFFFF then (s.wr .fltFeedok 0 1).answerSideband .success []
  else (s.answerSideband .invalidData []).raise0 0x430 .fltFeedtagUnconfirmed 0 0

/-- R412: an image supplied through PLDM: the header, the signature block, and the body at the next 64-byte boundary. -/
def imageParts (image : List Byte) : List Byte × List Byte × List Byte :=
  let l := 104 + fieldAt image 228 4
  (image.take 128, (image.drop 128).take l, image.drop (roundUp (128 + l) 64))

/-- R412: the image is checked, and one that passes waits for its activation (R503). -/
def State.supplyImage (s : State) (image : List Byte) : State :=
  let (h, sig, body) := imageParts image
  match s.fwCheck h sig body with
  | .ok =>
    let s : State := { s with sec := { s.sec with staged := some ((Config.sha384 h).toNat, fieldAt h 6 1) } }
    s.answerSideband .success []
  | e => s.answerSideband .invalidData (leBytes 2 e.code)

/-- R503: activation starts a warm reset with RST_CAUSE 6. -/
def State.activateImage (s : State) : State :=
  if s.sec.staged.isSome then (s.answerSideband .success []).startWarm 6 else s.answerSideband .invalidData []

/-- A sideband command takes effect. A module that is held off has no keel to load and nothing to reset. -/
def State.sidebandAct (s : State) (a : SidebandAct) : State :=
  match a with
  | .feedTag v => s.confirmTag v
  | .setEid v => { s with pow := { s.pow with eid := v } }.answerSideband .success []
  | .answer c d => s.answerSideband c d
  | .reset => if s.pow.heldOff then s.answerSideband .notReady [] else (s.answerSideband .success []).startModule 3
  | .pin => if s.pow.heldOff then s else s.startModule 4
  | .activate => if s.pow.heldOff then s.answerSideband .notReady [] else s.activateImage
  | .update image => if s.pow.heldOff then s.answerSideband .notReady [] else s.supplyImage image

/-- R504, R451: in P0 a command takes effect; while the module enters, is in or leaves P2 it is wake activity, and takes effect once P0 is back. -/
def State.sidebandCommand (s : State) (a : SidebandAct) : State :=
  if !s.pow.on then s
  else
    let s := if s.rd .pwrState 0 = 0 then s else s.wakeActivity 5 0
    if s.rd .pwrState 0 = 0 then s.sidebandAct a
    else { s with pow := { s.pow with deferred := s.pow.deferred ++ [a] } }

/-- An answer that the always-on domain gives in every state (R504). -/
def State.sidebandRead (s : State) (c : Completion) (data : List Byte) : State := if s.pow.on then s.answerSideband c data else s

/-! ## The bus and the base commands (R503) -/

/-- ENTDAA (R503): the target takes a dynamic address. -/
def execEntdaa (addr : Nat) (s : State) : Result :=
  if s.pow.on then .next { s with pow := { s.pow with address := some (addr % 128) } } else .next s

/-- SET_ENDPOINT_ID (R503). -/
def execSetEndpointId (eid : Nat) (s : State) : Result := .next (s.sidebandCommand (.setEid (eid % 256)))

/-- GETTID (R503): GetTID (known), or a PLDM command outside the supported sets, which is answered so. -/
def execGettid (known : Bool) (s : State) : Result :=
  .next (s.sidebandCommand (if known then .answer .success [Config.tid] else .answer .unsupportedCommand []))

/-- R503: the PLDM types that are supported: 0, 2, 4 and 5. -/
def pldmTypes : List Nat := [0, 2, 4, 5]

/-- GETPLDMTYPES (R503): one bit for each type. -/
def execGetpldmtypes (s : State) : Result :=
  .next (s.sidebandCommand (.answer .success (leBytes 8 ((pldmTypes.map (2 ^ ·)).foldl (· + ·) 0))))

/-- An answer about a PLDM type that is supported. -/
def typeAnswer (type : Nat) (data : List Byte) : SidebandAct :=
  if pldmTypes.contains type then .answer .success data else .answer .invalidData []

/-- GETPLDMCOMMANDS (R503): one bit for each command code. -/
def execGetpldmcommands (type : Nat) (s : State) : Result :=
  .next (s.sidebandCommand (typeAnswer type (leBytes 32 (Config.pldmCommands type).toNat)))

/-- GETPLDMVERSION (R503). -/
def execGetpldmversion (type : Nat) (s : State) : Result :=
  .next (s.sidebandCommand (typeAnswer type (leBytes 4 (Config.pldmVersion type).toNat)))

/-! ## Sensors, descriptors and inventory (R503, R504) -/

/-- R504: what a sensor reads: temperatures are measured; the others show registers, but for what is measured while the module is held off. The state
HELD_OFF has a code of its own after those of PWR_STATE. -/
def State.sensorValue (s : State) (id measured : Nat) : Option Nat :=
  let live (r : Reg) : Nat := if s.pow.heldOff then measured else s.rd r 0
  match id with
  | 1 => some (live .pwrVin)
  | 2 => some (live .pwrPin)
  | 3 | 4 | 5 => some measured
  | 6 => some (live .fhThermmargin)
  | 7 => some (s.rd .fhLevel 0)
  | 8 => some (if s.pow.heldOff then 4 else s.rd .pwrState 0)
  | 9 => some (s.rd .mtrState 0)
  | _ => none

/-- PLDM_SENSOR_READ (R504): in every state, and it does not wake the module. -/
def execPldmSensorRead (id measured : Nat) (s : State) : Result :=
  match s.sensorValue id measured with
  | some v => .next (s.sidebandRead .success (leBytes 4 v))
  | none => .next (s.sidebandRead .invalidData [])

/-- R504: the kinds of the sensors and effecters: numeric sensor, state sensor, numeric effecter, state effecter. -/
def pdrKind (id : Nat) : Nat := if id ≤ 7 then 0 else if id ≤ 9 then 1 else if id = 10 then 2 else 3

/-- PLDM_PDR_READ (R503): the descriptor of a sensor or effecter. -/
def execPldmPdrRead (record : Nat) (s : State) : Result :=
  if 1 ≤ record ∧ record ≤ 12 then .next (s.sidebandRead .success (leBytes 2 record ++ leBytes 1 (pdrKind record)))
  else .next (s.sidebandRead .invalidData [])

/-- PLDM_FRU_READ (R503): part code, serial number, stepping, and the cartridge's presence and serial. -/
def execPldmFruRead (s : State) : Result :=
  .next (s.sidebandRead .success (leBytes 2 (s.rd .glbPart 0) ++ leBytes 6 (s.rd .glbSerial 0) ++ leBytes 1 (s.rd .glbStepping 0)
    ++ leBytes 1 (b2n s.cart.present) ++ leBytes 8 (if s.cart.present then s.cart.serial else 0)))

/-! ## Effecters (R496, R502, R504, R505) -/

/-- FEED_TAG_CONFIRM (R496): a write of effecter 10. -/
def execFeedTagConfirm (v : Nat) (s : State) : Result := .next (s.sidebandCommand (.feedTag (v % 65536)))

/-- RESET_EFFECTER (R504): RESET starts a module reset with RST_CAUSE 3. -/
def execResetEffecter (s : State) : Result := .next (s.sidebandCommand .reset)

/-- POWER_EFFECTER_OFF (R504, R505): power is removed, also in P2 without waking and in a reset, and the module is held off. -/
def execPowerEffecterOff (s : State) : Result :=
  if !s.pow.on then .next s
  else .next (s.holdOff.answerSideband .success [])

/-- POWER_EFFECTER_ON (R502, R505): a module that is held off starts a power-on with the straps as they are, unless an island still reads 80 °C or more
(hot). Of a module that is not, nothing changes. -/
def execPowerEffecterOn (straps : Nat) (hot : Bool) (s : State) : Result :=
  if !s.pow.on then .next s
  else if !s.pow.heldOff then .next (s.sidebandCommand (.answer .success []))
  else if hot then .next (s.answerSideband .notReady [])
  else
    let a := s.pow.address
    let e := s.pow.eid
    let s := s.beginPowerOn straps
    .next ({ s with pow := { s.pow with address := a, eid := e } }.answerSideband .success [])

/-! ## Firmware (R412, R503) -/

/-- PLDM_FIRMWARE_UPDATE (R412). -/
def execPldmFirmwareUpdate (image : List Byte) (s : State) : Result := .next (s.sidebandCommand (.update image))

/-- FIRMWARE_UPDATE_ACTIVATE (R503). -/
def execFirmwareUpdateActivate (s : State) : Result := .next (s.sidebandCommand .activate)

/-! ## The end of a wake (R453, R504) -/

/-- WAKE_COMPLETE (R453): the core islands run, and PWR_STATE is P0. Sideband commands that waited take effect. -/
def execWakeComplete (s : State) : Result :=
  if s.rd .pwrState 0 ≠ 3 then .next s
  else
    let acts := s.pow.deferred
    let s := s.leaveP2
    let s : State := { s with pow := { s.pow with deferred := [] }, sec := { s.sec with kick := s.now } }
    .next (acts.foldl (fun s a => s.sidebandAct a) s)

end Sys2Proof.Machine
end

