-- ==== Sys2Proof/Machine/Handshake.lean ====
section
/-!
DEFINITION. Handshakes (R395, R396): OPEN and ACCEPT, the session keys, FINISH and READY.
-/
namespace Sys2Proof.Machine
open Sys2Proof

/-- The code of TS_STATE of a session that is not OPEN: in HANDSHAKE, or CLOSED. -/
def State.restState (s : State) (n : Nat) : State :=
  if s.isOpen n then s else s.wr .tsState n (if (s.sess n).hs.isSome then tsHandshake else tsClosed)

/-- A handshake ends; a session OPEN under the same number goes on. -/
def State.endHandshake (s : State) (n : Nat) : State := (s.setSess n { s.sess n with hs := none }).restState n

/-- R396: READY: the status, and where it is OK the confirmation. -/
def State.sendReady (s : State) (n : Nat) (st : Status) (confirm : List Byte) : State :=
  s.sendHandshake n 4 (leBytes 2 st.code ++ zeros 2 ++ (if st = .ok then confirm else []))

/-! ## OPEN (R395) -/

/-- R395: ACCEPT up to the quote's length: the module's nonce, its ephemeral public key, and the identity certificate. -/
def acceptHead (mode nonce eph : Nat) : List Byte :=
  beBytes 32 nonce ++ (if mode = 1 then zeros 97 else publicBytes eph) ++ zeros 3
    ++ leBytes 4 Config.identityCert.length ++ Config.identityCert

/-- R395, R405, R411: an OPEN message: it supersedes a handshake of the same session and is answered with ACCEPT. With the signatures spent the
handshake fails (log entry 67). -/
def State.takeOpen (s : State) (n : Nat) (m : List Byte) : State :=
  if m.length ≠ 133 ∨ fieldAt m 1 3 ≠ 0 ∨ s.sec.entropyBad then s
  else
    let mode := fieldAt m 0 1
    let (s, nonce) := s.draw 256
    let (s, eph) := if mode = 1 then (s, 0) else s.freshKey
    let head := acceptHead mode nonce eph
    match s.quote (shaBytes (m ++ head)) with
    | (s, none) => (s.endHandshake n).sendReady n .secLmsExhausted []
    | (s, some q) =>
      let a := head ++ leBytes 4 q.length ++ q
      let s := (s.setSess n { s.sess n with hs := some ⟨mode, m, a, eph, s.now⟩ }).restState n
      s.sendHandshake n 2 a

/-! ## The session keys (R395) -/

/-- The transcript hash th. -/
def Handshake.th (h : Handshake) : List Byte := shaBytes (h.opened ++ h.accepted)

/-- The shared secret z: the session's PSK in PSK mode, else the ECDH secret. -/
def State.handshakeSecret (s : State) (n : Nat) (h : Handshake) : List Byte :=
  if h.mode = 1 then
    match sget none s.sec.psks n with
    | some k => beBytes 32 k
    | none => []
  else ecdhBytes h.eph ((h.opened.drop 36).take 97)

/-- The pseudorandom key prk. -/
def State.handshakePrk (s : State) (n : Nat) (h : Handshake) : List Byte :=
  extractBytes ((h.opened.drop 4).take 32 ++ h.accepted.take 32) (s.handshakeSecret n h)

/-- A confirmation key of 48 bytes. -/
def confirmKey (prk th : List Byte) (label : String) : List Byte := beBytes 48 (Config.hkdfExpand 48 prk (asciiBytes label ++ th)).toNat

/-- The key and salt of a direction, under the first phase with its counter at 0. -/
def directionKey (prk th : List Byte) (label : String) : SpanKey := keyOf (Config.hkdfExpand 36 prk (asciiBytes label ++ th)) false

/-- HMAC-SHA-384 as 48 bytes. -/
def hmacBytes (k m : List Byte) : List Byte := beBytes 48 (Config.hmac k m).toNat

/-! ## FINISH (R396) -/

/-- R396: the mode is permitted for the session. -/
def State.modePermitted (s : State) (n mode : Nat) : Bool :=
  (n = 0 || s.flag .tsEnabled n)
    && (mode = 0 || (mode = 1 && s.flag .tsPskok n && (sget none s.sec.psks n).isSome) || (mode = 2 && n = 0 && s.rd .fuseOwnerused 0 = 0))

/-- The certificate and the signature block of a FINISH in CERT mode. -/
def finishCert (m : List Byte) : List Byte × List Byte := ((m.drop 4).take (fieldAt m 0 4), m.drop (4 + fieldAt m 0 4))

/-- R396: the certificate is that of the session. -/
def State.certFits (s : State) (n : Nat) (c : List Byte) : Bool :=
  if n = 0 then certFormed c 2 && s.rd .fuseOwnerused 0 ≠ 0 && certKeyHash c = s.ownerHash
  else s.issuedValid c 3 && certKeyHash c = beNat (leBytes 48 (s.rd .tsBindhash n))

/-- R396: the checks of FINISH in their order; every failure is SES_AUTH. -/
def State.finishVerifies (s : State) (n : Nat) (h : Handshake) (m : List Byte) : Bool :=
  s.modePermitted n h.mode
    && (if h.mode = 0 then
          let (c, sig) := finishCert m
          s.certFits n c && Config.verifies (certRecord c) (Config.sha384 (h.opened ++ h.accepted)) sig
        else if h.mode = 1 then m = hmacBytes (confirmKey (s.handshakePrk n h) h.th "kerilo tether fc") h.th
        else m = [])

/-- R396: the session is OPEN under new keys; READY carries counter 0. -/
def State.openSession (s : State) (n : Nat) (h : Handshake) (m : List Byte) : State :=
  let prk := s.handshakePrk n h
  let th := h.th
  let subject := if h.mode = 0 then certSubject (finishCert m).1 else 0
  let s := if s.isOpen n then s.closeSession n .replaced else s
  let s := s.setSess n { Session.none with
    rx := directionKey prk th "kerilo tether cm"
    tx := { directionKey prk th "kerilo tether mc" with count := 1 }
    subject := subject }
  let s := ((s.wr .tsState n tsOpen).wr .tsMode n h.mode).bump .tsOpens n 1
  let s := (((s.wr .tsPort n (s.homeOf n)).wr .tsKeyphase n 0).wr .tsRxctr n 0).wr .tsTxctr n 0
  let s := s.wr .tsEvtwindow n 0
  s.sendReady n .ok (hmacBytes (confirmKey prk th "kerilo tether fm") (shaBytes (h.opened ++ h.accepted ++ m)))

/-- R396: a FINISH message, within 1 s of ACCEPT. -/
def State.takeFinish (s : State) (n : Nat) (m : List Byte) : State :=
  match (s.sess n).hs with
  | none => s
  | some h =>
    if h.at_ + 1000000000 ≤ s.now then s.endHandshake n
    else if s.finishVerifies n h m then (s.setSess n { s.sess n with hs := none }).openSession n h m
    else (s.endHandshake n).sendReady n .sesAuth []

/-! ## Fragments (R395) -/

/-- R395: a fragment of a handshake message is well formed, and of a kind that the control node sends. -/
def fragmentFormed (pay : List Byte) : Bool :=
  4 ≤ pay.length && (fieldAt pay 0 1 = 1 || fieldAt pay 0 1 = 3) && 1 ≤ fieldAt pay 2 1 && fieldAt pay 2 1 ≤ 8
    && fieldAt pay 1 1 < fieldAt pay 2 1 && fieldAt pay 3 1 = 0

/-- The fragments that a session holds, with one more: a fragment of another message, or one that is there already, starts anew. -/
def Session.withFragment (x : Session) (pay : List Byte) : Nat × Nat × Sparse (Option (List Byte)) :=
  let kind := fieldAt pay 0 1
  let cnt := fieldAt pay 2 1
  let i := fieldAt pay 1 1
  let (k, c, fs) := x.frags
  let fs := if k = kind ∧ c = cnt ∧ (sget Option.none fs i).isNone then fs else []
  (kind, cnt, sput Option.none fs i (some (pay.drop 4)))

/-- R395: a HANDSHAKE payload; the message it completes is taken. -/
def State.handshakeFragment (s : State) (n : Nat) (pay : List Byte) : State :=
  if !fragmentFormed pay then s
  else
    let (kind, cnt, fs) := (s.sess n).withFragment pay
    let parts := (List.range cnt).filterMap (fun i => sget none fs i)
    if parts.length < cnt then s.setSess n { s.sess n with frags := (kind, cnt, fs) }
    else
      let s := s.setSess n { s.sess n with frags := (0, 0, []) }
      if kind = 1 then s.takeOpen n parts.flatten else s.takeFinish n parts.flatten

end Sys2Proof.Machine
end

