-- ==== Sys2Proof/Machine/Tether.lean ====
section
/-!
DEFINITION. The commands of the tether: ports, links, handshakes, and what a session's frames do (R387 to R404, R451).
-/
namespace Sys2Proof.Machine
open Sys2Proof

/-! ## Ports (R388, R389, R392) -/

/-- TETHER_LIGHT (R388): light on a port that is DARK or DOWN, and it trains. -/
def execTetherLight (p : Nat) (s : State) : Result :=
  if p < 2 ∧ (s.portState p = tpDark ∨ s.portState p = tpDown) then .next (s.wr (portReg p) 0 tpTraining) else .next s

/-- TETHER_FEC_LOCK (R388): a port in TRAINING is UP. -/
def execTetherFecLock (p : Nat) (s : State) : Result :=
  if p < 2 ∧ s.portState p = tpTraining then .next (s.portComesUp p) else .next s

/-- TETHER_DOWN (R388, R389): no frame for 1 ms: the port is DOWN, and its sessions move. -/
def execTetherDown (p : Nat) (s : State) : Result :=
  if s.portUp p ∧ (s.port p).lastRx + 1000000 ≤ s.now then .next (s.wr (portReg p) 0 tpDown).rehome else .next s

/-- TETHER_LINK_SEND (R388): an UP port sends a LINK frame. -/
def execTetherLinkSend (p : Nat) (s : State) : Result := if s.portUp p then .next (s.sendTethLink p) else .next s

/-- R391, R392: what a LINK frame does: it acknowledges, returns credit, and may NAK a number. -/
def State.takeTethLink (s : State) (p : Nat) (b : List Byte) : State :=
  let x := (s.port p).acked (tfLack b) s.now
  let nak := fieldAt b 24 4
  let s := (s.setPort p { x with credit := x.credit + fieldAt b 28 4, lastRx := s.now }).bump .tethRxframes 0 1
  let s := if nak = 0xFFFFFFFF then s else s.replayPort p (x.sent.dropWhile (fun f => f.lseq ≠ nak))
  s.pumpPort p

/-- TETHER_LINK_FRAME (R390, R392): a LINK frame is received. -/
def execTetherLinkFrame (p : Nat) (b : List Byte) (bad : Bool) (s : State) : Result :=
  if !s.portUp p then .next s
  else if bad then .next (s.nakPort p (s.port p).expect)
  else if tfCorrupt b then .next ((s.bump .tethCorrupt 0 1).nakPort p (s.port p).expect)
  else if !tfFormed b tfLink ∨ tfLen b ≠ 8 then .next s
  else .next (s.takeTethLink p b)

/-- TETHER_REPLAY_TIMEOUT (R392): no acknowledgement for 50 µs: the port replays from its oldest unacknowledged frame. -/
def execTetherReplayTimeout (p : Nat) (s : State) : Result :=
  let x := s.port p
  if s.portUp p ∧ x.sent ≠ [] ∧ x.lastAck + 50000 ≤ s.now then
    .next ((s.setPort p { x with lastAck := s.now }).replayPort p x.sent)
  else .next s

/-! ## Sessions (R393, R394, R396) -/

/-- SESSION_GAP_TIMEOUT (R393): a gap open for 100 ms closes the session. -/
def execSessionGapTimeout (n : Nat) (s : State) : Result :=
  match (s.sess n).gapAt with
  | none => .next s
  | some t => if t + 100000000 ≤ s.now then .next (s.endSession n .gap) else .next s

/-- TETHER_KEY_ROLLOVER (R394): the sending counter of an OPEN session has reached 2^40. -/
def execTetherKeyRollover (n : Nat) (s : State) : Result :=
  if s.isOpen n ∧ 2 ^ 40 ≤ (s.sess n).tx.count then .next (s.rollover n) else .next s

/-- HANDSHAKE_TIMEOUT (R396): no FINISH 1 s after ACCEPT. -/
def execHandshakeTimeout (n : Nat) (s : State) : Result :=
  match (s.sess n).hs with
  | none => .next s
  | some h => if h.at_ + 1000000000 ≤ s.now then .next (s.endHandshake n) else .next s

/-! ## REQUEST (R400) -/

/-- R400: an operation of a REQUEST is well formed. -/
def opFormed (o : List Byte) : Bool :=
  let k := fieldAt o 0 1
  (k % 16 = 1 || k % 16 = 2) && k / 16 < 2 && fieldAt o 1 3 = 0 && fieldAt o 12 4 = 0

/-- The operations of a REQUEST. -/
def requestOps (pay : List Byte) : List (List Byte) :=
  (List.range (fieldAt pay 4 2)).map (fun i => (pay.drop (8 + 16 * i)).take 16)

/-- R400: a REQUEST is well formed. -/
def requestFormed (pay : List Byte) : Bool :=
  let k := fieldAt pay 4 2
  1 ≤ k && k ≤ 512 && fieldAt pay 6 2 = 0 && pay.length = 8 + 16 * k && (requestOps pay).all opFormed

/-- R400: one operation: its status and the value read. -/
def State.requestOp (s : State) (n : Nat) (o : List Byte) : State × Status × Nat :=
  let k := fieldAt o 0 1
  let addr := fieldAt o 4 4
  if k % 16 = 1 then
    if k / 16 = 0 then s.spaceRead (.session n) addr
    else
      let (st, v) := s.doorbellRead (.session n) addr
      (s, st, v)
  else
    let s := if k / 16 = 0 then s.spaceWrite (.session n) addr (fieldAt o 8 4) else s.doorbellWrite (.session n) addr (fieldAt o 8 4)
    match s.cfg.answer with
    | some a => (s, a.status, 0)
    | none => (s, .ok, 0)

/-- R400: an operation's 8 bytes in the RESPONSE. -/
def responseOp (st : Status) (v : Nat) : List Byte := leBytes 2 st.code ++ zeros 2 ++ leBytes 4 v

/-- R400: operations take effect one after another; none begins once the session has closed. -/
def State.requestRun (s : State) (n : Nat) : List (List Byte) → State × List Byte
  | [] => (s, [])
  | o :: t =>
    if !s.isOpen n then (s, [])
    else
      let (s, st, v) := s.requestOp n o
      let (s, r) := s.requestRun n t
      (s, responseOp st v ++ r)

/-- R400, R415: a REQUEST and its RESPONSE. -/
def State.takeRequest (s : State) (n : Nat) (pay : List Byte) : State :=
  let head := (pay ++ zeros 8).take 8
  if requestFormed pay then
    let (s, r) := s.requestRun n (requestOps pay)
    (s.sessionSend n tfResponse (head ++ r)).ownerCloses
  else
    s.sessionSend n tfResponse (head ++ ((List.range (min (fieldAt pay 4 2) 512)).map (fun _ => responseOp .sesOpFormat 0)).flatten)

/-! ## Bulk frames (R401) -/

/-- R391: an ERROR frame. -/
def State.sendError (s : State) (n ctr : Nat) (st : Status) : State :=
  s.sessionSend n tfError (leBytes 8 ctr ++ leBytes 2 st.code ++ zeros 6)

/-- R401: a BULK_WRITE to the security buffer. -/
def State.bulkSecbuf (s : State) (n off : Nat) (data : List Byte) : State × Status :=
  if n ≠ 0 then (s, .sesRights)
  else if s.rd .wvMstoresize 0 < 64 then (s, .secState)
  else if 2 ^ 26 < off + data.length then (s, .secValue)
  else s.memWrite false (s.rd .wvMstorebase 0 + s.storeBytes + off) data

/-- R401, R397: what a bulk frame may reach: a live context that the session owns, and no context under CLAIM. -/
def State.bulkMay (s : State) (n c : Nat) : Status :=
  if s.isClaim n ∨ !s.owns n c then .sesRights else if !s.ctxLive c then .dvaUnmapped else .ok

/-- R401: a BULK_WRITE; a failure is answered with ERROR. -/
def State.takeBulkWrite (s : State) (n ctr : Nat) (pay : List Byte) : State :=
  let h := fieldAt pay 0 1
  let k := fieldAt pay 4 4
  let at_ := fieldAt pay 8 8
  let data := pay.drop 16
  let (s, st) :=
    if 128 ≤ h ∨ fieldAt pay 1 3 ≠ 0 ∨ k = 0 ∨ 8192 < k ∨ pay.length ≠ 16 + k then (s, .sesOpFormat)
    else if bitAt h 6 then s.bulkSecbuf n at_ data
    else
      match s.bulkMay n (h % 64) with
      | .ok => s.dvaWrite (h % 64) at_ data
      | e => (s, e)
  if st = .ok then s else s.sendError n ctr st

/-- R401: BULK_DATA frames in ascending address order, of at most 8,192 bytes. -/
def State.sendBulkData (s : State) (n c dva : Nat) (data : List Byte) : State :=
  (List.range (ceilDiv data.length 8192)).foldl (fun s i =>
    let part := (data.drop (8192 * i)).take 8192
    s.sessionSend n tfBulkData (leBytes 1 c ++ zeros 3 ++ leBytes 4 part.length ++ leBytes 8 (dva + 8192 * i) ++ part)) s

/-- R401: a BULK_READ. -/
def State.takeBulkRead (s : State) (n ctr : Nat) (pay : List Byte) : State :=
  let c := fieldAt pay 0 1
  let k := fieldAt pay 4 4
  let dva := fieldAt pay 8 8
  if 64 ≤ c ∨ fieldAt pay 1 3 ≠ 0 ∨ k = 0 ∨ 2 ^ 20 < k ∨ pay.length ≠ 16 then s.sendError n ctr .sesOpFormat
  else
    match s.bulkMay n c with
    | .ok =>
      match s.readDva c dva k with
      | (s, .ok data) => s.sendBulkData n c dva data
      | (s, .error e) => s.sendError n ctr e
    | e => s.sendError n ctr e

/-! ## ATTEST (R403) -/

/-- R403, R411: an ATTEST is answered with a QUOTE; with the signatures spent, with an ERROR. -/
def State.takeAttest (s : State) (n ctr : Nat) (pay : List Byte) : State :=
  if pay.length ≠ 48 then s.sendError n ctr .sesOpFormat
  else
    match s.quote pay with
    | (s, some q) => s.sessionSend n tfQuote q
    | (s, none) => s.sendError n ctr .secLmsExhausted

/-! ## The frames of a session -/

/-- What a frame of an OPEN session does, by its type. Types that only the module sends do nothing. -/
def State.takePayload (s : State) (n ty ctr : Nat) (pay : List Byte) : State :=
  match ty with
  | 2 => s.takeRequest n pay
  | 4 => s.takeBulkWrite n ctr pay
  | 5 => s.takeBulkRead n ctr pay
  | 8 => s.takeAttest n ctr pay
  | 10 => s.closeSession n .close
  | 11 => s.setSess n { s.sess n with rxUpdate := true }
  | _ => s

/-- R393: a frame in counter order takes effect. -/
def State.sessionFrame (s : State) (b : List Byte) : State :=
  match s.sessionReceive b with
  | (s, some pay) => s.takePayload (tfSession b) (tfType b) (tfCtr b) pay
  | (s, none) => s

/-- R393: the frames held behind a gap that has closed, in counter order. -/
def State.drainSession (s : State) (n : Nat) : Nat → State
  | 0 => s
  | fuel + 1 =>
    match s.takeHeld n with
    | (s, none) => s
    | (s, some b) => (s.sessionFrame b).drainSession n fuel

/-- R390 to R393, R451: a frame of a type other than LINK and METROLOGY on a port. On a port in LISTEN it wakes the module and is not received. -/
def State.tetherFrame (s : State) (p ty : Nat) (b : List Byte) (bad : Bool) : State :=
  if p < 2 ∧ s.portState p = tpListen then
    (if bad ∨ !tfFormed b ty then s else s.wakeActivity 1 p)
  else
    match s.portReceive p ty b bad with
    | (s, false) => s
    | (s, true) =>
      if ty = tfHandshake then s.handshakeFragment (tfSession b) ((b.drop 24).take (tfLen b))
      else (s.sessionFrame b).drainSession (tfSession b) 64

/-- TETHER_KEY_UPDATE (R394). -/
def execTetherKeyUpdate (p : Nat) (b : List Byte) (bad : Bool) (s : State) : Result := .next (s.tetherFrame p tfKeyUpdate b bad)

/-- HANDSHAKE_OPEN (R395): a HANDSHAKE frame that carries an OPEN message. -/
def execHandshakeOpen (p : Nat) (b : List Byte) (bad : Bool) (s : State) : Result := .next (s.tetherFrame p tfHandshake b bad)

/-- HANDSHAKE_FINISH (R396): a HANDSHAKE frame that carries a FINISH message or a part of it. -/
def execHandshakeFinish (p : Nat) (b : List Byte) (bad : Bool) (s : State) : Result := .next (s.tetherFrame p tfHandshake b bad)

/-- REQUEST (R400). -/
def execRequest (p : Nat) (b : List Byte) (bad : Bool) (s : State) : Result := .next (s.tetherFrame p tfRequest b bad)

/-- BULK_WRITE (R401): with the errors that the write's read of a granule meets. -/
def execBulkWrite (p : Nat) (b : List Byte) (bad : Bool) (ecc : List (Nat × EccError)) (s : State) : Result :=
  .next ((s.eccFound ecc).tetherFrame p tfBulkWrite b bad)

/-- BULK_READ (R401): with the errors that the read meets. -/
def execBulkRead (p : Nat) (b : List Byte) (bad : Bool) (ecc : List (Nat × EccError)) (s : State) : Result :=
  .next ((s.eccFound ecc).tetherFrame p tfBulkRead b bad)

/-- ATTEST (R403). -/
def execAttest (p : Nat) (b : List Byte) (bad : Bool) (s : State) : Result := .next (s.tetherFrame p tfAttest b bad)

/-- SESSION_CLOSE (R398): CLOSE from the control node. -/
def execSessionClose (p : Nat) (b : List Byte) (bad : Bool) (s : State) : Result := .next (s.tetherFrame p tfClose b bad)

end Sys2Proof.Machine
end

