-- ==== Sys2Proof/Machine/Dispatch.lean ====
section
/-!
DEFINITION. One arm for each command: exec gives each command its meaning.
-/
namespace Sys2Proof.Machine
open Sys2Proof

/-- The effect of a command on everything but the queue. -/
def exec (i : Instr) (s : State) : Host.Outcome State Fault Refusal :=
  match i with
  | .registerWrite rdr bell addr w => Sys2Proof.Machine.execRegisterWrite rdr bell addr w s
  | .lowWordRead rdr addr => Sys2Proof.Machine.execLowWordRead rdr addr s
  | .highWordRead rdr addr => Sys2Proof.Machine.execHighWordRead rdr addr s
  | .pageStatusRead rdr page => Sys2Proof.Machine.execPageStatusRead rdr page s
  | .errValidClear rdr page => Sys2Proof.Machine.execErrValidClear rdr page s
  | .evtPendingClear rdr page v => Sys2Proof.Machine.execEvtPendingClear rdr page v s
  | .commit rdr page => Sys2Proof.Machine.execCommit rdr page s
  | .stage rdr page => Sys2Proof.Machine.execStage rdr page s
  | .discard rdr page => Sys2Proof.Machine.execDiscard rdr page s
  | .commitStaged rdr => Sys2Proof.Machine.execCommitStaged rdr s
  | .epochAdopt isl ctx => Sys2Proof.Machine.execEpochAdopt isl ctx s
  | .frequencyChange isl freq volt => Sys2Proof.Machine.execFrequencyChange isl freq volt s
  | .devtimeRefFault => Sys2Proof.Machine.execDevtimeRefFault s
  | .devtimeWrap => Sys2Proof.Machine.execDevtimeWrap s
  | .taskEntryTake ring ecc => Sys2Proof.Machine.execTaskEntryTake ring ecc s
  | .taskPlace ctx => Sys2Proof.Machine.execTaskPlace ctx s
  | .tileBoundary clu ecc => Sys2Proof.Machine.execTileBoundary clu ecc s
  | .deferredTileRun clu ecc => Sys2Proof.Machine.execDeferredTileRun clu ecc s
  | .matmul clu stop ecc => Sys2Proof.Machine.execMatmul clu stop ecc s
  | .attn clu stop ecc => Sys2Proof.Machine.execAttn clu stop ecc s
  | .copyIn clu ecc => Sys2Proof.Machine.execCopyIn clu ecc s
  | .copyOut clu ecc => Sys2Proof.Machine.execCopyOut clu ecc s
  | .vector clu eff ecc => Sys2Proof.Machine.execVector clu eff ecc s
  | .tallyTile clu slot => Sys2Proof.Machine.execTallyTile clu slot s
  | .fenceTile clu => Sys2Proof.Machine.execFenceTile clu s
  | .tileComplete clu slot => Sys2Proof.Machine.execTileComplete clu slot s
  | .epilogueDrain clu ecc => Sys2Proof.Machine.execEpilogueDrain clu ecc s
  | .cluFenceReq rdr clu v => Sys2Proof.Machine.execCluFenceReq rdr clu v s
  | .cluVecTimeout clu => Sys2Proof.Machine.execCluVecTimeout clu s
  | .vectorEcall clu illegal => Sys2Proof.Machine.execVectorEcall clu illegal s
  | .kcDactcfg clu rs1 cyc => Sys2Proof.Machine.execKcDactcfg clu rs1 cyc s
  | .kcVdact clu vd rs1 vs2 rs2 => Sys2Proof.Machine.execKcVdact clu vd rs1 vs2 rs2 s
  | .kcVdactg clu vd rs1 vs2 rs2 => Sys2Proof.Machine.execKcVdactg clu vd rs1 vs2 rs2 s
  | .kcVrandb clu vd => Sys2Proof.Machine.execKcVrandb clu vd s
  | .kcVrandf clu vd => Sys2Proof.Machine.execKcVrandf clu vd s
  | .kcVrando clu vd => Sys2Proof.Machine.execKcVrando clu vd s
  | .kcVrandh clu vd => Sys2Proof.Machine.execKcVrandh clu vd s
  | .kcTsignal core rd rs1 rs2 => Sys2Proof.Machine.execKcTsignal core rd rs1 rs2 s
  | .kcTwait core rd rs1 rs2 => Sys2Proof.Machine.execKcTwait core rd rs1 rs2 s
  | .kcTtake core rd rs1 rs2 => Sys2Proof.Machine.execKcTtake core rd rs1 rs2 s
  | .kcTread core rd rs1 => Sys2Proof.Machine.execKcTread core rd rs1 s
  | .twaitWithdraw hart cause handler => Sys2Proof.Machine.execTwaitWithdraw hart cause handler s
  | .updateEntryTake ring ecc => Sys2Proof.Machine.execUpdateEntryTake ring ecc s
  | .norm chain ecc => Sys2Proof.Machine.execNorm chain ecc s
  | .adamw chain ecc => Sys2Proof.Machine.execAdamw chain ecc s
  | .lion chain ecc => Sys2Proof.Machine.execLion chain ecc s
  | .sgdm chain ecc => Sys2Proof.Machine.execSgdm chain ecc s
  | .convert chain ecc => Sys2Proof.Machine.execConvert chain ecc s
  | .stepClose chain ecc => Sys2Proof.Machine.execStepClose chain ecc s
  | .updateChunk chain ecc => Sys2Proof.Machine.execUpdateChunk chain ecc s
  | .updateDescComplete chain => Sys2Proof.Machine.execUpdateDescComplete chain s
  | .lrnLsinit rdr ctx v => Sys2Proof.Machine.execLrnLsinit rdr ctx v s
  | .lrnNfset rdr ctx v => Sys2Proof.Machine.execLrnNfset rdr ctx v s
  | .secureCapture => Sys2Proof.Machine.execSecureCapture s
  | .submit ring ecc => Sys2Proof.Machine.execSubmit ring ecc s
  | .cancel ring => Sys2Proof.Machine.execCancel ring s
  | .pause ring => Sys2Proof.Machine.execPause ring s
  | .resume ring => Sys2Proof.Machine.execResume ring s
  | .release ring => Sys2Proof.Machine.execRelease ring s
  | .loadStopset ring => Sys2Proof.Machine.execLoadStopset ring s
  | .seqEntryKind ring => Sys2Proof.Machine.execSeqEntryKind ring s
  | .stepTallyDone ctx => Sys2Proof.Machine.execStepTallyDone ctx s
  | .stepBoundary ctx upd => Sys2Proof.Machine.execStepBoundary ctx upd s
  | .idleBoundary ctx => Sys2Proof.Machine.execIdleBoundary ctx s
  | .heldStepResume ctx => Sys2Proof.Machine.execHeldStepResume ctx s
  | .followerReport ctx member room freed => Sys2Proof.Machine.execFollowerReport ctx member room freed s
  | .followerReportTimeout ctx => Sys2Proof.Machine.execFollowerReportTimeout ctx s
  | .mirrorConfirmed ctx => Sys2Proof.Machine.execMirrorConfirmed ctx s
  | .listChangesCommit ctx => Sys2Proof.Machine.execListChangesCommit ctx s
  | .kvPfxrel rdr ctx v => Sys2Proof.Machine.execKvPfxrel rdr ctx v s
  | .cowWait clu => Sys2Proof.Machine.execCowWait clu s
  | .spillComplete idx entry => Sys2Proof.Machine.execSpillComplete idx entry s
  | .fillComplete idx entry => Sys2Proof.Machine.execFillComplete idx entry s
  | .samplerRow u ctx row ecc => Sys2Proof.Machine.execSamplerRow u ctx row ecc s
  | .samplerMerge ctx ecc => Sys2Proof.Machine.execSamplerMerge ctx ecc s
  | .smpFenceReq rdr u v => Sys2Proof.Machine.execSmpFenceReq rdr u v s
  | .weavePlanStart ring => Sys2Proof.Machine.execWeavePlanStart ring s
  | .nop eng plan => Sys2Proof.Machine.execNop eng plan s
  | .copy eng plan rem ecc => Sys2Proof.Machine.execCopy eng plan rem ecc s
  | .accum eng plan ecc => Sys2Proof.Machine.execAccum eng plan ecc s
  | .weaveWait eng plan => Sys2Proof.Machine.execWeaveWait eng plan s
  | .weaveSignal eng plan => Sys2Proof.Machine.execWeaveSignal eng plan s
  | .dispatch eng plan ecc => Sys2Proof.Machine.execDispatch eng plan ecc s
  | .combine eng plan ecc => Sys2Proof.Machine.execCombine eng plan ecc s
  | .manifest eng plan ecc => Sys2Proof.Machine.execManifest eng plan ecc s
  | .load eng plan ecc => Sys2Proof.Machine.execLoad eng plan ecc s
  | .weaveEntryComplete eng plan idx => Sys2Proof.Machine.execWeaveEntryComplete eng plan idx s
  | .weavePlanComplete eng plan => Sys2Proof.Machine.execWeavePlanComplete eng plan s
  | .tallySignal isl ctx vid n foreign => Sys2Proof.Machine.execTallySignal isl ctx vid n foreign s
  | .tallyWait isl ctx vid n a => Sys2Proof.Machine.execTallyWait isl ctx vid n a s
  | .tallyTake isl ctx vid n => Sys2Proof.Machine.execTallyTake isl ctx vid n s
  | .tallyRead isl ctx vid => Sys2Proof.Machine.execTallyRead isl ctx vid s
  | .tallyWaitRetry a => Sys2Proof.Machine.execTallyWaitRetry a s
  | .tlyMap rdr => Sys2Proof.Machine.execTlyMap rdr s
  | .tlyUnmap rdr => Sys2Proof.Machine.execTlyUnmap rdr s
  | .tlySet rdr => Sys2Proof.Machine.execTlySet rdr s
  | .tlySignal rdr => Sys2Proof.Machine.execTlySignal rdr s
  | .tlyRead rdr => Sys2Proof.Machine.execTlyRead rdr s
  | .scrubPass ch ecc => Sys2Proof.Machine.execScrubPass ch ecc s
  | .countingWindowStart => Sys2Proof.Machine.execCountingWindowStart s
  | .frameRetireComplete frame => Sys2Proof.Machine.execFrameRetireComplete frame s
  | .memFenceReq rdr ch v => Sys2Proof.Machine.execMemFenceReq rdr ch v s
  | .memRetrain ch ok => Sys2Proof.Machine.execMemRetrain ch ok s
  | .cxlLinkUp port dev => Sys2Proof.Machine.execCxlLinkUp port dev s
  | .cxlLinkDown port => Sys2Proof.Machine.execCxlLinkDown port s
  | .cxlEnable rdr port v => Sys2Proof.Machine.execCxlEnable rdr port v s
  | .spanLight n => Sys2Proof.Machine.execSpanLight n s
  | .spanFecLock n lanes => Sys2Proof.Machine.execSpanFecLock n lanes s
  | .spanDark n => Sys2Proof.Machine.execSpanDark n s
  | .laneRemove n lane => Sys2Proof.Machine.execLaneRemove n lane s
  | .spanRetrainDone n => Sys2Proof.Machine.execSpanRetrainDone n s
  | .spanSilent n => Sys2Proof.Machine.execSpanSilent n s
  | .spanHailRetry n => Sys2Proof.Machine.execSpanHailRetry n s
  | .heartbeatSend n => Sys2Proof.Machine.execHeartbeatSend n s
  | .spanLinkFrame n bytes bad => Sys2Proof.Machine.execSpanLinkFrame n bytes bad s
  | .spanDataFrame n bytes bad ecc => Sys2Proof.Machine.execSpanDataFrame n bytes bad ecc s
  | .spanSignalFrame n bytes bad => Sys2Proof.Machine.execSpanSignalFrame n bytes bad s
  | .spanConfirmFrame n bytes bad => Sys2Proof.Machine.execSpanConfirmFrame n bytes bad s
  | .spanNoticeFrame n bytes bad => Sys2Proof.Machine.execSpanNoticeFrame n bytes bad s
  | .spanHeartbeatFrame n bytes bad => Sys2Proof.Machine.execSpanHeartbeatFrame n bytes bad s
  | .spanHailFrame n bytes bad => Sys2Proof.Machine.execSpanHailFrame n bytes bad s
  | .spanHailProofFrame n bytes bad => Sys2Proof.Machine.execSpanHailProofFrame n bytes bad s
  | .spanKeyUpdateFrame n bytes bad => Sys2Proof.Machine.execSpanKeyUpdateFrame n bytes bad s
  | .spanLedgerFrame n bytes bad msg => Sys2Proof.Machine.execSpanLedgerFrame n bytes bad msg s
  | .spanReplayTimeout n => Sys2Proof.Machine.execSpanReplayTimeout n s
  | .spanKeyRollover n => Sys2Proof.Machine.execSpanKeyRollover n s
  | .spanNoRouteTimeout => Sys2Proof.Machine.execSpanNoRouteTimeout s
  | .spnFenceReq rdr n v => Sys2Proof.Machine.execSpnFenceReq rdr n v s
  | .fltFound rdr => Sys2Proof.Machine.execFltFound rdr s
  | .fltPermit rdr => Sys2Proof.Machine.execFltPermit rdr s
  | .fltRevoke rdr => Sys2Proof.Machine.execFltRevoke rdr s
  | .fltAccept rdr => Sys2Proof.Machine.execFltAccept rdr s
  | .fltLeave rdr => Sys2Proof.Machine.execFltLeave rdr s
  | .fltBarrier rdr => Sys2Proof.Machine.execFltBarrier rdr s
  | .fltRoute rdr => Sys2Proof.Machine.execFltRoute rdr s
  | .ledgerProposal p => Sys2Proof.Machine.execLedgerProposal p s
  | .ledgerStore lead e => Sys2Proof.Machine.execLedgerStore lead e s
  | .ledgerStoreAck m epoch term => Sys2Proof.Machine.execLedgerStoreAck m epoch term s
  | .ledgerFound e => Sys2Proof.Machine.execLedgerFound e s
  | .ledgerPermit e => Sys2Proof.Machine.execLedgerPermit e s
  | .ledgerRevoke e => Sys2Proof.Machine.execLedgerRevoke e s
  | .ledgerAdmit e => Sys2Proof.Machine.execLedgerAdmit e s
  | .ledgerLeave e => Sys2Proof.Machine.execLedgerLeave e s
  | .ledgerFence e => Sys2Proof.Machine.execLedgerFence e s
  | .ledgerAccept e => Sys2Proof.Machine.execLedgerAccept e s
  | .ledgerStewards e => Sys2Proof.Machine.execLedgerStewards e s
  | .ledgerBarrier e => Sys2Proof.Machine.execLedgerBarrier e s
  | .secureSchedule e => Sys2Proof.Machine.execSecureSchedule e s
  | .securePoint e => Sys2Proof.Machine.execSecurePoint e s
  | .securePair e => Sys2Proof.Machine.execSecurePair e s
  | .ledgerReplan e => Sys2Proof.Machine.execLedgerReplan e s
  | .ledgerLead e => Sys2Proof.Machine.execLedgerLead e s
  | .ledgerGapTimeout => Sys2Proof.Machine.execLedgerGapTimeout s
  | .ledgerSnapshot epoch members accepted stewards => Sys2Proof.Machine.execLedgerSnapshot epoch members accepted stewards s
  | .leadKeepalive k => Sys2Proof.Machine.execLeadKeepalive k s
  | .electionTimeout => Sys2Proof.Machine.execElectionTimeout s
  | .voteRequest m term lastTerm lastEpoch => Sys2Proof.Machine.execVoteRequest m term lastTerm lastEpoch s
  | .voteGrant m term => Sys2Proof.Machine.execVoteGrant m term s
  | .fltNoQuorum => Sys2Proof.Machine.execFltNoQuorum s
  | .barrierAnswer m epoch => Sys2Proof.Machine.execBarrierAnswer m epoch s
  | .admissionRequest via hail => Sys2Proof.Machine.execAdmissionRequest via hail s
  | .groundReply id status => Sys2Proof.Machine.execGroundReply id status s
  | .admissionRetry => Sys2Proof.Machine.execAdmissionRetry s
  | .riskReport m level runstep role mirror => Sys2Proof.Machine.execRiskReport m level runstep role mirror s
  | .healthEvaluate x => Sys2Proof.Machine.execHealthEvaluate x s
  | .islandWatchdog isl => Sys2Proof.Machine.execIslandWatchdog isl s
  | .silenceReport n => Sys2Proof.Machine.execSilenceReport n s
  | .silenceProbe m => Sys2Proof.Machine.execSilenceProbe m s
  | .probeTimeout m => Sys2Proof.Machine.execProbeTimeout m s
  | .fhIsolated => Sys2Proof.Machine.execFhIsolated s
  | .ballastCopy => Sys2Proof.Machine.execBallastCopy s
  | .ballastCopyDone => Sys2Proof.Machine.execBallastCopyDone s
  | .secureDoneReport m step => Sys2Proof.Machine.execSecureDoneReport m step s
  | .rewoundReport m => Sys2Proof.Machine.execRewoundReport m s
  | .rewindTimeout => Sys2Proof.Machine.execRewindTimeout s
  | .restoreComplete hdr blocks => Sys2Proof.Machine.execRestoreComplete hdr blocks s
  | .replayReport m result => Sys2Proof.Machine.execReplayReport m result s
  | .fhSetk rdr => Sys2Proof.Machine.execFhSetk rdr s
  | .fhDeclareFault rdr => Sys2Proof.Machine.execFhDeclareFault rdr s
  | .fhResume rdr => Sys2Proof.Machine.execFhResume rdr s
  | .fhReleaseWard rdr => Sys2Proof.Machine.execFhReleaseWard rdr s
  | .ctxCreate rdr ctx => Sys2Proof.Machine.execCtxCreate rdr ctx s
  | .ctxReset rdr ctx => Sys2Proof.Machine.execCtxReset rdr ctx s
  | .ctxResetComplete ctx => Sys2Proof.Machine.execCtxResetComplete ctx s
  | .makeResident rdr ctx => Sys2Proof.Machine.execMakeResident rdr ctx s
  | .releaseResidency rdr ctx => Sys2Proof.Machine.execReleaseResidency rdr ctx s
  | .residencyReleased ctx => Sys2Proof.Machine.execResidencyReleased ctx s
  | .map rdr ctx => Sys2Proof.Machine.execMap rdr ctx s
  | .unmap rdr ctx => Sys2Proof.Machine.execUnmap rdr ctx s
  | .unmapComplete ctx => Sys2Proof.Machine.execUnmapComplete ctx s
  | .ringCreate rdr ctx => Sys2Proof.Machine.execRingCreate rdr ctx s
  | .ringDestroy rdr ctx => Sys2Proof.Machine.execRingDestroy rdr ctx s
  | .classChange ctx => Sys2Proof.Machine.execClassChange ctx s
  | .dbTailWrite rdr ring v => Sys2Proof.Machine.execDbTailWrite rdr ring v s
  | .dbHeadWrite rdr ring v => Sys2Proof.Machine.execDbHeadWrite rdr ring v s
  | .dbResume rdr ring => Sys2Proof.Machine.execDbResume rdr ring s
  | .eventDeliver list toRing => Sys2Proof.Machine.execEventDeliver list toRing s
  | .tetherLight p => Sys2Proof.Machine.execTetherLight p s
  | .tetherDown p => Sys2Proof.Machine.execTetherDown p s
  | .tetherLinkSend p => Sys2Proof.Machine.execTetherLinkSend p s
  | .tetherLinkFrame p bytes bad => Sys2Proof.Machine.execTetherLinkFrame p bytes bad s
  | .tetherReplayTimeout p => Sys2Proof.Machine.execTetherReplayTimeout p s
  | .sessionGapTimeout session => Sys2Proof.Machine.execSessionGapTimeout session s
  | .tetherKeyRollover session => Sys2Proof.Machine.execTetherKeyRollover session s
  | .tetherKeyUpdate p bytes bad => Sys2Proof.Machine.execTetherKeyUpdate p bytes bad s
  | .handshakeOpen p bytes bad => Sys2Proof.Machine.execHandshakeOpen p bytes bad s
  | .handshakeFinish p bytes bad => Sys2Proof.Machine.execHandshakeFinish p bytes bad s
  | .handshakeTimeout session => Sys2Proof.Machine.execHandshakeTimeout session s
  | .request p bytes bad => Sys2Proof.Machine.execRequest p bytes bad s
  | .bulkWrite p bytes bad ecc => Sys2Proof.Machine.execBulkWrite p bytes bad ecc s
  | .bulkRead p bytes bad ecc => Sys2Proof.Machine.execBulkRead p bytes bad ecc s
  | .attest p bytes bad => Sys2Proof.Machine.execAttest p bytes bad s
  | .sessionClose p bytes bad => Sys2Proof.Machine.execSessionClose p bytes bad s
  | .metrology p bytes bad => Sys2Proof.Machine.execMetrology p bytes bad s
  | .tsEvtack rdr session v => Sys2Proof.Machine.execTsEvtack rdr session v s
  | .ownerSet session => Sys2Proof.Machine.execOwnerSet session s
  | .fwLoad session => Sys2Proof.Machine.execFwLoad session s
  | .fwEpoch session => Sys2Proof.Machine.execFwEpoch session s
  | .powerLower session => Sys2Proof.Machine.execPowerLower session s
  | .pubAdd session => Sys2Proof.Machine.execPubAdd session s
  | .pubRemove session => Sys2Proof.Machine.execPubRemove session s
  | .pskSet session => Sys2Proof.Machine.execPskSet session s
  | .bind session => Sys2Proof.Machine.execBind session s
  | .keyInstall session => Sys2Proof.Machine.execKeyInstall session s
  | .keyClear session => Sys2Proof.Machine.execKeyClear session s
  | .entropyFailure => Sys2Proof.Machine.execEntropyFailure s
  | .bridleViolation addr kind => Sys2Proof.Machine.execBridleViolation addr kind s
  | .keelLockstepMismatch => Sys2Proof.Machine.execKeelLockstepMismatch s
  | .keelWdkick rdr v => Sys2Proof.Machine.execKeelWdkick rdr v s
  | .keelWatchdogExpire => Sys2Proof.Machine.execKeelWatchdogExpire s
  | .counterFrameSend => Sys2Proof.Machine.execCounterFrameSend s
  | .streamTailEnd ctx inst => Sys2Proof.Machine.execStreamTailEnd ctx inst s
  | .mtrLearntok rdr ctx n => Sys2Proof.Machine.execMtrLearntok rdr ctx n s
  | .carrierAppear => Sys2Proof.Machine.execCarrierAppear s
  | .carrierSettled => Sys2Proof.Machine.execCarrierSettled s
  | .carrierLoss => Sys2Proof.Machine.execCarrierLoss s
  | .cartridgeFrameAccept frame => Sys2Proof.Machine.execCartridgeFrameAccept frame s
  | .intervalRecord energy secs => Sys2Proof.Machine.execIntervalRecord energy secs s
  | .overcurrent peak => Sys2Proof.Machine.execOvercurrent peak s
  | .sealBroken => Sys2Proof.Machine.execSealBroken s
  | .cartridgeRemoved => Sys2Proof.Machine.execCartridgeRemoved s
  | .cartridgeInserted serial calibrations energy clock => Sys2Proof.Machine.execCartridgeInserted serial calibrations energy clock s
  | .identify => Sys2Proof.Machine.execIdentify s
  | .readRecords => Sys2Proof.Machine.execReadRecords s
  | .readLog => Sys2Proof.Machine.execReadLog s
  | .readNow energy secs => Sys2Proof.Machine.execReadNow energy secs s
  | .calibrate => Sys2Proof.Machine.execCalibrate s
  | .timeSet => Sys2Proof.Machine.execTimeSet s
  | .enterP2 rdr => Sys2Proof.Machine.execEnterP2 rdr s
  | .p2EntryComplete => Sys2Proof.Machine.execP2EntryComplete s
  | .wake src idx => Sys2Proof.Machine.execWake src idx s
  | .wakeComplete => Sys2Proof.Machine.execWakeComplete s
  | .spanRelockFallback n => Sys2Proof.Machine.execSpanRelockFallback n s
  | .pwrLift rdr mask => Sys2Proof.Machine.execPwrLift rdr mask s
  | .islandGate isl => Sys2Proof.Machine.execIslandGate isl s
  | .islandUngate isl => Sys2Proof.Machine.execIslandUngate isl s
  | .powerExcursion watts long => Sys2Proof.Machine.execPowerExcursion watts long s
  | .powerOn straps hot => Sys2Proof.Machine.execPowerOn straps hot s
  | .powerOff low => Sys2Proof.Machine.execPowerOff low s
  | .overvoltageLockout => Sys2Proof.Machine.execOvervoltageLockout s
  | .supplyDroop => Sys2Proof.Machine.execSupplyDroop s
  | .moduleReset rdr => Sys2Proof.Machine.execModuleReset rdr s
  | .rstWarm rdr => Sys2Proof.Machine.execRstWarm rdr s
  | .resetComplete imageOk => Sys2Proof.Machine.execResetComplete imageOk s
  | .resetRequestPin low => Sys2Proof.Machine.execResetRequestPin low s
  | .thermalThrottle isl freq => Sys2Proof.Machine.execThermalThrottle isl freq s
  | .thermalTrip => Sys2Proof.Machine.execThermalTrip s
  | .gqStart rdr quad v => Sys2Proof.Machine.execGqStart rdr quad v s
  | .gqStop rdr quad v => Sys2Proof.Machine.execGqStop rdr quad v s
  | .entdaa addr => Sys2Proof.Machine.execEntdaa addr s
  | .setEndpointId eid => Sys2Proof.Machine.execSetEndpointId eid s
  | .gettid known => Sys2Proof.Machine.execGettid known s
  | .getpldmtypes => Sys2Proof.Machine.execGetpldmtypes s
  | .getpldmcommands ptype => Sys2Proof.Machine.execGetpldmcommands ptype s
  | .getpldmversion ptype => Sys2Proof.Machine.execGetpldmversion ptype s
  | .pldmSensorRead id measured => Sys2Proof.Machine.execPldmSensorRead id measured s
  | .pldmPdrRead record => Sys2Proof.Machine.execPldmPdrRead record s
  | .pldmFruRead => Sys2Proof.Machine.execPldmFruRead s
  | .feedTagConfirm v => Sys2Proof.Machine.execFeedTagConfirm v s
  | .resetEffecter => Sys2Proof.Machine.execResetEffecter s
  | .powerEffecterOff => Sys2Proof.Machine.execPowerEffecterOff s
  | .powerEffecterOn straps hot => Sys2Proof.Machine.execPowerEffecterOn straps hot s
  | .firmwareUpdateActivate => Sys2Proof.Machine.execFirmwareUpdateActivate s
  | .tetherFecLock p => Sys2Proof.Machine.execTetherFecLock p s
  | .cxlLinkDegrade port width speed => Sys2Proof.Machine.execCxlLinkDegrade port width speed s
  | .islandResetComplete isl => Sys2Proof.Machine.execIslandResetComplete isl s
  | .farPageRelease => Sys2Proof.Machine.execFarPageRelease s
  | .linkLost => Sys2Proof.Machine.execLinkLost s
  | .selftestFail code => Sys2Proof.Machine.execSelftestFail code s
  | .pldmFirmwareUpdate image => Sys2Proof.Machine.execPldmFirmwareUpdate image s
  | .gondolaMemoryAccess hart acc dva len handler ecc => Sys2Proof.Machine.execGondolaMemoryAccess hart acc dva len handler ecc s

end Sys2Proof.Machine
end

