-- ==== Sys2Proof/Machine/Tick.lean ====
section
/-!
DEFINITION. What the block does when no command waits (R32, R33): device time passes.
-/
namespace Sys2Proof.Machine
open Sys2Proof

/-- R32, R33: one nanosecond of device time passes, while the always-on domain is powered; the count wraps after 2^64 - 1 (log entry 1). -/
def State.tick (s : State) : State := if s.pow.on then s.wr .glbDevtime 0 (s.now + 1) else s

end Sys2Proof.Machine
end

