-- ==== Sys2Proof/WellFormed.lean ====
section
/-!
DEFINITION. Well-formed commands: the range of every operand that names something the module has a fixed number of (R10, R19): sessions, harts, contexts, islands,
clusters, rings, channels, ports, spans, engines, units, registers, pages and member numbers. What a meaning does with a command that is not well formed stands for nothing (log entry 72).
-/
namespace Sys2Proof

/-- R12: sessions 0 to 63, harts 0 to 63, the keel. -/
def Reader.wf : Reader → Bool
  | .session n => n < 64
  | .hart n => n < 64
  | .keel => true

/-- R258: the agents that can wait. -/
def Agent.wf : Agent → Bool
  | .taskSlot c k => c < 192 && k < 8
  | .vector c => c < 192
  | .plan e p => e < 4 && p < 16
  | .hart n => n < 64
  | .sampler u => u < 6
  | .sequencer c => c < 64

def CoreId.wf : CoreId → Bool
  | .vector c => c < 192
  | .hart n => n < 64

/-- R287, R293: a trained link's width and speed code. -/
def linkWf (width speed : Nat) : Bool := (width = 4 || width = 8 || width = 16) && (speed = 1 || speed = 2)

/-- The operands of a command are in range. -/
def Instr.wf : Instr → Bool
  | .registerWrite rdr _ _ w => rdr.wf && w < 4294967296
  | .lowWordRead rdr _ => rdr.wf
  | .highWordRead rdr _ => rdr.wf
  | .pageStatusRead rdr page => rdr.wf && page < 8192
  | .errValidClear rdr page => rdr.wf && page < 8192
  | .evtPendingClear rdr page v => rdr.wf && page < 8192 && v < 4294967296
  | .commit rdr page => rdr.wf && page < 8192
  | .stage rdr page => rdr.wf && page < 8192
  | .discard rdr page => rdr.wf && page < 8192
  | .commitStaged rdr => rdr.wf
  | .epochAdopt isl ctx => isl < 317 && ctx.all (· < 64)
  | .frequencyChange isl _ _ => isl < 317
  | .devtimeRefFault => true
  | .devtimeWrap => true
  | .taskEntryTake ring _ => ring < 65536
  | .taskPlace ctx => ctx < 64
  | .tileBoundary clu _ => clu < 192
  | .deferredTileRun clu _ => clu < 192
  | .matmul clu _ _ => clu < 192
  | .attn clu _ _ => clu < 192
  | .copyIn clu _ => clu < 192
  | .copyOut clu _ => clu < 192
  | .vector clu _ _ => clu < 192
  | .tallyTile clu slot => clu < 192 && slot < 8
  | .fenceTile clu => clu < 192
  | .tileComplete clu _ => clu < 192
  | .epilogueDrain clu _ => clu < 192
  | .cluFenceReq rdr clu v => rdr.wf && clu < 192 && v < 4294967296
  | .cluVecTimeout clu => clu < 192
  | .vectorEcall clu _ => clu < 192
  | .kcDactcfg clu rs1 _ => clu < 192 && rs1 < 32
  | .kcVdact clu vd rs1 vs2 rs2 => clu < 192 && vd < 32 && rs1 < 32 && vs2 < 32 && rs2 < 32
  | .kcVdactg clu vd rs1 vs2 rs2 => clu < 192 && vd < 32 && rs1 < 32 && vs2 < 32 && rs2 < 32
  | .kcVrandb clu vd => clu < 192 && vd < 32
  | .kcVrandf clu vd => clu < 192 && vd < 32
  | .kcVrando clu vd => clu < 192 && vd < 32
  | .kcVrandh clu vd => clu < 192 && vd < 32
  | .kcTsignal core rd rs1 rs2 => core.wf && rd < 32 && rs1 < 32 && rs2 < 32
  | .kcTwait core rd rs1 rs2 => core.wf && rd < 32 && rs1 < 32 && rs2 < 32
  | .kcTtake core rd rs1 rs2 => core.wf && rd < 32 && rs1 < 32 && rs2 < 32
  | .kcTread core rd rs1 => core.wf && rd < 32 && rs1 < 32
  | .twaitWithdraw hart _ _ => hart < 64
  | .updateEntryTake ring _ => ring < 65536
  | .norm _ _ => true
  | .adamw _ _ => true
  | .lion _ _ => true
  | .sgdm _ _ => true
  | .convert _ _ => true
  | .stepClose _ _ => true
  | .updateChunk _ _ => true
  | .updateDescComplete _ => true
  | .lrnLsinit rdr ctx v => rdr.wf && ctx < 64 && v < 4294967296
  | .lrnNfset rdr ctx v => rdr.wf && ctx < 64 && v < 4294967296
  | .secureCapture => true
  | .submit ring _ => ring < 65536
  | .cancel ring => ring.op < 65536
  | .pause ring => ring.op < 65536
  | .resume ring => ring.op < 65536
  | .release ring => ring.op < 65536
  | .loadStopset ring => ring.op < 65536
  | .seqEntryKind ring => ring.op < 65536
  | .stepTallyDone ctx => ctx < 64
  | .stepBoundary ctx _ => ctx < 64
  | .idleBoundary ctx => ctx.op < 64
  | .heldStepResume ctx => ctx.op < 64
  | .followerReport ctx member _ _ => ctx < 64 && member < 16384
  | .followerReportTimeout ctx => ctx < 64
  | .mirrorConfirmed ctx => ctx.op < 64
  | .listChangesCommit ctx => ctx < 64
  | .kvPfxrel rdr ctx v => rdr.wf && ctx < 64 && v.op < 4294967296
  | .cowWait clu => clu < 192
  | .spillComplete _ _ => true
  | .fillComplete _ _ => true
  | .samplerRow u ctx _ _ => u < 6 && ctx < 64
  | .samplerMerge ctx _ => ctx < 64
  | .smpFenceReq rdr u v => rdr.wf && u < 6 && v < 4294967296
  | .weavePlanStart ring => ring.op < 65536
  | .nop eng plan => eng < 4 && plan < 16
  | .copy eng plan _ _ => eng < 4 && plan < 16
  | .accum eng plan _ => eng < 4 && plan < 16
  | .weaveWait eng plan => eng < 4 && plan < 16
  | .weaveSignal eng plan => eng < 4 && plan < 16
  | .dispatch eng plan _ => eng < 4 && plan < 16
  | .combine eng plan _ => eng < 4 && plan < 16
  | .manifest eng plan _ => eng < 4 && plan < 16
  | .load eng plan _ => eng < 4 && plan < 16
  | .weaveEntryComplete eng plan _ => eng < 4 && plan < 16
  | .weavePlanComplete eng plan => eng < 4 && plan < 16
  | .tallySignal isl ctx vid n _ => isl < 317 && ctx < 64 && vid < 65536 && n < 4294967296
  | .tallyWait isl ctx vid n a => isl < 317 && ctx < 64 && vid < 65536 && n < 4294967296 && a.wf
  | .tallyTake isl ctx vid n => isl < 317 && ctx < 64 && vid < 65536 && n < 4294967296
  | .tallyRead isl ctx vid => isl < 317 && ctx < 64 && vid < 65536
  | .tallyWaitRetry a => a.wf
  | .tlyMap rdr => rdr.wf
  | .tlyUnmap rdr => rdr.wf
  | .tlySet rdr => rdr.wf
  | .tlySignal rdr => rdr.wf
  | .tlyRead rdr => rdr.wf
  | .scrubPass ch _ => ch < 48
  | .countingWindowStart => true
  | .frameRetireComplete _ => true
  | .memFenceReq rdr ch v => rdr.wf && ch < 48 && v < 4294967296
  | .memRetrain ch _ => ch < 48
  | .cxlLinkUp port dev => port < 8 && dev.all (fun d => linkWf d.width d.speed)
  | .cxlLinkDown port => port < 8
  | .cxlEnable rdr port v => rdr.wf && port < 8 && v < 4294967296
  | .spanLight n => n < 32
  | .spanFecLock n lanes => n < 32 && lanes < 65536
  | .spanDark n => n < 32
  | .laneRemove n lane => n < 32 && lane.lane < 16
  | .spanRetrainDone n => n < 32
  | .spanSilent n => n < 32
  | .spanHailRetry n => n < 32
  | .heartbeatSend n => n < 32
  | .spanLinkFrame n _ _ => n < 32
  | .spanDataFrame n _ _ _ => n < 32
  | .spanSignalFrame n _ _ => n < 32
  | .spanConfirmFrame n _ _ => n < 32
  | .spanNoticeFrame n _ _ => n < 32
  | .spanHeartbeatFrame n _ _ => n < 32
  | .spanHailFrame n _ _ => n < 32
  | .spanHailProofFrame n _ _ => n < 32
  | .spanKeyUpdateFrame n _ _ => n < 32
  | .spanLedgerFrame n _ _ _ => n < 32
  | .spanReplayTimeout n => n < 32
  | .spanKeyRollover n => n < 32
  | .spanNoRouteTimeout => true
  | .spnFenceReq rdr n v => rdr.wf && n < 32 && v < 4294967296
  | .fltFound rdr => rdr.wf
  | .fltPermit rdr => rdr.wf
  | .fltRevoke rdr => rdr.wf
  | .fltAccept rdr => rdr.wf
  | .fltLeave rdr => rdr.wf
  | .fltBarrier rdr => rdr.wf
  | .fltRoute rdr => rdr.wf
  | .ledgerProposal _ => true
  | .ledgerStore lead _ => lead < 16384
  | .ledgerStoreAck m _ _ => m < 16384
  | .ledgerFound _ => true
  | .ledgerPermit _ => true
  | .ledgerRevoke _ => true
  | .ledgerAdmit _ => true
  | .ledgerLeave _ => true
  | .ledgerFence _ => true
  | .ledgerAccept _ => true
  | .ledgerStewards _ => true
  | .ledgerBarrier _ => true
  | .secureSchedule _ => true
  | .securePoint _ => true
  | .securePair _ => true
  | .ledgerReplan _ => true
  | .ledgerLead _ => true
  | .ledgerGapTimeout => true
  | .ledgerSnapshot _ _ _ _ => true
  | .leadKeepalive _ => true
  | .electionTimeout => true
  | .voteRequest m _ _ _ => m < 16384
  | .voteGrant m _ => m < 16384
  | .fltNoQuorum => true
  | .barrierAnswer m _ => m < 16384
  | .admissionRequest via _ => via < 32
  | .groundReply _ _ => true
  | .admissionRetry => true
  | .riskReport m level _ role mirror => m < 16384 && level < 8 && role < 8 && mirror.all (· < 16384)
  | .healthEvaluate _ => true
  | .islandWatchdog isl => isl < 317
  | .silenceReport n => n < 32
  | .silenceProbe m => m < 16384
  | .probeTimeout m => m < 16384
  | .fhIsolated => true
  | .ballastCopy => true
  | .ballastCopyDone => true
  | .secureDoneReport m _ => m < 16384
  | .rewoundReport m => m.all (· < 16384)
  | .rewindTimeout => true
  | .restoreComplete _ _ => true
  | .replayReport m result => m < 16384 && result < 3
  | .fhSetk rdr => rdr.wf
  | .fhDeclareFault rdr => rdr.wf
  | .fhResume rdr => rdr.wf
  | .fhReleaseWard rdr => rdr.wf
  | .ctxCreate rdr ctx => rdr.wf && ctx < 64
  | .ctxReset rdr ctx => rdr.wf && ctx < 64
  | .ctxResetComplete ctx => ctx < 64
  | .makeResident rdr ctx => rdr.wf && ctx < 64
  | .releaseResidency rdr ctx => rdr.wf && ctx < 64
  | .residencyReleased ctx => ctx < 64
  | .map rdr ctx => rdr.wf && ctx.op < 64
  | .unmap rdr ctx => rdr.wf && ctx.op < 64
  | .unmapComplete ctx => ctx < 64
  | .ringCreate rdr ctx => rdr.wf && ctx.op < 64
  | .ringDestroy rdr ctx => rdr.wf && ctx < 64
  | .classChange ctx => ctx < 64
  | .dbTailWrite rdr ring v => rdr.wf && ring < 65536 && v < 4294967296
  | .dbHeadWrite rdr ring v => rdr.wf && ring < 65536 && v < 4294967296
  | .dbResume rdr ring => rdr.wf && ring.op < 65536
  | .eventDeliver list _ => list < 65
  | .tetherLight p => p < 2
  | .tetherDown p => p < 2
  | .tetherLinkSend p => p < 2
  | .tetherLinkFrame p _ _ => p < 2
  | .tetherReplayTimeout p => p < 2
  | .sessionGapTimeout session => session < 64
  | .tetherKeyRollover session => session < 64
  | .tetherKeyUpdate p _ _ => p < 2
  | .handshakeOpen p _ _ => p < 2
  | .handshakeFinish p _ _ => p < 2
  | .handshakeTimeout session => session < 64
  | .request p _ _ => p < 2
  | .bulkWrite p _ _ _ => p < 2
  | .bulkRead p _ _ _ => p < 2
  | .attest p _ _ => p < 2
  | .sessionClose p _ _ => p < 2
  | .metrology p _ _ => p < 2
  | .tsEvtack rdr session v => rdr.wf && session < 64 && v < 2048
  | .ownerSet session => session < 64
  | .fwLoad session => session < 64
  | .fwEpoch session => session < 64
  | .powerLower session => session < 64
  | .pubAdd session => session < 64
  | .pubRemove session => session < 64
  | .pskSet session => session < 64
  | .bind session => session < 64
  | .keyInstall session => session < 64
  | .keyClear session => session < 64
  | .entropyFailure => true
  | .bridleViolation _ kind => kind < 9
  | .keelLockstepMismatch => true
  | .keelWdkick rdr v => rdr.wf && v < 4294967296
  | .keelWatchdogExpire => true
  | .counterFrameSend => true
  | .streamTailEnd ctx _ => ctx < 64
  | .mtrLearntok rdr ctx n => rdr.wf && ctx < 64 && n < 4294967296
  | .carrierAppear => true
  | .carrierSettled => true
  | .carrierLoss => true
  | .cartridgeFrameAccept _ => true
  | .intervalRecord _ _ => true
  | .overcurrent _ => true
  | .sealBroken => true
  | .cartridgeRemoved => true
  | .cartridgeInserted _ _ _ _ => true
  | .identify => true
  | .readRecords => true
  | .readLog => true
  | .readNow _ _ => true
  | .calibrate => true
  | .timeSet => true
  | .enterP2 rdr => rdr.wf
  | .p2EntryComplete => true
  | .wake src idx => src < 7 && idx < 32
  | .wakeComplete => true
  | .spanRelockFallback n => n < 32
  | .pwrLift rdr _ => rdr.wf
  | .islandGate isl => isl < 317
  | .islandUngate isl => isl < 317
  | .powerExcursion _ _ => true
  | .powerOn straps _ => straps < 65536
  | .powerOff _ => true
  | .overvoltageLockout => true
  | .supplyDroop => true
  | .moduleReset rdr => rdr.wf
  | .rstWarm rdr => rdr.wf
  | .resetComplete _ => true
  | .resetRequestPin _ => true
  | .thermalThrottle isl _ => isl < 317
  | .thermalTrip => true
  | .gqStart rdr quad v => rdr.wf && quad < 16 && v < 4294967296
  | .gqStop rdr quad v => rdr.wf && quad < 16 && v < 4294967296
  | .entdaa addr => addr < 128
  | .setEndpointId eid => eid < 256
  | .gettid _ => true
  | .getpldmtypes => true
  | .getpldmcommands ptype => ptype < 64
  | .getpldmversion ptype => ptype < 64
  | .pldmSensorRead _ _ => true
  | .pldmPdrRead _ => true
  | .pldmFruRead => true
  | .feedTagConfirm v => v < 4294967296
  | .resetEffecter => true
  | .powerEffecterOff => true
  | .powerEffecterOn straps _ => straps < 65536
  | .firmwareUpdateActivate => true
  | .tetherFecLock p => p < 2
  | .cxlLinkDegrade port width speed => port < 8 && linkWf width speed
  | .islandResetComplete isl => isl < 317
  | .farPageRelease => true
  | .linkLost => true
  | .selftestFail _ => true
  | .pldmFirmwareUpdate _ => true
  | .gondolaMemoryAccess hart _ _ _ _ _ => hart < 64

end Sys2Proof
end

