-- ==== Sys2Proof/Safety.lean ====
section
/-!
DEFINITION. What claims call a safe state and a safe run: every table of the state is in its canonical form, every waiting command is well formed, and a run
meets no fault and no refusal.
-/
namespace Sys2Proof.Machine
open Sys2Proof

/-- Near memory and the CXL tier are in canonical form: addresses strictly rising, no entry that equals what an unlisted address reads as. -/
abbrev MemState.wf (m : MemState) : Prop := scanon (fun _ => 0#8) m.near = true ∧ scanon (fun _ => 0#8) m.far = true

/-- The register store is in canonical form: keys strictly rising, no entry at its field's reset value. -/
abbrev State.regsWf (s : State) : Prop := scanon (fun k => (regOfKey k).resetAt (copyOfKey k)) s.regs = true

/-- Every waiting command is well formed. -/
abbrev State.queueWf (s : State) : Prop := s.pending.all Instr.wf = true

/-- A run of k steps from s meets no fault and no refusal. -/
def safeRun : Nat → State → Prop
  | 0, _ => True
  | k + 1, s => ∃ t, step s = .next t ∧ safeRun k t

/-! ## What statements say of two states -/

/-- Every register field reads in t as in s, but the fields with these keys. -/
def sameRegs (s t : State) (ks : List Nat) : Prop := ∀ (r : Reg) (i : Nat), r.key i ∉ ks → t.rd r i = s.rd r i

/-- An operation of a reader of the register space was answered with a status, and with value 0. -/
def answered (t : State) (rdr : Reader) (st : Status) : Prop := t.cfg.answer = some ⟨some rdr, st, 0⟩

/-- The machinery of the register space is as before, but for the last answer. -/
def sameConfig (s t : State) : Prop := t.cfg = { s.cfg with answer := t.cfg.answer }

/-- The summary bit of a status's range stands in EVT_PENDING of a page (R473). -/
def eventAt (t : State) (page : Nat) (st : Status) : Prop := bitAt (t.rd .evtPending page) (st.code / 256) = true

/-- The page exists and is open to a reader's write at offset o (R468, R470, R476, R480, R481). -/
def State.reaches (s : State) (rdr : Reader) (p o : Nat) : Bool :=
  p < 8192 && o < 4096 && o % 4 == 0 && pageExists p
    && (match rdr with
      | .keel => true
      | .session n => !s.closedTo n p o
      | .hart h =>
        match s.ctxOfHart h with
        | some c => viewShows c p o && !(p < 0x1000 && 0x010 ≤ o && o < 0x030)
        | none => false)

/-- A reader reads the header of a page whole: every reader but a hart below the context pages, whose view shows BUSY only (R481). -/
def seesWhole (rdr : Reader) (p o : Nat) : Bool :=
  match rdr with
  | .hart _ => 0x1000 ≤ p || 0x38 ≤ o
  | _ => true

/-- The page exists, and a reader's rights let it read offset o of it (R399, R468, R469, R480). -/
def State.readable (s : State) (rdr : Reader) (p o : Nat) : Bool :=
  p < 8192 && o < 4096 && o % 4 == 0 && pageExists p && s.mayRead rdr p o

/-- A reader of the doorbell space: a session that is no CLAIM session, or a hart (R397, R470). -/
def State.bellReader (s : State) (rdr : Reader) : Bool :=
  match rdr with
  | .session n => !s.isClaim n
  | .hart _ => true
  | .keel => false

/-- The accumulator slot of a LEARN tile, or the half that a GENERATE context fills (R96, R97). -/
def State.accIdx (s : State) (n : Nat) (x : Tile) : Nat := if s.isLearn x.ctx then tdAccslot x.td else (s.slot n x.slot).half

/-- The accumulator that a MATMUL tile adds to: none under INIT and DRAIN (R95). -/
def State.accBefore (s : State) (n : Nat) (x : Tile) : Option Acc :=
  if tdAdds x.td then (s.slot n x.slot).held.find? (fun a => a.slot = s.accIdx n x) else none

/-- The accumulator of a MATMUL tile after its product (R92 to R102): the matrix product of its operands in scratch, by rows, over what it adds to. -/
def State.accAfter (s : State) (n : Nat) (x : Tile) : Acc :=
  let p := matProduct x.td (s.slot n x.slot).scratch (s.propagates x.ctx) ((s.accBefore n x).map (·.vals))
    (s.freeList (if tdAccfmt x.td = 2 then 64 else 32) (tdM x.td * tdN x.td)) (min (tdM x.td) (roundUp x.written 16))
  ⟨s.accIdx n x, tdM x.td, tdN x.td, tdAccfmt x.td, p.1, p.2 || (s.accBefore n x).any (·.sat)⟩

/-- The scratch after the rows of a COPY_IN tile, each as it reads in memory (R87). -/
def State.rowsIn (s : State) (n : Nat) (x : Tile) : Sparse Byte :=
  (copyRows x.td).foldl (fun m r => writeBytes m r.2 (match s.dvaRead x.ctx r.1 (tdK x.td) with
    | .ok b => b
    | .error _ => [])) (s.slot n x.slot).scratch

/-- A write of n bytes at a near physical address goes through: in near memory, on channels that are not fenced, no granule poisoned (R276, R281, R286). -/
def State.nearWritable (s : State) (pa n : Nat) : Bool := s.nearCheck pa n = .ok

/-- R303: the key a received frame is opened with: the one in force, or, once the peer has announced it, the next one for a frame of the next phase. -/
def State.rxKey (s : State) (n : Nat) (b : List Byte) : SpanKey :=
  if (s.link n).rxUpdate && fPhase b ≠ (s.link n).rx.phase then (s.link n).rx.after else (s.link n).rx

/-- A frame of a type arrives without a fault on an UP span, as the next one of its key and phase (R300, R303). -/
def State.inOrder (s : State) (n ty : Nat) (b : List Byte) : Bool :=
  n < 32 && s.rd .spnState n = spUp && frameFormed b ty && fPhase b == (s.rxKey n b).phase && fSeq b = (s.rxKey n b).count % 2 ^ 32

/-- What opening such a frame gives: none where its tag fails. -/
def State.opened (s : State) (n : Nat) (b : List Byte) : Option (List Byte) := openSpanFrame (s.rxKey n b) (s.rxKey n b).count b

/-- The key and counters that a frame taken in order moves: those of the link, and SPN_RXBYTES. -/
def frameTaken (s t : State) (n : Nat) (b : List Byte) : Prop :=
  (t.link n).rx = { s.rxKey n b with count := (s.rxKey n b).count + 1 } ∧ t.rd .spnRxbytes n = (s.rd .spnRxbytes n + b.length) % 2 ^ 64

/-- A tag failure of a span is counted (R303). -/
def tagFailed (s t : State) (n : Nat) : Prop := t.rd .spnTagfail n = (s.rd .spnTagfail n + 1) % 2 ^ 32

/-- A committed entry of a kind that a module of the ledger takes up next, with none held ahead of it (R317). -/
def State.nextCommitted (s : State) (e : LedgerEntry) (kind : Nat) : Bool :=
  s.inLedger && e.epoch == s.rd .fltEpoch 0 + 1 && e.epoch < 2 ^ 64 && s.flt.held.isEmpty && e.kind == kind

/-- An entry has been applied: it is the applied epoch, and counted (R317). -/
def entryTaken (s t : State) (e : LedgerEntry) : Prop :=
  t.rd .fltEpoch 0 = e.epoch ∧ t.rd .fltApplied 0 = (s.rd .fltApplied 0 + 1) % 2 ^ 32

/-- A frame that a tether port takes: without a fault, of a type, and the next one in link order (R390, R392). -/
def State.linkNext (s : State) (p ty : Nat) (b : List Byte) : Bool :=
  s.portUp p && !tfCorrupt b && tfFormed b ty && !s.holdFull b && tfLseq b == (s.port p).expect

/-- R393, R394: the key under which a frame is the next one of its session: the one in force, or, once KEY_UPDATE has come, the one that follows. -/
def State.sessionKey (s : State) (b : List Byte) : Option SpanKey :=
  match (s.sess (tfSession b)).order b with
  | .next k => some k
  | _ => none

/-- A frame of an OPEN session that holds none back, the next one in counter order (R393). -/
def State.counterNext (s : State) (b : List Byte) : Bool :=
  s.isOpen (tfSession b) && (s.sessionKey b).isSome && (s.sess (tfSession b)).held.isEmpty

/-- What opening such a frame gives: none where its tag fails. -/
def State.openedOn (s : State) (b : List Byte) : Option (List Byte) := (s.sessionKey b).bind (fun k => tfOpen k b)

/-- Such a frame received, on its port and on its session, before what its type does. -/
def State.receivedOn (s : State) (p ty : Nat) (b : List Byte) : State := (((s.portReceive p ty b false).1).sessionReceive b).1

/-- A tag failure of a session is counted (R393). -/
def tetherTagFailed (s t : State) (n : Nat) : Prop :=
  t.rd .tethTagfail 0 = (s.rd .tethTagfail 0 + 1) % 2 ^ 32 ∧ t.rd .tsTagfail n = (s.rd .tsTagfail n + 1) % 2 ^ 32

/-- The cartridge has logged an event: one entry more, with the next number, its time, its kind and its detail (R434). -/
def eventLogged (s t : State) (kind : Nat) (detail : List Byte) : Prop :=
  t.cart.newestLog = s.cart.newestLog + 1
    ∧ sget [] t.cart.log (s.cart.newestLog + 1)
      = leBytes 8 (s.cart.newestLog + 1) ++ leBytes 8 s.cart.clock ++ leBytes 1 kind ++ zeros 7 ++ (detail ++ zeros 40).take 40

/-- The cartridge has answered a request with a signed reply (R440, R441): one signature fewer, and kind, status, nonce, body and signature sent. -/
def replied (s t : State) (c : Cartridge) (kind : Nat) (st : Status) (m body : List Byte) : Prop :=
  let msg := leBytes 1 (kind ||| 0x80) ++ zeros 3 ++ leBytes 2 st.code ++ zeros 2 ++ (((m.drop 4).take 32) ++ zeros 32).take 32 ++ body
  t = ({ s with cart := { c with signatures := c.signatures - 1 } } : State).sendMetrology
    (msg ++ Config.signs 2 (2 ^ 30 - c.signatures) (Config.sha384 msg))

/-- The sideband has answered a command, and nothing else has changed. -/
def sidebandAnswered (s t : State) (c : Completion) (data : List Byte) : Prop := t = { s with out := s.out ++ [.sideband c data] }

/-- R85: m more cycles take no vector program beyond 262,144; a hart has no such limit. -/
def State.mayRun (s : State) (k : CoreId) (m : Nat) : Bool :=
  match k with
  | .vector _ => (s.core k).cycles + m ≤ 262144
  | .hart _ => true

/-- R213, R215, R216: unit u's pass over a row of the sequence in entry idx: the state after it, and the pass. -/
def State.rowRun (s : State) (ecc : List (Nat × EccError)) (u c row idx : Nat) : State × RowPass :=
  let w := ((s.eccFound ecc).wr .smpCtx u c).rowParam u c (s.seqAt idx).sampidx
  w.1.rowPass u c row (candCount w.2 (w.1.rd .smpKmax c) (s.seqAt idx).toplp) w.2 (s.seqAt idx).toplp

/-- R198: the state in which the copy of a spill or fill is over, before its pages are written. -/
def State.moveOver (s : State) (idx entry : Nat) : State :=
  { s with kv := { s.kv with moves := s.kv.moves.filter (fun x => !(x.idx = idx && x.entry = entry)) } }

/-- R282: what a channel's scrub pass finds, in the order found: the granules of the channel that were poisoned before, and the other errors. -/
def State.scrubbed (s : State) (ch : Nat) (ecc : List (Nat × EccError)) : State :=
  let mine (pa : Nat) : Bool := pa < nearTop && s.channelOf pa = ch
  let old := (s.mem.poison.map (fun p => p.1 * 256)).filter mine
  (old.map (fun a => (a, EccError.address)) ++ ecc.filter (fun e => mine e.1 && !old.contains (e.1 / 256 * 256))).foldl State.scrubError s

end Sys2Proof.Machine
end

