-- ==== Sys2Proof/Certificates/Slice0/Obligations.lean ====
section
/-!
DEFINITION. The statements about the block: what a step does, what each command completes with under the conditions that the spec gives it, what it
leaves unchanged, and what every step keeps.
-/
open Sys2Proof Sys2Proof.Machine

/-- With a command at the front of the queue, a step is exec of that command on the state with the queue's rest. With no command waiting, a step lets
one nanosecond of device time pass while the always-on domain is powered, and changes nothing else. Both are the model's choice (log entries 1 and
4): the spec gives the module no queue of commands. -/
def Obligations.StepTakesTheFront : Prop :=
  (∀ (s : State) (c : Instr) (rest : List Instr), s.pending = c :: rest → step s = exec c { s with pending := rest })
  ∧ (∀ (s : State), s.pending = [] → ∃ t, step s = .next t
      ∧ t.rd .glbDevtime 0 = (if s.pow.on then (s.rd .glbDevtime 0 + 1) % 2 ^ 64 else s.rd .glbDevtime 0) ∧ t = { s with regs := t.regs }
      ∧ sameRegs s t [Reg.glbDevtime.key 0])

/-- In the reset state every field of every copy reads its reset value, device time is 0, DEFAULTED stands on every page that exists, no command
waits, memory is in its canonical form with nothing listed, and the register store is in its canonical form. A reset value that the spec does not
give, and the memory's contents, are the model's (log entry 4). -/
def Obligations.ResetLeaves : Prop :=
  (∀ (r : Reg) (i : Nat), State.reset.rd r i = r.resetAt i)
  ∧ (State.reset.rd .glbDevtime 0 = 0)
  ∧ (∀ (p : Nat), p < 8192 → pageExists p = true → State.reset.rd .defaulted p = 1)
  ∧ (State.reset.mem.wf ∧ State.reset.regsWf ∧ State.reset.queueWf ∧ State.reset.pending = [])

/-- Over every page that exists and every aligned offset: a session's read at offsets 0x000, 0x004 and 0x00C is permitted on every page, and answers
the word there. A read by a session, a hart or the keel that its rights do not permit answers zero with SES_RIGHTS and changes nothing else, so
that it clears no read-to-clear bit, PAGE_STATUS's among them. Any other read that its rights permit answers the word there; a read of the high
word of a 64-bit register for which the reader holds a capture answers the capture. A read of an offset that is not a multiple of 4, of an address
beyond the register space, or of a page that does not exist, answers zero with GEN_ACCESS_SIZE, GEN_ADDR_RANGE or GEN_PAGE_ABSENT and changes
nothing else. -/
def Obligations.ReadsFollowRights : Prop :=
  (∀ (s : State) (n p o : Nat), p < 8192 → pageExists p = true → (o = 0x000 ∨ o = 0x004 ∨ o = 0x00C) → ∃ t,
      exec (.lowWordRead (.session n) (p * 4096 + o)) s = .next t ∧ t = s.reply (.session n) .ok (s.readWord (.session n) p o))
  ∧ (∀ (s : State) (rdr : Reader) (p o : Nat), p < 8192 → o < 4096 → o % 4 = 0 → pageExists p = true → s.mayRead rdr p o = false → ∃ t,
      exec (.lowWordRead rdr (p * 4096 + o)) s = .next t ∧ t = s.reply rdr .sesRights 0 ∧ exec (.highWordRead rdr (p * 4096 + o)) s = .next t
      ∧ (o = 0x008 → exec (.pageStatusRead rdr p) s = .next t))
  ∧ (∀ (s : State) (rdr : Reader) (p o : Nat), s.readable rdr p o = true → seesWhole rdr p o = true →
      (low64 rdr.num p o).all (fun a => (sget none s.cfg.captures (captureKey rdr a)).isNone) = true → ∃ t,
      exec (.lowWordRead rdr (p * 4096 + o)) s = .next t ∧ t.cfg.answer = some ⟨some rdr, .ok, s.readWord rdr p o⟩
      ∧ exec (.highWordRead rdr (p * 4096 + o)) s = .next t ∧ (o = 0x008 → exec (.pageStatusRead rdr p) s = .next t))
  ∧ (∀ (s : State) (rdr : Reader) (p o a w : Nat), s.readable rdr p o = true → seesWhole rdr p o = true → low64 rdr.num p o = some a → a % 4096 ≠ o →
      sget none s.cfg.captures (captureKey rdr a) = some w → ∃ t, exec (.lowWordRead rdr (p * 4096 + o)) s = .next t
      ∧ t.cfg.answer = some ⟨some rdr, .ok, w⟩ ∧ exec (.highWordRead rdr (p * 4096 + o)) s = .next t)
  ∧ (∀ (s : State) (rdr : Reader) (a : Nat), (a % 4 ≠ 0 ∨ 8192 ≤ a / 4096 ∨ pageExists (a / 4096) = false) → ∃ t,
      exec (.lowWordRead rdr a) s = .next t ∧ exec (.highWordRead rdr a) s = .next t
      ∧ t = s.reply rdr (if a % 4 ≠ 0 then .genAccessSize else if 8192 ≤ a / 4096 then .genAddrRange else .genPageAbsent) 0)

/-- Errors that the reads of a command find are recorded first: a vector program's work, a BULK_WRITE, a BULK_READ, a scrub pass and the tile, update
and weave commands named below act with errors found as they do without them on the state that holds the errors. One bad symbol of a granule is
corrected: it counts in MEM_CE of its channel, its address stands in MEM_CEADDR, and no byte of memory changes. More bad symbols, or data from a
wrong address, are an uncorrectable error: it counts in MEM_UE, poisons its granule and informs the health monitor, and no byte of memory changes.
Poison that a CXL port which is up receives counts in CXL_POISON and poisons the 64-byte block. -/
def Obligations.ErrorsFoundFirst : Prop :=
  (∀ (s : State) (n : Nat) (e : CoreEffect) (ecc : List (Nat × EccError)), exec (.vector n e ecc) s = exec (.vector n e []) (s.eccFound ecc))
  ∧ (∀ (s : State) (p : Nat) (b : List Byte) (bad : Bool) (ecc : List (Nat × EccError)),
      exec (.bulkWrite p b bad ecc) s = exec (.bulkWrite p b bad []) (s.eccFound ecc)
      ∧ exec (.bulkRead p b bad ecc) s = exec (.bulkRead p b bad []) (s.eccFound ecc))
  ∧ (∀ (s : State) (pa : Nat), pa < nearTop → ∃ t, s.eccFound [(pa, .symbols 1)] = t
      ∧ t.rd .memCe (s.channelOf pa) = (s.rd .memCe (s.channelOf pa) + 1) % 2 ^ Reg.memCe.info.width
      ∧ t.rd .memCeaddr (s.channelOf pa) = pa % 2 ^ Reg.memCeaddr.info.width ∧ t.mem.near = s.mem.near ∧ t.mem.far = s.mem.far
      ∧ t.mem.poison = s.mem.poison)
  ∧ (∀ (s : State) (pa n : Nat) (e : EccError), pa < nearTop → 2 ≤ n → (e = .symbols n ∨ e = .address) → ∃ t, s.eccFound [(pa, e)] = t
      ∧ t.rd .memUe (s.channelOf pa) = (s.rd .memUe (s.channelOf pa) + 1) % 2 ^ Reg.memUe.info.width ∧ sget false t.mem.poison (pa / 256) = true
      ∧ t.health.ueAt = some s.now ∧ t.mem.near = s.mem.near ∧ t.mem.far = s.mem.far)
  ∧ (∀ (s : State) (pa : Nat), s.cxlHolds pa 1 = true → s.rd .cxlState (pa / 2 ^ 40) = 2 → ∃ t, s.eccFound [(pa, .cxl)] = t
      ∧ t.rd .cxlPoison (pa / 2 ^ 40) = (s.rd .cxlPoison (pa / 2 ^ 40) + 1) % 2 ^ Reg.cxlPoison.info.width
      ∧ sget false t.mem.farPoison (pa / 64) = true ∧ t.mem.near = s.mem.near ∧ t.mem.far = s.mem.far ∧ t.mem.poison = s.mem.poison)

/-- Every command, from every state, completes: it answers a next state, and leaves the commands that wait behind it as they were. From every state, a
step answers a next state, so that every run of any length meets no fault and no refusal. -/
def Obligations.NothingStops : Prop :=
  (∀ (c : Instr) (s : State), ∃ t, exec c s = .next t ∧ t.pending = s.pending)
  ∧ (∀ (s : State), ∃ t, step s = .next t)
  ∧ (∀ (k : Nat) (s : State), safeRun k s)

/-- For every state, the queue after a step is the queue before it without its front, so the other commands wait in the order they came, and a queue
of well-formed commands stays one. The queue is the model's (log entry 1). -/
def Obligations.StepsKeepTheQueue : Prop :=
  ∀ (s t : State), step s = .next t → t.pending = s.pending.tail ∧ (s.queueWf → t.queueWf)

/-- For every state whose memories list their bytes at strictly rising addresses with no entry that equals what an unlisted address reads as, and
whose register store lists its fields in the same way, the state after a step does so too: equal contents stay equal data. The form is the model's
(log entry 4). -/
def Obligations.StepsKeepCanonicalForms : Prop :=
  ∀ (s t : State), s.mem.wf → s.regsWf → step s = .next t → t.mem.wf ∧ t.regsWf

/-- For every reader that reaches the word: a write of a word whose fields all take values at once, and that the reader may write, puts each field's
bits in place by its access code and is answered OK. A write of an RW field puts the word's bits into the field and changes no other field; a
write of an RWS field goes to the field's shadow and changes no field in force; a 1 written to a W1C field other than ERR_VALID clears that bit. A
write of a word with no writable part is discarded by a session's or hart's write and answered OK. A write by a session or a hart of a word of
which it may write no part is refused with SES_RIGHTS and changes nothing else; the keel's is blocked by the bridle, which counts it. A write of
an offset that is not a multiple of 4, of an address beyond the register space, or of a page that does not exist is refused with GEN_ACCESS_SIZE,
GEN_ADDR_RANGE or GEN_PAGE_ABSENT. A write of the first or second word of a doorbell block is the ring's tail or head write, and one of STAGE or
DISCARD is that command. -/
def Obligations.RegisterWritesByAccessCode : Prop :=
  (∀ (s : State) (rdr : Reader) (p o w : Nat), s.reaches rdr p o = true → o ≠ 0x034 → writableParts rdr.num p o ≠ [] →
      (writableParts rdr.num p o).all (fun q => s.mayWriteField rdr q.reg q.idx && q.reg.info.access != .wo) = true → s.sec.ownerClose = false → ∃ t,
      exec (.registerWrite rdr false (p * 4096 + o) w) s = .next t
      ∧ t = ((writableParts rdr.num p o).foldl (fun s q => s.writePart q (w % 2 ^ 32)) s).reply rdr .ok 0)
  ∧ (∀ (s : State) (rdr : Reader) (p o w : Nat) (q : WordPart), s.reaches rdr p o = true → o ≠ 0x034 → writableParts rdr.num p o = [q] →
      s.mayWriteField rdr q.reg q.idx = true → q.reg.info.access = .rw → s.sec.ownerClose = false → ∃ t,
      exec (.registerWrite rdr false (p * 4096 + o) w) s = .next t ∧ t.rd q.reg q.idx = q.take (s.rd q.reg q.idx) (w % 2 ^ 32) % 2 ^ q.reg.info.width
      ∧ answered t rdr .ok ∧ sameConfig s t ∧ t = { s with regs := t.regs, cfg := t.cfg } ∧ sameRegs s t [q.reg.key q.idx])
  ∧ (∀ (s : State) (rdr : Reader) (p o w : Nat) (q : WordPart), s.reaches rdr p o = true → o ≠ 0x034 → writableParts rdr.num p o = [q] →
      s.mayWriteField rdr q.reg q.idx = true → q.reg.info.access = .rws → q.reg ≠ .pwrWakemask → s.sec.ownerClose = false → ∃ t,
      exec (.registerWrite rdr false (p * 4096 + o) w) s = .next t
      ∧ sget none t.cfg.shadows (q.reg.key q.idx) = some (q.take ((sget none s.cfg.shadows (q.reg.key q.idx)).getD (s.committedVal (q.reg.key q.idx))) (w % 2 ^ 32))
      ∧ answered t rdr .ok ∧ t = { s with cfg := { s.cfg with shadows := t.cfg.shadows, answer := t.cfg.answer } } ∧ (∀ k, k ≠ q.reg.key q.idx →
      sget none t.cfg.shadows k = sget none s.cfg.shadows k))
  ∧ (∀ (s : State) (rdr : Reader) (p o w : Nat) (q : WordPart), s.reaches rdr p o = true → o ≠ 0x034 → writableParts rdr.num p o = [q] →
      s.mayWriteField rdr q.reg q.idx = true → q.reg.info.access = .w1c → q.reg ≠ .errValid → s.rd q.reg q.idx < 2 ^ q.reg.info.width →
      s.sec.ownerClose = false → ∃ t, exec (.registerWrite rdr false (p * 4096 + o) w) s = .next t
      ∧ t.rd q.reg q.idx = s.rd q.reg q.idx - (s.rd q.reg q.idx &&& bitsAt (w % 2 ^ 32) q.wordLsb q.width) ∧ answered t rdr .ok ∧ sameConfig s t
      ∧ t = { s with regs := t.regs, cfg := t.cfg } ∧ sameRegs s t [q.reg.key q.idx])
  ∧ (∀ (s : State) (rdr : Reader) (p o w : Nat), s.reaches rdr p o = true → rdr ≠ .keel → writableParts rdr.num p o = [] → s.sec.ownerClose = false →
      ∃ t, exec (.registerWrite rdr false (p * 4096 + o) w) s = .next t ∧ t = s.reply rdr .ok 0)
  ∧ (∀ (s : State) (rdr : Reader) (p o w : Nat), s.reaches rdr p o = true → o ≠ 0x034 → rdr ≠ .keel → writableParts rdr.num p o ≠ [] →
      (writableParts rdr.num p o).all (fun q => !s.mayWriteField rdr q.reg q.idx) = true → s.sec.ownerClose = false → ∃ t,
      exec (.registerWrite rdr false (p * 4096 + o) w) s = .next t ∧ t = s.reply rdr .sesRights 0)
  ∧ (∀ (s : State) (p o w : Nat), s.reaches .keel p o = true → (writableParts 128 p o).all (fun q => !s.mayWriteField .keel q.reg q.idx) = true →
      s.sec.ownerClose = false → ∃ t, exec (.registerWrite .keel false (p * 4096 + o) w) s = .next t
      ∧ t = (s.bridleBlock (p * 4096 + o) (bridleRow p)).reply .keel .ok 0 ∧ t.rd .secBrdviol 0 = (s.rd .secBrdviol 0 + 1) % 2 ^ 32)
  ∧ (∀ (s : State) (rdr : Reader) (a w : Nat), (a % 4 ≠ 0 ∨ 8192 ≤ a / 4096 ∨ pageExists (a / 4096) = false) → s.sec.ownerClose = false → ∃ t,
      exec (.registerWrite rdr false a w) s = .next t
      ∧ t = s.reply rdr (if a % 4 ≠ 0 then .genAccessSize else if 8192 ≤ a / 4096 then .genAddrRange else .genPageAbsent) 0)
  ∧ (∀ (s : State) (rdr : Reader) (r w : Nat), s.bellReader rdr = true → r < 65536 →
      exec (.registerWrite rdr true (64 * r) w) s = exec (.dbTailWrite rdr r (w % 2 ^ 32)) s
      ∧ exec (.registerWrite rdr true (64 * r + 4) w) s = exec (.dbHeadWrite rdr r (w % 2 ^ 32)) s)
  ∧ (∀ (s : State) (rdr : Reader) (p : Nat), s.sec.ownerClose = false → exec (.registerWrite rdr false (p * 4096 + 0x034) 2) s = exec (.stage rdr p) s
      ∧ exec (.registerWrite rdr false (p * 4096 + 0x034) 4) s = exec (.discard rdr p) s)

/-- For every reader (a session, a hart, the keel) whose rights permit the read: a read of the low word of a 64-bit register answers the word and
replaces the reader's capture of that register with the current high word, on whichever page of the register's group it is read, and leaves every
other capture; a read of the high word answers the capture and uses it up, or answers the current high word when there is none; a read of
PAGE_STATUS answers the word as it stands and clears DEFAULTED of the page, but a hart's read of it through a view of a page below its context
page shows BUSY only, and clears nothing; a read of PWR_PEAK answers it and starts it anew; any other read answers the word and changes nothing.
In each case nothing else changes. -/
def Obligations.RegisterReadsAnswered : Prop :=
  (∀ (s : State) (rdr : Reader) (p o a : Nat), s.readable rdr p o = true → seesWhole rdr p o = true → low64 rdr.num p o = some a → a % 4096 = o → ∃ t,
      exec (.lowWordRead rdr (p * 4096 + o)) s = .next t ∧ t.cfg.answer = some ⟨some rdr, .ok, s.readWord rdr p o⟩
      ∧ sget none t.cfg.captures (captureKey rdr a) = some (s.readWord rdr p (o + 4))
      ∧ t = { s with cfg := { s.cfg with captures := t.cfg.captures, answer := t.cfg.answer } } ∧ (∀ k, k ≠ captureKey rdr a →
      sget none t.cfg.captures k = sget none s.cfg.captures k))
  ∧ (∀ (s : State) (rdr : Reader) (p o a w : Nat), s.readable rdr p o = true → seesWhole rdr p o = true → low64 rdr.num p o = some a → a % 4096 ≠ o →
      sget none s.cfg.captures (captureKey rdr a) = some w → ∃ t, exec (.highWordRead rdr (p * 4096 + o)) s = .next t
      ∧ t.cfg.answer = some ⟨some rdr, .ok, w⟩ ∧ sget none t.cfg.captures (captureKey rdr a) = none
      ∧ t = { s with cfg := { s.cfg with captures := t.cfg.captures, answer := t.cfg.answer } } ∧ (∀ k, k ≠ captureKey rdr a →
      sget none t.cfg.captures k = sget none s.cfg.captures k))
  ∧ (∀ (s : State) (rdr : Reader) (p o a : Nat), s.readable rdr p o = true → seesWhole rdr p o = true → low64 rdr.num p o = some a → a % 4096 ≠ o →
      sget none s.cfg.captures (captureKey rdr a) = none → ∃ t, exec (.highWordRead rdr (p * 4096 + o)) s = .next t
      ∧ t = s.reply rdr .ok (s.readWord rdr p o))
  ∧ (∀ (s : State) (rdr : Reader) (p o : Nat), s.readable rdr p o = true → seesWhole rdr p o = true → low64 rdr.num p o = none → o ≠ 0x008 → ¬(p = 8
      ∧ o = 0x128) → ∃ t, exec (.lowWordRead rdr (p * 4096 + o)) s = .next t ∧ t = s.reply rdr .ok (s.readWord rdr p o))
  ∧ (∀ (s : State) (rdr : Reader) (p : Nat), s.readable rdr p 0x008 = true → seesWhole rdr p 0x008 = true → ∃ t,
      exec (.pageStatusRead rdr p) s = .next t ∧ t.cfg.answer = some ⟨some rdr, .ok, s.readWord rdr p 0x008⟩ ∧ t.rd .defaulted p = 0 ∧ sameConfig s t
      ∧ t = { s with regs := t.regs, cfg := t.cfg } ∧ sameRegs s t [Reg.defaulted.key p])
  ∧ (∀ (s : State) (h p : Nat), s.readable (.hart h) p 0x008 = true → p < 0x1000 → ∃ t, exec (.pageStatusRead (.hart h) p) s = .next t
      ∧ t = s.reply (.hart h) .ok (2 * b2n (s.busyPage p)))
  ∧ (∀ (s : State) (rdr : Reader), s.readable rdr 8 0x128 = true → ∃ t, exec (.lowWordRead rdr 0x8128) s = .next t
      ∧ t.cfg.answer = some ⟨some rdr, .ok, s.readWord rdr 8 0x128⟩ ∧ t.rd .pwrPeak 0 = 0 ∧ sameConfig s t
      ∧ t = { s with regs := t.regs, cfg := t.cfg } ∧ sameRegs s t [Reg.pwrPeak.key 0])

/-- Every reader that reaches the page and may write the field (session 0, the owner of a context on its page, a hart on its context's page, the keel
on a page whose events are routed to it): ERR_VALID_CLEAR clears ERR_VALID, ERR_CODE and ERR_INFO of the page and leaves ERR_COUNT and every other
field; EVT_PENDING_CLEAR clears exactly the named bits of EVT_PENDING of the page, and withdraws no event. -/
def Obligations.HeaderClearsComplete : Prop :=
  (∀ (s : State) (rdr : Reader) (p : Nat), s.reaches rdr p 0x020 = true → s.mayWriteField rdr .errValid p = true → ∃ t,
      exec (.errValidClear rdr p) s = .next t ∧ t.rd .errValid p = 0 ∧ t.rd .errCode p = 0 ∧ t.rd .errInfo p = 0 ∧ answered t rdr .ok ∧ sameConfig s t
      ∧ t = { s with regs := t.regs, cfg := t.cfg } ∧ sameRegs s t [Reg.errValid.key p, Reg.errCode.key p, Reg.errInfo.key p])
  ∧ (∀ (s : State) (rdr : Reader) (p v : Nat), s.reaches rdr p 0x010 = true → s.mayWriteField rdr .evtPending p = true → s.rd .evtPending p < 2 ^ 15 →
      v < 2 ^ 15 → ∃ t, exec (.evtPendingClear rdr p v) s = .next t ∧ t.rd .evtPending p = s.rd .evtPending p - (s.rd .evtPending p &&& v)
      ∧ answered t rdr .ok ∧ sameConfig s t ∧ t = { s with regs := t.regs, cfg := t.cfg } ∧ sameRegs s t [Reg.evtPending.key p])

/-- For every reader that reaches the page and may write the field: STAGE adds the page to the staged set; DISCARD drops the page's shadows and takes
it from the set; COMMIT of a page without uncommitted values, with nothing being adopted, takes the next epoch, shows it in GLB_EPOCH and in
CFG_EPOCH of the page, and changes nothing else; COMMIT of a page whose values break a rule across its fields puts nothing in force and records
the rule's status at the page. Session 0: COMMIT of a new FH_LEVELMIN on page 0x0428, with nothing else uncommitted and nothing being adopted, and
COMMIT_STAGED of that page alone, put the value in force at the next epoch, drop the shadow and show the epoch in GLB_EPOCH and CFG_EPOCH;
COMMIT_STAGED of an empty set changes nothing. EPOCH_ADOPT of an island that is at its boundary takes it from those that a committed epoch waits
for; by the last island that an epoch of a context's CTX_OVFMODE waits for, it puts the value in force and shows the epoch. An island that is not
at its boundary adopts nothing yet. -/
def Obligations.ConfigurationCommandsComplete : Prop :=
  (∀ (s : State) (rdr : Reader) (p : Nat), s.reaches rdr p 0x034 = true → s.mayWriteField rdr .stage p = true → ∃ t, exec (.stage rdr p) s = .next t
      ∧ sget false t.cfg.staged p = true ∧ answered t rdr .ok ∧ t = { s with cfg := { s.cfg with staged := t.cfg.staged, answer := t.cfg.answer } }
      ∧ (∀ k, k ≠ p → sget false t.cfg.staged k = sget false s.cfg.staged k))
  ∧ (∀ (s : State) (rdr : Reader) (p : Nat), s.reaches rdr p 0x034 = true → s.mayWriteField rdr .discard p = true → ∃ t,
      exec (.discard rdr p) s = .next t ∧ sget false t.cfg.staged p = false ∧ t.cfg.shadows = s.cfg.shadows.filter (fun q => !keyOnPage p q.1)
      ∧ answered t rdr .ok ∧ t = { s with cfg := { s.cfg with staged := t.cfg.staged, shadows := t.cfg.shadows, answer := t.cfg.answer } })
  ∧ (∀ (s : State) (rdr : Reader) (p : Nat), s.reaches rdr p 0x034 = true → s.mayWriteField rdr .commit p = true → s.dirtyOn p = [] →
      s.cfg.adopting = [] → s.flt.routes = [] → ∃ t, exec (.commit rdr p) s = .next t ∧ t.rd .glbEpoch 0 = (s.rd .glbEpoch 0 + 1) % 2 ^ 32
      ∧ t.rd .cfgEpoch p = (s.rd .glbEpoch 0 + 1) % 2 ^ 32 ∧ answered t rdr .ok ∧ sget false t.cfg.staged p = false
      ∧ t = { s with regs := t.regs, cfg := { s.cfg with shadows := s.cfg.shadows.filter (fun q => !keyOnPage p q.1), staged := t.cfg.staged, answer := t.cfg.answer } }
      ∧ sameRegs s t [Reg.glbEpoch.key 0, Reg.cfgEpoch.key p])
  ∧ (∀ (s : State) (rdr : Reader) (p : Nat) (st : Status), s.reaches rdr p 0x034 = true → s.mayWriteField rdr .commit p = true →
      (s.reply rdr .ok 0).pageCheck ((s.reply rdr .ok 0).after (s.candidates p)) p (s.candidates p) = st → st ≠ .ok → ∃ t,
      exec (.commit rdr p) s = .next t ∧ t = (s.reply rdr .ok 0).recordError p st 0
      ∧ t.rd .errCount p = (s.rd .errCount p + 1) % 2 ^ Reg.errCount.info.width ∧ t.cfg.shadows = s.cfg.shadows ∧ t.rd .glbEpoch 0 = s.rd .glbEpoch 0)
  ∧ (∀ (s : State) (v : Nat), s.isClaim 0 = false → s.cfg.shadows = [(Reg.fhLevelmin.key 0, some v)] → s.cfg.adopting = [] → v < 8 → ∃ t,
      exec (.commit (.session 0) 0x428) s = .next t ∧ t.rd .fhLevelmin 0 = v ∧ t.rd .glbEpoch 0 = (s.rd .glbEpoch 0 + 1) % 2 ^ 32
      ∧ t.rd .cfgEpoch 0x428 = (s.rd .glbEpoch 0 + 1) % 2 ^ 32 ∧ t.cfg.shadows = [] ∧ t.cfg.adopting = [] ∧ answered t (.session 0) .ok
      ∧ t = { s with regs := t.regs, cfg := t.cfg } ∧ sameRegs s t [Reg.fhLevelmin.key 0, Reg.glbEpoch.key 0, Reg.cfgEpoch.key 0x428])
  ∧ (∀ (s : State) (v : Nat), s.isClaim 0 = false → s.cfg.shadows = [(Reg.fhLevelmin.key 0, some v)] → s.cfg.staged = [(0x428, true)] →
      s.cfg.adopting = [] → v < 8 → ∃ t, exec (.commitStaged (.session 0)) s = .next t ∧ t.rd .fhLevelmin 0 = v
      ∧ t.rd .glbEpoch 0 = (s.rd .glbEpoch 0 + 1) % 2 ^ 32 ∧ t.rd .cfgEpoch 0x428 = (s.rd .glbEpoch 0 + 1) % 2 ^ 32 ∧ t.cfg.shadows = []
      ∧ t.cfg.staged = [] ∧ t.cfg.adopting = [] ∧ answered t (.session 0) .ok ∧ t = { s with regs := t.regs, cfg := t.cfg }
      ∧ sameRegs s t [Reg.fhLevelmin.key 0, Reg.glbEpoch.key 0, Reg.cfgEpoch.key 0x428])
  ∧ (∀ (s : State), s.isClaim 0 = false → s.cfg.staged = [] → ∃ t, exec (.commitStaged (.session 0)) s = .next t ∧ t = s.reply (.session 0) .ok 0)
  ∧ (∀ (s : State) (isl c v e : Nat), c < 64 → v < 3 → e < 2 ^ 32 → s.cfg.adopting = [⟨e, ctxPage c, [(Reg.ctxOvfmode.key c, v)], [(isl, none)]⟩] →
      s.mayAdopt isl none = true → ∃ t, exec (.epochAdopt isl none) s = .next t ∧ t.rd .ctxOvfmode c = v ∧ t.rd .cfgEpoch (ctxPage c) = e
      ∧ t.cfg = { s.cfg with adopting := [] } ∧ t = { s with regs := t.regs, cfg := t.cfg }
      ∧ sameRegs s t [Reg.ctxOvfmode.key c, Reg.cfgEpoch.key (ctxPage c)])
  ∧ (∀ (s : State) (isl : Nat) (a : Adopting), s.cfg.adopting = [a] → a.islands.filter (· ≠ (isl, none)) ≠ [] → s.mayAdopt isl none = true → ∃ t,
      exec (.epochAdopt isl none) s = .next t
      ∧ t = { s with cfg := { s.cfg with adopting := [{ a with islands := a.islands.filter (· ≠ (isl, none)) }] } })
  ∧ (∀ (s : State) (isl : Nat) (ctx : Option Nat), s.mayAdopt isl ctx = false → ∃ t, exec (.epochAdopt isl ctx) s = .next t ∧ t = s)

/-- FREQUENCY_CHANGE of a variable island that runs, to a frequency within the island's range (a cluster only while the power stage does not limit the
clusters, the model's reading, log entry 68), gives it the frequency and the voltage and changes no other field; an island that does not run, or
is not variable, keeps its clock. DEVTIME_WRAP at the last value of device time makes it zero. DEVTIME_REF_FAULT, once, sets GLB_DEVTIMEMON, tells
the health monitor and raises DEVTIME_REF_FAULT on page 0x0000, and device time does not jump. -/
def Obligations.ClockCommandsComplete : Prop :=
  (∀ (s : State) (isl freq volt : Nat), variableIsland isl = true → s.rd .islState isl = 1 → ¬(isl < 192 ∧ s.pow.limited = true) →
      freqWithin isl freq = freq → volt < 2 ^ 12 → ∃ t, exec (.frequencyChange isl freq volt) s = .next t ∧ t.rd .islFreq isl = freq
      ∧ t.rd .islVolt isl = volt ∧ t = { s with regs := t.regs } ∧ sameRegs s t [Reg.islFreq.key isl, Reg.islVolt.key isl])
  ∧ (∀ (s : State), s.now = 2 ^ 64 - 1 → ∃ t, exec (.devtimeWrap) s = .next t ∧ t.now = 0 ∧ t = { s with regs := t.regs }
      ∧ sameRegs s t [Reg.glbDevtime.key 0])
  ∧ (∀ (s : State), s.flag .glbDevtimemon 0 = false → ∃ t, exec (.devtimeRefFault) s = .next t ∧ t.rd .glbDevtimemon 0 = 1
      ∧ t.health = { s.health with devtimeFault := true } ∧ eventAt t 0x0 .devtimeRefFault ∧ t.now = s.now
      ∧ t = { s with regs := t.regs, health := t.health, events := t.events, keelEvents := t.keelEvents })
  ∧ (∀ (s : State) (isl freq volt : Nat), (variableIsland isl = false ∨ s.rd .islState isl ≠ 1) → ∃ t,
      exec (.frequencyChange isl freq volt) s = .next t ∧ t = s)

/-- ISLAND_GATE of an idle running island, with gating enabled, makes it GATED and counts; ISLAND_UNGATE makes a gated island RUNNING; ISLAND_WATCHDOG
outside a module-wide reset tells the health monitor when, sets DEFAULTED on page 0x0004 when the island is a Weavin engine or a sampler unit, and
has a CXL link train again; ISLAND_RESET_COMPLETE makes the island RUNNING. What they leave unchanged is stated with each. -/
def Obligations.GatingAndIslandResetsComplete : Prop :=
  (∀ (s : State) (isl : Nat), s.flag .pwrGateen 0 = true → s.rd .islState isl = 1 → s.islandIdle isl = true → ∃ t, exec (.islandGate isl) s = .next t
      ∧ t.rd .islState isl = 2 ∧ t.rd .pwrGatings 0 = (s.rd .pwrGatings 0 + 1) % 2 ^ 32 ∧ t = { s with regs := t.regs }
      ∧ sameRegs s t [Reg.islState.key isl, Reg.pwrGatings.key 0, Reg.gqHarts.key (isl - 192)])
  ∧ (∀ (s : State) (isl : Nat), s.rd .islState isl = 2 → isl < 317 → ∃ t, exec (.islandUngate isl) s = .next t ∧ t.rd .islState isl = 1
      ∧ t = { s with regs := t.regs } ∧ sameRegs s t [Reg.islState.key isl, Reg.gqHarts.key (isl - 192)])
  ∧ (∀ (s : State) (isl : Nat), ((298 ≤ isl ∧ isl < 302) ∨ (303 ≤ isl ∧ isl < 309)) → s.pow.resetting = none → ∃ t,
      exec (.islandWatchdog isl) s = .next t ∧ t.rd .defaulted 4 = 1 ∧ t.rd .defaulted (islandPage isl) = 1 ∧ t.mem = s.mem ∧ t.cart = s.cart)
  ∧ (∀ (s : State) (p : Nat), p < 8 → s.pow.resetting = none → ∃ t, exec (.islandWatchdog (288 + p)) s = .next t ∧ t.rd .cxlState p = 1
      ∧ t.rd .defaulted 4 = 1 ∧ t.rd .defaulted (0x340 + p) = 1)
  ∧ (∀ (s : State) (isl : Nat), resettable isl = true → s.rd .islState isl = 0 → s.pow.resetting = none → ∃ t,
      exec (.islandResetComplete isl) s = .next t ∧ t.rd .islState isl = 1 ∧ (variableIsland isl = false → t.rd .islFreq isl = fixedFreq isl)
      ∧ t = { s with regs := t.regs } ∧ sameRegs s t [Reg.islState.key isl, Reg.islFreq.key isl, Reg.islVolt.key isl])

/-- POWER_EXCURSION above 5,500 W, or above the ceiling for long, counts, limits the clusters and raises PWR_EXCURSION; of the clusters each that ran
is at 600 MHz; a shorter one above the ceiling counts only, and input power at or below the ceiling counts nothing. PWR_PEAK keeps the greatest
input power in each case. POWER_ON of a module without power that is not held off begins a power-on with the straps read into FLT_FEEDTAG, and the
cartridge logs POWER_UP; a module that is held off, or has tripped and is still hot, stays off. POWER_OFF and OVERVOLTAGE_LOCKOUT take the power
away: near memory is gone and the module is off; at POWER_OFF of a powered module the cartridge logs POWER_DOWN. SUPPLY_DROOP counts and tells the
health monitor, and changes nothing else. -/
def Obligations.SupplyEventsComplete : Prop :=
  (∀ (s : State) (watts : Nat) (long : Bool), s.rd .fuseCeiling 0 < watts → (5500 < watts ∨ long = true) → ∃ t,
      exec (.powerExcursion watts long) s = .next t ∧ t.pow.limited = true ∧ t.rd .pwrExcursions 0 = (s.rd .pwrExcursions 0 + 1) % 2 ^ 32
      ∧ t.rd .pwrLimited 0 = (s.rd .pwrLimited 0 + 1) % 2 ^ 32 ∧ eventAt t 0x8 .pwrExcursion
      ∧ t.rd .pwrPeak 0 = max (s.rd .pwrPeak 0) (min watts 65535) % 2 ^ Reg.pwrPeak.info.width ∧ (∀ n < 192, s.rd .islState n = 1 →
      t.rd .islFreq n = 600) ∧ t = { s with regs := t.regs, pow := { s.pow with limited := true }, events := t.events, keelEvents := t.keelEvents })
  ∧ (∀ (s : State) (straps : Nat) (hot : Bool), s.pow.on = false → s.pow.heldOff = false → ¬(s.pow.tripped = true ∧ hot = true) → straps < 2 ^ 16 →
      ∃ t, exec (.powerOn straps hot) s = .next t ∧ t.pow = PowerState.start ∧ t.rd .fltFeedtag 0 = straps ∧ t.mem.near = []
      ∧ t.cart = (s.cartPower 1).cart ∧ t.pending = s.pending)
  ∧ (∀ (s : State) (low : Bool), ∃ t, exec (.powerOff low) s = .next t ∧ t.pow.on = false ∧ t.pow.heldOff = (s.pow.heldOff && !low) ∧ t.mem.near = []
      ∧ t.cart = (if s.pow.on ∨ s.pow.lockout then s.cartPower 2 else s).cart ∧ t.pending = s.pending)
  ∧ (∀ (s : State), ∃ t, exec (.overvoltageLockout) s = .next t ∧ t.pow.on = false ∧ t.pow.lockout = true ∧ t.mem.near = [] ∧ t.cart = s.cart
      ∧ t.pending = s.pending)
  ∧ (∀ (s : State), ∃ t, exec (.supplyDroop) s = .next t ∧ t.rd .fhDroops 0 = (s.rd .fhDroops 0 + 1) % 2 ^ 32
      ∧ t.health = { s.health with droops := s.health.droops ++ [s.now] } ∧ t = { s with regs := t.regs, health := t.health }
      ∧ sameRegs s t [Reg.fhDroops.key 0])
  ∧ (∀ (s : State) (watts : Nat), s.rd .fuseCeiling 0 < watts → watts ≤ 5500 → ∃ t, exec (.powerExcursion watts false) s = .next t
      ∧ t.rd .pwrExcursions 0 = (s.rd .pwrExcursions 0 + 1) % 2 ^ 32
      ∧ t.rd .pwrPeak 0 = max (s.rd .pwrPeak 0) (min watts 65535) % 2 ^ Reg.pwrPeak.info.width ∧ t = { s with regs := t.regs }
      ∧ sameRegs s t [Reg.pwrPeak.key 0, Reg.pwrExcursions.key 0])
  ∧ (∀ (s : State) (watts : Nat) (long : Bool), watts ≤ s.rd .fuseCeiling 0 → ∃ t, exec (.powerExcursion watts long) s = .next t
      ∧ t.rd .pwrPeak 0 = max (s.rd .pwrPeak 0) (min watts 65535) % 2 ^ Reg.pwrPeak.info.width ∧ t = { s with regs := t.regs }
      ∧ sameRegs s t [Reg.pwrPeak.key 0])
  ∧ (∀ (s : State) (straps : Nat) (hot : Bool), s.pow.on = false → (s.pow.heldOff = true ∨ (s.pow.tripped = true ∧ hot = true)) → ∃ t,
      exec (.powerOn straps hot) s = .next t ∧ t.pow = { s.pow with on := true, lockout := false, heldOff := true }
      ∧ t = { s.cartPower 1 with pow := t.pow })

/-- THERMAL_THROTTLE of a variable island that runs lowers its clock to the given frequency, at the lowest to the bottom of its range, and never
raises it; a fabric island at its limit lowers every running cluster of its die. THERMAL_TRIP removes island power and holds the module off: near
memory is gone, and the always-on domain keeps device time and the metering interface. -/
def Obligations.ThermalEventsComplete : Prop :=
  (∀ (s : State) (isl freq : Nat), variableIsland isl = true → s.rd .islState isl = 1 → s.rd .islFreq isl < 2 ^ 12 → ∃ t,
      exec (.thermalThrottle isl freq) s = .next t ∧ t.rd .islFreq isl = min (s.rd .islFreq isl) (freqWithin isl freq) ∧ t = { s with regs := t.regs }
      ∧ sameRegs s t [Reg.islFreq.key isl])
  ∧ (∀ (s : State) (d n freq : Nat), d < 2 → n < 96 → s.rd .islState (96 * d + n) = 1 → s.rd .islFreq (96 * d + n) < 2 ^ 12 → ∃ t,
      exec (.thermalThrottle (310 + d) freq) s = .next t
      ∧ t.rd .islFreq (96 * d + n) = min (s.rd .islFreq (96 * d + n)) (freqWithin (96 * d + n) freq) ∧ t = { s with regs := t.regs })
  ∧ (∀ (s : State), ∃ t, exec (.thermalTrip) s = .next t ∧ t.pow.heldOff = true ∧ t.pow.tripped = true ∧ t.mem.near = [] ∧ t.now = s.now
      ∧ t.meter = s.meter ∧ t.cart = s.cart ∧ t.pending = s.pending)

/-- MODULE from session 0, and RESET_REQUEST_N low for 10 µs in P0, start a module reset when none and no power-on is under way: near memory is zero,
the CXL tier keeps its bytes, the queues of contexts are empty, and RST_LAST, RST_CAUSE and RST_TIME tell of it; the pin low for less than 1 µs
changes nothing, and in P2 it wakes the module first, the reset waiting for P0. WARM from the keel starts a warm reset when nothing of the kind is
under way and the module holds no work of the flight; where it holds such work the module declares its own fault first. A module reset from
another reader than session 0, and a warm reset from another than the keel, are refused with SES_RIGHTS. RESET_COMPLETE ends a module reset: every
island runs and both tether ports train. -/
def Obligations.ModuleWideResetsComplete : Prop :=
  (∀ (s : State), s.pow.resetting ≠ some .module → s.pow.resetting ≠ some .powerOn → ∃ t, exec (.moduleReset (.session 0)) s = .next t
      ∧ t.pow.resetting = some .module ∧ answered t (.session 0) .ok ∧ t.mem.near = [] ∧ t.mem.far = s.mem.far ∧ t.rings = [] ∧ t.rd .rstLast 0 = 2
      ∧ t.rd .rstCause 0 = 2 ∧ t.rd .rstTime 0 = s.now % 2 ^ 64 ∧ t.cart = s.cart ∧ t.pending = s.pending)
  ∧ (∀ (s : State) (low : Nat), 10000 ≤ low → s.pow.on = true → s.pow.heldOff = false → s.rd .pwrState 0 = 0 → s.pow.resetting ≠ some .module →
      s.pow.resetting ≠ some .powerOn → ∃ t, exec (.resetRequestPin low) s = .next t ∧ t.pow.resetting = some .module ∧ t.mem.near = []
      ∧ t.mem.far = s.mem.far ∧ t.rd .rstLast 0 = 2 ∧ t.rd .rstCause 0 = 4 ∧ t.pending = s.pending)
  ∧ (∀ (s : State), s.pow.resetting = none → s.pow.warmWaits = none → s.flightWork = false → ∃ t, exec (.rstWarm .keel) s = .next t
      ∧ t.pow.resetting = some .warm ∧ t.pow.warmWaits = none ∧ answered t .keel .ok)
  ∧ (∀ (s : State) (imageOk : Bool), s.pow.resetting = some .module → ∃ t, exec (.resetComplete imageOk) s = .next t
      ∧ t.pow = { s.pow with resetting := none } ∧ (∀ i < 317, t.rd .islState i = 1) ∧ t.rd .tethPortstate0 0 = tpTraining
      ∧ t.rd .tethPortstate1 0 = tpTraining ∧ t = { s with regs := t.regs, pow := t.pow, sec := t.sec, mem := t.mem, health := t.health }
      ∧ t.mem.near = s.mem.near ∧ t.mem.far = s.mem.far)
  ∧ (∀ (s : State) (low : Nat), 10000 ≤ low → s.pow.on = true → s.pow.heldOff = false → s.rd .pwrState 0 = 2 → bitAt (s.rd .pwrWakemask 0) 4 = true →
      ∃ t, exec (.resetRequestPin low) s = .next t ∧ t.rd .pwrState 0 = 3 ∧ t.rd .wakeSource 0 = 5
      ∧ t.pow = { s.pow with deferred := s.pow.deferred ++ [.pin] } ∧ t = { s with regs := t.regs, pow := t.pow })
  ∧ (∀ (s : State) (low : Nat), low < 1000 → ∃ t, exec (.resetRequestPin low) s = .next t ∧ t = s)
  ∧ (∀ (s : State), s.pow.resetting = none → s.pow.warmWaits = none → s.flightWork = true → ∃ t, exec (.rstWarm .keel) s = .next t
      ∧ t.pow.warmWaits = some 5 ∧ t.pow.resetting = none ∧ t.mem = s.mem ∧ answered t .keel .ok)
  ∧ (∀ (s : State) (rdr : Reader), (rdr ≠ .session 0 → ∃ t, exec (.moduleReset rdr) s = .next t ∧ t = s.reply rdr .sesRights 0) ∧ (rdr ≠ .keel → ∃ t,
      exec (.rstWarm rdr) s = .next t ∧ t = s.reply rdr .sesRights 0))

/-- ENTER_P2 from session 0 with every condition of R449 met begins the entry and changes nothing else; P2_ENTRY_COMPLETE during the entry reaches P2,
counts it and leaves every island RETAINED; WAKE from a source that PWR_WAKEMASK lets through in P2 records the source, the index and the time and
leaves P2; WAKE_COMPLETE with no sideband command and no doorbell word waiting returns to P0; PWR_LIFT from session 0 sends the lift pattern on
exactly the named spans that are DARK or REFUSED. ENTER_P2 with a condition unmet leaves the module in P0 and names the first such condition and
its status. P2_ENTRY_COMPLETE with wake activity held wakes at once. ENTER_P2 and PWR_LIFT from other readers are refused with SES_RIGHTS. -/
def Obligations.P2EntryAndWakeComplete : Prop :=
  (∀ (s : State), s.p2Conditions.all (fun q => q.1) = true → ∃ t, exec (.enterP2 (.session 0)) s = .next t ∧ t.rd .pwrState 0 = 1
      ∧ t.rd .pwrRefusecond 0 = 0 ∧ t.pow = { s.pow with enteredAt := s.now } ∧ answered t (.session 0) .ok ∧ sameConfig s t
      ∧ t = { s with regs := t.regs, pow := t.pow, cfg := t.cfg } ∧ sameRegs s t [Reg.pwrState.key 0, Reg.pwrRefusecond.key 0])
  ∧ (∀ (s : State), s.rd .pwrState 0 = 1 → s.pow.wakeHeld = none → ∃ t, exec (.p2EntryComplete) s = .next t ∧ t.rd .pwrState 0 = 2
      ∧ t.rd .pwrP2count 0 = (s.rd .pwrP2count 0 + 1) % 2 ^ 32 ∧ (∀ i < 317, t.rd .islState i = 3) ∧ t = { s with regs := t.regs, pow := t.pow })
  ∧ (∀ (s : State) (src idx : Nat), 1 ≤ src ∧ src ≤ 6 → idx < 64 → bitAt (s.rd .pwrWakemask 0) (src - 1) = true → s.rd .pwrState 0 = 2 → ∃ t,
      exec (.wake src idx) s = .next t ∧ t.rd .pwrState 0 = 3 ∧ t.rd .wakeSource 0 = src ∧ t.rd .wakeIndex 0 = idx
      ∧ t.rd .pwrWaketime 0 = s.now % 2 ^ 64 ∧ t = { s with regs := t.regs }
      ∧ sameRegs s t [Reg.pwrState.key 0, Reg.wakeSource.key 0, Reg.wakeIndex.key 0, Reg.pwrWaketime.key 0])
  ∧ (∀ (s : State), s.rd .pwrState 0 = 3 → s.pow.deferred = [] → s.pow.doorbells = [] → ∃ t, exec (.wakeComplete) s = .next t ∧ t.rd .pwrState 0 = 0
      ∧ (∀ i < 317, t.rd .islState i = 1) ∧ eventAt t 0x8 .pwrWoken ∧ t.mem = s.mem)
  ∧ (∀ (s : State) (mask : Nat), ∃ t, exec (.pwrLift (.session 0) mask) s = .next t
      ∧ t.out = s.out ++ ((setBitsOf mask 32).filter (fun n => s.rd .spnState n = spDark ∨ s.rd .spnState n = spRefused)).map Out.lift
      ∧ answered t (.session 0) .ok ∧ sameConfig s t ∧ t = { s with out := t.out, cfg := t.cfg })
  ∧ (∀ (s : State) (n : Nat) (st : Status), firstUnmet 1 s.p2Conditions = some (n, st) → ∃ t, exec (.enterP2 (.session 0)) s = .next t
      ∧ t.rd .pwrCmdstatus 0 = st.code % 2 ^ Reg.pwrCmdstatus.info.width ∧ t.rd .pwrRefusecond 0 = n % 2 ^ Reg.pwrRefusecond.info.width
      ∧ answered t (.session 0) .ok ∧ sameConfig s t ∧ t = { s with regs := t.regs, cfg := t.cfg }
      ∧ sameRegs s t [Reg.pwrCmdstatus.key 0, Reg.pwrRefusecond.key 0])
  ∧ (∀ (s : State) (src idx : Nat), s.rd .pwrState 0 = 1 → s.pow.wakeHeld = some (src, idx) → src < 16 → ∃ t, exec (.p2EntryComplete) s = .next t
      ∧ t.rd .pwrState 0 = 3 ∧ t.rd .wakeSource 0 = src ∧ t.rd .pwrP2count 0 = (s.rd .pwrP2count 0 + 1) % 2 ^ 32
      ∧ t = { s with regs := t.regs, pow := t.pow })
  ∧ (∀ (s : State) (rdr : Reader) (mask : Nat), rdr ≠ .session 0 → ∃ t, exec (.enterP2 rdr) s = .next t ∧ exec (.pwrLift rdr mask) s = .next t
      ∧ t = s.reply rdr .sesRights 0)

/-- BRIDLE_VIOLATION counts in SEC_BRDVIOL, records the address and the row, raises BRIDLE_VIOLATION on page 0x0002, and the keel's access completes.
KEEL_LOCKSTEP_MISMATCH halts the keel. KEEL_WDKICK with bit 0 set, written by the keel, restarts the watchdog and changes nothing else.
KEEL_WATCHDOG_EXPIRE of a running keel that has not kicked for KEEL_WDPERIOD tells the health monitor. From a session or a hart KEEL_WDKICK is
refused. -/
def Obligations.KeelCommandsComplete : Prop :=
  (∀ (s : State) (addr kind : Nat), kind < 16 → ∃ t, exec (.bridleViolation addr kind) s = .next t
      ∧ t.rd .secBrdviol 0 = (s.rd .secBrdviol 0 + 1) % 2 ^ 32 ∧ t.rd .brdLastaddr 0 = addr % 2 ^ 64 ∧ t.rd .brdLastkind 0 = kind
      ∧ eventAt t 0x2 .bridleViolation ∧ answered t .keel .ok ∧ sameConfig s t
      ∧ t = { s with regs := t.regs, events := t.events, keelEvents := t.keelEvents, cfg := t.cfg })
  ∧ (∀ (s : State), ∃ t, exec (.keelLockstepMismatch) s = .next t ∧ t.rd .keelState 0 = 3 ∧ t.rd .keelMismatch 0 = (s.rd .keelMismatch 0 + 1) % 2 ^ 32
      ∧ t.health = { s.health with keelWatchdog := true } ∧ t.mem = s.mem)
  ∧ (∀ (s : State) (v : Nat), v % 2 = 1 → ∃ t, exec (.keelWdkick .keel v) s = .next t ∧ t.sec = { s.sec with kick := s.now } ∧ answered t .keel .ok
      ∧ sameConfig s t ∧ t = { s with sec := t.sec, cfg := t.cfg })
  ∧ (∀ (s : State), s.rd .keelState 0 = 2 → s.sec.kick + s.rd .keelWdperiod 0 * 1000000 ≤ s.now → ∃ t, exec (.keelWatchdogExpire) s = .next t
      ∧ t.health = { s.health with keelWatchdog := true } ∧ t.rd .fhWatchdogs 0 = (s.rd .fhWatchdogs 0 + 1) % 2 ^ 32 ∧ t.mem = s.mem)
  ∧ (∀ (s : State) (rdr : Reader) (v : Nat), rdr ≠ .keel → ∃ t, exec (.keelWdkick rdr v) s = .next t ∧ t = s.reply rdr .sesRights 0)

/-- GQ_START, from session 0 or the owner of the quad's context, with a context that is DEFINED or RESIDENT, starts every named hart that is HELD at
GQ_BOOTDVA with every register zero; GQ_STOP leaves every named hart HELD with no register kept. Other harts are unchanged. Without such a context
GQ_START is refused with CTX_STATE; readers without the right are refused both with SES_RIGHTS. -/
def Obligations.QuadCommandsComplete : Prop :=
  (∀ (s : State) (rdr : Reader) (q v h : Nat), q < 16 → s.mayQuad rdr q = true → s.flag .gqCtxvalid q = true → s.ctxLive (s.rd .gqCtx q) = true →
      h < 4 → bitAt v h = true → bitsAt (s.rd .gqHarts q) (2 * h) 2 = 0 → ∃ t, exec (.gqStart rdr q v) s = .next t
      ∧ sget Core.idle t.harts (4 * q + h) = { Core.idle with running := true, pc := s.rd .gqBootdva q } ∧ bitsAt (t.rd .gqHarts q) (2 * h) 2 = 1
      ∧ answered t rdr .ok ∧ (∀ n, n / 4 ≠ q → sget Core.idle t.harts n = sget Core.idle s.harts n)
      ∧ t = { s with regs := t.regs, harts := t.harts, cfg := t.cfg } ∧ sameRegs s t [Reg.gqHarts.key q, Reg.gqStarts.key q])
  ∧ (∀ (s : State) (rdr : Reader) (q v h : Nat), q < 16 → s.mayQuad rdr q = true → h < 4 → bitAt v h = true → ∃ t, exec (.gqStop rdr q v) s = .next t
      ∧ sget Core.idle t.harts (4 * q + h) = Core.idle ∧ bitsAt (t.rd .gqHarts q) (2 * h) 2 = 0 ∧ answered t rdr .ok
      ∧ t = { s with regs := t.regs, harts := t.harts, cfg := t.cfg, tly := t.tly } ∧ sameRegs s t [Reg.gqHarts.key q])
  ∧ (∀ (s : State) (rdr : Reader) (q v : Nat), q < 16 → s.mayQuad rdr q = true → v % 16 ≠ 0 →
      (s.flag .gqCtxvalid q && s.ctxLive (s.rd .gqCtx q)) = false → ∃ t, exec (.gqStart rdr q v) s = .next t ∧ t = s.reply rdr .ctxState 0)
  ∧ (∀ (s : State) (rdr : Reader) (q v : Nat), q < 16 → s.mayQuad rdr q = false → ∃ t, exec (.gqStart rdr q v) s = .next t
      ∧ exec (.gqStop rdr q v) s = .next t ∧ t = s.reply rdr .sesRights 0)

/-- For a virtual ID that its translating bank translates (from its cache, or on a miss from the context's table) to physical tally p: SIGNAL(n) adds
n and then serves the queue; a sum above 0xFFFFFFFF fails with TALLY_OVERFLOW and leaves the value; a signal made for another context is refused
with TALLY_FOREIGN where the entry does not allow it; WAIT(n) with an empty queue and a value that covers n subtracts n and completes, and
otherwise joins the tail of the queue and leaves the value; TAKE(n) subtracts n, or fails with TALLY_UNDERFLOW and leaves the value; SET(v) makes
the value v and then serves the queue; READ answers the value and changes no tally; a SIGNAL, WAIT or TAKE with n = 0 changes no tally and
completes; an ID that does not translate fails with the status of its translation. Serving takes waiters from the head while the head's n is
covered, subtracts each, and a head that is not covered blocks every waiter behind it. Only tally p is touched. -/
def Obligations.TallyOperations : Prop :=
  (∀ (s : State) (isl ctx vid n e : Nat) (foreign : Bool), (s.tallyEntry (bankOfIsland isl) ctx vid).toOption = some e → 0 < n → (foreign = true →
      bitAt e 21 = true) → s.tallyVal (bitsAt e 0 20) + n ≤ 0xFFFFFFFF → ∃ t, exec (.tallySignal isl ctx vid n foreign) s = .next t
      ∧ t.tallyVal (bitsAt e 0 20) = (serveQueue (s.tallyVal (bitsAt e 0 20) + n) (s.tallyQueue (bitsAt e 0 20))).1
      ∧ t.tallyQueue (bitsAt e 0 20) = (serveQueue (s.tallyVal (bitsAt e 0 20) + n) (s.tallyQueue (bitsAt e 0 20))).2.1
      ∧ t.cfg.answer = some ⟨none, .ok, 0⟩ ∧ t.mem = s.mem ∧ (∀ p, p ≠ bitsAt e 0 20 → t.tallyVal p = s.tallyVal p ∧ t.tallyQueue p = s.tallyQueue p))
  ∧ (∀ (s : State) (isl ctx vid n e : Nat) (foreign : Bool), (s.tallyEntry (bankOfIsland isl) ctx vid).toOption = some e → 0 < n → (foreign = true →
      bitAt e 21 = true) → 0xFFFFFFFF < s.tallyVal (bitsAt e 0 20) + n → ∃ t, exec (.tallySignal isl ctx vid n foreign) s = .next t
      ∧ t.cfg.answer = some ⟨none, .tallyOverflow, 0⟩ ∧ t.tly = { s.tly with caches := t.tly.caches } ∧ t.mem = s.mem)
  ∧ (∀ (s : State) (isl ctx vid n e : Nat) (a : Agent), (s.tallyEntry (bankOfIsland isl) ctx vid).toOption = some e →
      s.tallyQueue (bitsAt e 0 20) = [] → n ≤ s.tallyVal (bitsAt e 0 20) → ∃ t, exec (.tallyWait isl ctx vid n a) s = .next t
      ∧ t.tallyVal (bitsAt e 0 20) = s.tallyVal (bitsAt e 0 20) - n ∧ t.tallyQueue (bitsAt e 0 20) = [] ∧ t.cfg.answer = some ⟨none, .ok, 1⟩
      ∧ t.mem = s.mem ∧ (∀ p, p ≠ bitsAt e 0 20 → t.tallyVal p = s.tallyVal p ∧ t.tallyQueue p = s.tallyQueue p))
  ∧ (∀ (s : State) (isl ctx vid n e : Nat) (a : Agent), (s.tallyEntry (bankOfIsland isl) ctx vid).toOption = some e → 0 < n →
      (s.tallyQueue (bitsAt e 0 20) ≠ [] ∨ s.tallyVal (bitsAt e 0 20) < n) → ∃ t, exec (.tallyWait isl ctx vid n a) s = .next t
      ∧ t.tallyQueue (bitsAt e 0 20) = s.tallyQueue (bitsAt e 0 20) ++ [⟨a, n⟩] ∧ t.tly.vals = s.tly.vals ∧ t.cfg.answer = some ⟨none, .ok, 0⟩
      ∧ t.mem = s.mem ∧ (∀ p, p ≠ bitsAt e 0 20 → t.tallyQueue p = s.tallyQueue p))
  ∧ (∀ (s : State) (isl ctx vid n e : Nat), (s.tallyEntry (bankOfIsland isl) ctx vid).toOption = some e → n ≤ s.tallyVal (bitsAt e 0 20) → ∃ t,
      exec (.tallyTake isl ctx vid n) s = .next t ∧ t.tallyVal (bitsAt e 0 20) = s.tallyVal (bitsAt e 0 20) - n ∧ t.tly.queues = s.tly.queues
      ∧ t.cfg.answer = some ⟨none, .ok, 0⟩ ∧ t.mem = s.mem ∧ (∀ p, p ≠ bitsAt e 0 20 → t.tallyVal p = s.tallyVal p))
  ∧ (∀ (s : State) (isl ctx vid n e : Nat), (s.tallyEntry (bankOfIsland isl) ctx vid).toOption = some e → s.tallyVal (bitsAt e 0 20) < n → ∃ t,
      exec (.tallyTake isl ctx vid n) s = .next t ∧ t.tly = { s.tly with caches := t.tly.caches } ∧ t.cfg.answer = some ⟨none, .tallyUnderflow, 0⟩
      ∧ t.mem = s.mem)
  ∧ (∀ (s : State) (e : Nat), s.tlyGate (.session 0) true = .ok → (s.tallyEntry 0 (s.rd .tlyCmdctx 0) (s.rd .tlyCmdvid 0)).toOption = some e → ∃ t,
      exec (.tlySet (.session 0)) s = .next t ∧ t.tallyVal (bitsAt e 0 20) = (serveQueue (s.rd .tlyCmdarg 0) (s.tallyQueue (bitsAt e 0 20))).1
      ∧ t.tallyQueue (bitsAt e 0 20) = (serveQueue (s.rd .tlyCmdarg 0) (s.tallyQueue (bitsAt e 0 20))).2.1 ∧ t.rd .tlyCmdstatus 0 = 0
      ∧ answered t (.session 0) .ok ∧ t.mem = s.mem ∧ (∀ p, p ≠ bitsAt e 0 20 → t.tallyVal p = s.tallyVal p ∧ t.tallyQueue p = s.tallyQueue p))
  ∧ (∀ (s : State) (isl ctx vid e : Nat), (s.tallyEntry (bankOfIsland isl) ctx vid).toOption = some e → ∃ t, exec (.tallyRead isl ctx vid) s = .next t
      ∧ t.cfg.answer = some ⟨none, .ok, s.tallyVal (bitsAt e 0 20)⟩ ∧ sameConfig s t ∧ t.tly = { s.tly with caches := t.tly.caches }
      ∧ t = { s with cfg := t.cfg, tly := t.tly })
  ∧ (∀ (s : State) (isl ctx vid e : Nat), (s.tallyEntry (bankOfIsland isl) ctx vid).toOption = some e → ∃ t,
      exec (.tallySignal isl ctx vid 0 false) s = .next t ∧ t.cfg.answer = some ⟨none, .ok, 0⟩ ∧ t.tly = { s.tly with caches := t.tly.caches }
      ∧ t = { s with cfg := t.cfg, tly := t.tly })
  ∧ (∀ (s : State) (isl ctx vid e : Nat), (s.tallyEntry (bankOfIsland isl) ctx vid).toOption = some e → ∃ t,
      exec (.tallyTake isl ctx vid 0) s = .next t ∧ t.cfg.answer = some ⟨none, .ok, 0⟩ ∧ (∀ p, t.tallyVal p = s.tallyVal p)
      ∧ t.tly.queues = s.tly.queues ∧ t = { s with cfg := t.cfg, tly := t.tly })
  ∧ (∀ (s : State) (isl ctx vid e : Nat) (a : Agent), (s.tallyEntry (bankOfIsland isl) ctx vid).toOption = some e → ∃ t,
      exec (.tallyWait isl ctx vid 0 a) s = .next t ∧ t.cfg.answer = some ⟨none, .ok, 1⟩ ∧ t.tly.vals = s.tly.vals ∧ t.tly.queues = s.tly.queues
      ∧ t.mem = s.mem)
  ∧ (∀ (s : State) (isl ctx vid n : Nat) (a : Agent) (st : Status), s.tallyEntry (bankOfIsland isl) ctx vid = .error st → ∃ t,
      exec (.tallySignal isl ctx vid n false) s = .next t ∧ exec (.tallyWait isl ctx vid n a) s = .next t
      ∧ exec (.tallyTake isl ctx vid n) s = .next t ∧ exec (.tallyRead isl ctx vid) s = .next t ∧ t.cfg.answer = some ⟨none, st, 0⟩
      ∧ t = { s with regs := t.regs, cfg := t.cfg } ∧ sameRegs s t [Reg.tlyErrors.key (bankOfIsland isl)])
  ∧ (∀ (s : State) (isl ctx vid n e : Nat), (s.tallyEntry (bankOfIsland isl) ctx vid).toOption = some e → 0 < n → bitAt e 21 = false → ∃ t,
      exec (.tallySignal isl ctx vid n true) s = .next t ∧ t.cfg.answer = some ⟨none, .tallyForeign, 0⟩
      ∧ t.rd .tlyRefused (bankOf (bitsAt e 0 20)) = (s.rd .tlyRefused (bankOf (bitsAt e 0 20)) + 1) % 2 ^ Reg.tlyRefused.info.width
      ∧ t.tly = { s.tly with caches := t.tly.caches } ∧ t.mem = s.mem)

/-- A reader whose command passes the checks of its rights and its context: TLY_SIGNAL and TLY_READ on an ID that bank 0 translates act as the bank's
SIGNAL and READ and return their status, and the value, in the reader's own copies; TLY_MAP that passes its checks takes its count of free tallies
of the bank and completes with OK; TLY_UNMAP of one mapped ID with no waiter returns its tally to its bank, with value 0. A command that does not
pass ends with the status of the first check that fails and changes nothing else. TALLY_WAIT_RETRY takes a kept wait of an agent 1 ms after its
last try and tries it again; before that it changes nothing. -/
def Obligations.TallyCommandsComplete : Prop :=
  (∀ (s : State) (rdr : Reader) (e : Nat), s.tlyGate rdr false = .ok →
      (s.tallyEntry 0 (s.rd .tlyCmdctx rdr.num) (s.rd .tlyCmdvid rdr.num)).toOption = some e → 0 < s.rd .tlyCmdarg rdr.num →
      s.tallyVal (bitsAt e 0 20) + s.rd .tlyCmdarg rdr.num ≤ 0xFFFFFFFF → ∃ t, exec (.tlySignal rdr) s = .next t
      ∧ t.tallyVal (bitsAt e 0 20) = (serveQueue (s.tallyVal (bitsAt e 0 20) + s.rd .tlyCmdarg rdr.num) (s.tallyQueue (bitsAt e 0 20))).1
      ∧ t.rd .tlyCmdstatus rdr.num = 0 ∧ answered t rdr .ok ∧ t.mem = s.mem)
  ∧ (∀ (s : State) (rdr : Reader) (e : Nat), s.tlyGate rdr false = .ok →
      (s.tallyEntry 0 (s.rd .tlyCmdctx rdr.num) (s.rd .tlyCmdvid rdr.num)).toOption = some e → s.tallyVal (bitsAt e 0 20) < 2 ^ 32 → ∃ t,
      exec (.tlyRead rdr) s = .next t ∧ t.rd .tlyCmdvalue rdr.num = s.tallyVal (bitsAt e 0 20) ∧ t.rd .tlyCmdstatus rdr.num = 0 ∧ answered t rdr .ok
      ∧ t.tly = { s.tly with caches := t.tly.caches } ∧ t = { s with regs := t.regs, cfg := t.cfg, tly := t.tly }
      ∧ sameRegs s t [Reg.tlyCmdvalue.key rdr.num, Reg.tlyCmdstatus.key rdr.num])
  ∧ (∀ (s : State) (rdr : Reader) (b : Nat), s.tlyGate rdr false = .ok →
      s.tlyMapCheck (s.rd .tlyCmdctx rdr.num) (s.rd .tlyCmdvid rdr.num) (s.rd .tlyCmdarg rdr.num) (s.rd .tlyCmdbank rdr.num) = .ok →
      b = s.mapBank (s.rd .tlyCmdbank rdr.num) → s.rd .tlyFree b ≤ 2 ^ 18 → ∃ t, exec (.tlyMap rdr) s = .next t
      ∧ t.rd .tlyFree b = s.rd .tlyFree b - s.rd .tlyCmdarg rdr.num ∧ t.rd .tlyCmdstatus rdr.num = 0 ∧ answered t rdr .ok
      ∧ t.tly.queues = s.tly.queues)
  ∧ (∀ (s : State) (rdr : Reader) (e : Nat), s.tlyGate rdr false = .ok → s.rd .tlyCmdarg rdr.num = 1 →
      (s.ttEntry (s.rd .tlyCmdctx rdr.num) (s.rd .tlyCmdvid rdr.num)).toOption = some e → s.rd .tlyCmdvid rdr.num < 65536 →
      s.tallyQueue (bitsAt e 0 20) = [] → ∃ t, exec (.tlyUnmap rdr) s = .next t ∧ t.tallyVal (bitsAt e 0 20) = 0
      ∧ sget none t.tly.owner (bitsAt e 0 20) = none ∧ t.rd .tlyCmdstatus rdr.num = 0 ∧ answered t rdr .ok ∧ t.tly.queues = s.tly.queues)
  ∧ (∀ (s : State) (a : Agent) (r : RetryWait) (e : Nat), s.tly.retry = [r] → r.agent = a → r.since + 1000000 ≤ s.now →
      (s.tallyEntry r.bank r.ctx r.vid).toOption = some e → s.tallyQueue (bitsAt e 0 20) = [] → 0 < r.n → r.n ≤ s.tallyVal (bitsAt e 0 20) → ∃ t,
      exec (.tallyWaitRetry a) s = .next t ∧ t.tly.retry = [] ∧ t.tallyVal (bitsAt e 0 20) = s.tallyVal (bitsAt e 0 20) - r.n ∧ t.mem = s.mem)
  ∧ (∀ (s : State) (a : Agent) (r : RetryWait), s.tly.retry = [r] → s.now < r.since + 1000000 → ∃ t, exec (.tallyWaitRetry a) s = .next t ∧ t = s)
  ∧ (∀ (s : State) (rdr : Reader) (st : Status), s.tlyGate rdr false = st → st ≠ .ok → ∃ t, exec (.tlyMap rdr) s = .next t
      ∧ exec (.tlyUnmap rdr) s = .next t ∧ exec (.tlySignal rdr) s = .next t ∧ exec (.tlyRead rdr) s = .next t ∧ t = s.tlyEnd rdr st)
  ∧ (∀ (s : State) (rdr : Reader) (st : Status), s.tlyGate rdr true = st → st ≠ .ok → ∃ t, exec (.tlySet rdr) s = .next t ∧ t = s.tlyEnd rdr st)
  ∧ (∀ (s : State) (rdr : Reader) (st : Status), s.tlyGate rdr false = .ok →
      s.tlyMapCheck (s.rd .tlyCmdctx rdr.num) (s.rd .tlyCmdvid rdr.num) (s.rd .tlyCmdarg rdr.num) (s.rd .tlyCmdbank rdr.num) = st → st ≠ .ok → ∃ t,
      exec (.tlyMap rdr) s = .next t ∧ t = s.tlyEnd rdr st)
  ∧ (∀ (s : State) (rdr : Reader) (st : Status), s.tlyGate rdr false = .ok →
      s.tlyUnmapCheck (s.rd .tlyCmdctx rdr.num) (s.rd .tlyCmdvid rdr.num) (s.rd .tlyCmdarg rdr.num) = st → st ≠ .ok → ∃ t,
      exec (.tlyUnmap rdr) s = .next t ∧ t = s.tlyEnd rdr st)

/-- TASK_ENTRY_TAKE of a TASK entry at the head of a tile-work ring of a RESIDENT context that takes work makes it a waiting task at the tail of the
context's list, and the head moves past it. TASK_PLACE of the only waiting task of a context puts it into the context's slot on the lowest-
numbered unfenced cluster of its mask whose slot is empty. TILE_BOUNDARY of an idle cluster on which one slot alone holds a task, with nothing
queued, moves the chain past its next descriptor: a tile starts, or a descriptor with TD_DEFER enters the deferred queue. DEFERRED_TILE_RUN with
no chain tile ready takes the head of that slot's queue. Memory errors that the commands' reads find are recorded first; no configuration epoch is
being adopted by the cluster. -/
def Obligations.TasksAndTilesStart : Prop :=
  (∀ (s : State) (ring : Nat) (ecc : List (Nat × EccError)) (e : WorkEntry), s.ringPending ring 0 = true → s.rd .ctxState (s.rd .dbCtx ring) = 2 →
      sget 0 s.ctxRunning (s.rd .dbCtx ring) ≠ 4 → s.serves (s.rd .dbCtx ring) = true → s.stopped (s.rd .dbCtx ring) = false →
      ((s.eccFound ecc).takeWork ring).2 = some e → e.kind = 1 → e.ptr % 64 = 0 → ∃ t, exec (.taskEntryTake ring ecc) s = .next t
      ∧ sget [] t.clu.waiting (s.rd .dbCtx ring) = sget [] (s.eccFound ecc).clu.waiting (s.rd .dbCtx ring) ++ [⟨ring, ⟨s.rd .dbCtx ring, ring, e.dva, e.complete, e.cring, e.tag, e.ptr, 0, 0, false, false, none, e.ptr, false⟩⟩]
      ∧ t.rd .dbHead ring = ((s.eccFound ecc).rd .dbHead ring + 1) % 2 ^ 32 ∧ t.clu.clusters = (s.eccFound ecc).clu.clusters
      ∧ t.mem.near = s.mem.near)
  ∧ (∀ (s : State) (c n : Nat) (x : Waiting), sget [] s.clu.waiting c = [x] → s.stopped c = false → sget 0 s.ctxRunning c ≠ 4 →
      s.flag .ctxLanesok c = true → s.effClusters c ≠ 0 → s.placeFor c = some n → ∃ t, exec (.taskPlace c) s = .next t
      ∧ (t.slot n (s.rd .ctxSlot c)).task = some x.task ∧ sget [] t.clu.waiting c = [] ∧ sget 0 t.clu.lastRing c = x.ring
      ∧ t = { s with regs := t.regs, clu := t.clu })
  ∧ (∀ (s : State) (n k : Nat) (ecc : List (Nat × EccError)) (tk : Task) (td : List Byte), s.overlay (islCluster n) = [] → s.atBoundary n = true →
      k < 8 → ((s.eccFound ecc).slot n k).task = some tk → (∀ j < 8, j ≠ k → ((s.eccFound ecc).slot n j).task = none) → tk.ended = false
      ∧ ((s.eccFound ecc).slot n k).tally = none ∧ ((s.eccFound ecc).slot n k).queue = [] → (s.eccFound ecc).stopped tk.ctx = false →
      ((s.eccFound ecc).tdAt tk.ctx tk.next).toOption = some td → (s.eccFound ecc).mustWait n k tk.ctx td = false → tdDefer td = false → ∃ t,
      exec (.tileBoundary n ecc) s = .next t ∧ (t.slot n k).task = some (tk.advance td) ∧ ((t.cluster n).cur.isSome ∨ (t.slot n k).tally.isSome)
      ∧ t.mem.near = s.mem.near)
  ∧ (∀ (s : State) (n k : Nat) (ecc : List (Nat × EccError)) (tk : Task) (d : Nat) (q : List Nat), s.overlay (islCluster n) = [] →
      s.atBoundary n = true → k < 8 → (s.slot n k).task = some tk → (∀ j < 8, j ≠ k → (s.slot n j).task = none) → tk.ended = true
      ∧ tk.lastDone = false ∧ (s.slot n k).tally = none → (s.eccFound ecc).clu = s.clu → (s.slot n k).queue = d :: q →
      (s.eccFound ecc).stopped tk.ctx = false → (s.eccFound ecc).queueWaits n k tk.ctx d = false → ∃ t, exec (.deferredTileRun n ecc) s = .next t
      ∧ (t.slot n k).queue = q ∧ (t.slot n k).task = some tk ∧ ((t.cluster n).cur.isSome ∨ (t.slot n k).tally.isSome) ∧ t.mem.near = s.mem.near)
  ∧ (∀ (s : State) (n k : Nat) (ecc : List (Nat × EccError)) (tk : Task) (td : List Byte), s.overlay (islCluster n) = [] → s.atBoundary n = true →
      k < 8 → ((s.eccFound ecc).slot n k).task = some tk → (∀ j < 8, j ≠ k → ((s.eccFound ecc).slot n j).task = none) → tk.ended = false
      ∧ ((s.eccFound ecc).slot n k).tally = none ∧ ((s.eccFound ecc).slot n k).queue = [] → (s.eccFound ecc).stopped tk.ctx = false →
      ((s.eccFound ecc).tdAt tk.ctx tk.next).toOption = some td → tdDefer td = true → (s.eccFound ecc).deferCheck tk.ctx td = .ok → ∃ t,
      exec (.tileBoundary n ecc) s = .next t ∧ (t.slot n k).task = some (tk.advance td) ∧ (t.slot n k).queue = [tk.next]
      ∧ (t.cluster n).cur = ((s.eccFound ecc).cluster n).cur ∧ t.mem.near = s.mem.near)

/-- A tile chosen on a cluster, of the kind named, with no configuration epoch being adopted by the cluster; memory errors that its reads find are
recorded first. A MATMUL whose rows are decided and whose metadata is valid leaves the matrix product of its operands in its accumulator slot (the
half that fills in GENERATE class), added to what the slot holds under ADD, and finishes, or with a draining accumulator operation hands the
product to the epilogue; with invalid metadata it fails with CLU_SPMETA_INVALID, and where the self-check stops it, with CLU_RESIDUE; a predicated
tile whose rows are all past the expert's count is skipped. An ATTN with no page copy under way hands its accumulator to the epilogue, or fails
with the tile that its steps give; one that appends nothing and attends over no position always hands it over. A COPY_IN whose rows can be read
leaves them in scratch, with the zero-block bitmap where TD_ZBUILD asks for it, and finishes; a COPY_OUT writes its rows of scratch in order, and
finishes where every write goes through; of one row within a page of near memory every byte lands and no other byte changes. A FENCE with no write
of the cluster outstanding finishes and changes nothing else. A VECTOR whose program address is mapped for reading starts its program with TD_OUT
in a0, and runs its standard instructions' loads and stores in order; a store to scratch changes exactly its bytes; an illegal instruction fails
the tile with CLU_VEC_FAULT. A TALLY tile's SIGNAL adds to its tally and finishes, its TAKE subtracts and finishes, and its WAIT finishes or
waits. -/
def Obligations.TilesRun : Prop :=
  (∀ (s : State) (n : Nat) (x : Tile) (ecc : List (Nat × EccError)), s.overlay (islCluster n) = [] → s.chosenTile n 0 = some x → x.pred = true →
      metaOk x.td (s.slot n x.slot).scratch = true → tdDrains x.td = false → ∃ t, exec (.matmul n none ecc) s = .next t
      ∧ (t.cluster n).cur = some { x with stage := .ready, accSat := (s.accAfter n x).sat, cycles := matmulCycles x.td (s.slot n x.slot).scratch (min (tdM x.td) (roundUp x.written 16)), macs := matmulMacs x.td (s.slot n x.slot).scratch (min (tdM x.td) (roundUp x.written 16)), rate := pairRate (tdFmtA x.td) (tdFmtB x.td) }
      ∧ (t.slot n x.slot).held = s.accAfter n x :: (s.slot n x.slot).held.filter (fun a => a.slot ≠ s.accIdx n x)
      ∧ (t.cluster n).tiles = (s.cluster n).tiles ∧ t.mem = s.mem ∧ t = { s with regs := t.regs, clu := t.clu, freeCount := t.freeCount })
  ∧ (∀ (s : State) (n : Nat) (x : Tile) (ecc : List (Nat × EccError)), s.overlay (islCluster n) = [] → s.chosenTile n 0 = some x → x.pred = false →
      tdPreden x.td = false → metaOk x.td ((s.eccFound ecc).slot n x.slot).scratch = true → tdDrains x.td = false → ∃ t,
      exec (.matmul n none ecc) s = .next t ∧ ((t.cluster n).cur.map (fun y => (y.slot, y.ctx, y.stage, y.status))) = some (x.slot, x.ctx, .ready,
      x.status)
      ∧ (t.slot n x.slot).held = (s.eccFound ecc).accAfter n x :: ((s.eccFound ecc).slot n x.slot).held.filter (fun a => a.slot ≠ (s.eccFound ecc).accIdx n x)
      ∧ t.mem = (s.eccFound ecc).mem)
  ∧ (∀ (s : State) (n : Nat) (x : Tile) (ecc : List (Nat × EccError)), s.overlay (islCluster n) = [] → s.chosenTile n 0 = some x → x.pred = true →
      metaOk x.td (s.slot n x.slot).scratch = true → tdDrains x.td = true → ∃ t, exec (.matmul n none ecc) s = .next t ∧ (t.cluster n).cur = none
      ∧ ((t.cluster n).tiles.getLast?.map (fun y => (y.slot, y.ctx, y.stage, y.acc))) = some (x.slot, x.ctx, .draining, some (s.accAfter n x))
      ∧ (t.slot n x.slot).held = (s.slot n x.slot).held.filter (fun a => a.slot ≠ s.accIdx n x) ∧ t.rd .cluRun n = 0 ∧ t.mem = s.mem)
  ∧ (∀ (s : State) (n : Nat) (stop : Option Nat) (x : Tile) (ecc : List (Nat × EccError)), s.overlay (islCluster n) = [] → s.chosenTile n 0 = some x →
      x.pred = true → x.status = .ok → metaOk x.td (s.slot n x.slot).scratch = false → ∃ t, exec (.matmul n stop ecc) s = .next t
      ∧ ((t.cluster n).cur.map (fun y => (y.slot, y.stage, y.status))) = some (x.slot, .ready, .cluSpmetaInvalid) ∧ t.mem = s.mem)
  ∧ (∀ (s : State) (n cyc : Nat) (x : Tile) (ecc : List (Nat × EccError)), s.overlay (islCluster n) = [] → s.chosenTile n 0 = some x → x.pred = true →
      x.status = .ok → metaOk x.td (s.slot n x.slot).scratch = true → (s.cluster n).residues = [] → ∃ t, exec (.matmul n (some cyc) ecc) s = .next t
      ∧ ((t.cluster n).cur.map (fun y => (y.slot, y.stage, y.status))) = some (x.slot, .ready, .cluResidue)
      ∧ t.rd .cluResidueErr n = (s.rd .cluResidueErr n + 1) % 2 ^ Reg.cluResidueErr.info.width ∧ t.mem = s.mem)
  ∧ (∀ (s : State) (n : Nat) (stop : Option Nat) (x : Tile) (b : List Byte) (ecc : List (Nat × EccError)), s.overlay (islCluster n) = [] →
      s.chosenTile n 0 = some x → x.pred = false → tdPreden x.td = true →
      ((s.eccFound ecc).dvaRead x.ctx (tdAux x.td + 4 * tdExpert x.td) 4).toOption = some b → min (leNat b) (tdCap x.td) ≤ tdRowbase x.td → ∃ t,
      exec (.matmul n stop ecc) s = .next t ∧ (t.cluster n).cur = some { x with skipped := true, pred := true, stage := .ready }
      ∧ t.mem.near = s.mem.near)
  ∧ (∀ (s : State) (n : Nat) (x : Tile) (a : Acc) (ecc : List (Nat × EccError)), s.overlay (islCluster n) = [] → s.chosenTile n 1 = some x →
      (s.eccFound ecc).cowBusy ((s.eccFound ecc).rd .seqLayers x.ctx) (tileHead x.td ((s.eccFound ecc).slot n x.slot).scratch) ((s.eccFound ecc).rd .kvTokpage x.ctx) = false →
      ((s.eccFound ecc).attnRun n x).2.acc = some a → ∃ t, exec (.attn n none ecc) s = .next t ∧ (t.cluster n).cur = none
      ∧ ((t.cluster n).tiles.getLast?.map (fun y => (y.slot, y.stage, y.acc.map (fun b => (b.m, b.n, b.fmt, b.vals, b.sat)), y.lse, y.lseAt,
      y.attnEmpty))) = some (x.slot, .draining, some (a.m, a.n, a.fmt, a.vals, a.sat), ((s.eccFound ecc).attnRun n x).2.lse,
      ((s.eccFound ecc).attnRun n x).2.lseAt, ((s.eccFound ecc).attnRun n x).2.attnEmpty) ∧ t.mem.near = ((s.eccFound ecc).attnRun n x).1.mem.near
      ∧ t.rd .cluRun n = 0)
  ∧ (∀ (s : State) (n : Nat) (x : Tile) (ecc : List (Nat × EccError)), s.overlay (islCluster n) = [] → s.chosenTile n 1 = some x →
      (s.eccFound ecc).cowBusy ((s.eccFound ecc).rd .seqLayers x.ctx) (tileHead x.td ((s.eccFound ecc).slot n x.slot).scratch) ((s.eccFound ecc).rd .kvTokpage x.ctx) = false →
      ((s.eccFound ecc).attnRun n x).2.acc = none → ∃ t, exec (.attn n none ecc) s = .next t
      ∧ t = ((s.eccFound ecc).attnRun n x).1.setCur n (some ((s.eccFound ecc).attnRun n x).2))
  ∧ (∀ (s : State) (n : Nat) (x : Tile) (ecc : List (Nat × EccError)), s.overlay (islCluster n) = [] → s.chosenTile n 1 = some x →
      (s.eccFound ecc).clu = s.clu → (tileHead x.td (s.slot n x.slot).scratch).append = false →
      (tileHead x.td (s.slot n x.slot).scratch).pos + (tileHead x.td (s.slot n x.slot).scratch).tokens = 0 → tdMaskblk x.td = 0 → ∃ t,
      exec (.attn n none ecc) s = .next t ∧ (t.cluster n).cur = none ∧ ((t.cluster n).tiles.getLast?.map (fun y => (y.slot, y.stage,
      y.acc.map (fun b => (b.m, b.n, b.fmt))))) = some (x.slot, .draining, some (tdM x.td, tdN x.td, tdAccfmt x.td)) ∧ t.rd .cluRun n = 0)
  ∧ (∀ (s : State) (n : Nat) (x : Tile) (ecc : List (Nat × EccError)), s.chosenTile n 2 = some x →
      (copyRows x.td).all (fun r => ((s.eccFound ecc).dvaRead x.ctx r.1 (tdK x.td)).toOption.isSome) = true → ∃ t, exec (.copyIn n ecc) s = .next t
      ∧ (t.cluster n).cur = some x.finish ∧ (t.slot n x.slot).scratch = zmapInto x.td ((s.eccFound ecc).rowsIn n x) ∧ (∀ j, j ≠ x.slot →
      t.slot n j = (s.eccFound ecc).slot n j) ∧ t.mem.near = s.mem.near ∧ t.mem.far = s.mem.far)
  ∧ (∀ (s : State) (n : Nat) (x : Tile) (ecc : List (Nat × EccError)), s.chosenTile n 3 = some x → ∃ t, exec (.copyOut n ecc) s = .next t
      ∧ (t.cluster n).cur = some (x.after ((s.eccFound ecc).writeAll x.ctx ((copyRows x.td).map (fun r => (r.1,
      readBytes (s.slot n x.slot).scratch r.2 (tdK x.td))))).2) ∧ t.mem = ((s.eccFound ecc).writeAll x.ctx ((copyRows x.td).map (fun r => (r.1,
      readBytes (s.slot n x.slot).scratch r.2 (tdK x.td))))).1.mem ∧ (∀ j, t.slot n j = (s.eccFound ecc).slot n j))
  ∧ (∀ (s : State) (n : Nat) (x : Tile) (p : Place) (ecc : List (Nat × EccError)), s.chosenTile n 3 = some x → tdM x.td = 1 → 0 < tdK x.td →
      ((s.eccFound ecc).translate x.ctx (tdOut x.td) .write false).toOption = some p → p.target = 0 → tdK x.td ≤ p.room →
      (s.eccFound ecc).nearWritable p.pa (tdK x.td) = true → ∃ t, exec (.copyOut n ecc) s = .next t ∧ (t.cluster n).cur = some x.finish
      ∧ readBytes t.mem.near p.pa (tdK x.td) = readBytes (s.slot n x.slot).scratch (tdScrA x.td) (tdK x.td) ∧ (∀ a, (a < p.pa ∨ p.pa + tdK x.td ≤ a) →
      sget 0#8 t.mem.near a = sget 0#8 s.mem.near a) ∧ t.mem.far = s.mem.far)
  ∧ (∀ (s : State) (n : Nat) (x : Tile), s.chosenTile n 6 = some x → (s.cluster n).draining = false → ∃ t, exec (.fenceTile n) s = .next t
      ∧ (t.cluster n) = { s.cluster n with cur := some x.finish } ∧ t = { s with clu := t.clu } ∧ (∀ m, m ≠ n → t.cluster m = s.cluster m))
  ∧ (∀ (s : State) (n : Nat) (x : Tile) (p : Place) (e : CoreEffect) (ecc : List (Nat × EccError)), (s.eccFound ecc).chosenTile n 4 = some x →
      ((s.eccFound ecc).translate x.ctx (tdAux x.td) .read false).toOption = some p → e.loads = [] ∧ e.stores = [] ∧ e.bad = false →
      e.cycles ≤ 262144 → ∃ t, exec (.vector n e ecc) s = .next t ∧ (t.cluster n).cur = some { x with stage := .under }
      ∧ t.core (.vector n) = ({ Core.idle with running := true, pc := tdAux x.td }.writeX 10 (tdOut x.td)).run e ∧ t.mem = (s.eccFound ecc).mem
      ∧ t = { s.eccFound ecc with clu := t.clu, vectors := t.vectors })
  ∧ (∀ (s : State) (n : Nat) (x : Tile) (p : Place) (e : CoreEffect) (ecc : List (Nat × EccError)), (s.eccFound ecc).chosenTile n 4 = some x →
      ((s.eccFound ecc).translate x.ctx (tdAux x.td) .read false).toOption = some p → ∃ t, exec (.vector n e ecc) s = .next t
      ∧ t = (((s.eccFound ecc).setCur n (some { x with stage := .under })).setCore (.vector n) ({ Core.idle with running := true, pc := tdAux x.td }.writeX 10 (tdOut x.td))).vecRun n { x with stage := .under } e)
  ∧ (∀ (s : State) (n : Nat) (x : Tile) (e : CoreEffect) (ecc : List (Nat × EccError)), (s.eccFound ecc).vecTile n = some x →
      ((s.eccFound ecc).core (.vector n)).waitRd = none → ((s.eccFound ecc).core (.vector n)).cycles + e.cycles ≤ 262144 → e.bad = false →
      ((s.eccFound ecc).vecLoads n x e.loads).2 = .ok → (((s.eccFound ecc).vecLoads n x e.loads).1.vecStores n x e.stores).2 = .ok → ∃ t,
      exec (.vector n e ecc) s = .next t ∧ (t.cluster n).cur = some x ∧ t.core (.vector n) = ((s.eccFound ecc).core (.vector n)).run e
      ∧ t.mem = (((s.eccFound ecc).vecLoads n x e.loads).1.vecStores n x e.stores).1.mem)
  ∧ (∀ (s : State) (n a : Nat) (bs : List Byte) (x : Tile) (e : CoreEffect) (ecc : List (Nat × EccError)), (s.eccFound ecc).vecTile n = some x →
      ((s.eccFound ecc).core (.vector n)).waitRd = none → ((s.eccFound ecc).core (.vector n)).cycles + e.cycles ≤ 262144 → e.bad = false →
      e.loads = [] → e.stores = [(2 ^ 63 + a, bs)] → 0 < bs.length → (2 ^ 63 + a) % bs.length = 0 → a + bs.length ≤ (s.eccFound ecc).scrSlice x.ctx →
      ∃ t, exec (.vector n e ecc) s = .next t ∧ (t.cluster n).cur = some x ∧ readBytes (t.slot n x.slot).scratch a bs.length = bs ∧ (∀ b,
      (b < a ∨ a + bs.length ≤ b) → sget 0#8 (t.slot n x.slot).scratch b = sget 0#8 ((s.eccFound ecc).slot n x.slot).scratch b)
      ∧ t.mem = (s.eccFound ecc).mem)
  ∧ (∀ (s : State) (n : Nat) (x : Tile) (e : CoreEffect) (ecc : List (Nat × EccError)), (s.eccFound ecc).vecTile n = some x →
      ((s.eccFound ecc).core (.vector n)).waitRd = none → ((s.eccFound ecc).core (.vector n)).cycles + e.cycles ≤ 262144 → e.loads = [] →
      e.stores = [] → e.bad = true → x.status = .ok → ∃ t, exec (.vector n e ecc) s = .next t ∧ ((t.cluster n).cur.map (fun y => (y.slot, y.stage,
      y.status))) = some (x.slot, .ready, .cluVecFault) ∧ t.core (.vector n) = Core.idle ∧ t.mem = (s.eccFound ecc).mem)
  ∧ (∀ (s : State) (n k e : Nat) (x : Tile), (s.slot n k).tally = some x → x.stage = .chosen → s.rd .ctxState x.ctx = 2 →
      (x.fences && (s.cluster n).draining) = false → tdTallyOp x.td = 1 → (s.tallyEntry (bankOfIsland n) x.ctx (tdTallyId x.td)).toOption = some e →
      0 < tdTallyN x.td → s.tallyVal (bitsAt e 0 20) + tdTallyN x.td ≤ 0xFFFFFFFF → ∃ t, exec (.tallyTile n k) s = .next t
      ∧ (t.slot n k).tally = some x.finish
      ∧ t.tallyVal (bitsAt e 0 20) = (serveQueue (s.tallyVal (bitsAt e 0 20) + tdTallyN x.td) (s.tallyQueue (bitsAt e 0 20))).1 ∧ t.mem = s.mem)
  ∧ (∀ (s : State) (n k e : Nat) (x : Tile), (s.slot n k).tally = some x → x.stage = .chosen → s.rd .ctxState x.ctx = 2 →
      (x.fences && (s.cluster n).draining) = false → tdTallyOp x.td = 3 → (s.tallyEntry (bankOfIsland n) x.ctx (tdTallyId x.td)).toOption = some e →
      tdTallyN x.td ≤ s.tallyVal (bitsAt e 0 20) → ∃ t, exec (.tallyTile n k) s = .next t ∧ (t.slot n k).tally = some x.finish
      ∧ t.tallyVal (bitsAt e 0 20) = s.tallyVal (bitsAt e 0 20) - tdTallyN x.td ∧ t.mem = s.mem)
  ∧ (∀ (s : State) (n k e : Nat) (x : Tile), (s.slot n k).tally = some x → x.stage = .chosen → s.rd .ctxState x.ctx = 2 →
      (x.fences && (s.cluster n).draining) = false → tdTallyOp x.td = 2 → (s.tallyEntry (bankOfIsland n) x.ctx (tdTallyId x.td)).toOption = some e →
      s.tallyQueue (bitsAt e 0 20) = [] → tdTallyN x.td ≤ s.tallyVal (bitsAt e 0 20) → ∃ t, exec (.tallyTile n k) s = .next t
      ∧ (t.slot n k).tally = some x.finish ∧ t.tallyVal (bitsAt e 0 20) = s.tallyVal (bitsAt e 0 20) - tdTallyN x.td ∧ t.mem = s.mem)
  ∧ (∀ (s : State) (n k e : Nat) (x : Tile), (s.slot n k).tally = some x → x.stage = .chosen → s.rd .ctxState x.ctx = 2 →
      (x.fences && (s.cluster n).draining) = false → tdTallyOp x.td = 2 → (s.tallyEntry (bankOfIsland n) x.ctx (tdTallyId x.td)).toOption = some e →
      s.tallyVal (bitsAt e 0 20) < tdTallyN x.td → ∃ t, exec (.tallyTile n k) s = .next t ∧ (t.slot n k).tally = some { x with stage := .under }
      ∧ t.tallyQueue (bitsAt e 0 20) = s.tallyQueue (bitsAt e 0 20) ++ [⟨.taskSlot n k, tdTallyN x.td⟩] ∧ t.mem = s.mem)

/-- EPILOGUE_DRAIN of the only outstanding tile leaves it ready to complete: a plain drain with the outputs of its accumulator written as the drain
writes them, a router tile's as the router does. TILE_COMPLETE of a ready tile on the units takes it off them; one in the middle of a chain, with
no completion signal, whose done record can be written, writes the record, counts, and leaves the task with one more descriptor done; the last one
of a task that holds nothing back frees the slot; a ready TALLY tile completes from its slot. VECTOR_ECALL with a0 zero finishes the tile, with a0
not zero or after an illegal instruction fails it with CLU_VEC_FAULT, and CLU_VEC_TIMEOUT fails a tile longer than 262,144 cycles with
CLU_VEC_TIMEOUT; each time no register of the unit survives. CLU_FENCE_REQ from session 0 fences a cluster: CLU_FENCED, its reason 2, FENCED of
its page, and the health monitor's record; of a fenced cluster, or with bit 0 clear, it changes nothing; another reader is refused. Memory errors
that the commands' reads find are recorded first. -/
def Obligations.TilesEnd : Prop :=
  (∀ (s : State) (n : Nat) (x : Tile) (a : Acc) (ecc : List (Nat × EccError)), s.overlay (islCluster n) = [] → (s.cluster n).tiles = [x] →
      x.stage = .draining → x.acc = some a → s.rd .ctxState x.ctx = 2 → (tdRoute x.td && tdKind x.td = 0) = false → (s.eccFound ecc).clu = s.clu →
      ∃ t, exec (.epilogueDrain n ecc) s = .next t ∧ ((t.cluster n).tiles.map (fun y => (y.slot, y.ctx, y.stage))) = [(x.slot, x.ctx, .ready)]
      ∧ (t.cluster n).cur = (s.cluster n).cur ∧ (tdKind x.td = 0 → (t.cluster n).tiles = [((s.eccFound ecc).drainPlain n x a).2]
      ∧ t.mem = ((s.eccFound ecc).drainPlain n x a).1.mem))
  ∧ (∀ (s : State) (n : Nat) (x : Tile) (a : Acc) (ecc : List (Nat × EccError)), s.overlay (islCluster n) = [] → (s.cluster n).tiles = [x] →
      x.stage = .draining → x.acc = some a → s.rd .ctxState x.ctx = 2 → (tdRoute x.td && tdKind x.td = 0) = true → (s.eccFound ecc).clu = s.clu → ∃ t,
      exec (.epilogueDrain n ecc) s = .next t ∧ (t.cluster n).tiles = [((s.eccFound ecc).drainRoute n x a).2]
      ∧ t.mem = ((s.eccFound ecc).drainRoute n x a).1.mem ∧ (t.cluster n).cur = (s.cluster n).cur)
  ∧ (∀ (s : State) (n : Nat) (x : Tile) (ecc : List (Nat × EccError)), ((s.eccFound ecc).cluster n).cur = some x → x.stage = .ready →
      ((s.eccFound ecc).cluster n).tiles = [] → ∃ t, exec (.tileComplete n ⟨none, ecc⟩) s = .next t ∧ (t.cluster n).cur = none
      ∧ (t.cluster n).tiles = [] ∧ t.rd .cluRun n = 0)
  ∧ (∀ (s : State) (n : Nat) (x : Tile) (tk : Task) (ecc : List (Nat × EccError)), ((s.eccFound ecc).cluster n).cur = some x → x.stage = .ready →
      ((s.eccFound ecc).cluster n).tiles = [] → ((s.eccFound ecc).slot n x.slot).task = some tk → tk.ended = false → x.status = .ok →
      tdTallyOp x.td ≠ 1 → ((s.eccFound ecc).dvaWrite x.ctx (x.dva + 176) (doneRecord x)).2 = .ok → ∃ t,
      exec (.tileComplete n ⟨none, ecc⟩) s = .next t ∧ t.mem.near = ((s.eccFound ecc).dvaWrite x.ctx (x.dva + 176) (doneRecord x)).1.mem.near
      ∧ (t.slot n x.slot).task = some (tk.tileDone x) ∧ t.rd .cluTiles n = ((s.eccFound ecc).rd .cluTiles n + 1) % 2 ^ Reg.cluTiles.info.width)
  ∧ (∀ (s : State) (n : Nat) (x : Tile) (tk : Task) (ecc : List (Nat × EccError)), ((s.eccFound ecc).cluster n).cur = some x → x.stage = .ready →
      ((s.eccFound ecc).cluster n).tiles = [] → ((s.eccFound ecc).slot n x.slot).task = some tk → tk.ended = true →
      ((s.eccFound ecc).slot n x.slot).queue = [] → ((s.eccFound ecc).slot n x.slot).tally = none → ((s.eccFound ecc).slot n x.slot).held = []
      ∧ ((s.eccFound ecc).slot n x.slot).band = none → ∃ t, exec (.tileComplete n ⟨none, ecc⟩) s = .next t ∧ (t.slot n x.slot).task = none
      ∧ (t.cluster n).cur = none)
  ∧ (∀ (s : State) (n k : Nat) (x : Tile) (ecc : List (Nat × EccError)), ((s.eccFound ecc).slot n k).tally = some x → x.stage = .ready → x.slot = k →
      ∃ t, exec (.tileComplete n ⟨some k, ecc⟩) s = .next t ∧ (t.slot n k).tally = none ∧ (t.cluster n).cur = ((s.eccFound ecc).cluster n).cur)
  ∧ (∀ (s : State) (n : Nat) (x : Tile), s.vecTile n = some x → (s.core (.vector n)).waitRd = none → (s.core (.vector n)).cycles ≤ 262144 →
      (s.core (.vector n)).readX 10 = 0 → ∃ t, exec (.vectorEcall n none) s = .next t ∧ t.core (.vector n) = Core.idle
      ∧ ((t.cluster n).cur.map (fun y => (y.slot, y.stage, y.status, y.cycles))) = some (x.slot, .ready, x.status, (s.core (.vector n)).cycles)
      ∧ t.mem = s.mem)
  ∧ (∀ (s : State) (n : Nat) (x : Tile), s.vecTile n = some x → (s.core (.vector n)).waitRd = none → (s.core (.vector n)).cycles ≤ 262144 →
      (s.core (.vector n)).readX 10 ≠ 0 → x.status = .ok → ∃ t, exec (.vectorEcall n none) s = .next t ∧ t.core (.vector n) = Core.idle
      ∧ ((t.cluster n).cur.map (fun y => (y.slot, y.stage, y.status, y.info))) = some (x.slot, .ready, .cluVecFault,
      (s.core (.vector n)).readX 10 % 2 ^ 32) ∧ t.mem = s.mem)
  ∧ (∀ (s : State) (n w : Nat) (x : Tile), s.vecTile n = some x → (s.core (.vector n)).waitRd = none → (s.core (.vector n)).cycles ≤ 262144 →
      (kcCommand (.vector n) 0 w).isSome = false → x.status = .ok → ∃ t, exec (.vectorEcall n (some w)) s = .next t ∧ t.core (.vector n) = Core.idle
      ∧ ((t.cluster n).cur.map (fun y => (y.slot, y.stage, y.status))) = some (x.slot, .ready, .cluVecFault) ∧ t.mem = s.mem)
  ∧ (∀ (s : State) (n : Nat) (x : Tile), s.vecTile n = some x → x.status = .ok → 262144 < (s.core (.vector n)).cycles + s.heldCycles (.vector n) →
      ∃ t, exec (.cluVecTimeout n) s = .next t ∧ t.core (.vector n) = Core.idle ∧ ((t.cluster n).cur.map (fun y => (y.slot, y.stage, y.status,
      y.cycles))) = some (x.slot, .ready, .cluVecTimeout, 262144) ∧ t.mem = s.mem)
  ∧ (∀ (s : State) (n : Nat), (s.core (.vector n)).cycles + s.heldCycles (.vector n) ≤ 262144 → ∃ t, exec (.cluVecTimeout n) s = .next t ∧ t = s)
  ∧ (∀ (s : State) (n v : Nat), n < 192 → v % 2 = 1 → s.flag .cluFenced n = false → ∃ t, exec (.cluFenceReq (.session 0) n v) s = .next t
      ∧ t.rd .cluFenced n = 1 ∧ t.rd .cluFenceReason n = 2 ∧ t.rd .fenced (cluPage n) = 1 ∧ t.health.fencedEver = true
      ∧ t.health.fencedAt = some s.now ∧ answered t (.session 0) .ok)
  ∧ (∀ (s : State) (n v : Nat), (v % 2 = 0 ∨ s.flag .cluFenced n = true) → ∃ t, exec (.cluFenceReq (.session 0) n v) s = .next t
      ∧ t = s.reply (.session 0) .ok 0)
  ∧ (∀ (s : State) (rdr : Reader) (n v : Nat), rdr ≠ .session 0 → ∃ t, exec (.cluFenceReq rdr n v) s = .next t ∧ t = s.reply rdr .sesRights 0)

/-- In a program under way that is not held, and that the instruction does not take beyond 262,144 cycles: KC.DACTCFG with 32-bit elements keeps a
descriptor that can be read and passes its check, and ends the tile with CLU_VEC_FAULT and ERR_INFO = LRN_DACT_CONFIG for one that does not pass,
or with the status of a read that fails; KC.VDACT with a kept descriptor of a plain code, and KC.VDACTG with one of a gated code, whose register
groups are in place and whose kept items can be read, write the derivatives of elements vstart to vl - 1; with no kept descriptor, or one of the
other kind of code, they end the tile with CLU_VEC_FAULT and ERR_INFO = LRN_DACT_CONFIG, and with register groups out of place they are illegal.
KC.VRANDB, VRANDF, VRANDO and VRANDH of the right element width and a register group in place write one chosor output to each element from vstart
to vl - 1, the upper half of its lane mapped as R210 says, and otherwise are illegal. An instruction that completes goes on at the next
instruction with vstart zero, and changes no memory byte. That an instruction which would take the program beyond 262,144 cycles is not done is
the model's choice (log entry 48). -/
def Obligations.VectorInstructionsComplete : Prop :=
  (∀ (s : State) (n rs1 cyc : Nat) (x : Tile) (b : List Byte), s.vecTile n = some x → (s.core (.vector n)).waitRd = none →
      (s.core (.vector n)).sew = 32 → (s.vecRead n x ((s.core (.vector n)).readX rs1) 16).2.toOption = some b → ddOk (leNat b) = true →
      (s.core (.vector n)).cycles + cyc ≤ 262144 → ∃ t, exec (.kcDactcfg n rs1 cyc) s = .next t
      ∧ t = (s.vecRead n x ((s.core (.vector n)).readX rs1) 16).1.setCore (.vector n) { (s.core (.vector n)).nextInstr cyc with dact := some (leNat b) }
      ∧ t.core (.vector n) = { (s.core (.vector n)).nextInstr cyc with dact := some (leNat b) } ∧ t.mem.near = s.mem.near ∧ t.clu = s.clu)
  ∧ (∀ (s : State) (n vd rs1 vs2 rs2 d : Nat) (x : Tile) (ys : List Nat), s.vecTile n = some x → (s.core (.vector n)).waitRd = none →
      (s.core (.vector n)).dact = some d → groupOk (s.core (.vector n)) [vd, vs2] = true → actGated (ddAct d) = false →
      (s.keptItems n x d ((s.core (.vector n)).readX rs1) (((List.range ((s.core (.vector n)).vl - (s.core (.vector n)).vstart)).map (· + (s.core (.vector n)).vstart)).map (· + (s.core (.vector n)).readX rs2))).2.toOption = some ys →
      (s.core (.vector n)).cycles + dactCycles d ((s.core (.vector n)).vl - (s.core (.vector n)).vstart) ≤ 262144 → ∃ t,
      exec (.kcVdact n vd rs1 vs2 rs2) s = .next t
      ∧ t = (s.keptItems n x d ((s.core (.vector n)).readX rs1) (((List.range ((s.core (.vector n)).vl - (s.core (.vector n)).vstart)).map (· + (s.core (.vector n)).vstart)).map (· + (s.core (.vector n)).readX rs2))).1.setCore (.vector n) (((s.core (.vector n)).writeElems 32 vd ((((List.range ((s.core (.vector n)).vl - (s.core (.vector n)).vstart)).map (· + (s.core (.vector n)).vstart)).zip ys).map (fun p => derivative d ((s.core (.vector n)).elem 32 vs2 p.1) p.2))).nextInstr (dactCycles d ((s.core (.vector n)).vl - (s.core (.vector n)).vstart)))
      ∧ t.core (.vector n) = ((s.core (.vector n)).writeElems 32 vd ((((List.range ((s.core (.vector n)).vl - (s.core (.vector n)).vstart)).map (· + (s.core (.vector n)).vstart)).zip ys).map (fun p => derivative d ((s.core (.vector n)).elem 32 vs2 p.1) p.2))).nextInstr (dactCycles d ((s.core (.vector n)).vl - (s.core (.vector n)).vstart))
      ∧ t.mem.near = s.mem.near ∧ t.clu = s.clu)
  ∧ (∀ (s : State) (n vd rs1 vs2 rs2 d : Nat) (x : Tile) (ys : List Nat), s.vecTile n = some x → (s.core (.vector n)).waitRd = none →
      (s.core (.vector n)).dact = some d → groupOk (s.core (.vector n)) [vd, vs2] = true → vd + 2 * (s.core (.vector n)).lmul ≤ 32 →
      actGated (ddAct d) = true →
      (s.keptItems n x d ((s.core (.vector n)).readX rs1) ((((List.range ((s.core (.vector n)).vl - (s.core (.vector n)).vstart)).map (· + (s.core (.vector n)).vstart)).map (fun e => [2 * ((s.core (.vector n)).readX rs2 + e), 2 * ((s.core (.vector n)).readX rs2 + e) + 1])).flatten)).2.toOption = some ys →
      (s.core (.vector n)).cycles + dactCycles d ((s.core (.vector n)).vl - (s.core (.vector n)).vstart) ≤ 262144 → ∃ t,
      exec (.kcVdactg n vd rs1 vs2 rs2) s = .next t
      ∧ t = (s.keptItems n x d ((s.core (.vector n)).readX rs1) ((((List.range ((s.core (.vector n)).vl - (s.core (.vector n)).vstart)).map (· + (s.core (.vector n)).vstart)).map (fun e => [2 * ((s.core (.vector n)).readX rs2 + e), 2 * ((s.core (.vector n)).readX rs2 + e) + 1])).flatten)).1.setCore (.vector n) ((((s.core (.vector n)).writeElems 32 vd ((((List.range ((s.core (.vector n)).vl - (s.core (.vector n)).vstart)).map (· + (s.core (.vector n)).vstart)).zipIdx.map (fun p => gatedDerivative d ((s.core (.vector n)).elem 32 vs2 p.1) (ys.getD (2 * p.2) 0) (ys.getD (2 * p.2 + 1) 0))).map (·.1))).writeElems 32 (vd + (s.core (.vector n)).lmul) ((((List.range ((s.core (.vector n)).vl - (s.core (.vector n)).vstart)).map (· + (s.core (.vector n)).vstart)).zipIdx.map (fun p => gatedDerivative d ((s.core (.vector n)).elem 32 vs2 p.1) (ys.getD (2 * p.2) 0) (ys.getD (2 * p.2 + 1) 0))).map (·.2))).nextInstr (dactCycles d ((s.core (.vector n)).vl - (s.core (.vector n)).vstart)))
      ∧ t.core (.vector n) = ((((s.core (.vector n)).writeElems 32 vd ((((List.range ((s.core (.vector n)).vl - (s.core (.vector n)).vstart)).map (· + (s.core (.vector n)).vstart)).zipIdx.map (fun p => gatedDerivative d ((s.core (.vector n)).elem 32 vs2 p.1) (ys.getD (2 * p.2) 0) (ys.getD (2 * p.2 + 1) 0))).map (·.1))).writeElems 32 (vd + (s.core (.vector n)).lmul) ((((List.range ((s.core (.vector n)).vl - (s.core (.vector n)).vstart)).map (· + (s.core (.vector n)).vstart)).zipIdx.map (fun p => gatedDerivative d ((s.core (.vector n)).elem 32 vs2 p.1) (ys.getD (2 * p.2) 0) (ys.getD (2 * p.2 + 1) 0))).map (·.2))).nextInstr (dactCycles d ((s.core (.vector n)).vl - (s.core (.vector n)).vstart)))
      ∧ t.mem.near = s.mem.near ∧ t.clu = s.clu)
  ∧ (∀ (s : State) (n vd : Nat) (x : Tile), s.vecTile n = some x → (s.core (.vector n)).waitRd = none → (s.core (.vector n)).sew = 32 →
      (s.core (.vector n)).lmul ≠ 0 ∧ vd % (s.core (.vector n)).lmul = 0 →
      (s.core (.vector n)).cycles + ceilDiv ((s.core (.vector n)).vl - (s.core (.vector n)).vstart) 256 ≤ 262144 → ∃ t,
      exec (.kcVrandb n vd) s = .next t
      ∧ t.core (.vector n) = ((s.core (.vector n)).writeElems 32 vd ((s.chosorList x.ctx (islCluster n) (genCluster n) 256 (s.core (.vector n)).vstart ((s.core (.vector n)).vl - (s.core (.vector n)).vstart)).map (fun o => o / 2 ^ 32 * 2 ^ 32 / 2 ^ 32))).nextInstr (ceilDiv ((s.core (.vector n)).vl - (s.core (.vector n)).vstart) 256)
      ∧ t = (s.chosorTaken (islCluster n) 256 ((s.core (.vector n)).vstart + ((s.core (.vector n)).vl - (s.core (.vector n)).vstart))).setCore (.vector n) (((s.core (.vector n)).writeElems 32 vd ((s.chosorList x.ctx (islCluster n) (genCluster n) 256 (s.core (.vector n)).vstart ((s.core (.vector n)).vl - (s.core (.vector n)).vstart)).map (fun o => o / 2 ^ 32 * 2 ^ 32 / 2 ^ 32))).nextInstr (ceilDiv ((s.core (.vector n)).vl - (s.core (.vector n)).vstart) 256)))
  ∧ (∀ (s : State) (n vd : Nat) (x : Tile), s.vecTile n = some x → (s.core (.vector n)).waitRd = none → (s.core (.vector n)).sew = 32 →
      (s.core (.vector n)).lmul ≠ 0 ∧ vd % (s.core (.vector n)).lmul = 0 →
      (s.core (.vector n)).cycles + ceilDiv ((s.core (.vector n)).vl - (s.core (.vector n)).vstart) 256 ≤ 262144 → ∃ t,
      exec (.kcVrandf n vd) s = .next t
      ∧ t.core (.vector n) = ((s.core (.vector n)).writeElems 32 vd ((s.chosorList x.ctx (islCluster n) (genCluster n) 256 (s.core (.vector n)).vstart ((s.core (.vector n)).vl - (s.core (.vector n)).vstart)).map (fun o => f32Uniform (o / 2 ^ 32 * 2 ^ 32)))).nextInstr (ceilDiv ((s.core (.vector n)).vl - (s.core (.vector n)).vstart) 256)
      ∧ t = (s.chosorTaken (islCluster n) 256 ((s.core (.vector n)).vstart + ((s.core (.vector n)).vl - (s.core (.vector n)).vstart))).setCore (.vector n) (((s.core (.vector n)).writeElems 32 vd ((s.chosorList x.ctx (islCluster n) (genCluster n) 256 (s.core (.vector n)).vstart ((s.core (.vector n)).vl - (s.core (.vector n)).vstart)).map (fun o => f32Uniform (o / 2 ^ 32 * 2 ^ 32)))).nextInstr (ceilDiv ((s.core (.vector n)).vl - (s.core (.vector n)).vstart) 256)))
  ∧ (∀ (s : State) (n vd : Nat) (x : Tile), s.vecTile n = some x → (s.core (.vector n)).waitRd = none → (s.core (.vector n)).sew = 32 →
      (s.core (.vector n)).lmul ≠ 0 ∧ vd % (s.core (.vector n)).lmul = 0 →
      (s.core (.vector n)).cycles + ceilDiv ((s.core (.vector n)).vl - (s.core (.vector n)).vstart) 256 ≤ 262144 → ∃ t,
      exec (.kcVrando n vd) s = .next t
      ∧ t.core (.vector n) = ((s.core (.vector n)).writeElems 32 vd ((s.chosorList x.ctx (islCluster n) (genCluster n) 256 (s.core (.vector n)).vstart ((s.core (.vector n)).vl - (s.core (.vector n)).vstart)).map (fun o => f32Open (o / 2 ^ 32 * 2 ^ 32)))).nextInstr (ceilDiv ((s.core (.vector n)).vl - (s.core (.vector n)).vstart) 256)
      ∧ t = (s.chosorTaken (islCluster n) 256 ((s.core (.vector n)).vstart + ((s.core (.vector n)).vl - (s.core (.vector n)).vstart))).setCore (.vector n) (((s.core (.vector n)).writeElems 32 vd ((s.chosorList x.ctx (islCluster n) (genCluster n) 256 (s.core (.vector n)).vstart ((s.core (.vector n)).vl - (s.core (.vector n)).vstart)).map (fun o => f32Open (o / 2 ^ 32 * 2 ^ 32)))).nextInstr (ceilDiv ((s.core (.vector n)).vl - (s.core (.vector n)).vstart) 256)))
  ∧ (∀ (s : State) (n vd : Nat) (x : Tile), s.vecTile n = some x → (s.core (.vector n)).waitRd = none → (s.core (.vector n)).sew = 16 →
      (s.core (.vector n)).lmul ≠ 0 ∧ vd % (s.core (.vector n)).lmul = 0 →
      (s.core (.vector n)).cycles + ceilDiv ((s.core (.vector n)).vl - (s.core (.vector n)).vstart) 256 ≤ 262144 → ∃ t,
      exec (.kcVrandh n vd) s = .next t
      ∧ t.core (.vector n) = ((s.core (.vector n)).writeElems 16 vd ((s.chosorList x.ctx (islCluster n) (genCluster n) 256 (s.core (.vector n)).vstart ((s.core (.vector n)).vl - (s.core (.vector n)).vstart)).map (fun o => bf16Uniform (o / 2 ^ 32 * 2 ^ 32)))).nextInstr (ceilDiv ((s.core (.vector n)).vl - (s.core (.vector n)).vstart) 256)
      ∧ t = (s.chosorTaken (islCluster n) 256 ((s.core (.vector n)).vstart + ((s.core (.vector n)).vl - (s.core (.vector n)).vstart))).setCore (.vector n) (((s.core (.vector n)).writeElems 16 vd ((s.chosorList x.ctx (islCluster n) (genCluster n) 256 (s.core (.vector n)).vstart ((s.core (.vector n)).vl - (s.core (.vector n)).vstart)).map (fun o => bf16Uniform (o / 2 ^ 32 * 2 ^ 32)))).nextInstr (ceilDiv ((s.core (.vector n)).vl - (s.core (.vector n)).vstart) 256)))
  ∧ (∀ (s : State) (n rs1 cyc : Nat) (x : Tile) (b : List Byte), s.vecTile n = some x → (s.core (.vector n)).waitRd = none →
      (s.core (.vector n)).sew = 32 → (s.vecRead n x ((s.core (.vector n)).readX rs1) 16).2.toOption = some b → ddOk (leNat b) = false → ∃ t,
      exec (.kcDactcfg n rs1 cyc) s = .next t
      ∧ t = (s.vecRead n x ((s.core (.vector n)).readX rs1) 16).1.vecEnd n x .cluVecFault Status.lrnDactConfig.code)
  ∧ (∀ (s : State) (n rs1 cyc : Nat) (x : Tile) (e : Status), s.vecTile n = some x → (s.core (.vector n)).waitRd = none →
      (s.core (.vector n)).sew = 32 → (s.vecRead n x ((s.core (.vector n)).readX rs1) 16).2.toOption = none →
      statusOf (s.vecRead n x ((s.core (.vector n)).readX rs1) 16).2 = e → ∃ t, exec (.kcDactcfg n rs1 cyc) s = .next t
      ∧ t = (s.vecRead n x ((s.core (.vector n)).readX rs1) 16).1.vecEnd n x e 0)
  ∧ (∀ (s : State) (n vd rs1 vs2 rs2 : Nat) (x : Tile), s.vecTile n = some x → (s.core (.vector n)).waitRd = none → (s.core (.vector n)).dact = none →
      groupOk (s.core (.vector n)) [vd, vs2] = true → ∃ t, exec (.kcVdact n vd rs1 vs2 rs2) s = .next t
      ∧ t = s.vecEnd n x .cluVecFault Status.lrnDactConfig.code)
  ∧ (∀ (s : State) (n vd rs1 vs2 rs2 : Nat) (x : Tile), s.vecTile n = some x → (s.core (.vector n)).waitRd = none → (s.core (.vector n)).dact = none →
      groupOk (s.core (.vector n)) [vd, vs2] = true → ∃ t, exec (.kcVdactg n vd rs1 vs2 rs2) s = .next t
      ∧ t = s.vecEnd n x .cluVecFault Status.lrnDactConfig.code)
  ∧ (∀ (s : State) (n vd rs1 vs2 rs2 : Nat) (x : Tile), s.vecTile n = some x → (s.core (.vector n)).waitRd = none →
      groupOk (s.core (.vector n)) [vd, vs2] = false → ∃ t, exec (.kcVdact n vd rs1 vs2 rs2) s = .next t ∧ t = s.vecEnd n x .cluVecFault 0)
  ∧ (∀ (s : State) (n vd rs1 vs2 rs2 : Nat) (x : Tile), s.vecTile n = some x → (s.core (.vector n)).waitRd = none →
      groupOk (s.core (.vector n)) [vd, vs2] = false → ∃ t, exec (.kcVdactg n vd rs1 vs2 rs2) s = .next t ∧ t = s.vecEnd n x .cluVecFault 0)
  ∧ (∀ (s : State) (n vd rs1 vs2 rs2 d : Nat) (x : Tile), s.vecTile n = some x → (s.core (.vector n)).waitRd = none →
      (s.core (.vector n)).dact = some d → groupOk (s.core (.vector n)) [vd, vs2] = true → actGated (ddAct d) = true → ∃ t,
      exec (.kcVdact n vd rs1 vs2 rs2) s = .next t ∧ t = s.vecEnd n x .cluVecFault Status.lrnDactConfig.code)
  ∧ (∀ (s : State) (n vd rs1 vs2 rs2 d : Nat) (x : Tile), s.vecTile n = some x → (s.core (.vector n)).waitRd = none →
      (s.core (.vector n)).dact = some d → groupOk (s.core (.vector n)) [vd, vs2] = true → vd + 2 * (s.core (.vector n)).lmul ≤ 32 →
      actGated (ddAct d) = false → ∃ t, exec (.kcVdactg n vd rs1 vs2 rs2) s = .next t ∧ t = s.vecEnd n x .cluVecFault Status.lrnDactConfig.code)
  ∧ (∀ (s : State) (n vd rs1 vs2 rs2 d : Nat) (x : Tile), s.vecTile n = some x → (s.core (.vector n)).waitRd = none →
      (s.core (.vector n)).dact = some d → 32 < vd + 2 * (s.core (.vector n)).lmul → ∃ t, exec (.kcVdactg n vd rs1 vs2 rs2) s = .next t
      ∧ t = s.vecEnd n x .cluVecFault 0)
  ∧ (∀ (s : State) (n vd : Nat) (x : Tile), s.vecTile n = some x → (s.core (.vector n)).waitRd = none →
      ((s.core (.vector n)).sew ≠ 32 ∨ (s.core (.vector n)).lmul = 0 ∨ vd % (s.core (.vector n)).lmul ≠ 0) → ∃ t, exec (.kcVrandb n vd) s = .next t
      ∧ t = s.vecEnd n x .cluVecFault 0)
  ∧ (∀ (s : State) (n vd : Nat) (x : Tile), s.vecTile n = some x → (s.core (.vector n)).waitRd = none →
      ((s.core (.vector n)).sew ≠ 32 ∨ (s.core (.vector n)).lmul = 0 ∨ vd % (s.core (.vector n)).lmul ≠ 0) → ∃ t, exec (.kcVrandf n vd) s = .next t
      ∧ t = s.vecEnd n x .cluVecFault 0)
  ∧ (∀ (s : State) (n vd : Nat) (x : Tile), s.vecTile n = some x → (s.core (.vector n)).waitRd = none →
      ((s.core (.vector n)).sew ≠ 32 ∨ (s.core (.vector n)).lmul = 0 ∨ vd % (s.core (.vector n)).lmul ≠ 0) → ∃ t, exec (.kcVrando n vd) s = .next t
      ∧ t = s.vecEnd n x .cluVecFault 0)
  ∧ (∀ (s : State) (n vd : Nat) (x : Tile), s.vecTile n = some x → (s.core (.vector n)).waitRd = none →
      ((s.core (.vector n)).sew ≠ 16 ∨ (s.core (.vector n)).lmul = 0 ∨ vd % (s.core (.vector n)).lmul ≠ 0) → ∃ t, exec (.kcVrandh n vd) s = .next t
      ∧ t = s.vecEnd n x .cluVecFault 0)

/-- For a processor that runs for a context, is not held and, where it is a vector unit, is not taken beyond 262,144 cycles, with an ID in rs1 that
its bank translates: KC.TSIGNAL adds n and serves the queue, and rd receives 0; KC.TWAIT with an empty queue and a covered n subtracts it and rd
receives 0, and otherwise queues the processor, which stays at the instruction; KC.TTAKE of a covered n subtracts it and rd receives 0; KC.TREAD
leaves the tally and rd receives its value; with an ID that does not translate, rd receives the status of the translation (KC.TREAD: bit 63 and
the status), and no tally changes; KC.TTAKE of more than the value leaves it and rd receives TALLY_UNDERFLOW; KC.TSIGNAL beyond 0xFFFFFFFF leaves
the tally and rd receives TALLY_OVERFLOW. Each but a held wait goes on at the next instruction, one cycle later; x0 discards. A KC.TSIGNAL does
not start while its cluster has tile outputs still to write. TWAIT_WITHDRAW of a hart held by a KC.TWAIT takes it from every queue, subtracts
nothing, and leaves its exception PC at the instruction. That an instruction takes one cycle, that a held vector unit shows WAITING (log entry
115) and the limit of the cycles (log entry 48) are the model's choices. -/
def Obligations.TallyInstructionsComplete : Prop :=
  (∀ (s : State) (k : CoreId) (rd rs1 rs2 ctx e : Nat), s.coreCtx k = some ctx → (s.core k).waitRd = none →
      (s.tallyEntry (coreBank k) ctx ((s.core k).readX rs1 % 65536)).toOption = some e → s.signalHeld k = false → s.mayRun k 1 = true →
      0 < ((s.core k).readX rs2 % 2 ^ 32) → s.tallyVal (bitsAt e 0 20) + ((s.core k).readX rs2 % 2 ^ 32) ≤ 0xFFFFFFFF → ∃ t,
      exec (.kcTsignal k rd rs1 rs2) s = .next t
      ∧ t.tallyVal (bitsAt e 0 20) = (serveQueue (s.tallyVal (bitsAt e 0 20) + ((s.core k).readX rs2 % 2 ^ 32)) (s.tallyQueue (bitsAt e 0 20))).1
      ∧ t.tallyQueue (bitsAt e 0 20) = (serveQueue (s.tallyVal (bitsAt e 0 20) + ((s.core k).readX rs2 % 2 ^ 32)) (s.tallyQueue (bitsAt e 0 20))).2.1
      ∧ t.core k = { s.core k with pc := (s.core k).pc + 4, cycles := (s.core k).cycles + 1 }.writeX rd 0 ∧ t.mem = s.mem ∧ (∀ p, p ≠ bitsAt e 0 20 →
      t.tallyVal p = s.tallyVal p ∧ t.tallyQueue p = s.tallyQueue p))
  ∧ (∀ (s : State) (k : CoreId) (rd rs1 rs2 ctx e : Nat), s.coreCtx k = some ctx → (s.core k).waitRd = none →
      (s.tallyEntry (coreBank k) ctx ((s.core k).readX rs1 % 65536)).toOption = some e → s.mayRun k 1 = true → s.tallyQueue (bitsAt e 0 20) = [] →
      ((s.core k).readX rs2 % 2 ^ 32) ≤ s.tallyVal (bitsAt e 0 20) → ∃ t, exec (.kcTwait k rd rs1 rs2) s = .next t
      ∧ t.tallyVal (bitsAt e 0 20) = s.tallyVal (bitsAt e 0 20) - ((s.core k).readX rs2 % 2 ^ 32) ∧ t.tly.queues = s.tly.queues
      ∧ t.core k = { s.core k with pc := (s.core k).pc + 4, cycles := (s.core k).cycles + 1 }.writeX rd 0 ∧ t.mem = s.mem ∧ (∀ p, p ≠ bitsAt e 0 20 →
      t.tallyVal p = s.tallyVal p))
  ∧ (∀ (s : State) (k : CoreId) (rd rs1 rs2 ctx e : Nat), s.coreCtx k = some ctx → (s.core k).waitRd = none →
      (s.tallyEntry (coreBank k) ctx ((s.core k).readX rs1 % 65536)).toOption = some e → s.mayRun k 0 = true → 0 < ((s.core k).readX rs2 % 2 ^ 32) →
      (s.tallyQueue (bitsAt e 0 20) ≠ [] ∨ s.tallyVal (bitsAt e 0 20) < ((s.core k).readX rs2 % 2 ^ 32)) → ∃ t,
      exec (.kcTwait k rd rs1 rs2) s = .next t ∧ t.core k = { s.core k with waitRd := some rd, waitAt := s.now }
      ∧ t.tallyQueue (bitsAt e 0 20) = s.tallyQueue (bitsAt e 0 20) ++ [⟨coreAgent k, ((s.core k).readX rs2 % 2 ^ 32)⟩] ∧ t.tly.vals = s.tly.vals
      ∧ (∀ n, k = .vector n → n < 192 → t.rd .cluRun n = 3) ∧ t.mem = s.mem ∧ (∀ p, p ≠ bitsAt e 0 20 → t.tallyQueue p = s.tallyQueue p))
  ∧ (∀ (s : State) (k : CoreId) (rd rs1 rs2 ctx e : Nat), s.coreCtx k = some ctx → (s.core k).waitRd = none →
      (s.tallyEntry (coreBank k) ctx ((s.core k).readX rs1 % 65536)).toOption = some e → s.mayRun k 1 = true →
      ((s.core k).readX rs2 % 2 ^ 32) ≤ s.tallyVal (bitsAt e 0 20) → ∃ t, exec (.kcTtake k rd rs1 rs2) s = .next t
      ∧ t.tallyVal (bitsAt e 0 20) = s.tallyVal (bitsAt e 0 20) - ((s.core k).readX rs2 % 2 ^ 32)
      ∧ t.core k = { s.core k with pc := (s.core k).pc + 4, cycles := (s.core k).cycles + 1 }.writeX rd 0 ∧ t.tly.queues = s.tly.queues
      ∧ t.mem = s.mem ∧ (∀ p, p ≠ bitsAt e 0 20 → t.tallyVal p = s.tallyVal p))
  ∧ (∀ (s : State) (k : CoreId) (rd rs1 ctx e : Nat), s.coreCtx k = some ctx → (s.core k).waitRd = none →
      (s.tallyEntry (coreBank k) ctx ((s.core k).readX rs1 % 65536)).toOption = some e → s.mayRun k 1 = true → ∃ t,
      exec (.kcTread k rd rs1) s = .next t
      ∧ t.core k = { s.core k with pc := (s.core k).pc + 4, cycles := (s.core k).cycles + 1 }.writeX rd (s.tallyVal (bitsAt e 0 20))
      ∧ t.tly = { s.tly with caches := t.tly.caches } ∧ t = { s with vectors := t.vectors, harts := t.harts, tly := t.tly })
  ∧ (∀ (s : State) (h cause handler : Nat), (s.core (.hart h)).running = true → (s.core (.hart h)).waitRd.isSome = true → handler < 2 ^ 64 → ∃ t,
      exec (.twaitWithdraw h cause handler) s = .next t
      ∧ t.core (.hart h) = { s.core (.hart h) with waitRd := none, trap := some (cause, (s.core (.hart h)).pc, 0), pc := handler, interrupt := false }
      ∧ t.tly.queues.all (fun q => q.2.all (fun w => w.agent ≠ .hart h)) = true ∧ t.tly.vals = s.tly.vals
      ∧ t = { s with harts := t.harts, tly := t.tly })
  ∧ (∀ (s : State) (k : CoreId) (rd rs1 rs2 ctx : Nat) (st : Status), s.coreCtx k = some ctx → (s.core k).waitRd = none →
      (s.tallyEntry (coreBank k) ctx ((s.core k).readX rs1 % 65536)).toOption = none →
      statusOf (s.tallyEntry (coreBank k) ctx ((s.core k).readX rs1 % 65536)) = st → s.mayRun k 1 = true → s.signalHeld k = false → ∃ t,
      exec (.kcTsignal k rd rs1 rs2) s = .next t
      ∧ t.core k = { s.core k with pc := (s.core k).pc + 4, cycles := (s.core k).cycles + 1 }.writeX rd st.code ∧ t.tly = s.tly ∧ t.mem = s.mem)
  ∧ (∀ (s : State) (k : CoreId) (rd rs1 rs2 ctx : Nat) (st : Status), s.coreCtx k = some ctx → (s.core k).waitRd = none →
      (s.tallyEntry (coreBank k) ctx ((s.core k).readX rs1 % 65536)).toOption = none →
      statusOf (s.tallyEntry (coreBank k) ctx ((s.core k).readX rs1 % 65536)) = st → s.mayRun k 1 = true → ∃ t,
      exec (.kcTwait k rd rs1 rs2) s = .next t
      ∧ t.core k = { s.core k with pc := (s.core k).pc + 4, cycles := (s.core k).cycles + 1 }.writeX rd st.code ∧ t.tly = s.tly ∧ t.mem = s.mem)
  ∧ (∀ (s : State) (k : CoreId) (rd rs1 rs2 ctx : Nat) (st : Status), s.coreCtx k = some ctx → (s.core k).waitRd = none →
      (s.tallyEntry (coreBank k) ctx ((s.core k).readX rs1 % 65536)).toOption = none →
      statusOf (s.tallyEntry (coreBank k) ctx ((s.core k).readX rs1 % 65536)) = st → s.mayRun k 1 = true → ∃ t,
      exec (.kcTtake k rd rs1 rs2) s = .next t
      ∧ t.core k = { s.core k with pc := (s.core k).pc + 4, cycles := (s.core k).cycles + 1 }.writeX rd st.code ∧ t.tly = s.tly ∧ t.mem = s.mem)
  ∧ (∀ (s : State) (k : CoreId) (rd rs1 ctx : Nat) (st : Status), s.coreCtx k = some ctx → (s.core k).waitRd = none →
      (s.tallyEntry (coreBank k) ctx ((s.core k).readX rs1 % 65536)).toOption = none →
      statusOf (s.tallyEntry (coreBank k) ctx ((s.core k).readX rs1 % 65536)) = st → s.mayRun k 1 = true → ∃ t, exec (.kcTread k rd rs1) s = .next t
      ∧ t.core k = { s.core k with pc := (s.core k).pc + 4, cycles := (s.core k).cycles + 1 }.writeX rd (2 ^ 63 + st.code) ∧ t.tly = s.tly
      ∧ t.mem = s.mem)
  ∧ (∀ (s : State) (k : CoreId) (rd rs1 rs2 ctx e : Nat), s.coreCtx k = some ctx → (s.core k).waitRd = none →
      (s.tallyEntry (coreBank k) ctx ((s.core k).readX rs1 % 65536)).toOption = some e → s.mayRun k 1 = true →
      s.tallyVal (bitsAt e 0 20) < ((s.core k).readX rs2 % 2 ^ 32) → ∃ t, exec (.kcTtake k rd rs1 rs2) s = .next t
      ∧ t.core k = { s.core k with pc := (s.core k).pc + 4, cycles := (s.core k).cycles + 1 }.writeX rd Status.tallyUnderflow.code
      ∧ t.tly = { s.tly with caches := t.tly.caches } ∧ t.mem = s.mem)
  ∧ (∀ (s : State) (k : CoreId) (rd rs1 rs2 ctx e : Nat), s.coreCtx k = some ctx → (s.core k).waitRd = none →
      (s.tallyEntry (coreBank k) ctx ((s.core k).readX rs1 % 65536)).toOption = some e → s.signalHeld k = false → s.mayRun k 1 = true →
      0xFFFFFFFF < s.tallyVal (bitsAt e 0 20) + ((s.core k).readX rs2 % 2 ^ 32) → 0 < ((s.core k).readX rs2 % 2 ^ 32) → ∃ t,
      exec (.kcTsignal k rd rs1 rs2) s = .next t
      ∧ t.core k = { s.core k with pc := (s.core k).pc + 4, cycles := (s.core k).cycles + 1 }.writeX rd Status.tallyOverflow.code
      ∧ t.tly = { s.tly with caches := t.tly.caches } ∧ t.mem = s.mem)
  ∧ (∀ (s : State) (n rd rs1 rs2 : Nat), (s.cluster n).draining = true → s.mayRun (.vector n) 0 = true → ∃ t,
      exec (.kcTsignal (.vector n) rd rs1 rs2) s = .next t ∧ t = s)

/-- CTX_CREATE from session 0 that passes its checks leaves the context DEFINED with the owner, class, metering, lanes and table area of its
arguments, its table area reads zero, and its event list is empty with a full bucket. MAKE_RESIDENT that passes its checks takes the lowest free
slot and leaves it RESIDENT; RELEASE_RESIDENCY of a RESIDENT context starts; RESIDENCY_RELEASED with no task of the context placed leaves it
DEFINED, and with one changes nothing. Each of the three commands that fails a check ends with that check's status. CLASS_CHANGE at the turn
boundary applies the pending class, and before it changes nothing. CTX_RESET of a context that is DEFINED or RESIDENT leaves it RESETTING (of the
armed context of a WORKER, after it has declared its own fault), of a RESETTING one completes with the reset in progress, and of an EMPTY one ends
with CTX_STATE; CTX_RESET_COMPLETE leaves it EMPTY. A command without the right of R360 is refused with SES_RIGHTS, and one while another command
of the page runs with GEN_CMD_BUSY. -/
def Obligations.ContextStatesComplete : Prop :=
  (∀ (s : State) (c : Nat), c < 64 → s.ctxBusy c = false → s.createCheck c (s.createArgs c) = .ok → ∃ t, exec (.ctxCreate (.session 0) c) s = .next t
      ∧ t.rd .ctxState c = 1 ∧ t.rd .ctxOwner c = (s.createArgs c).owner ∧ t.rd .ctxClass c = (s.createArgs c).cls
      ∧ t.rd .ctxMetered c = (s.createArgs c).metered ∧ t.rd .ctxTablebase c = (s.createArgs c).base % 2 ^ 64
      ∧ t.rd .ctxTablesize c = (s.createArgs c).size ∧ t.rd .ctxFixedlanes c = (s.createArgs c).fixed ∧ t.rd .ctxReqlanes c = (s.createArgs c).lanes
      ∧ t.evList c = ⟨[], false, s.rd .ctxEvtburst c * 1000000, s.now⟩ ∧ t.rd .ctxCmdstatus c = 0 ∧ answered t (.session 0) .ok
      ∧ t.mem.near = sclear s.mem.near (s.createArgs c).base ((s.createArgs c).base + (s.createArgs c).size * 2 ^ 21) ∧ (∀ d, d < 64 → d ≠ c →
      t.rd .ctxState d = s.rd .ctxState d))
  ∧ (∀ (s : State) (rdr : Reader) (c : Nat), c < 64 → s.ctxMay rdr c .owner = true → s.ctxBusy c = false → s.residentCheck c = .ok → ∃ t,
      exec (.makeResident rdr c) s = .next t ∧ t.rd .ctxState c = 2 ∧ t.rd .ctxSlotvalid c = 1
      ∧ t.rd .ctxSlot c = ((List.range 8).find? (fun k => (s.slotOwner k).isNone)).getD 0 ∧ t.rd .ctxCmdstatus c = 0 ∧ answered t rdr .ok
      ∧ t.mem = s.mem ∧ t = { s with regs := t.regs, cfg := t.cfg, clu := t.clu })
  ∧ (∀ (s : State) (rdr : Reader) (c : Nat), c < 64 → s.ctxMay rdr c .owner = true → s.ctxBusy c = false → s.rd .ctxState c = 2 → ∃ t,
      exec (.releaseResidency rdr c) s = .next t ∧ sget 0 t.ctxRunning c = 4 ∧ answered t rdr .ok ∧ sameConfig s t
      ∧ t = { s with cfg := t.cfg, ctxRunning := t.ctxRunning })
  ∧ (∀ (s : State) (c : Nat), sget 0 s.ctxRunning c = 4 → s.hasTask c = false → ∃ t, exec (.residencyReleased c) s = .next t ∧ t.rd .ctxState c = 1
      ∧ t.rd .ctxSlotvalid c = 0 ∧ t.rd .ctxCmdstatus c = 0 ∧ sget 0 t.ctxRunning c = 0
      ∧ t = { s with regs := t.regs, clu := t.clu, ctxRunning := t.ctxRunning })
  ∧ (∀ (s : State) (c : Nat), c < 64 → s.flag .ctxClasspend c = true → s.turnReady c = true → ∃ t, exec (.classChange c) s = .next t
      ∧ t.rd .ctxClass c = (1 - s.rd .ctxClass c) % 2 ∧ t.rd .ctxClasspend c = 0 ∧ t = { s with regs := t.regs }
      ∧ sameRegs s t [Reg.ctxClass.key c, Reg.ctxClasspend.key c])
  ∧ (∀ (s : State) (rdr : Reader) (c : Nat), c < 64 → s.ctxMay rdr c .owner = true → (s.rd .ctxState c = 1 ∨ s.rd .ctxState c = 2) →
      s.armedWorker c = false → ∃ t, exec (.ctxReset rdr c) s = .next t ∧ t.rd .ctxState c = 3 ∧ sget 0 t.ctxRunning c = 2 ∧ answered t rdr .ok
      ∧ sameConfig s t ∧ t = { s with regs := t.regs, cfg := t.cfg, ctxRunning := t.ctxRunning } ∧ sameRegs s t [Reg.ctxState.key c])
  ∧ (∀ (s : State) (c : Nat), c < 64 → s.rd .ctxState c = 3 → ∃ t, exec (.ctxResetComplete c) s = .next t ∧ t.rd .ctxState c = 0
      ∧ t.rd .ctxOwner c = 0 ∧ t.rd .defaulted (ctxPage c) = 1 ∧ sget 0 t.ctxRunning c = 0)
  ∧ (∀ (s : State) (c : Nat), c < 64 → s.ctxBusy c = false → s.createCheck c (s.createArgs c) ≠ .ok → ∃ t,
      exec (.ctxCreate (.session 0) c) s = .next t ∧ t = s.ctxEnd (.session 0) c (s.createCheck c (s.createArgs c)))
  ∧ (∀ (s : State) (rdr : Reader) (c : Nat), c < 64 → s.ctxMay rdr c .owner = true → s.ctxBusy c = false → s.residentCheck c ≠ .ok → ∃ t,
      exec (.makeResident rdr c) s = .next t ∧ t = s.ctxEnd rdr c (s.residentCheck c))
  ∧ (∀ (s : State) (rdr : Reader) (c : Nat), c < 64 → s.ctxMay rdr c .owner = true → s.ctxBusy c = false → s.rd .ctxState c ≠ 2 → ∃ t,
      exec (.releaseResidency rdr c) s = .next t ∧ t = s.ctxEnd rdr c .ctxState)
  ∧ (∀ (s : State) (c : Nat), s.hasTask c = true → ∃ t, exec (.residencyReleased c) s = .next t ∧ t = s)
  ∧ (∀ (s : State) (c : Nat), s.turnReady c = false → ∃ t, exec (.classChange c) s = .next t ∧ t = s)
  ∧ (∀ (s : State) (rdr : Reader) (c : Nat), c < 64 → s.ctxMay rdr c .owner = true → s.rd .ctxState c = 0 → ∃ t, exec (.ctxReset rdr c) s = .next t
      ∧ t = s.ctxEnd rdr c .ctxState)
  ∧ (∀ (s : State) (rdr : Reader) (c : Nat), c < 64 → s.ctxMay rdr c .owner = true → s.rd .ctxState c = 3 → ∃ t, exec (.ctxReset rdr c) s = .next t
      ∧ t = s.reply rdr .ok 0)
  ∧ (∀ (s : State) (rdr : Reader) (c : Nat), c < 64 → s.ctxMay rdr c .owner = true → (s.rd .ctxState c = 1 ∨ s.rd .ctxState c = 2) →
      s.armedWorker c = true → ∃ t, exec (.ctxReset rdr c) s = .next t ∧ t = ((s.declareFault .fhSelfFault).startReset c).reply rdr .ok 0)
  ∧ (∀ (s : State) (rdr : Reader) (c : Nat), c < 64 → rdr ≠ .session 0 → ∃ t, exec (.ctxCreate rdr c) s = .next t ∧ t = s.reply rdr .sesRights 0)
  ∧ (∀ (s : State) (rdr : Reader) (c : Nat), c < 64 → s.ctxMay rdr c .owner = false → ∃ t, exec (.makeResident rdr c) s = .next t
      ∧ exec (.releaseResidency rdr c) s = .next t ∧ exec (.ctxReset rdr c) s = .next t ∧ t = s.reply rdr .sesRights 0)
  ∧ (∀ (s : State) (c : Nat), c < 64 → s.ctxBusy c = true → ∃ t, exec (.ctxCreate (.session 0) c) s = .next t
      ∧ exec (.makeResident (.session 0) c) s = .next t ∧ exec (.releaseResidency (.session 0) c) s = .next t
      ∧ t = s.reply (.session 0) .genCmdBusy 0)

/-- MAP and UNMAP of a live context from session 0 that pass their checks write the context's tables, page after page, and nothing but memory, the
channels' counters and CTX_L2FREE; MAP completes with OK, and UNMAP of which every access to a table is answered runs until UNMAP_COMPLETE; where
a channel fails an access of a MAP to a table, or a check of either is not passed, no table is changed and the command ends with that status.
RING_CREATE that passes its checks makes the ring ACTIVE with both indices 0; RING_DESTROY that passes them returns it to FREE; otherwise each
ends with the status of its check. FAR_PAGE_RELEASE releases the oldest far page that a reset left, which then counts in KV_FARFREE unless it is
lost. The errors that the commands' reads meet are found first. -/
def Obligations.MappingsAndRingsComplete : Prop :=
  (∀ (s : State) (c : Nat) (ecc : List (Nat × EccError)), c < 64 → (s.eccFound ecc).ctxBusy c = false → (s.eccFound ecc).ctxLive c = true →
      (s.eccFound ecc).mapCheck c ((s.eccFound ecc).mapArgs c) = .ok →
      ((s.eccFound ecc).eachPage (fun s k => if ((s.eccFound ecc).mapArgs c).large then s.mapLarge c (((s.eccFound ecc).mapArgs c).dva + k * ((s.eccFound ecc).mapArgs c).size) (((s.eccFound ecc).mapArgs c).entry k) else s.mapSmall c (((s.eccFound ecc).mapArgs c).dva + k * ((s.eccFound ecc).mapArgs c).size) (((s.eccFound ecc).mapArgs c).entry k)) (List.range ((s.eccFound ecc).mapArgs c).pages)).2 = .ok →
      ∃ t, exec (.map (.session 0) ⟨c, ecc⟩) s = .next t
      ∧ t = ((s.eccFound ecc).eachPage (fun s k => if ((s.eccFound ecc).mapArgs c).large then s.mapLarge c (((s.eccFound ecc).mapArgs c).dva + k * ((s.eccFound ecc).mapArgs c).size) (((s.eccFound ecc).mapArgs c).entry k) else s.mapSmall c (((s.eccFound ecc).mapArgs c).dva + k * ((s.eccFound ecc).mapArgs c).size) (((s.eccFound ecc).mapArgs c).entry k)) (List.range ((s.eccFound ecc).mapArgs c).pages)).1.ctxEnd (.session 0) c .ok
      ∧ t.rd .ctxCmdstatus c = 0 ∧ answered t (.session 0) .ok ∧ sameConfig (s.eccFound ecc) t ∧ t.mem.far = (s.eccFound ecc).mem.far
      ∧ t = { (s.eccFound ecc) with regs := t.regs, cfg := t.cfg, mem := t.mem })
  ∧ (∀ (s : State) (c : Nat) (ecc : List (Nat × EccError)), c < 64 → (s.eccFound ecc).ctxBusy c = false → (s.eccFound ecc).ctxLive c = true →
      (s.eccFound ecc).unmapCheck c ((s.eccFound ecc).mapArgs c) = .ok →
      ((s.eccFound ecc).eachPage (fun s k => s.unmapPage c (((s.eccFound ecc).mapArgs c).dva + k * ((s.eccFound ecc).mapArgs c).size) ((s.eccFound ecc).mapArgs c).large) (List.range ((s.eccFound ecc).mapArgs c).pages)).2 = .ok →
      ∃ t, exec (.unmap (.session 0) ⟨c, ecc⟩) s = .next t
      ∧ t = (((s.eccFound ecc).eachPage (fun s k => s.unmapPage c (((s.eccFound ecc).mapArgs c).dva + k * ((s.eccFound ecc).mapArgs c).size) ((s.eccFound ecc).mapArgs c).large) (List.range ((s.eccFound ecc).mapArgs c).pages)).1.setRunning c 6).reply (.session 0) .ok 0
      ∧ sget 0 t.ctxRunning c = 6 ∧ answered t (.session 0) .ok ∧ sameConfig (s.eccFound ecc) t ∧ t.mem.far = (s.eccFound ecc).mem.far
      ∧ t = { (s.eccFound ecc) with regs := t.regs, cfg := t.cfg, mem := t.mem, ctxRunning := t.ctxRunning })
  ∧ (∀ (s : State) (c : Nat), c < 64 → sget 0 s.ctxRunning c = 6 → ∃ t, exec (.unmapComplete c) s = .next t ∧ sget 0 t.ctxRunning c = 0
      ∧ t.rd .ctxCmdstatus c = 0 ∧ t = { s with regs := t.regs, ctxRunning := t.ctxRunning } ∧ sameRegs s t [Reg.ctxCmdstatus.key c])
  ∧ (∀ (s : State) (rdr : Reader) (c : Nat) (ecc : List (Nat × EccError)), c < 64 → (s.eccFound ecc).ctxMay rdr c .gondola = true →
      (s.eccFound ecc).ctxBusy c = false → (s.eccFound ecc).ringCheck c ((s.eccFound ecc).ringArgs c) = .ok → ∃ t,
      exec (.ringCreate rdr ⟨c, ecc⟩) s = .next t ∧ t.rd .dbState ((s.eccFound ecc).ringArgs c).ring = 1
      ∧ t.rd .dbType ((s.eccFound ecc).ringArgs c).ring = ((s.eccFound ecc).ringArgs c).ty
      ∧ t.rd .dbLog2 ((s.eccFound ecc).ringArgs c).ring = ((s.eccFound ecc).ringArgs c).log2 ∧ t.rd .dbCtx ((s.eccFound ecc).ringArgs c).ring = c
      ∧ t.rd .dbTail ((s.eccFound ecc).ringArgs c).ring = 0 ∧ t.rd .dbHead ((s.eccFound ecc).ringArgs c).ring = 0
      ∧ t.rd .dbErr ((s.eccFound ecc).ringArgs c).ring = 0 ∧ t.ring ((s.eccFound ecc).ringArgs c).ring = ⟨((s.eccFound ecc).ringArgs c).base, 0, []⟩
      ∧ t.rd .ctxRings c = ((s.eccFound ecc).rd .ctxRings c + 1) % 2 ^ Reg.ctxRings.info.width ∧ t.rd .ctxCmdstatus c = 0 ∧ answered t rdr .ok
      ∧ sameConfig (s.eccFound ecc) t ∧ t = { (s.eccFound ecc) with regs := t.regs, cfg := t.cfg, rings := t.rings })
  ∧ (∀ (s : State) (rdr : Reader) (c : Nat), c < 64 → s.ctxMay rdr c .gondola = true → s.ctxBusy c = false → s.destroyCheck c = .ok → ∃ t,
      exec (.ringDestroy rdr c) s = .next t ∧ t.rd .dbState (bitsAt (s.cmdArg c 0) 0 16) = 0 ∧ t.ring (bitsAt (s.cmdArg c 0) 0 16) = Ring.none
      ∧ t.rd .ctxCmdstatus c = 0 ∧ answered t rdr .ok ∧ sameConfig s t ∧ t = { s with regs := t.regs, cfg := t.cfg, rings := t.rings })
  ∧ (∀ (s : State) (p : Nat) (l : List Nat), s.kv.farDue = p :: l → s.pageLost p = false → ∃ t, exec (.farPageRelease) s = .next t
      ∧ t.kv = { s.kv with farDue := l } ∧ t.rd .kvFarfree 0 = (s.rd .kvFarfree 0 + 1) % 2 ^ 27 ∧ t = { s with regs := t.regs, kv := t.kv }
      ∧ sameRegs s t [Reg.kvFarfree.key 0])
  ∧ (∀ (s : State) (c : Nat) (ecc : List (Nat × EccError)), c < 64 → (s.eccFound ecc).ctxBusy c = false → (s.eccFound ecc).ctxLive c = true →
      (s.eccFound ecc).mapCheck c ((s.eccFound ecc).mapArgs c) = .ok →
      ((s.eccFound ecc).eachPage (fun s k => if ((s.eccFound ecc).mapArgs c).large then s.mapLarge c (((s.eccFound ecc).mapArgs c).dva + k * ((s.eccFound ecc).mapArgs c).size) (((s.eccFound ecc).mapArgs c).entry k) else s.mapSmall c (((s.eccFound ecc).mapArgs c).dva + k * ((s.eccFound ecc).mapArgs c).size) (((s.eccFound ecc).mapArgs c).entry k)) (List.range ((s.eccFound ecc).mapArgs c).pages)).2 ≠ .ok →
      ∃ t, exec (.map (.session 0) ⟨c, ecc⟩) s = .next t
      ∧ t = (s.eccFound ecc).ctxEnd (.session 0) c ((s.eccFound ecc).eachPage (fun s k => if ((s.eccFound ecc).mapArgs c).large then s.mapLarge c (((s.eccFound ecc).mapArgs c).dva + k * ((s.eccFound ecc).mapArgs c).size) (((s.eccFound ecc).mapArgs c).entry k) else s.mapSmall c (((s.eccFound ecc).mapArgs c).dva + k * ((s.eccFound ecc).mapArgs c).size) (((s.eccFound ecc).mapArgs c).entry k)) (List.range ((s.eccFound ecc).mapArgs c).pages)).2)
  ∧ (∀ (s : State) (c : Nat) (ecc : List (Nat × EccError)), c < 64 → (s.eccFound ecc).ctxBusy c = false → (s.eccFound ecc).ctxLive c = true →
      (s.eccFound ecc).mapCheck c ((s.eccFound ecc).mapArgs c) ≠ .ok → ∃ t, exec (.map (.session 0) ⟨c, ecc⟩) s = .next t
      ∧ t = (s.eccFound ecc).ctxEnd (.session 0) c ((s.eccFound ecc).mapCheck c ((s.eccFound ecc).mapArgs c)))
  ∧ (∀ (s : State) (c : Nat) (ecc : List (Nat × EccError)), c < 64 → (s.eccFound ecc).ctxBusy c = false → (s.eccFound ecc).ctxLive c = true →
      (s.eccFound ecc).unmapCheck c ((s.eccFound ecc).mapArgs c) ≠ .ok → ∃ t, exec (.unmap (.session 0) ⟨c, ecc⟩) s = .next t
      ∧ t = (s.eccFound ecc).ctxEnd (.session 0) c ((s.eccFound ecc).unmapCheck c ((s.eccFound ecc).mapArgs c)))
  ∧ (∀ (s : State) (c : Nat) (ecc : List (Nat × EccError)), c < 64 → (s.eccFound ecc).ctxBusy c = false → (s.eccFound ecc).ctxLive c = false → ∃ t,
      exec (.map (.session 0) ⟨c, ecc⟩) s = .next t ∧ exec (.unmap (.session 0) ⟨c, ecc⟩) s = .next t
      ∧ t = (s.eccFound ecc).ctxEnd (.session 0) c .ctxState)
  ∧ (∀ (s : State) (rdr : Reader) (c : Nat) (ecc : List (Nat × EccError)), c < 64 → rdr ≠ .session 0 → ∃ t, exec (.map rdr ⟨c, ecc⟩) s = .next t
      ∧ exec (.unmap rdr ⟨c, ecc⟩) s = .next t ∧ t = (s.eccFound ecc).reply rdr .sesRights 0)
  ∧ (∀ (s : State) (rdr : Reader) (c : Nat) (ecc : List (Nat × EccError)), c < 64 → (s.eccFound ecc).ctxMay rdr c .gondola = true →
      (s.eccFound ecc).ctxBusy c = false → (s.eccFound ecc).ringCheck c ((s.eccFound ecc).ringArgs c) ≠ .ok → ∃ t,
      exec (.ringCreate rdr ⟨c, ecc⟩) s = .next t ∧ t = (s.eccFound ecc).ctxEnd rdr c ((s.eccFound ecc).ringCheck c ((s.eccFound ecc).ringArgs c)))
  ∧ (∀ (s : State) (rdr : Reader) (c : Nat), c < 64 → s.ctxMay rdr c .gondola = true → s.ctxBusy c = false → s.destroyCheck c ≠ .ok → ∃ t,
      exec (.ringDestroy rdr c) s = .next t ∧ t = s.ctxEnd rdr c (s.destroyCheck c))
  ∧ (∀ (s : State) (p : Nat) (l : List Nat), s.kv.farDue = p :: l → s.pageLost p = true → ∃ t, exec (.farPageRelease) s = .next t
      ∧ t = { s with kv := { s.kv with farDue := l } })

/-- In P0, by a writer of the ring of a live context: a tail write of a software-produced ring, or a head write of a COMPLETION ring, within the
ring's size of the other index takes effect and changes nothing else; one beyond it is discarded and puts the ring in ERROR with RING_OVERRUN,
with the status and the event; a tail write of a COMPLETION ring and a head write of another are discarded; DB_RESUME returns an ERROR ring to
ACTIVE and writes the records it holds, and changes an ACTIVE one not at all. A doorbell write to a ring of a context that is EMPTY or RESETTING
is discarded, one without the right to the context is refused with SES_RIGHTS, and one of a FREE ring with RING_BUSY (log entry 123). While the
module enters, is in or leaves P2, tail and head writes are recorded and not taken. -/
def Obligations.DoorbellsComplete : Prop :=
  (∀ (s : State) (rdr : Reader) (r v : Nat), r < 65536 → s.rd .dbState r ≠ 0 → s.rd .dbType r ≠ 3 → s.mayWriteCtx rdr (s.rd .dbCtx r) = true →
      s.ctxLive (s.rd .dbCtx r) = true → s.rd .pwrState 0 = 0 → v < 2 ^ 32 → (v + 2 ^ 32 - s.rd .dbHead r) % 2 ^ 32 ≤ s.ringSize r → ∃ t,
      exec (.dbTailWrite rdr r v) s = .next t ∧ t.rd .dbTail r = v ∧ answered t rdr .ok ∧ sameConfig s t ∧ t = { s with regs := t.regs, cfg := t.cfg }
      ∧ sameRegs s t [Reg.dbTail.key r])
  ∧ (∀ (s : State) (rdr : Reader) (r v : Nat), r < 65536 → s.rd .dbState r ≠ 0 → s.rd .dbType r ≠ 3 → s.mayWriteCtx rdr (s.rd .dbCtx r) = true →
      s.ctxLive (s.rd .dbCtx r) = true → s.rd .pwrState 0 = 0 → v < 2 ^ 32 → s.ringSize r < (v + 2 ^ 32 - s.rd .dbHead r) % 2 ^ 32 → ∃ t,
      exec (.dbTailWrite rdr r v) s = .next t ∧ t.rd .dbState r = 2 ∧ t.rd .dbTail r = s.rd .dbTail r ∧ t.rd .dbErr r = Status.ringOverrun.code
      ∧ answered t rdr .ringOverrun ∧ eventAt t (ctxPage (s.rd .dbCtx r)) .ringOverrun
      ∧ t = { s with regs := t.regs, cfg := t.cfg, events := t.events, keelEvents := t.keelEvents })
  ∧ (∀ (s : State) (rdr : Reader) (r v : Nat), r < 65536 → s.rd .dbState r ≠ 0 → s.rd .dbType r = 3 → s.mayWriteCtx rdr (s.rd .dbCtx r) = true →
      s.ctxLive (s.rd .dbCtx r) = true → s.rd .pwrState 0 = 0 → v < 2 ^ 32 → (s.rd .dbTail r + 2 ^ 32 - v) % 2 ^ 32 ≤ s.ringSize r → ∃ t,
      exec (.dbHeadWrite rdr r v) s = .next t ∧ t.rd .dbHead r = v ∧ answered t rdr .ok ∧ sameConfig s t ∧ t = { s with regs := t.regs, cfg := t.cfg }
      ∧ sameRegs s t [Reg.dbHead.key r])
  ∧ (∀ (s : State) (rdr : Reader) (r : Nat) (ecc : List (Nat × EccError)), r < 65536 → (s.eccFound ecc).rd .dbState r = 2 →
      (s.eccFound ecc).mayWriteCtx rdr ((s.eccFound ecc).rd .dbCtx r) = true → (s.eccFound ecc).ctxLive ((s.eccFound ecc).rd .dbCtx r) = true →
      (s.eccFound ecc).rd .pwrState 0 = 0 → ∃ t, exec (.dbResume rdr ⟨r, ecc⟩) s = .next t
      ∧ t = (((s.eccFound ecc).wr .dbState r 1).writeHeld r).reply rdr .ok 0 ∧ answered t rdr .ok ∧ sameConfig (s.eccFound ecc) t)
  ∧ (∀ (s : State) (rdr : Reader) (r v : Nat), r < 65536 → s.rd .dbState r ≠ 0 → s.mayWriteCtx rdr (s.rd .dbCtx r) = true →
      s.ctxLive (s.rd .dbCtx r) = false → ∃ t, exec (.dbTailWrite rdr r v) s = .next t ∧ exec (.dbHeadWrite rdr r v) s = .next t
      ∧ t = s.reply rdr .ok 0)
  ∧ (∀ (s : State) (rdr : Reader) (r v : Nat), r < 65536 → s.rd .dbState r ≠ 0 → s.rd .dbType r = 3 → s.mayWriteCtx rdr (s.rd .dbCtx r) = true →
      s.ctxLive (s.rd .dbCtx r) = true → s.rd .pwrState 0 = 0 → v < 2 ^ 32 → s.ringSize r < (s.rd .dbTail r + 2 ^ 32 - v) % 2 ^ 32 → ∃ t,
      exec (.dbHeadWrite rdr r v) s = .next t ∧ t.rd .dbState r = 2 ∧ t.rd .dbHead r = s.rd .dbHead r ∧ t.rd .dbErr r = Status.ringOverrun.code
      ∧ answered t rdr .ringOverrun ∧ eventAt t (ctxPage (s.rd .dbCtx r)) .ringOverrun
      ∧ t = { s with regs := t.regs, cfg := t.cfg, events := t.events, keelEvents := t.keelEvents })
  ∧ (∀ (s : State) (rdr : Reader) (r v : Nat), r < 65536 → s.rd .dbState r ≠ 0 → s.rd .dbType r = 3 → s.mayWriteCtx rdr (s.rd .dbCtx r) = true →
      s.ctxLive (s.rd .dbCtx r) = true → s.rd .pwrState 0 = 0 → ∃ t, exec (.dbTailWrite rdr r v) s = .next t ∧ t = s.reply rdr .ok 0)
  ∧ (∀ (s : State) (rdr : Reader) (r v : Nat), r < 65536 → s.rd .dbState r ≠ 0 → s.rd .dbType r ≠ 3 → s.mayWriteCtx rdr (s.rd .dbCtx r) = true →
      s.ctxLive (s.rd .dbCtx r) = true → s.rd .pwrState 0 = 0 → ∃ t, exec (.dbHeadWrite rdr r v) s = .next t ∧ t = s.reply rdr .ok 0)
  ∧ (∀ (s : State) (rdr : Reader) (r : Nat) (ecc : List (Nat × EccError)), r < 65536 → (s.eccFound ecc).rd .dbState r = 2 →
      (s.eccFound ecc).mayWriteCtx rdr ((s.eccFound ecc).rd .dbCtx r) = true → (s.eccFound ecc).ctxLive ((s.eccFound ecc).rd .dbCtx r) = true →
      (s.eccFound ecc).rd .pwrState 0 = 0 → ((s.eccFound ecc).ring r).held = [] → ∃ t, exec (.dbResume rdr ⟨r, ecc⟩) s = .next t
      ∧ t = ((s.eccFound ecc).wr .dbState r 1).reply rdr .ok 0)
  ∧ (∀ (s : State) (rdr : Reader) (r : Nat) (ecc : List (Nat × EccError)), r < 65536 → (s.eccFound ecc).rd .dbState r = 1 →
      (s.eccFound ecc).mayWriteCtx rdr ((s.eccFound ecc).rd .dbCtx r) = true → (s.eccFound ecc).ctxLive ((s.eccFound ecc).rd .dbCtx r) = true →
      (s.eccFound ecc).rd .pwrState 0 = 0 → ∃ t, exec (.dbResume rdr ⟨r, ecc⟩) s = .next t ∧ t = (s.eccFound ecc).reply rdr .ok 0)
  ∧ (∀ (s : State) (rdr : Reader) (r v : Nat), r < 65536 → s.rd .dbState r ≠ 0 → s.mayWriteCtx rdr (s.rd .dbCtx r) = false → ∃ t,
      exec (.dbTailWrite rdr r v) s = .next t ∧ exec (.dbHeadWrite rdr r v) s = .next t ∧ exec (.dbResume rdr ⟨r, []⟩) s = .next t
      ∧ t = s.reply rdr .sesRights 0)
  ∧ (∀ (s : State) (rdr : Reader) (r v : Nat), r < 65536 → s.rd .dbState r = 0 → ∃ t, exec (.dbTailWrite rdr r v) s = .next t
      ∧ exec (.dbHeadWrite rdr r v) s = .next t ∧ exec (.dbResume rdr ⟨r, []⟩) s = .next t ∧ t = s.reply rdr .ringBusy 0)
  ∧ (∀ (s : State) (rdr : Reader) (r v : Nat), r < 65536 → s.rd .dbState r ≠ 0 → s.mayWriteCtx rdr (s.rd .dbCtx r) = true →
      s.ctxLive (s.rd .dbCtx r) = true → s.rd .pwrState 0 ≠ 0 → ∃ t, exec (.dbTailWrite rdr r v) s = .next t
      ∧ t.pow = { s.pow with doorbells := s.pow.doorbells ++ [⟨rdr, r, 0, v⟩] } ∧ answered t rdr .ok ∧ sameConfig s t
      ∧ t = { s with pow := t.pow, cfg := t.cfg })
  ∧ (∀ (s : State) (rdr : Reader) (r v : Nat), r < 65536 → s.rd .dbState r ≠ 0 → s.mayWriteCtx rdr (s.rd .dbCtx r) = true →
      s.ctxLive (s.rd .dbCtx r) = true → s.rd .pwrState 0 ≠ 0 → ∃ t, exec (.dbHeadWrite rdr r v) s = .next t
      ∧ t.pow = { s.pow with doorbells := s.pow.doorbells ++ [⟨rdr, r, 4, v⟩] } ∧ answered t rdr .ok ∧ sameConfig s t
      ∧ t = { s with pow := t.pow, cfg := t.cfg })

/-- EVENT_DELIVER to the session of a list that delivers there, whose session is open with room in its window, and whose oldest record has been
delivered nowhere while the bucket holds a token: one token is spent, LOST passes to the record, it leaves as an event frame, and TS_EVTWINDOW
rises. To the event ring, it is written there and the hart of CTX_EVTHART is interrupted. The record leaves a list that delivers to one of them;
of a list that delivers to both it stays until it has reached both, and its second delivery spends no token. Where no record waits for the
destination, the list does not deliver there, the destination has no room, or the bucket no token for a record delivered nowhere, nothing is
delivered. The state is the one in which the errors that the command met have been reported. -/
def Obligations.EventsDelivered : Prop :=
  (∀ (s : State) (k : Nat) (ecc : List (Nat × EccError)) (e : Event) (l : List Event), (s.eccFound ecc).evDests k = (true, false) →
      ((s.eccFound ecc).evList k).items = e :: l → e.atSession = false ∧ e.atRing = false → (s.eccFound ecc).evRoom k false = true →
      1000000 ≤ (s.eccFound ecc).evTokens k → ∃ t, exec (.eventDeliver k ⟨false, ecc⟩) s = .next t
      ∧ t = (((s.eccFound ecc).setEvList k ⟨l, false, (s.eccFound ecc).evTokens k - 1000000, (s.eccFound ecc).now⟩).sessionSend ((s.eccFound ecc).evSession k) tfEvent (eventRecord { e with lost := ((s.eccFound ecc).evList k).lost, atSession := true, atRing := false } ((s.eccFound ecc).rd .fltMember 0))).bump .tsEvtwindow ((s.eccFound ecc).evSession k) 1)
  ∧ (∀ (s : State) (k : Nat) (ecc : List (Nat × EccError)) (e : Event) (l : List Event), (s.eccFound ecc).evDests k = (false, true) →
      ((s.eccFound ecc).evList k).items = e :: l → e.atSession = false ∧ e.atRing = false → (s.eccFound ecc).evRoom k true = true →
      1000000 ≤ (s.eccFound ecc).evTokens k → ∃ t, exec (.eventDeliver k ⟨true, ecc⟩) s = .next t
      ∧ t = (((s.eccFound ecc).setEvList k ⟨l, false, (s.eccFound ecc).evTokens k - 1000000, (s.eccFound ecc).now⟩).writeRecord ((s.eccFound ecc).rd .ctxEvtring k) (eventRecord { e with lost := ((s.eccFound ecc).evList k).lost, atSession := false, atRing := true } ((s.eccFound ecc).rd .fltMember 0)) false).setCore (.hart ((((s.eccFound ecc).setEvList k ⟨l, false, (s.eccFound ecc).evTokens k - 1000000, (s.eccFound ecc).now⟩).writeRecord ((s.eccFound ecc).rd .ctxEvtring k) (eventRecord { e with lost := ((s.eccFound ecc).evList k).lost, atSession := false, atRing := true } ((s.eccFound ecc).rd .fltMember 0)) false).rd .ctxEvthart k)) { (((s.eccFound ecc).setEvList k ⟨l, false, (s.eccFound ecc).evTokens k - 1000000, (s.eccFound ecc).now⟩).writeRecord ((s.eccFound ecc).rd .ctxEvtring k) (eventRecord { e with lost := ((s.eccFound ecc).evList k).lost, atSession := false, atRing := true } ((s.eccFound ecc).rd .fltMember 0)) false).core (.hart ((((s.eccFound ecc).setEvList k ⟨l, false, (s.eccFound ecc).evTokens k - 1000000, (s.eccFound ecc).now⟩).writeRecord ((s.eccFound ecc).rd .ctxEvtring k) (eventRecord { e with lost := ((s.eccFound ecc).evList k).lost, atSession := false, atRing := true } ((s.eccFound ecc).rd .fltMember 0)) false).rd .ctxEvthart k)) with interrupt := true })
  ∧ (∀ (s : State) (k : Nat) (ecc : List (Nat × EccError)) (e : Event) (l : List Event), (s.eccFound ecc).evDests k = (true, true) →
      ((s.eccFound ecc).evList k).items = e :: l → e.atSession = false ∧ e.atRing = false → (s.eccFound ecc).evRoom k false = true →
      1000000 ≤ (s.eccFound ecc).evTokens k → ∃ t, exec (.eventDeliver k ⟨false, ecc⟩) s = .next t
      ∧ t = (((s.eccFound ecc).setEvList k ⟨{ e with lost := ((s.eccFound ecc).evList k).lost, atSession := true, atRing := false } :: l, false, (s.eccFound ecc).evTokens k - 1000000, (s.eccFound ecc).now⟩).sessionSend ((s.eccFound ecc).evSession k) tfEvent (eventRecord { e with lost := ((s.eccFound ecc).evList k).lost, atSession := true, atRing := false } ((s.eccFound ecc).rd .fltMember 0))).bump .tsEvtwindow ((s.eccFound ecc).evSession k) 1)
  ∧ (∀ (s : State) (k : Nat) (ecc : List (Nat × EccError)) (e : Event) (l : List Event), (s.eccFound ecc).evDests k = (true, true) →
      ((s.eccFound ecc).evList k).items = e :: l → e.atSession = false ∧ e.atRing = false → (s.eccFound ecc).evRoom k true = true →
      1000000 ≤ (s.eccFound ecc).evTokens k → ∃ t, exec (.eventDeliver k ⟨true, ecc⟩) s = .next t
      ∧ t = (((s.eccFound ecc).setEvList k ⟨{ e with lost := ((s.eccFound ecc).evList k).lost, atSession := false, atRing := true } :: l, false, (s.eccFound ecc).evTokens k - 1000000, (s.eccFound ecc).now⟩).writeRecord ((s.eccFound ecc).rd .ctxEvtring k) (eventRecord { e with lost := ((s.eccFound ecc).evList k).lost, atSession := false, atRing := true } ((s.eccFound ecc).rd .fltMember 0)) false).setCore (.hart ((((s.eccFound ecc).setEvList k ⟨{ e with lost := ((s.eccFound ecc).evList k).lost, atSession := false, atRing := true } :: l, false, (s.eccFound ecc).evTokens k - 1000000, (s.eccFound ecc).now⟩).writeRecord ((s.eccFound ecc).rd .ctxEvtring k) (eventRecord { e with lost := ((s.eccFound ecc).evList k).lost, atSession := false, atRing := true } ((s.eccFound ecc).rd .fltMember 0)) false).rd .ctxEvthart k)) { (((s.eccFound ecc).setEvList k ⟨{ e with lost := ((s.eccFound ecc).evList k).lost, atSession := false, atRing := true } :: l, false, (s.eccFound ecc).evTokens k - 1000000, (s.eccFound ecc).now⟩).writeRecord ((s.eccFound ecc).rd .ctxEvtring k) (eventRecord { e with lost := ((s.eccFound ecc).evList k).lost, atSession := false, atRing := true } ((s.eccFound ecc).rd .fltMember 0)) false).core (.hart ((((s.eccFound ecc).setEvList k ⟨{ e with lost := ((s.eccFound ecc).evList k).lost, atSession := false, atRing := true } :: l, false, (s.eccFound ecc).evTokens k - 1000000, (s.eccFound ecc).now⟩).writeRecord ((s.eccFound ecc).rd .ctxEvtring k) (eventRecord { e with lost := ((s.eccFound ecc).evList k).lost, atSession := false, atRing := true } ((s.eccFound ecc).rd .fltMember 0)) false).rd .ctxEvthart k)) with interrupt := true })
  ∧ (∀ (s : State) (k : Nat) (ecc : List (Nat × EccError)) (e : Event) (l : List Event), (s.eccFound ecc).evDests k = (true, true) →
      ((s.eccFound ecc).evList k).items = e :: l → e.atSession = false ∧ e.atRing = true → (s.eccFound ecc).evRoom k false = true → ∃ t,
      exec (.eventDeliver k ⟨false, ecc⟩) s = .next t
      ∧ t = (((s.eccFound ecc).setEvList k ⟨l, ((s.eccFound ecc).evList k).lost, (s.eccFound ecc).evTokens k, (s.eccFound ecc).now⟩).sessionSend ((s.eccFound ecc).evSession k) tfEvent (eventRecord { e with atSession := true, atRing := true } ((s.eccFound ecc).rd .fltMember 0))).bump .tsEvtwindow ((s.eccFound ecc).evSession k) 1)
  ∧ (∀ (s : State) (k : Nat) (ecc : List (Nat × EccError)) (e : Event) (l : List Event), (s.eccFound ecc).evDests k = (true, true) →
      ((s.eccFound ecc).evList k).items = e :: l → e.atSession = true ∧ e.atRing = false → (s.eccFound ecc).evRoom k true = true → ∃ t,
      exec (.eventDeliver k ⟨true, ecc⟩) s = .next t
      ∧ t = (((s.eccFound ecc).setEvList k ⟨l, ((s.eccFound ecc).evList k).lost, (s.eccFound ecc).evTokens k, (s.eccFound ecc).now⟩).writeRecord ((s.eccFound ecc).rd .ctxEvtring k) (eventRecord { e with atSession := true, atRing := true } ((s.eccFound ecc).rd .fltMember 0)) false).setCore (.hart ((((s.eccFound ecc).setEvList k ⟨l, ((s.eccFound ecc).evList k).lost, (s.eccFound ecc).evTokens k, (s.eccFound ecc).now⟩).writeRecord ((s.eccFound ecc).rd .ctxEvtring k) (eventRecord { e with atSession := true, atRing := true } ((s.eccFound ecc).rd .fltMember 0)) false).rd .ctxEvthart k)) { (((s.eccFound ecc).setEvList k ⟨l, ((s.eccFound ecc).evList k).lost, (s.eccFound ecc).evTokens k, (s.eccFound ecc).now⟩).writeRecord ((s.eccFound ecc).rd .ctxEvtring k) (eventRecord { e with atSession := true, atRing := true } ((s.eccFound ecc).rd .fltMember 0)) false).core (.hart ((((s.eccFound ecc).setEvList k ⟨l, ((s.eccFound ecc).evList k).lost, (s.eccFound ecc).evTokens k, (s.eccFound ecc).now⟩).writeRecord ((s.eccFound ecc).rd .ctxEvtring k) (eventRecord { e with atSession := true, atRing := true } ((s.eccFound ecc).rd .fltMember 0)) false).rd .ctxEvthart k)) with interrupt := true })
  ∧ (∀ (s : State) (k : Nat) (op : Bool) (ecc : List (Nat × EccError)),
      ((s.eccFound ecc).evList k).items.all (fun e => if op then e.atRing else e.atSession) = true ∨ (s.eccFound ecc).evRoom k op = false ∨ (if op then ((s.eccFound ecc).evDests k).2 else ((s.eccFound ecc).evDests k).1) = false ∨ (((s.eccFound ecc).evList k).items.all (fun e => !e.atSession && !e.atRing) = true
      ∧ (s.eccFound ecc).evTokens k < 1000000) → ∃ t, exec (.eventDeliver k ⟨op, ecc⟩) s = .next t ∧ t = (s.eccFound ecc))

/-- UPDATE_ENTRY_TAKE at the head of a TRANSFER ring of a context that takes work and whose UPDATE entry can be taken: an aligned entry of a LEARN
context starts a chain, with the next number, at the entry's pointer, whose first descriptor is fetched; one of another class or misaligned is
completed with LRN_UPD_CLASS or LRN_UPD_ALIGN, and one of a reserved kind with RING_ENTRY. With no epoch being adopted by the fabric hub, a
descriptor that has been fetched and has not started, which no UD_FENCE holds and which passes its checks, starts on the command of its operation:
NORM and CONVERT with the reciprocal of the loss scale, and ADAMW, LION and SGDM, where the context's step is not being skipped and the norm
record, if it is needed, reads, with their constants. A descriptor that does not pass its checks fails with their status, an optimiser's in a
skipped step with LRN_STEP_SKIPPED, and one whose norm record does not read with that read's status; while a fence holds it nothing happens but
the errors that the command meets. That NORM and CONVERT keep the reciprocal of the loss scale is how the model holds it. -/
def Obligations.UpdateDescriptorsStart : Prop :=
  (∀ (s : State) (ring : Nat) (ecc : List (Nat × EccError)) (e : WorkEntry), s.ringPending ring 1 = true → s.serves (s.rd .dbCtx ring) = true →
      s.fhHolds (s.rd .dbCtx ring) = false →
      ((s.dvaRead (s.rd .dbCtx ring) (s.entryDva ring (s.rd .dbHead ring)) 1).toOption.map (fun b => leNat b % 16)) ≠ some 2 →
      ((s.eccFound ecc).takeWork ring).2 = some e → e.kind = 1 ∧ e.ptr % 64 = 0 →
      ((s.eccFound ecc).takeWork ring).1.isLearn (s.rd .dbCtx ring) = true → ∃ t, exec (.updateEntryTake ring ecc) s = .next t
      ∧ t = ({ ((s.eccFound ecc).takeWork ring).1 with upd := ⟨((s.eccFound ecc).takeWork ring).1.upd.chains ++ [⟨((s.eccFound ecc).takeWork ring).1.upd.nextId, s.rd .dbCtx ring, ring, e.dva, e.complete, e.cring, e.tag, e.ptr, 0, .ok, none⟩], ((s.eccFound ecc).takeWork ring).1.upd.nextId + 1⟩ } : State).loadDesc ⟨((s.eccFound ecc).takeWork ring).1.upd.nextId, s.rd .dbCtx ring, ring, e.dva, e.complete, e.cring, e.tag, e.ptr, 0, .ok, none⟩)
  ∧ (∀ (s : State) (id : Nat) (ecc : List (Nat × EccError)) (c : Chain) (d : UpdDesc), s.overlay islHub = [] →
      (s.eccFound ecc).descFor id 0 = some (c, d) → (s.eccFound ecc).fenceHeld id d.ud = false → (s.eccFound ecc).udCheck c.ctx d.ud = .ok → ∃ t,
      exec (.norm id ecc) s = .next t
      ∧ t = (s.eccFound ecc).setChain { c with desc := some { d with started := true, consts := [f32Div f32One ((s.eccFound ecc).rd .lrnLscale c.ctx)] } })
  ∧ (∀ (s : State) (id : Nat) (ecc : List (Nat × EccError)) (c : Chain) (d : UpdDesc) (q : Nat), s.overlay islHub = [] →
      (s.eccFound ecc).descFor id 1 = some (c, d) → (s.eccFound ecc).fenceHeld id d.ud = false → (s.eccFound ecc).udCheck c.ctx d.ud = .ok →
      (s.eccFound ecc).flag .lrnStepskip c.ctx = false → ((s.eccFound ecc).normFor c.ctx d.ud).2.toOption = some q → ∃ t,
      exec (.adamw id ecc) s = .next t
      ∧ t = ((s.eccFound ecc).normFor c.ctx d.ud).1.setChain { c with desc := some { d with started := true, consts := updConsts d.ud (((s.eccFound ecc).normFor c.ctx d.ud).1.rd .lrnUscale c.ctx) q } })
  ∧ (∀ (s : State) (id : Nat) (ecc : List (Nat × EccError)) (c : Chain) (d : UpdDesc) (q : Nat), s.overlay islHub = [] →
      (s.eccFound ecc).descFor id 2 = some (c, d) → (s.eccFound ecc).fenceHeld id d.ud = false → (s.eccFound ecc).udCheck c.ctx d.ud = .ok →
      (s.eccFound ecc).flag .lrnStepskip c.ctx = false → ((s.eccFound ecc).normFor c.ctx d.ud).2.toOption = some q → ∃ t,
      exec (.lion id ecc) s = .next t
      ∧ t = ((s.eccFound ecc).normFor c.ctx d.ud).1.setChain { c with desc := some { d with started := true, consts := updConsts d.ud (((s.eccFound ecc).normFor c.ctx d.ud).1.rd .lrnUscale c.ctx) q } })
  ∧ (∀ (s : State) (id : Nat) (ecc : List (Nat × EccError)) (c : Chain) (d : UpdDesc) (q : Nat), s.overlay islHub = [] →
      (s.eccFound ecc).descFor id 3 = some (c, d) → (s.eccFound ecc).fenceHeld id d.ud = false → (s.eccFound ecc).udCheck c.ctx d.ud = .ok →
      (s.eccFound ecc).flag .lrnStepskip c.ctx = false → ((s.eccFound ecc).normFor c.ctx d.ud).2.toOption = some q → ∃ t,
      exec (.sgdm id ecc) s = .next t
      ∧ t = ((s.eccFound ecc).normFor c.ctx d.ud).1.setChain { c with desc := some { d with started := true, consts := updConsts d.ud (((s.eccFound ecc).normFor c.ctx d.ud).1.rd .lrnUscale c.ctx) q } })
  ∧ (∀ (s : State) (id : Nat) (ecc : List (Nat × EccError)) (c : Chain) (d : UpdDesc), s.overlay islHub = [] →
      (s.eccFound ecc).descFor id 4 = some (c, d) → (s.eccFound ecc).fenceHeld id d.ud = false → (s.eccFound ecc).udCheck c.ctx d.ud = .ok → ∃ t,
      exec (.convert id ecc) s = .next t
      ∧ t = (s.eccFound ecc).setChain { c with desc := some { d with started := true, consts := [f32Div f32One ((s.eccFound ecc).rd .lrnLscale c.ctx)] } })
  ∧ (∀ (s : State) (ring : Nat) (ecc : List (Nat × EccError)) (e : WorkEntry), s.ringPending ring 1 = true → s.serves (s.rd .dbCtx ring) = true →
      s.fhHolds (s.rd .dbCtx ring) = false →
      ((s.dvaRead (s.rd .dbCtx ring) (s.entryDva ring (s.rd .dbHead ring)) 1).toOption.map (fun b => leNat b % 16)) ≠ some 2 →
      ((s.eccFound ecc).takeWork ring).2 = some e → e.kind ≠ 1 → ∃ t, exec (.updateEntryTake ring ecc) s = .next t
      ∧ t = ((s.eccFound ecc).takeWork ring).1.reservedEntry ring 6 (ctxPage (s.rd .dbCtx ring)) e)
  ∧ (∀ (s : State) (ring : Nat) (ecc : List (Nat × EccError)) (e : WorkEntry), s.ringPending ring 1 = true → s.serves (s.rd .dbCtx ring) = true →
      s.fhHolds (s.rd .dbCtx ring) = false →
      ((s.dvaRead (s.rd .dbCtx ring) (s.entryDva ring (s.rd .dbHead ring)) 1).toOption.map (fun b => leNat b % 16)) ≠ some 2 →
      ((s.eccFound ecc).takeWork ring).2 = some e → e.kind = 1 → ((s.eccFound ecc).takeWork ring).1.isLearn (s.rd .dbCtx ring) = false → ∃ t,
      exec (.updateEntryTake ring ecc) s = .next t
      ∧ t = (((s.eccFound ecc).takeWork ring).1.workDone 6 e.complete e.cring (Status.code .lrnUpdClass) ring e.tag e.ptr 0 0).updError (s.rd .dbCtx ring) e.ptr .lrnUpdClass)
  ∧ (∀ (s : State) (ring : Nat) (ecc : List (Nat × EccError)) (e : WorkEntry), s.ringPending ring 1 = true → s.serves (s.rd .dbCtx ring) = true →
      s.fhHolds (s.rd .dbCtx ring) = false →
      ((s.dvaRead (s.rd .dbCtx ring) (s.entryDva ring (s.rd .dbHead ring)) 1).toOption.map (fun b => leNat b % 16)) ≠ some 2 →
      ((s.eccFound ecc).takeWork ring).2 = some e → e.kind = 1 → ((s.eccFound ecc).takeWork ring).1.isLearn (s.rd .dbCtx ring) = true →
      e.ptr % 64 ≠ 0 → ∃ t, exec (.updateEntryTake ring ecc) s = .next t
      ∧ t = (((s.eccFound ecc).takeWork ring).1.workDone 6 e.complete e.cring (Status.code .lrnUpdAlign) ring e.tag e.ptr 0 0).updError (s.rd .dbCtx ring) e.ptr .lrnUpdAlign)
  ∧ (∀ (s : State) (i : Instr) (id op : Nat) (ecc : List (Nat × EccError)) (c : Chain) (d : UpdDesc), (i,
      op) ∈ [(Instr.norm id ecc, 0), (.adamw id ecc, 1), (.lion id ecc, 2), (.sgdm id ecc, 3), (.convert id ecc, 4)] → s.overlay islHub = [] →
      (s.eccFound ecc).descFor id op = some (c, d) → (s.eccFound ecc).fenceHeld id d.ud = false → (s.eccFound ecc).udCheck c.ctx d.ud ≠ .ok → ∃ t,
      exec i s = .next t ∧ t = (s.eccFound ecc).setChain { c with desc := some (d.fail ((s.eccFound ecc).udCheck c.ctx d.ud)) })
  ∧ (∀ (s : State) (i : Instr) (id op : Nat) (ecc : List (Nat × EccError)) (c : Chain) (d : UpdDesc), (i,
      op) ∈ [(Instr.adamw id ecc, 1), (.lion id ecc, 2), (.sgdm id ecc, 3)] → s.overlay islHub = [] → (s.eccFound ecc).descFor id op = some (c, d) →
      (s.eccFound ecc).fenceHeld id d.ud = false → (s.eccFound ecc).udCheck c.ctx d.ud = .ok → (s.eccFound ecc).flag .lrnStepskip c.ctx = true → ∃ t,
      exec i s = .next t ∧ t = (s.eccFound ecc).setChain { c with desc := some (d.fail .lrnStepSkipped) })
  ∧ (∀ (s : State) (i : Instr) (id op : Nat) (ecc : List (Nat × EccError)) (c : Chain) (d : UpdDesc) (st : Status), (i,
      op) ∈ [(Instr.adamw id ecc, 1), (.lion id ecc, 2), (.sgdm id ecc, 3)] → s.overlay islHub = [] → (s.eccFound ecc).descFor id op = some (c, d) →
      (s.eccFound ecc).fenceHeld id d.ud = false → (s.eccFound ecc).udCheck c.ctx d.ud = .ok → (s.eccFound ecc).flag .lrnStepskip c.ctx = false →
      ((s.eccFound ecc).normFor c.ctx d.ud).2.toOption = none → statusOf ((s.eccFound ecc).normFor c.ctx d.ud).2 = st → ∃ t, exec i s = .next t
      ∧ t = ((s.eccFound ecc).normFor c.ctx d.ud).1.setChain { c with desc := some (d.fail st) })
  ∧ (∀ (s : State) (i : Instr) (id op : Nat) (ecc : List (Nat × EccError)) (c : Chain) (d : UpdDesc), (i,
      op) ∈ [(Instr.norm id ecc, 0), (.adamw id ecc, 1), (.lion id ecc, 2), (.sgdm id ecc, 3), (.convert id ecc, 4)] → s.overlay islHub = [] →
      (s.eccFound ecc).descFor id op = some (c, d) → (s.eccFound ecc).fenceHeld id d.ud = true → ∃ t, exec i s = .next t ∧ t = (s.eccFound ecc))

/-- UPDATE_CHUNK of a NORM descriptor whose region reads moves it past one chunk, whose squares its unit's sum takes in; one that does not read fails
the descriptor with the read's status; of an optimiser's or a CONVERT's it computes the chunk, whose results are kept. UPDATE_DESC_COMPLETE of a
descriptor that is over shows its units idle, and, where it has not failed, writes its results and then its result words, with LRN_UPD_NONFINITE
where a result was not finite, and its chain moves on; the last of a chain that signals no tally and came without COMPLETE ends the chain; a
failed one, or one whose results cannot be written, writes none of them and ends its chain; before it is over nothing changes. STEP_CLOSE with no
securing step to wait for, no fence and a norm record that reads counts the step, makes U the old L, moves L and the clean steps by the rule of
the flag, and clears LRN_PENDNF; it fails with the status of a check or read that fails, and waits while a capture is due. LRN_LSINIT gives the
starting loss scale of the context's LRN_LSEN and LRN_NFSET sets LRN_PENDNF, and neither changes anything else; a write of zero does nothing, and
one without the right to the context is refused. That results are written at the descriptor's end is the model's choice (log entry 117). -/
def Obligations.UpdateDescriptorsEnd : Prop :=
  (∀ (s : State) (id : Nat) (ecc : List (Nat × EccError)) (c : Chain) (d : UpdDesc) (ch n : Nat) (gs : List Nat), s.chain id = some c →
      c.desc = some d → d.started = true ∧ d.ready = false → udOp d.ud = 0 → d.chunk * 4096 < udCount d.ud → s.ctxLive c.ctx = true →
      ch = (s.eccFound ecc).unitAt c.ctx (udGrad d.ud + d.chunk * 4096 * fmtBits (udGfmt d.ud) / 8) → n = min 4096 (udCount d.ud - d.chunk * 4096) →
      (((s.eccFound ecc).unitRuns c.ctx ch n { d with chunk := d.chunk + 1 }).1.regRead c.ctx (regGrad d.ud) (d.chunk * 4096) n).2.toOption = some gs →
      ∃ t, exec (.updateChunk id ecc) s = .next t
      ∧ t = (((s.eccFound ecc).unitRuns c.ctx ch n { d with chunk := d.chunk + 1 }).1.regRead c.ctx (regGrad d.ud) (d.chunk * 4096) n).1.setChain { c with desc := some (((s.eccFound ecc).unitRuns c.ctx ch n { d with chunk := d.chunk + 1 }).2.normChunk ch gs) }
      ∧ ((s.eccFound ecc).unitRuns c.ctx ch n { d with chunk := d.chunk + 1 }).2.chunk = d.chunk + 1
      ∧ ((s.eccFound ecc).unitRuns c.ctx ch n { d with chunk := d.chunk + 1 }).2.units.contains ch = true)
  ∧ (∀ (s : State) (id : Nat) (c : Chain) (d : UpdDesc), s.chain id = some c → c.desc = some d → d.ended = true → s.ctxLive c.ctx = true →
      updCompletes d.status = true → ((d.units.foldl (fun s ch => s.wr .updRun ch 0) s).writeResults c.ctx d).2 = .ok →
      (((d.units.foldl (fun s ch => s.wr .updRun ch 0) s).writeResults c.ctx d).1.writeDesc c.ctx { d with status := if d.status = .ok ∧ d.nonfin ≠ 0 then .lrnUpdNonfinite else d.status }).2 = .ok →
      ∃ t, exec (.updateDescComplete id) s = .next t
      ∧ t = (((d.units.foldl (fun s ch => s.wr .updRun ch 0) s).writeResults c.ctx d).1.writeDesc c.ctx { d with status := if d.status = .ok ∧ d.nonfin ≠ 0 then .lrnUpdNonfinite else d.status }).1.passDesc c { d with status := if d.status = .ok ∧ d.nonfin ≠ 0 then .lrnUpdNonfinite else d.status })
  ∧ (∀ (s : State) (id : Nat) (ecc : List (Nat × EccError)) (c : Chain) (d : UpdDesc) (b : List Byte) (f : Bool), s.overlay islHub = [] →
      s.descFor id 5 = some (c, d) → (s.secureDue c.ctx = none ∨ s.fh.captured = s.secureDue c.ctx) → s.fenceHeld id d.ud = false →
      s.udCheck c.ctx d.ud = .ok → ((s.eccFound ecc).readDva c.ctx (udNorm d.ud) 16).2.toOption = some b → f = bitAt (fieldAt b 4 4) 0 → ∃ t,
      exec (.stepClose id ecc) s = .next t
      ∧ t = (((((s.eccFound ecc).readDva c.ctx (udNorm d.ud) 16).1.setChain { c with desc := some { d with started := true, ready := true } }).closeStep c.ctx f).closeTokens c.ctx).closeRun c.ctx
      ∧ t.rd .lrnUscale c.ctx = (s.eccFound ecc).rd .lrnLscale c.ctx % 2 ^ 32
      ∧ t.rd .lrnStep c.ctx = ((s.eccFound ecc).rd .lrnStep c.ctx + 1) % 2 ^ Reg.lrnStep.info.width ∧ t.rd .lrnStepskip c.ctx = b2n f
      ∧ t.rd .lrnPendnf c.ctx = 0 ∧ t.rd .lrnLscale c.ctx = (if f then (if (s.eccFound ecc).flag .lrnLsen c.ctx
      ∧ f32Lt f32One ((s.eccFound ecc).rd .lrnLscale c.ctx) then f32Mul ((s.eccFound ecc).rd .lrnLscale c.ctx) 0x3F000000 % 2 ^ 32 else (s.eccFound ecc).rd .lrnLscale c.ctx) else if (s.eccFound ecc).rd .lrnGrowth c.ctx ≤ (s.eccFound ecc).rd .lrnClean c.ctx + 1
      ∧ (s.eccFound ecc).flag .lrnLsen c.ctx
      ∧ f32Lt ((s.eccFound ecc).rd .lrnLscale c.ctx) 0x4B800000 then f32Mul ((s.eccFound ecc).rd .lrnLscale c.ctx) 0x40000000 % 2 ^ 32 else (s.eccFound ecc).rd .lrnLscale c.ctx)
      ∧ (f = true → t.rd .lrnClean c.ctx = 0 ∧ eventAt t lrnPage .lrnStepSkipped) ∧ t.mem.near = (s.eccFound ecc).mem.near)
  ∧ (∀ (s : State) (rdr : Reader) (ctx v : Nat), ctx < 64 → s.mayWriteCtx rdr ctx = true → v % 2 = 1 → ∃ t, exec (.lrnLsinit rdr ctx v) s = .next t
      ∧ t.rd .lrnLscale ctx = (if s.flag .lrnLsen ctx then 0x47800000 else 0x3F800000)
      ∧ t.rd .lrnClean ctx = (if s.flag .lrnLsen ctx then 0 else s.rd .lrnClean ctx) ∧ answered t rdr .ok ∧ sameConfig s t
      ∧ t = { s with regs := t.regs, cfg := t.cfg } ∧ sameRegs s t [Reg.lrnLscale.key ctx, Reg.lrnClean.key ctx])
  ∧ (∀ (s : State) (rdr : Reader) (ctx v : Nat), ctx < 64 → s.mayWriteCtx rdr ctx = true → v % 2 = 1 → ∃ t, exec (.lrnNfset rdr ctx v) s = .next t
      ∧ t.rd .lrnPendnf ctx = 1 ∧ answered t rdr .ok ∧ sameConfig s t ∧ t = { s with regs := t.regs, cfg := t.cfg }
      ∧ sameRegs s t [Reg.lrnPendnf.key ctx])
  ∧ (∀ (s : State) (id : Nat) (ecc : List (Nat × EccError)) (c : Chain) (d : UpdDesc) (ch n : Nat) (st : Status), s.chain id = some c →
      c.desc = some d → d.started = true ∧ d.ready = false → udOp d.ud = 0 → d.chunk * 4096 < udCount d.ud → s.ctxLive c.ctx = true →
      ch = (s.eccFound ecc).unitAt c.ctx (udGrad d.ud + d.chunk * 4096 * fmtBits (udGfmt d.ud) / 8) → n = min 4096 (udCount d.ud - d.chunk * 4096) →
      (((s.eccFound ecc).unitRuns c.ctx ch n { d with chunk := d.chunk + 1 }).1.regRead c.ctx (regGrad d.ud) (d.chunk * 4096) n).2.toOption = none →
      statusOf (((s.eccFound ecc).unitRuns c.ctx ch n { d with chunk := d.chunk + 1 }).1.regRead c.ctx (regGrad d.ud) (d.chunk * 4096) n).2 = st →
      ∃ t, exec (.updateChunk id ecc) s = .next t
      ∧ t = (((s.eccFound ecc).unitRuns c.ctx ch n { d with chunk := d.chunk + 1 }).1.regRead c.ctx (regGrad d.ud) (d.chunk * 4096) n).1.setChain { c with desc := some (((s.eccFound ecc).unitRuns c.ctx ch n { d with chunk := d.chunk + 1 }).2.fail st) })
  ∧ (∀ (s : State) (id : Nat) (ecc : List (Nat × EccError)) (c : Chain) (d : UpdDesc) (ch n : Nat), s.chain id = some c → c.desc = some d →
      d.started = true ∧ d.ready = false → udOp d.ud ≠ 0 ∧ udOp d.ud ≠ 5 → d.chunk * 4096 < udCount d.ud → s.ctxLive c.ctx = true →
      ch = (s.eccFound ecc).unitAt c.ctx (udMaster d.ud + 4 * (d.chunk * 4096)) → n = min 4096 (udCount d.ud - d.chunk * 4096) → ∃ t,
      exec (.updateChunk id ecc) s = .next t
      ∧ t = (((s.eccFound ecc).unitRuns c.ctx ch n { d with chunk := d.chunk + 1 }).1.optimiserChunk c.ctx ch (d.chunk * 4096) n ((s.eccFound ecc).unitRuns c.ctx ch n { d with chunk := d.chunk + 1 }).2).1.setChain { c with desc := some (((s.eccFound ecc).unitRuns c.ctx ch n { d with chunk := d.chunk + 1 }).1.optimiserChunk c.ctx ch (d.chunk * 4096) n ((s.eccFound ecc).unitRuns c.ctx ch n { d with chunk := d.chunk + 1 }).2).2 })
  ∧ (∀ (s : State) (id : Nat) (c : Chain) (d : UpdDesc), s.chain id = some c → c.desc = some d → d.ended = true → s.ctxLive c.ctx = true →
      updCompletes d.status = true → ((d.units.foldl (fun s ch => s.wr .updRun ch 0) s).writeResults c.ctx d).2 = .ok →
      (((d.units.foldl (fun s ch => s.wr .updRun ch 0) s).writeResults c.ctx d).1.writeDesc c.ctx { d with status := if d.status = .ok ∧ d.nonfin ≠ 0 then .lrnUpdNonfinite else d.status }).2 = .ok →
      udLast d.ud = true ∧ udTallyEn d.ud = false → c.complete = false → ∃ t, exec (.updateDescComplete id) s = .next t
      ∧ t = (((d.units.foldl (fun s ch => s.wr .updRun ch 0) s).writeResults c.ctx d).1.writeDesc c.ctx { d with status := if d.status = .ok ∧ d.nonfin ≠ 0 then .lrnUpdNonfinite else d.status }).1.dropChain id
      ∧ (∀ ch ∈ d.units, t.rd .updRun ch = 0))
  ∧ (∀ (s : State) (id : Nat) (c : Chain) (d : UpdDesc), s.chain id = some c → c.desc = some d → d.ended = true → s.ctxLive c.ctx = true →
      updCompletes d.status = false → ∃ t, exec (.updateDescComplete id) s = .next t
      ∧ t = (d.units.foldl (fun s ch => s.wr .updRun ch 0) s).failDesc c d)
  ∧ (∀ (s : State) (id : Nat) (c : Chain) (d : UpdDesc), s.chain id = some c → c.desc = some d → d.ended = true → s.ctxLive c.ctx = true →
      updCompletes d.status = true → ((d.units.foldl (fun s ch => s.wr .updRun ch 0) s).writeResults c.ctx d).2 ≠ .ok → ∃ t,
      exec (.updateDescComplete id) s = .next t
      ∧ t = ((d.units.foldl (fun s ch => s.wr .updRun ch 0) s).writeResults c.ctx d).1.failDesc c { d with status := ((d.units.foldl (fun s ch => s.wr .updRun ch 0) s).writeResults c.ctx d).2 })
  ∧ (∀ (s : State) (id : Nat) (c : Chain) (d : UpdDesc), s.chain id = some c → c.desc = some d → d.ended = false → ∃ t,
      exec (.updateDescComplete id) s = .next t ∧ t = s)
  ∧ (∀ (s : State) (id : Nat) (ecc : List (Nat × EccError)) (c : Chain) (d : UpdDesc) (st : Status), s.overlay islHub = [] → s.descFor id 5 = some (c,
      d) → (s.secureDue c.ctx = none ∨ s.fh.captured = s.secureDue c.ctx) → s.fenceHeld id d.ud = false → s.udCheck c.ctx d.ud = .ok →
      ((s.eccFound ecc).readDva c.ctx (udNorm d.ud) 16).2.toOption = none → statusOf ((s.eccFound ecc).readDva c.ctx (udNorm d.ud) 16).2 = st → ∃ t,
      exec (.stepClose id ecc) s = .next t ∧ t = ((s.eccFound ecc).readDva c.ctx (udNorm d.ud) 16).1.setChain { c with desc := some (d.fail st) })
  ∧ (∀ (s : State) (id k : Nat) (c : Chain) (d : UpdDesc), s.overlay islHub = [] → s.descFor id 5 = some (c, d) → s.secureDue c.ctx = some k →
      s.fh.captured ≠ some k → ∃ t, exec (.stepClose id []) s = .next t ∧ t = s)
  ∧ (∀ (s : State) (id : Nat) (ecc : List (Nat × EccError)) (c : Chain) (d : UpdDesc), s.overlay islHub = [] → s.descFor id 5 = some (c, d) →
      (s.secureDue c.ctx = none ∨ s.fh.captured = s.secureDue c.ctx) → s.fenceHeld id d.ud = false → s.udCheck c.ctx d.ud ≠ .ok → ∃ t,
      exec (.stepClose id ecc) s = .next t ∧ t = s.setChain { c with desc := some (d.fail (s.udCheck c.ctx d.ud)) })
  ∧ (∀ (s : State) (rdr : Reader) (ctx v : Nat), ctx < 64 → s.mayWriteCtx rdr ctx = true → v % 2 = 0 → ∃ t, exec (.lrnLsinit rdr ctx v) s = .next t
      ∧ t = s.reply rdr .ok 0)
  ∧ (∀ (s : State) (rdr : Reader) (ctx v : Nat), ctx < 64 → s.mayWriteCtx rdr ctx = true → v % 2 = 0 → ∃ t, exec (.lrnNfset rdr ctx v) s = .next t
      ∧ t = s.reply rdr .ok 0)
  ∧ (∀ (s : State) (rdr : Reader) (ctx v : Nat), ctx < 64 → s.mayWriteCtx rdr ctx = false → ∃ t, exec (.lrnLsinit rdr ctx v) s = .next t
      ∧ exec (.lrnNfset rdr ctx v) s = .next t ∧ t = s.reply rdr .sesRights 0)

/-- An entry of a SUBMIT ring of its kind, taken from the head, moves the head. SUBMIT of one that passes the checks, and whose record header is
written, is accepted: the lowest FREE entry takes it as QUEUED, the acceptance is counted, SEQ_ACTIVE rises and SEQ_FREE falls, and no other entry
changes; one that fails a check is counted and acknowledged with that check's status, and one whose header cannot be written with SEQ_ROLLOUT_MAP.
In a context whose boundaries this module leads, CANCEL, PAUSE, RESUME, RELEASE and LOAD_STOPSET join the commands that the next boundary applies;
CANCEL of a live sequence of the context sets its SQ_CANCELPEND, and nothing else of a sequence changes; in another context each is acknowledged
with SEQ_CLASS. With no such entry at the head, only the errors of reading it are left. An entry of a reserved kind is acknowledged with
SEQ_ENTRY_KIND. -/
def Obligations.SubmissionsAndCommandsRead : Prop :=
  (∀ (s u : State) (ring c i : Nat) (ecc : List (Nat × EccError)) (b : List Byte), (s.takeSubmit ring (fun k => k = 1)).2 = some (c, b) →
      u = ((s.takeSubmit ring (fun k => k = 1)).1.eccFound ecc).setStep c { ((s.takeSubmit ring (fun k => k = 1)).1.eccFound ecc).step_ c with due := true } →
      (u.submitCheck c b).toOption = some i → (u.writeHeader i (u.submitSeq c i b)).2 = .ok → ∃ t, exec (.submit ring ecc) s = .next t
      ∧ { t.seqAt i with pfxEntries := [] } = u.submitSeq c i b ∧ t.seq.accepts = u.seq.accepts + 1
      ∧ t.rd .seqActive c = (u.rd .seqActive c + 1) % 2 ^ Reg.seqActive.info.width
      ∧ t.rd .seqFree 0 = (u.rd .seqFree 0 - 1) % 2 ^ Reg.seqFree.info.width ∧ t.rd .dbHead ring = (s.rd .dbHead ring + 1) % 2 ^ 32 ∧ (∀ j, j ≠ i →
      t.seqAt j = u.seqAt j))
  ∧ (∀ (s : State) (ring c i : Nat) (ecc : List (Nat × EccError)) (b : List Byte), ((s.eccFound ecc).takeSubmit ring (fun k => k = 2)).2 = some (c,
      b) → ((s.eccFound ecc).takeSubmit ring (fun k => k = 2)).1.seqLead c = true →
      ((s.eccFound ecc).takeSubmit ring (fun k => k = 2)).1.seqOf (fieldAt b 4 4) = some i →
      (((s.eccFound ecc).takeSubmit ring (fun k => k = 2)).1.seqAt i).ctx = c
      ∧ (((s.eccFound ecc).takeSubmit ring (fun k => k = 2)).1.seqAt i).state ≤ 4 → ∃ t, exec (.cancel ⟨ring, ecc⟩) s = .next t
      ∧ t = (((s.eccFound ecc).takeSubmit ring (fun k => k = 2)).1.setStep c { ((s.eccFound ecc).takeSubmit ring (fun k => k = 2)).1.step_ c with cmds := (((s.eccFound ecc).takeSubmit ring (fun k => k = 2)).1.step_ c).cmds ++ [⟨ring, 2, fieldAt b 4 4, fieldAt b 2 2, fieldAt b 24 8, fieldAt b 32 8⟩] }).setSeq i { ((s.eccFound ecc).takeSubmit ring (fun k => k = 2)).1.seqAt i with cancelpend := true }
      ∧ t.rd .dbHead ring = ((s.eccFound ecc).rd .dbHead ring + 1) % 2 ^ 32 ∧ t.mem.near = (s.eccFound ecc).mem.near)
  ∧ (∀ (s : State) (ring c : Nat) (ecc : List (Nat × EccError)) (b : List Byte), ((s.eccFound ecc).takeSubmit ring (fun k => k = 3)).2 = some (c, b) →
      ((s.eccFound ecc).takeSubmit ring (fun k => k = 3)).1.seqLead c = true → ∃ t, exec (.pause ⟨ring, ecc⟩) s = .next t
      ∧ t = (((s.eccFound ecc).takeSubmit ring (fun k => k = 3)).1.setStep c { ((s.eccFound ecc).takeSubmit ring (fun k => k = 3)).1.step_ c with cmds := (((s.eccFound ecc).takeSubmit ring (fun k => k = 3)).1.step_ c).cmds ++ [⟨ring, 3, fieldAt b 4 4, fieldAt b 2 2, fieldAt b 24 8, fieldAt b 32 8⟩] })
      ∧ t.seq = { (s.eccFound ecc).seq with ctxs := t.seq.ctxs } ∧ t.rd .dbHead ring = ((s.eccFound ecc).rd .dbHead ring + 1) % 2 ^ 32
      ∧ t.mem.near = (s.eccFound ecc).mem.near)
  ∧ (∀ (s : State) (ring c : Nat) (ecc : List (Nat × EccError)) (b : List Byte), ((s.eccFound ecc).takeSubmit ring (fun k => k = 4)).2 = some (c, b) →
      ((s.eccFound ecc).takeSubmit ring (fun k => k = 4)).1.seqLead c = true → ∃ t, exec (.resume ⟨ring, ecc⟩) s = .next t
      ∧ t = (((s.eccFound ecc).takeSubmit ring (fun k => k = 4)).1.setStep c { ((s.eccFound ecc).takeSubmit ring (fun k => k = 4)).1.step_ c with cmds := (((s.eccFound ecc).takeSubmit ring (fun k => k = 4)).1.step_ c).cmds ++ [⟨ring, 4, fieldAt b 4 4, fieldAt b 2 2, fieldAt b 24 8, fieldAt b 32 8⟩] })
      ∧ t.seq = { (s.eccFound ecc).seq with ctxs := t.seq.ctxs } ∧ t.rd .dbHead ring = ((s.eccFound ecc).rd .dbHead ring + 1) % 2 ^ 32
      ∧ t.mem.near = (s.eccFound ecc).mem.near)
  ∧ (∀ (s : State) (ring c : Nat) (ecc : List (Nat × EccError)) (b : List Byte), ((s.eccFound ecc).takeSubmit ring (fun k => k = 5)).2 = some (c, b) →
      ((s.eccFound ecc).takeSubmit ring (fun k => k = 5)).1.seqLead c = true → ∃ t, exec (.release ⟨ring, ecc⟩) s = .next t
      ∧ t = (((s.eccFound ecc).takeSubmit ring (fun k => k = 5)).1.setStep c { ((s.eccFound ecc).takeSubmit ring (fun k => k = 5)).1.step_ c with cmds := (((s.eccFound ecc).takeSubmit ring (fun k => k = 5)).1.step_ c).cmds ++ [⟨ring, 5, fieldAt b 4 4, fieldAt b 2 2, fieldAt b 24 8, fieldAt b 32 8⟩] })
      ∧ t.seq = { (s.eccFound ecc).seq with ctxs := t.seq.ctxs } ∧ t.rd .dbHead ring = ((s.eccFound ecc).rd .dbHead ring + 1) % 2 ^ 32
      ∧ t.mem.near = (s.eccFound ecc).mem.near)
  ∧ (∀ (s : State) (ring c : Nat) (ecc : List (Nat × EccError)) (b : List Byte), ((s.eccFound ecc).takeSubmit ring (fun k => k = 6)).2 = some (c, b) →
      ((s.eccFound ecc).takeSubmit ring (fun k => k = 6)).1.seqLead c = true → ∃ t, exec (.loadStopset ⟨ring, ecc⟩) s = .next t
      ∧ t = (((s.eccFound ecc).takeSubmit ring (fun k => k = 6)).1.setStep c { ((s.eccFound ecc).takeSubmit ring (fun k => k = 6)).1.step_ c with cmds := (((s.eccFound ecc).takeSubmit ring (fun k => k = 6)).1.step_ c).cmds ++ [⟨ring, 6, fieldAt b 4 4, fieldAt b 2 2, fieldAt b 24 8, fieldAt b 32 8⟩] })
      ∧ t.seq = { (s.eccFound ecc).seq with ctxs := t.seq.ctxs } ∧ t.rd .dbHead ring = ((s.eccFound ecc).rd .dbHead ring + 1) % 2 ^ 32
      ∧ t.mem.near = (s.eccFound ecc).mem.near)
  ∧ (∀ (s : State) (ring c : Nat) (ecc : List (Nat × EccError)) (b : List Byte),
      ((s.eccFound ecc).takeSubmit ring (fun k => k = 0 || decide (7 ≤ k))).2 = some (c, b) → ∃ t, exec (.seqEntryKind ⟨ring, ecc⟩) s = .next t
      ∧ t = ((s.eccFound ecc).takeSubmit ring (fun k => k = 0 || decide (7 ≤ k))).1.seqRecord c (fieldAt b 2 2) (ackRecord (fieldAt b 0 1 % 16) Status.seqEntryKind.code 0xFFFFFFFF (fieldAt b 24 8)) none)
  ∧ (∀ (s u : State) (ring c : Nat) (ecc : List (Nat × EccError)) (b : List Byte) (st : Status), (s.takeSubmit ring (fun k => k = 1)).2 = some (c,
      b) →
      u = ((s.takeSubmit ring (fun k => k = 1)).1.eccFound ecc).setStep c { ((s.takeSubmit ring (fun k => k = 1)).1.eccFound ecc).step_ c with due := true } →
      (u.submitCheck c b).toOption = none → statusOf (u.submitCheck c b) = st → ∃ t, exec (.submit ring ecc) s = .next t
      ∧ t = (u.bump .seqRefused 0 1).seqRecord c (fieldAt b 2 2) (ackRecord 1 st.code 0xFFFFFFFF (fieldAt b 24 8)) none)
  ∧ (∀ (s u : State) (ring c i : Nat) (ecc : List (Nat × EccError)) (b : List Byte), (s.takeSubmit ring (fun k => k = 1)).2 = some (c, b) →
      u = ((s.takeSubmit ring (fun k => k = 1)).1.eccFound ecc).setStep c { ((s.takeSubmit ring (fun k => k = 1)).1.eccFound ecc).step_ c with due := true } →
      (u.submitCheck c b).toOption = some i → (u.writeHeader i (u.submitSeq c i b)).2 ≠ .ok → ∃ t, exec (.submit ring ecc) s = .next t
      ∧ t = ((u.writeHeader i (u.submitSeq c i b)).1.bump .seqRefused 0 1).seqRecord c (fieldAt b 2 2) (ackRecord 1 Status.seqRolloutMap.code 0xFFFFFFFF (fieldAt b 24 8)) none)
  ∧ (∀ (s : State) (ring c : Nat) (ecc : List (Nat × EccError)) (b : List Byte), ((s.eccFound ecc).takeSubmit ring (fun k => k = 2)).2 = some (c, b) →
      ((s.eccFound ecc).takeSubmit ring (fun k => k = 2)).1.seqLead c = true →
      ((s.eccFound ecc).takeSubmit ring (fun k => k = 2)).1.seqOf (fieldAt b 4 4) = none → ∃ t, exec (.cancel ⟨ring, ecc⟩) s = .next t
      ∧ t = (((s.eccFound ecc).takeSubmit ring (fun k => k = 2)).1.setStep c { ((s.eccFound ecc).takeSubmit ring (fun k => k = 2)).1.step_ c with cmds := (((s.eccFound ecc).takeSubmit ring (fun k => k = 2)).1.step_ c).cmds ++ [⟨ring, 2, fieldAt b 4 4, fieldAt b 2 2, fieldAt b 24 8, fieldAt b 32 8⟩] })
      ∧ t.rd .dbHead ring = ((s.eccFound ecc).rd .dbHead ring + 1) % 2 ^ 32)
  ∧ (∀ (s : State) (i : Instr) (ring c k : Nat) (ecc : List (Nat × EccError)) (b : List Byte), (i,
      k) ∈ [(Instr.cancel ⟨ring, ecc⟩, 2), (.pause ⟨ring, ecc⟩, 3), (.resume ⟨ring, ecc⟩, 4), (.release ⟨ring, ecc⟩, 5), (.loadStopset ⟨ring, ecc⟩, 6)] →
      ((s.eccFound ecc).takeSubmit ring (fun j => j = k)).2 = some (c, b) → ((s.eccFound ecc).takeSubmit ring (fun j => j = k)).1.seqLead c = false →
      ∃ t, exec i s = .next t
      ∧ t = ((s.eccFound ecc).takeSubmit ring (fun j => j = k)).1.seqRecord c (fieldAt b 2 2) (ackRecord k Status.seqClass.code (fieldAt b 4 4) (fieldAt b 24 8)) none)
  ∧ (∀ (s : State) (i : Instr) (ring k : Nat) (ecc : List (Nat × EccError)), (i,
      k) ∈ [(Instr.cancel ⟨ring, ecc⟩, 2), (.pause ⟨ring, ecc⟩, 3), (.resume ⟨ring, ecc⟩, 4), (.release ⟨ring, ecc⟩, 5), (.loadStopset ⟨ring, ecc⟩, 6)] →
      ((s.eccFound ecc).takeSubmit ring (fun j => j = k)).2 = none → ∃ t, exec i s = .next t
      ∧ t = ((s.eccFound ecc).takeSubmit ring (fun j => j = k)).1)

/-- STEP_TALLY_DONE of a running step whose wait has completed hands its rows to the samplers; with every sampler fenced SMP_NO_UNIT tells it, and a
FOLLOWER's step without rows reports. STEP_BOUNDARY of a context that this module leads, with every token returned and every report in, and
IDLE_BOUNDARY of one with an empty batch, something due and every report in, perform the boundary: they advance the step number and leave the
context idle, running or held with no result kept; before that they change nothing but what errors their reads meet. A FOLLOWER takes over what
its LEAD's boundary sends, and with an empty batch IDLE_BOUNDARY is its report (log entry 105). HELD_STEP_RESUME starts a held step once no record
and no mirror is waited for, and otherwise leaves it held. FOLLOWER_REPORT of a group member is kept in place of that member's earlier one, and
one of another module changes nothing. FOLLOWER_REPORT_TIMEOUT reports the only member of a group, silent for 20 ms, and nothing earlier.
MIRROR_CONFIRMED leaves nothing waiting for the mirror. LIST_CHANGES_COMMIT signals KV_LISTTALLY by 1, where changes are due. -/
def Obligations.StepsComplete : Prop :=
  (∀ (s : State) (c : Nat), (s.step_ c).stage = .running → (s.waitDone (.sequencer c)).isSome = true → (s.step_ c).rows ≠ 0 →
      (List.range 6).all (fun k => s.flag .smpFenced k) = false → ∃ t, exec (.stepTallyDone c) s = .next t
      ∧ t = ((s.takeWait (.sequencer c)).setStep c { s.step_ c with stage := .sampling, tallyAt := s.now }) ∧ t.waitDone (.sequencer c) = none ∧ (∀ d,
      d ≠ c → t.step_ d = s.step_ d))
  ∧ (∀ (s : State) (c : Nat) (ecc : List (Nat × EccError)), (s.eccFound ecc).seqLead c = true → ((s.eccFound ecc).step_ c).stage = .sampling →
      ((s.eccFound ecc).step_ c).rows ≤ ((s.eccFound ecc).step_ c).results.length → (s.eccFound ecc).allReported c = true → ∃ t,
      exec (.stepBoundary c ⟨none, ecc⟩) s = .next t ∧ t = (s.eccFound ecc).boundary c
      ∧ t.rd .seqStepnum c = ((s.eccFound ecc).rd .seqStepnum c + 1) % 2 ^ 32 ∧ (t.step_ c).results = [] ∧ (t.step_ c).passes = []
      ∧ ((t.step_ c).stage = .idle ∨ (t.step_ c).stage = .running ∨ (t.step_ c).stage = .held))
  ∧ (∀ (s : State) (c : Nat) (ecc : List (Nat × EccError)), (s.eccFound ecc).seqLead c = true → ((s.eccFound ecc).step_ c).stage = .idle →
      (s.eccFound ecc).idleDue c = true → (s.eccFound ecc).allReported c = true → ∃ t, exec (.idleBoundary ⟨c, ecc⟩) s = .next t
      ∧ t = (s.eccFound ecc).boundary c ∧ t.rd .seqStepnum c = ((s.eccFound ecc).rd .seqStepnum c + 1) % 2 ^ 32 ∧ (t.step_ c).results = []
      ∧ (t.step_ c).passes = [] ∧ ((t.step_ c).stage = .idle ∨ (t.step_ c).stage = .running ∨ (t.step_ c).stage = .held))
  ∧ (∀ (s : State) (c : Nat) (ecc : List (Nat × EccError)), (((s.eccFound ecc).retryRecords c).step_ c).stage = .held →
      ((s.eccFound ecc).retryRecords c).recordsHeld c = false → (((s.eccFound ecc).retryRecords c).step_ c).mirrorWait = false → ∃ t,
      exec (.heldStepResume ⟨c, ecc⟩) s = .next t ∧ t = ((s.eccFound ecc).retryRecords c).startStep c
      ∧ ((((s.eccFound ecc).retryRecords c).step_ c).entries ≠ [] → (t.step_ c).stage = .running
      ∧ (t.step_ c).entries = (((s.eccFound ecc).retryRecords c).step_ c).entries ∧ (t.step_ c).results = [] ∧ (t.step_ c).listDue = true))
  ∧ (∀ (s : State) (c member room freed : Nat), s.seqLead c = true → (s.groupMembers c).contains member = true → ∃ t,
      exec (.followerReport c member room freed) s = .next t
      ∧ t.step_ c = { s.step_ c with reports := (s.step_ c).reports.filter (·.member ≠ member) ++ [⟨member, room, freed⟩] }
      ∧ t = { s with seq := t.seq } ∧ t.seq = { s.seq with ctxs := t.seq.ctxs } ∧ (∀ d, d ≠ c → t.step_ d = s.step_ d))
  ∧ (∀ (s : State) (c m : Nat), s.seqLead c = true → (s.step_ c).stage = .sampling → (s.step_ c).tallyAt + 20000000 ≤ s.now → s.groupMembers c = [m] →
      (s.step_ c).reports.any (·.member = m) = false → ∃ t, exec (.followerReportTimeout c) s = .next t ∧ t = s.reportSilence m)
  ∧ (∀ (s : State) (c : Nat) (ecc : List (Nat × EccError)), ((s.eccFound ecc).step_ c).mirrorWait = true → ∃ t,
      exec (.mirrorConfirmed ⟨c, ecc⟩) s = .next t ∧ (t.step_ c).mirror = [] ∧ (t.step_ c).mirrorWait = false)
  ∧ (∀ (s : State) (c e : Nat), (s.step_ c).listDue = true → s.rd .kvListtally c ≠ 0 →
      (s.tallyEntry (bankOfIsland islSequencer) c (s.rd .kvListtally c)).toOption = some e → s.tallyVal (bitsAt e 0 20) + 1 ≤ 0xFFFFFFFF → ∃ t,
      exec (.listChangesCommit c) s = .next t ∧ t.step_ c = { s.step_ c with listDue := false }
      ∧ t.tallyVal (bitsAt e 0 20) = (serveQueue (s.tallyVal (bitsAt e 0 20) + 1) (s.tallyQueue (bitsAt e 0 20))).1 ∧ t.mem = s.mem)
  ∧ (∀ (s : State) (c : Nat), (s.step_ c).stage = .running → (s.waitDone (.sequencer c)).isSome = true → (s.step_ c).rows ≠ 0 →
      (List.range 6).all (fun k => s.flag .smpFenced k) = true → ∃ t, exec (.stepTallyDone c) s = .next t
      ∧ t = (((s.takeWait (.sequencer c)).setStep c { s.step_ c with stage := .sampling, tallyAt := s.now }).setStep c { s.step_ c with stage := .sampling, tallyAt := s.now, noUnitTold := true }).raise (smpPage 0) .smpNoUnit (some c) 0 0)
  ∧ (∀ (s : State) (c : Nat), (s.step_ c).stage = .running → (s.waitDone (.sequencer c)).isSome = true → (s.step_ c).rows = 0 → ∃ t,
      exec (.stepTallyDone c) s = .next t
      ∧ t = ((s.takeWait (.sequencer c)).setStep c { s.step_ c with stage := .sampling, tallyAt := s.now }).sendReport c)
  ∧ (∀ (s : State) (c : Nat), ((s.step_ c).stage ≠ .running ∨ s.waitDone (.sequencer c) = none) → ∃ t, exec (.stepTallyDone c) s = .next t ∧ t = s)
  ∧ (∀ (s : State) (c : Nat) (g : GroupUpdate) (ecc : List (Nat × EccError)), (s.eccFound ecc).ctxLive c = true → (s.eccFound ecc).rd .seqRole c = 2 →
      (((s.eccFound ecc).step_ c).stage = .idle ∨ (((s.eccFound ecc).step_ c).stage = .sampling
      ∧ ((s.eccFound ecc).step_ c).rows ≤ ((s.eccFound ecc).step_ c).results.length)) → ∃ t, exec (.stepBoundary c ⟨some g, ecc⟩) s = .next t
      ∧ t = (s.eccFound ecc).followBoundary c g)
  ∧ (∀ (s : State) (c : Nat) (ecc : List (Nat × EccError)), (s.eccFound ecc).rd .seqRole c ≠ 2 →
      (((s.eccFound ecc).step_ c).stage ≠ .sampling ∨ ((s.eccFound ecc).step_ c).results.length < ((s.eccFound ecc).step_ c).rows ∨ (s.eccFound ecc).seqLead c = false ∨ (s.eccFound ecc).allReported c = false) →
      ∃ t, exec (.stepBoundary c ⟨none, ecc⟩) s = .next t ∧ t = (s.eccFound ecc))
  ∧ (∀ (s : State) (c : Nat) (ecc : List (Nat × EccError)), (s.eccFound ecc).seqLead c = false → (s.eccFound ecc).ctxLive c = true →
      ((s.eccFound ecc).step_ c).stage = .idle → ∃ t, exec (.idleBoundary ⟨c, ecc⟩) s = .next t ∧ t = (s.eccFound ecc).sendReport c)
  ∧ (∀ (s : State) (c : Nat) (ecc : List (Nat × EccError)), (s.eccFound ecc).seqLead c = true →
      (((s.eccFound ecc).step_ c).stage ≠ .idle ∨ (s.eccFound ecc).idleDue c = false ∨ (s.eccFound ecc).allReported c = false) → ∃ t,
      exec (.idleBoundary ⟨c, ecc⟩) s = .next t ∧ t = (s.eccFound ecc))
  ∧ (∀ (s : State) (c : Nat) (ecc : List (Nat × EccError)), (((s.eccFound ecc).retryRecords c).step_ c).stage = .held →
      (((s.eccFound ecc).retryRecords c).recordsHeld c = true ∨ (((s.eccFound ecc).retryRecords c).step_ c).mirrorWait = true) → ∃ t,
      exec (.heldStepResume ⟨c, ecc⟩) s = .next t ∧ (t.step_ c).stage = .held ∧ t.mem = ((s.eccFound ecc).retryRecords c).mem
      ∧ t.tly = ((s.eccFound ecc).retryRecords c).tly)
  ∧ (∀ (s : State) (c : Nat), s.now < (s.step_ c).tallyAt + 20000000 → ∃ t, exec (.followerReportTimeout c) s = .next t ∧ t = s)
  ∧ (∀ (s : State) (c : Nat) (ecc : List (Nat × EccError)), ((s.eccFound ecc).step_ c).mirrorWait = true → ((s.eccFound ecc).step_ c).stage ≠ .held →
      ∃ t, exec (.mirrorConfirmed ⟨c, ecc⟩) s = .next t
      ∧ t = ((s.eccFound ecc).step_ c).mirror.foldl (fun s m => s.seqRecord c m.1 m.2.1 m.2.2) ((s.eccFound ecc).setStep c { (s.eccFound ecc).step_ c with mirror := [], mirrorWait := false }))
  ∧ (∀ (s : State) (c : Nat), (s.step_ c).listDue = false → ∃ t, exec (.listChangesCommit c) s = .next t ∧ t = s)
  ∧ (∀ (s : State) (c member room freed : Nat), (s.seqLead c = false ∨ (s.groupMembers c).contains member = false) → ∃ t,
      exec (.followerReport c member room freed) s = .next t ∧ t = s)

/-- KV_PFXREL of a live handle by a writer of the context releases it: KV_PFXSTATUS reads 0 and the handle is no longer live; in a context that leads
no group nothing else changes but its pages' counts; a stale handle leaves KV_PFX_INVALID in KV_PFXSTATUS, and one without the right is refused.
SPILL_COMPLETE and FILL_COMPLETE of a copy under way whose pages can be read and written end that copy and count it; where the source has lost its
content it is lost, and so is the sequence's run; after any other failure the page stays where it was (log entry 103, the model's choice).
COW_WAIT changes nothing. -/
def Obligations.KeyValueCommandsComplete : Prop :=
  (∀ (s : State) (rdr : Reader) (c v k : Nat) (ecc : List (Nat × EccError)), (s.eccFound ecc).mayWriteCtx rdr c = true →
      (s.eccFound ecc).pfxLive c v = some k → ∃ t, exec (.kvPfxrel rdr c ⟨v, ecc⟩) s = .next t
      ∧ (t.pfx c k) = { (s.eccFound ecc).pfx c k with live := false } ∧ t.pfxLive c v = none ∧ t.rd .kvPfxstatus c = 0
      ∧ t.rd .kvPfxlive c = ((s.eccFound ecc).rd .kvPfxlive c - 1) % 2 ^ Reg.kvPfxlive.info.width ∧ answered t rdr .ok)
  ∧ (∀ (s : State) (idx entry : Nat) (m : KvMove) (ecc : List (Nat × EccError)), (s.eccFound ecc).kv.moves.find? (fun m => m.idx = idx
      ∧ m.entry = entry ∧ m.fill = false) = some m → (((s.eccFound ecc).moveOver idx entry).copyPage m).2 = .ok → ∃ t,
      exec (.spillComplete idx ⟨entry, ecc⟩) s = .next t ∧ t.kv.moves = ((s.eccFound ecc).moveOver idx entry).kv.moves
      ∧ t.rd .kvSpills 0 = ((s.eccFound ecc).rd .kvSpills 0 + 1) % 2 ^ Reg.kvSpills.info.width ∧ t.rd .kvFills 0 = (s.eccFound ecc).rd .kvFills 0)
  ∧ (∀ (s : State) (idx entry : Nat) (m : KvMove) (ecc : List (Nat × EccError)), (s.eccFound ecc).kv.moves.find? (fun m => m.idx = idx
      ∧ m.entry = entry ∧ m.fill = true) = some m → (((s.eccFound ecc).moveOver idx entry).copyPage m).2 = .ok → ∃ t,
      exec (.fillComplete idx ⟨entry, ecc⟩) s = .next t ∧ t.kv.moves = ((s.eccFound ecc).moveOver idx entry).kv.moves
      ∧ t.rd .kvFills 0 = ((s.eccFound ecc).rd .kvFills 0 + 1) % 2 ^ Reg.kvFills.info.width ∧ t.rd .kvSpills 0 = (s.eccFound ecc).rd .kvSpills 0)
  ∧ (∀ (s : State) (n : Nat), ∃ t, exec (.cowWait n) s = .next t ∧ t = s)
  ∧ (∀ (s : State) (rdr : Reader) (c v k : Nat) (ecc : List (Nat × EccError)), (s.eccFound ecc).mayWriteCtx rdr c = true →
      (s.eccFound ecc).pfxLive c v = some k → (s.eccFound ecc).seqLead c = false → ∃ t, exec (.kvPfxrel rdr c ⟨v, ecc⟩) s = .next t
      ∧ t = (((s.eccFound ecc).pfxRelease c k).wr .kvPfxstatus c 0).reply rdr .ok 0)
  ∧ (∀ (s : State) (rdr : Reader) (c v : Nat) (ecc : List (Nat × EccError)), (s.eccFound ecc).mayWriteCtx rdr c = true →
      (s.eccFound ecc).pfxLive c v = none → ∃ t, exec (.kvPfxrel rdr c ⟨v, ecc⟩) s = .next t
      ∧ t = ((s.eccFound ecc).wr .kvPfxstatus c Status.kvPfxInvalid.code).reply rdr .ok 0)
  ∧ (∀ (s : State) (rdr : Reader) (c v : Nat) (ecc : List (Nat × EccError)), (s.eccFound ecc).mayWriteCtx rdr c = false → ∃ t,
      exec (.kvPfxrel rdr c ⟨v, ecc⟩) s = .next t ∧ t = (s.eccFound ecc).reply rdr .sesRights 0)
  ∧ (∀ (s : State) (idx entry : Nat) (m : KvMove) (ecc : List (Nat × EccError)), (s.eccFound ecc).kv.moves.find? (fun m => m.idx = idx
      ∧ m.entry = entry ∧ m.fill = false) = some m → (((s.eccFound ecc).moveOver idx entry).copyPage m).2 ≠ .ok →
      (((s.eccFound ecc).moveOver idx entry).copyPage m).1.pageGone m.src = false → ∃ t, exec (.spillComplete idx ⟨entry, ecc⟩) s = .next t
      ∧ t = ((((s.eccFound ecc).moveOver idx entry).copyPage m).1.unpinPage m.src).refDrop m.dst ∧ t.seqAt idx = (s.eccFound ecc).seqAt idx)
  ∧ (∀ (s : State) (idx entry : Nat) (m : KvMove) (ecc : List (Nat × EccError)), (s.eccFound ecc).kv.moves.find? (fun m => m.idx = idx
      ∧ m.entry = entry ∧ m.fill = false) = some m → (((s.eccFound ecc).moveOver idx entry).copyPage m).2 ≠ .ok →
      (((s.eccFound ecc).moveOver idx entry).copyPage m).1.pageGone m.src = true → ∃ t, exec (.spillComplete idx ⟨entry, ecc⟩) s = .next t
      ∧ (t.seqAt idx).lost = true ∧ t.pageLost m.src = true ∧ t.kv.moves = ((s.eccFound ecc).moveOver idx entry).kv.moves)
  ∧ (∀ (s : State) (idx entry : Nat) (ecc : List (Nat × EccError)), (s.eccFound ecc).kv.moves.find? (fun m => m.idx = idx ∧ m.entry = entry
      ∧ m.fill = false) = none → ∃ t, exec (.spillComplete idx ⟨entry, ecc⟩) s = .next t ∧ t = (s.eccFound ecc))
  ∧ (∀ (s : State) (idx entry : Nat) (m : KvMove) (ecc : List (Nat × EccError)), (s.eccFound ecc).kv.moves.find? (fun m => m.idx = idx
      ∧ m.entry = entry ∧ m.fill = true) = some m → (((s.eccFound ecc).moveOver idx entry).copyPage m).2 ≠ .ok →
      (((s.eccFound ecc).moveOver idx entry).copyPage m).1.pageGone m.src = false → ∃ t, exec (.fillComplete idx ⟨entry, ecc⟩) s = .next t
      ∧ t = ((((s.eccFound ecc).moveOver idx entry).copyPage m).1.unpinPage m.src).refDrop m.dst ∧ t.seqAt idx = (s.eccFound ecc).seqAt idx)
  ∧ (∀ (s : State) (idx entry : Nat) (m : KvMove) (ecc : List (Nat × EccError)), (s.eccFound ecc).kv.moves.find? (fun m => m.idx = idx
      ∧ m.entry = entry ∧ m.fill = true) = some m → (((s.eccFound ecc).moveOver idx entry).copyPage m).2 ≠ .ok →
      (((s.eccFound ecc).moveOver idx entry).copyPage m).1.pageGone m.src = true → ∃ t, exec (.fillComplete idx ⟨entry, ecc⟩) s = .next t
      ∧ (t.seqAt idx).lost = true ∧ t.pageLost m.src = true ∧ t.kv.moves = ((s.eccFound ecc).moveOver idx entry).kv.moves)
  ∧ (∀ (s : State) (idx entry : Nat) (ecc : List (Nat × EccError)), (s.eccFound ecc).kv.moves.find? (fun m => m.idx = idx ∧ m.entry = entry
      ∧ m.fill = true) = none → ∃ t, exec (.fillComplete idx ⟨entry, ecc⟩) s = .next t ∧ t = (s.eccFound ecc))

/-- SAMPLER_ROW by a unit that is free for the context, of a row of a RESIDENT context that has no result and no pass yet, passes over it under the
entry read: without a group it draws the row's token and returns it; the LEAD of a group keeps the pass, and its first unit waits for the messages
and merges; a FOLLOWER sends its candidates to the LEAD and returns no token. Otherwise nothing changes. SAMPLER_MERGE with the messages come and
every row's own pass made draws each row's token and ends the merge; before that nothing changes. SMP_FENCE_REQ from session 0 fences a unit, with
its reason 2 and FENCED of its page; one already fenced, or a write of zero, changes nothing, and any other reader is refused. Which units are
free while one waits is the model's choice (log entry 118). -/
def Obligations.SamplersComplete : Prop :=
  (∀ (s : State) (u c row : Nat) (e : StepEntry) (ecc : List (Nat × EccError)), (s.step_ c).rowEntry row = some e → s.unitFree u c = true →
      (s.step_ c).stage = .sampling → (s.step_ c).results.any (·.row = row) = false → (s.step_ c).passes.any (·.row = row) = false →
      s.rd .ctxState c = 2 → (s.rowRun ecc u c row e.idx).1.rd .seqRole c ≠ 2 → (s.rowRun ecc u c row e.idx).1.rd .seqGroupsize c = 0 → ∃ t,
      exec (.samplerRow u c row ecc) s = .next t ∧ t = (s.rowRun ecc u c row e.idx).1.rowDraw u c (s.rowRun ecc u c row e.idx).2
      ∧ (t.step_ c).results.map (·.row) = ((s.rowRun ecc u c row e.idx).1.step_ c).results.map (·.row) ++ [row] ∧ t.rd .smpCtx u = c % 64
      ∧ t.seq.table = (s.rowRun ecc u c row e.idx).1.seq.table)
  ∧ (∀ (s : State) (c u : Nat) (ecc : List (Nat × EccError)), (s.step_ c).mergeUnit = some u → s.messagesIn u c = true →
      (s.step_ c).rows ≤ (s.step_ c).passes.length → (s.step_ c).stage = .sampling → ∃ t, exec (.samplerMerge c ecc) s = .next t
      ∧ (t.step_ c).merged = true ∧ (t.step_ c).mergeUnit = none ∧ (t.step_ c).passes = [] ∧ (t.step_ c).counted = true
      ∧ (t.step_ c).results.map (·.row) = ((s.eccFound ecc).step_ c).results.map (·.row) ++ (s.step_ c).passes.map (·.row)
      ∧ t.waitDone (.sampler u) = none ∧ (∀ d, d ≠ c → t.step_ d = (s.eccFound ecc).step_ d))
  ∧ (∀ (s : State) (u v : Nat), u < 6 → v % 2 = 1 → s.flag .smpFenced u = false → ∃ t, exec (.smpFenceReq (.session 0) u v) s = .next t
      ∧ t.rd .smpFenced u = 1 ∧ t.rd .smpFencereason u = 2 ∧ t.rd .fenced (smpPage u) = 1 ∧ t.rd .smpRun u = 0 ∧ answered t (.session 0) .ok)
  ∧ (∀ (s : State) (u c row : Nat) (e : StepEntry) (ecc : List (Nat × EccError)), (s.step_ c).rowEntry row = some e → s.unitFree u c = true →
      (s.step_ c).stage = .sampling → (s.step_ c).results.any (·.row = row) = false → (s.step_ c).passes.any (·.row = row) = false →
      s.rd .ctxState c = 2 → (s.rowRun ecc u c row e.idx).1.rd .seqRole c ≠ 2 → 0 < (s.rowRun ecc u c row e.idx).1.rd .seqGroupsize c →
      ((s.rowRun ecc u c row e.idx).1.step_ c).mergeUnit = none → ∃ t, exec (.samplerRow u c row ecc) s = .next t
      ∧ t = ((s.rowRun ecc u c row e.idx).1.setStep c { (s.rowRun ecc u c row e.idx).1.step_ c with passes := ((s.rowRun ecc u c row e.idx).1.step_ c).passes ++ [(s.rowRun ecc u c row e.idx).2], mergeUnit := some u }).mergeWait u c)
  ∧ (∀ (s : State) (u c row : Nat) (e : StepEntry) (ecc : List (Nat × EccError)) (w : Nat), (s.step_ c).rowEntry row = some e →
      s.unitFree u c = true → (s.step_ c).stage = .sampling → (s.step_ c).results.any (·.row = row) = false →
      (s.step_ c).passes.any (·.row = row) = false → s.rd .ctxState c = 2 → (s.rowRun ecc u c row e.idx).1.rd .seqRole c ≠ 2 →
      0 < (s.rowRun ecc u c row e.idx).1.rd .seqGroupsize c → ((s.rowRun ecc u c row e.idx).1.step_ c).mergeUnit = some w → ∃ t,
      exec (.samplerRow u c row ecc) s = .next t
      ∧ t = (s.rowRun ecc u c row e.idx).1.setStep c { (s.rowRun ecc u c row e.idx).1.step_ c with passes := ((s.rowRun ecc u c row e.idx).1.step_ c).passes ++ [(s.rowRun ecc u c row e.idx).2] })
  ∧ (∀ (s : State) (u c row : Nat) (e : StepEntry) (ecc : List (Nat × EccError)), (s.step_ c).rowEntry row = some e → s.unitFree u c = true →
      (s.step_ c).stage = .sampling → (s.step_ c).results.any (·.row = row) = false → (s.step_ c).passes.any (·.row = row) = false →
      s.rd .ctxState c = 2 → (s.rowRun ecc u c row e.idx).1.rd .seqRole c = 2 → ∃ t, exec (.samplerRow u c row ecc) s = .next t
      ∧ (t.step_ c).results = ((s.rowRun ecc u c row e.idx).1.step_ c).results ++ [⟨row, 0, 0, []⟩]
      ∧ t.out.take ((s.rowRun ecc u c row e.idx).1.out.length + 1) = (s.rowRun ecc u c row e.idx).1.out ++ [.remote ((s.rowRun ecc u c row e.idx).1.rd .seqLeadmbr c) c ((s.rowRun ecc u c row e.idx).1.rd .smpMergebase c + (row * (s.rowRun ecc u c row e.idx).1.rd .seqGroupsize c + (s.rowRun ecc u c row e.idx).1.rd .smpTpindex c - 1) * (64 + 8 * (s.rowRun ecc u c row e.idx).1.rd .smpKmax c)) (mergeMessage ((s.rowRun ecc u c row e.idx).1.step_ c).num ((s.rowRun ecc u c row e.idx).1.rd .smpTpindex c) (s.rowRun ecc u c row e.idx).2) ((s.rowRun ecc u c row e.idx).1.rd .smpMergetally c) 1]
      ∧ t.rd .smpRows u = ((s.rowRun ecc u c row e.idx).1.rd .smpRows u + 1) % 2 ^ Reg.smpRows.info.width)
  ∧ (∀ (s : State) (u c row : Nat) (ecc : List (Nat × EccError)),
      ((s.step_ c).rowEntry row = none ∨ s.unitFree u c = false ∨ (s.step_ c).stage ≠ .sampling ∨ (s.step_ c).results.any (·.row = row) = true ∨ (s.step_ c).passes.any (·.row = row) = true ∨ s.rd .ctxState c ≠ 2) →
      ∃ t, exec (.samplerRow u c row ecc) s = .next t ∧ t = s)
  ∧ (∀ (s : State) (c : Nat) (ecc : List (Nat × EccError)),
      ((s.step_ c).mergeUnit = none ∨ (s.step_ c).passes.length < (s.step_ c).rows ∨ (s.step_ c).stage ≠ .sampling) → ∃ t,
      exec (.samplerMerge c ecc) s = .next t ∧ t = s)
  ∧ (∀ (s : State) (c u : Nat) (ecc : List (Nat × EccError)), (s.step_ c).mergeUnit = some u → s.messagesIn u c = false → ∃ t,
      exec (.samplerMerge c ecc) s = .next t ∧ t = s)
  ∧ (∀ (s : State) (u v : Nat), u < 6 → (v % 2 = 0 ∨ s.flag .smpFenced u = true) → ∃ t, exec (.smpFenceReq (.session 0) u v) s = .next t
      ∧ t = s.reply (.session 0) .ok 0)
  ∧ (∀ (s : State) (rdr : Reader) (u v : Nat), u < 6 → rdr ≠ .session 0 → ∃ t, exec (.smpFenceReq rdr u v) s = .next t ∧ t = s.reply rdr .sesRights 0)

/-- SCRUB_PASS on a channel in use treats every granule of it that was poisoned, and every other error found, as any reader treats it, counts the pass
and starts the one that is due; with nothing found nothing else changes, and on a channel that runs no pass nothing at all. COUNTING_WINDOW_START
after a window's length starts the next window: its counts restart and, unless scrubbing is off, every channel in use scrubs or has one pass more
due; before that nothing changes. FRAME_RETIRE_COMPLETE of a frame retired for the first time puts its pair at the end of the redirect table, and
of one retired again in place of the pair it had; nothing else changes but what errors the command's reads meet. MEM_FENCE_REQ from session 0
fences a channel with FENCED of its page; one already fenced, or a write of zero, changes nothing, and any other reader is refused. MEM_RETRAIN of
a channel in use changes nothing where it succeeds, and fences the channel where it fails; of another it changes nothing. -/
def Obligations.NearMemoryCommandsComplete : Prop :=
  (∀ (s : State) (ch : Nat), sget false s.mem.scrubbing ch = true → s.rd .memState ch = 1 → s.mem.poison = [] → ∃ t,
      exec (.scrubPass ch []) s = .next t ∧ t.rd .memScrubpass ch = (s.rd .memScrubpass ch + 1) % 2 ^ 32
      ∧ sget false t.mem.scrubbing ch = decide (0 < sget 0 s.mem.scrubDue ch) ∧ sget 0 t.mem.scrubDue ch = sget 0 s.mem.scrubDue ch - 1
      ∧ t.mem = { s.mem with scrubbing := t.mem.scrubbing, scrubDue := t.mem.scrubDue } ∧ t = { s with regs := t.regs, mem := t.mem }
      ∧ sameRegs s t [Reg.memScrubpass.key ch])
  ∧ (∀ (s : State), s.mem.window + s.windowLength ≤ s.now → ∃ t, exec (.countingWindowStart) s = .next t ∧ t.mem.window = s.now ∧ t.mem.frameCe = []
      ∧ (∀ ch < 48, t.rd .memPoisoned ch = 0) ∧ (∀ ch < 48,
      sget false t.mem.scrubbing ch = (decide (s.rd .memScrubhours 0 ≠ 0) && (sget false s.mem.scrubbing ch || decide (s.rd .memState ch = 1))))
      ∧ (∀ ch < 48, sget 0 t.mem.scrubDue ch = (if s.rd .memScrubhours 0 = 0 then 0 else sget 0 s.mem.scrubDue ch + (if s.rd .memState ch = 1
      ∧ sget false s.mem.scrubbing ch = true then 1 else 0))) ∧ t.mem.near = s.mem.near ∧ t = { s with regs := t.regs, mem := t.mem })
  ∧ (∀ (s : State) (frame r : Nat) (ecc : List (Nat × EccError)), (s.eccFound ecc).mem.copying.find? (fun p => p.1 = frame) = some (frame, r) →
      (s.eccFound ecc).mem.redirect.any (fun p => p.1 = frame) = false → ∃ t, exec (.frameRetireComplete ⟨frame, ecc⟩) s = .next t
      ∧ t.mem = { (s.eccFound ecc).mem with copying := (s.eccFound ecc).mem.copying.filter (fun p => p.1 ≠ frame), redirect := (s.eccFound ecc).mem.redirect ++ [(frame, r)], frameCe := sdrop (s.eccFound ecc).mem.frameCe frame }
      ∧ t.rd .memRetired 0 = ((s.eccFound ecc).mem.redirect.length + 1) % 2 ^ 9 ∧ t = { (s.eccFound ecc) with regs := t.regs, mem := t.mem }
      ∧ sameRegs (s.eccFound ecc) t [Reg.memRetired.key 0])
  ∧ (∀ (s : State) (ch v : Nat), ch < 48 → v % 2 = 1 → s.rd .memState ch ≠ 2 → ∃ t, exec (.memFenceReq (.session 0) ch v) s = .next t
      ∧ t.rd .memState ch = 2 ∧ t.rd .fenced (0x200 + ch) = 1 ∧ answered t (.session 0) .ok ∧ (∀ c < 48, c ≠ ch →
      t.rd .memState c = s.rd .memState c))
  ∧ (∀ (s : State) (ch : Nat), ch < 48 → ∃ t, exec (.memRetrain ch true) s = .next t ∧ t = s)
  ∧ (∀ (s : State) (ch : Nat), ch < 48 → s.rd .memState ch = 1 → ∃ t, exec (.memRetrain ch false) s = .next t ∧ t.rd .memState ch = 2
      ∧ t.rd .fenced (0x200 + ch) = 1 ∧ (∀ c < 48, c ≠ ch → t.rd .memState c = s.rd .memState c))
  ∧ (∀ (s : State) (ch : Nat) (ecc : List (Nat × EccError)), sget false s.mem.scrubbing ch = true → s.rd .memState ch = 1 → ∃ t,
      exec (.scrubPass ch ecc) s = .next t
      ∧ t = ({ (s.scrubbed ch ecc) with mem := { (s.scrubbed ch ecc).mem with scrubbing := sput false (s.scrubbed ch ecc).mem.scrubbing ch (decide (0 < sget 0 (s.scrubbed ch ecc).mem.scrubDue ch)), scrubDue := sput 0 (s.scrubbed ch ecc).mem.scrubDue ch (sget 0 (s.scrubbed ch ecc).mem.scrubDue ch - 1) } } : State).bump .memScrubpass ch 1)
  ∧ (∀ (s : State) (ch : Nat) (ecc : List (Nat × EccError)), (sget false s.mem.scrubbing ch = false ∨ s.rd .memState ch ≠ 1) → ∃ t,
      exec (.scrubPass ch ecc) s = .next t ∧ t = s)
  ∧ (∀ (s : State), s.now < s.mem.window + s.windowLength → ∃ t, exec (.countingWindowStart) s = .next t ∧ t = s)
  ∧ (∀ (s : State) (frame r : Nat) (ecc : List (Nat × EccError)), (s.eccFound ecc).mem.copying.find? (fun p => p.1 = frame) = some (frame, r) →
      (s.eccFound ecc).mem.redirect.any (fun p => p.1 = frame) = true → ∃ t, exec (.frameRetireComplete ⟨frame, ecc⟩) s = .next t
      ∧ t.mem = { (s.eccFound ecc).mem with copying := (s.eccFound ecc).mem.copying.filter (fun p => p.1 ≠ frame), worn := (s.eccFound ecc).mem.worn ++ ((s.eccFound ecc).mem.redirect.filter (fun p => p.1 = frame)).map (·.2), redirect := (s.eccFound ecc).mem.redirect.map (fun p => if p.1 = frame then (frame, r) else p), frameCe := sdrop (s.eccFound ecc).mem.frameCe frame }
      ∧ t = { (s.eccFound ecc) with regs := t.regs, mem := t.mem } ∧ sameRegs (s.eccFound ecc) t [Reg.memRetired.key 0])
  ∧ (∀ (s : State) (frame : Nat) (ecc : List (Nat × EccError)), (s.eccFound ecc).mem.copying.find? (fun p => p.1 = frame) = none → ∃ t,
      exec (.frameRetireComplete ⟨frame, ecc⟩) s = .next t ∧ t = (s.eccFound ecc))
  ∧ (∀ (s : State) (ch v : Nat), ch < 48 → (v % 2 = 0 ∨ s.rd .memState ch = 2) → ∃ t, exec (.memFenceReq (.session 0) ch v) s = .next t
      ∧ t = s.reply (.session 0) .ok 0)
  ∧ (∀ (s : State) (rdr : Reader) (ch v : Nat), rdr ≠ .session 0 → ∃ t, exec (.memFenceReq rdr ch v) s = .next t ∧ t = s.reply rdr .sesRights 0)
  ∧ (∀ (s : State) (ch : Nat) (trains : Bool), ch < 48 → s.rd .memState ch ≠ 1 → ∃ t, exec (.memRetrain ch trains) s = .next t ∧ t = s)

/-- CXL_LINK_UP of a port that has not lost its link, with a Type 3 device and keys where IDE is on, brings it UP with the device's width, speed and
capacity, at most 1 TiB; after a link loss the device is only found; without entropy a port with IDE stays in training; another device leaves it
DISABLED and none EMPTY, or DOWN where it was down; an UP port does not change. CXL_LINK_DOWN of an UP port counts the loss and loses the far
pages whose data or metadata lie on it. CXL_ENABLE from session 0 admits the found device, with none found changes nothing, and from any other
reader is refused. CXL_LINK_DEGRADE of an UP port changes its width and speed alone. No command of these changes what memory holds, and
CXL_LINK_DOWN and CXL_LINK_DEGRADE of a port that is not UP change nothing. -/
def Obligations.CxlPortsComplete : Prop :=
  (∀ (s : State) (port : Nat) (d : CxlDevice), port < 8 → s.rd .cxlState port ≠ 2 → sget false s.mem.cxlLost port = false → d.type3 = true →
      (s.flag .cxlIde port = false ∨ s.sec.entropyBad = false) → ∃ t, exec (.cxlLinkUp port (some d)) s = .next t ∧ t.rd .cxlState port = 2
      ∧ t.rd .cxlWidth port = d.width % 2 ^ 5 ∧ t.rd .cxlSpeed port = d.speed % 2 ^ 2 ∧ t.rd .cxlCapacity port = min d.units 524288
      ∧ t = { s with regs := t.regs } ∧ sameRegs s t [Reg.cxlState.key port, Reg.cxlWidth.key port, Reg.cxlSpeed.key port, Reg.cxlCapacity.key port])
  ∧ (∀ (s : State) (port : Nat) (d : CxlDevice), port < 8 → s.rd .cxlState port ≠ 2 → sget false s.mem.cxlLost port = true → d.type3 = true →
      (s.flag .cxlIde port = false ∨ s.sec.entropyBad = false) → ∃ t, exec (.cxlLinkUp port (some d)) s = .next t ∧ t.rd .cxlState port = 3
      ∧ t.rd .cxlWidth port = d.width % 2 ^ 5 ∧ t.rd .cxlSpeed port = d.speed % 2 ^ 2 ∧ t.rd .cxlCapacity port = min d.units 524288
      ∧ sget false t.mem.found port = true ∧ t.mem = { s.mem with found := t.mem.found } ∧ t = { s with regs := t.regs, mem := t.mem }
      ∧ sameRegs s t [Reg.cxlState.key port, Reg.cxlWidth.key port, Reg.cxlSpeed.key port, Reg.cxlCapacity.key port])
  ∧ (∀ (s : State) (port : Nat), port < 8 → s.rd .cxlState port = 2 → ∃ t, exec (.cxlLinkDown port) s = .next t ∧ t.rd .cxlState port = 3
      ∧ sget false t.mem.cxlLost port = true ∧ t.rd .cxlDowns port = (s.rd .cxlDowns port + 1) % 2 ^ 32 ∧ (∀ k < s.rd .kvFarpages 0,
      (s.rd .kvFarbase 0 + 65536 * k) / 2 ^ 40 = port → t.pageLost (farFirst + k) = true) ∧ (∀ k < s.rd .kvFarpages 0,
      (s.rd .kvFarmetabase 0 + 2048 * k) / 2 ^ 40 = port → t.pageLost (farFirst + k) = true) ∧ t.mem = { s.mem with cxlLost := t.mem.cxlLost })
  ∧ (∀ (s : State) (port v : Nat), port < 8 → v % 2 = 1 → sget false s.mem.found port = true → ∃ t, exec (.cxlEnable (.session 0) port v) s = .next t
      ∧ t.rd .cxlState port = 2 ∧ sget false t.mem.found port = false ∧ answered t (.session 0) .ok ∧ sget false t.mem.cxlLost port = false
      ∧ t.mem = { s.mem with found := t.mem.found, cxlLost := t.mem.cxlLost } ∧ t = { s with regs := t.regs, cfg := t.cfg, mem := t.mem }
      ∧ sameRegs s t [Reg.cxlState.key port])
  ∧ (∀ (s : State) (port width speed : Nat), port < 8 → s.rd .cxlState port = 2 → ∃ t, exec (.cxlLinkDegrade port width speed) s = .next t
      ∧ t.rd .cxlWidth port = width % 2 ^ 5 ∧ t.rd .cxlSpeed port = speed % 2 ^ 2 ∧ t = { s with regs := t.regs }
      ∧ sameRegs s t [Reg.cxlWidth.key port, Reg.cxlSpeed.key port])
  ∧ (∀ (s : State) (port : Nat) (d : CxlDevice), port < 8 → s.rd .cxlState port ≠ 2 → d.type3 = true → s.flag .cxlIde port = true
      ∧ s.sec.entropyBad = true → ∃ t, exec (.cxlLinkUp port (some d)) s = .next t ∧ t = s.wr .cxlState port 1)
  ∧ (∀ (s : State) (port : Nat) (d : CxlDevice), port < 8 → s.rd .cxlState port ≠ 2 → d.type3 = false → ∃ t,
      exec (.cxlLinkUp port (some d)) s = .next t ∧ t = (s.setFound port false).wr .cxlState port 4)
  ∧ (∀ (s : State) (port : Nat), port < 8 → s.rd .cxlState port ≠ 2 → ∃ t, exec (.cxlLinkUp port none) s = .next t
      ∧ t = (if s.rd .cxlState port = 3 then s.setFound port false else (s.setFound port false).wr .cxlState port 0))
  ∧ (∀ (s : State) (port : Nat) (d : Option CxlDevice), port < 8 → s.rd .cxlState port = 2 → ∃ t, exec (.cxlLinkUp port d) s = .next t ∧ t = s)
  ∧ (∀ (s : State) (port width speed : Nat), port < 8 → s.rd .cxlState port ≠ 2 → ∃ t, exec (.cxlLinkDown port) s = .next t
      ∧ exec (.cxlLinkDegrade port width speed) s = .next t ∧ t = s)
  ∧ (∀ (s : State) (port v : Nat), port < 8 → (v % 2 = 0 ∨ sget false s.mem.found port = false) → ∃ t,
      exec (.cxlEnable (.session 0) port v) s = .next t ∧ t = s.reply (.session 0) .ok 0)
  ∧ (∀ (s : State) (rdr : Reader) (port v : Nat), rdr ≠ .session 0 → ∃ t, exec (.cxlEnable rdr port v) s = .next t ∧ t = s.reply rdr .sesRights 0)

/-- SPAN_LIGHT of a DARK span starts its training. SPAN_FEC_LOCK over some lanes makes it HAILING with those lanes and that width, and, with entropy,
it hails. SPAN_DARK makes it DARK with no lane, width or peer; a FENCED or LISTEN span stays. LANE_REMOVE of a lane whose fault passes the span's
thresholds records it and counts the change of width: where it is not the last one an UP span drains, and with the last one it goes DARK; a lane
whose fault does not is kept. SPAN_RETRAIN_DONE replays what was not acknowledged and the span is UP. SPAN_SILENT after 1 ms without a frame marks
the span. SPAN_RELOCK_FALLBACK of a training span clears the lanes. SPN_FENCE_REQ from session 0 fences the span, with FENCED of its page; from
any other reader it is refused. Each of them changes nothing where its condition does not hold. -/
def Obligations.SpanTrainingComplete : Prop :=
  (∀ (s : State) (n : Nat), n < 32 → s.rd .spnState n = 0 → ∃ t, exec (.spanLight n) s = .next t ∧ t.rd .spnState n = 1
      ∧ t = { s with regs := t.regs } ∧ sameRegs s t [Reg.spnState.key n])
  ∧ (∀ (s : State) (n lanes : Nat), n < 32 → s.rd .spnState n = 1 → 0 < lanes % 2 ^ 16 → ∃ t, exec (.spanFecLock n lanes) s = .next t
      ∧ t = (((s.setLanes n lanes).wr .spnLaneslost n 0).wr .spnState n 2).startHail n ∧ t.rd .spnState n = 2 ∧ t.rd .spnLanes n = lanes % 2 ^ 16
      ∧ t.rd .spnWidth n = (setBitsOf (lanes % 2 ^ 16) 16).length % 2 ^ 5 ∧ t.rd .spnLaneslost n = 0 ∧ (s.sec.entropyBad = false →
      (t.link n).hail ≠ [] ∧ t.out.length = s.out.length + 1))
  ∧ (∀ (s : State) (n : Nat), n < 32 → s.rd .spnState n ≠ 6 ∧ s.rd .spnState n ≠ 7 → ∃ t, exec (.spanDark n) s = .next t ∧ t = s.spanDark n
      ∧ t.rd .spnState n = 0 ∧ t.rd .spnWidth n = 0 ∧ t.rd .spnLanes n = 0 ∧ t.rd .spnSilent n = 0 ∧ t.rd .spnPeer n = 0 ∧ t.rd .spnPeervalid n = 0
      ∧ t.rd .spnPeerspan n = 0 ∧ t.rd .spnPeerstate n = 0 ∧ t.mem = s.mem)
  ∧ (∀ (s : State) (n : Nat) (f : FaultyLane), n < 32 → bitAt (s.rd .spnLanes n) (f.lane % 16) = true → s.laneFaulty n f.fault = true →
      setBits (s.rd .spnLanes n) (f.lane % 16) 1 0 ≠ 0 → s.rd .spnState n = 3 → ∃ t, exec (.laneRemove n f) s = .next t ∧ t.rd .spnState n = 4
      ∧ t.rd .spnLanes n = setBits (s.rd .spnLanes n) (f.lane % 16) 1 0 % 2 ^ 16
      ∧ t.rd .spnWidth n = (setBitsOf (setBits (s.rd .spnLanes n) (f.lane % 16) 1 0 % 2 ^ 16) 16).length % 2 ^ 5
      ∧ bitAt (t.rd .spnLaneslost n) (f.lane % 16) = true ∧ t.rd .spnWidthchg n = (s.rd .spnWidthchg n + 1) % 2 ^ 32 ∧ t.health.laneAt = some s.now
      ∧ t.mem = s.mem)
  ∧ (∀ (s : State) (n : Nat), n < 32 → s.rd .spnState n = 4 → ∃ t, exec (.spanRetrainDone n) s = .next t
      ∧ t = ((((s.wr .spnState n 3).setLink n { s.link n with lastAck := s.now, lastRx := s.now }).replay n (s.link n).sent).retryStuck).pump n
      ∧ t.rd .spnState n = 3 ∧ t.rd .spnReplays n = (s.rd .spnReplays n + (s.link n).sent.length) % 2 ^ 32 ∧ t.mem = s.mem)
  ∧ (∀ (s : State) (n : Nat), n < 32 → s.rd .spnState n = 3 → s.flag .spnSilent n = false → (s.link n).lastRx + 1000000 ≤ s.now → ∃ t,
      exec (.spanSilent n) s = .next t ∧ t.rd .spnSilent n = 1 ∧ t.rd .spnState n = 3 ∧ t.mem = s.mem)
  ∧ (∀ (s : State) (n : Nat), n < 32 → s.rd .spnState n = 1 → ∃ t, exec (.spanRelockFallback n) s = .next t ∧ t.rd .spnLanes n = 0
      ∧ t.rd .spnWidth n = 0 ∧ t.rd .spnLaneslost n = 0 ∧ t = { s with regs := t.regs }
      ∧ sameRegs s t [Reg.spnLanes.key n, Reg.spnWidth.key n, Reg.spnLaneslost.key n])
  ∧ (∀ (s : State) (n v : Nat), n < 32 → v % 2 = 1 → ∃ t, exec (.spnFenceReq (.session 0) n v) s = .next t ∧ t.rd .spnState n = 6
      ∧ t.rd .fenced (spanPage n) = 1 ∧ t.rd .spnRefuse n = 0 ∧ answered t (.session 0) .ok ∧ t.mem = s.mem)
  ∧ (∀ (s : State) (n : Nat), s.rd .spnState n ≠ 0 → ∃ t, exec (.spanLight n) s = .next t ∧ t = s)
  ∧ (∀ (s : State) (n lanes : Nat), (s.rd .spnState n ≠ 1 ∨ lanes % 2 ^ 16 = 0) → ∃ t, exec (.spanFecLock n lanes) s = .next t ∧ t = s)
  ∧ (∀ (s : State) (n : Nat), (s.rd .spnState n = 6 ∨ s.rd .spnState n = 7) → ∃ t, exec (.spanDark n) s = .next t ∧ t = s)
  ∧ (∀ (s : State) (n : Nat) (f : FaultyLane), n < 32 → bitAt (s.rd .spnLanes n) (f.lane % 16) = true → s.laneFaulty n f.fault = true →
      setBits (s.rd .spnLanes n) (f.lane % 16) 1 0 = 0 → ∃ t, exec (.laneRemove n f) s = .next t ∧ t.rd .spnState n = 0 ∧ t.rd .spnLanes n = 0
      ∧ t.rd .spnWidth n = 0 ∧ bitAt (t.rd .spnLaneslost n) (f.lane % 16) = true ∧ t.rd .spnWidthchg n = (s.rd .spnWidthchg n + 1) % 2 ^ 32
      ∧ t.mem = s.mem)
  ∧ (∀ (s : State) (n : Nat) (f : FaultyLane), (bitAt (s.rd .spnLanes n) (f.lane % 16) = false ∨ s.laneFaulty n f.fault = false) → ∃ t,
      exec (.laneRemove n f) s = .next t ∧ t = s)
  ∧ (∀ (s : State) (n : Nat), s.rd .spnState n ≠ 4 → ∃ t, exec (.spanRetrainDone n) s = .next t ∧ t = s)
  ∧ (∀ (s : State) (n : Nat), (s.rd .spnState n ≠ 3 ∨ s.flag .spnSilent n = true ∨ s.now < (s.link n).lastRx + 1000000) → ∃ t,
      exec (.spanSilent n) s = .next t ∧ t = s)
  ∧ (∀ (s : State) (n : Nat), s.rd .spnState n ≠ 1 → ∃ t, exec (.spanRelockFallback n) s = .next t ∧ t = s)
  ∧ (∀ (s : State) (n v : Nat), n < 32 → v % 2 = 0 → ∃ t, exec (.spnFenceReq (.session 0) n v) s = .next t ∧ t = s.reply (.session 0) .ok 0)
  ∧ (∀ (s : State) (rdr : Reader) (n v : Nat), rdr ≠ .session 0 → ∃ t, exec (.spnFenceReq rdr n v) s = .next t ∧ t = s.reply rdr .sesRights 0)

/-- SPAN_HAIL_RETRY of a REFUSED span sends its hail again with the same key pair and nonce (log entry 57), or starts one where it has none. A well-
formed HAIL on a HAILING or REFUSED span becomes the peer's hail and is answered with the proof, or refuses the span with SPN_LOOPBACK where it
names this module's own identity; a malformed one refuses it with SPN_HAIL_FORMAT; one with a new key pair or nonce on an UP span ends the session
and starts the exchange anew. A HAIL_PROOF brings the span UP with the peer of the hail where the checks pass, and else refuses it with the
check's status. An uncorrectable codeword is counted. HEARTBEAT_SEND on an UP span queues the heartbeat, and with nothing queued and credit sends
it under the next counter. SPAN_REPLAY_TIMEOUT sends every frame not acknowledged again. SPAN_KEY_ROLLOVER at counter 2^40, with credit and room
to replay, announces the next key and takes it. SPAN_NO_ROUTE_TIMEOUT drops a NOTICE in transit, drops another frame in transit and tells its
origin with the frame's header, or fails the entry of a local frame, that has waited 20 ms. Each of them changes nothing where its condition does
not hold. -/
def Obligations.HailsAndHeartbeatsComplete : Prop :=
  (∀ (s : State) (n : Nat), n < 32 → s.rd .spnState n = 5 → s.sec.entropyBad = false → (s.link n).hail ≠ [] → ∃ t, exec (.spanHailRetry n) s = .next t
      ∧ t.link n = { s.link n with hail := s.hailPayload n (s.link n).ownKey (s.link n).nonce } ∧ t.out.length = s.out.length + 1
      ∧ t = { s with regs := t.regs, span := t.span, out := t.out } ∧ sameRegs s t [Reg.spnTxbytes.key n])
  ∧ (∀ (s : State) (n : Nat) (b : List Byte), n < 32 → (s.rd .spnState n = 2 ∨ s.rd .spnState n = 5) → frameFormed b 6 = true →
      hailFormed ((b.drop 16).take (b.length - 32)) = true → ∃ t, exec (.spanHailFrame n b false) s = .next t
      ∧ (hlIdhash ((b.drop 16).take (b.length - 32)) ≠ idHash Config.identityCert → (s.link n).hail ≠ [] →
      t = ((s.bump .spnRxbytes n b.length).setLink n { s.link n with peerHail := ((b.drop 16).take (b.length - 32)) }).sendProof n)
      ∧ (hlIdhash ((b.drop 16).take (b.length - 32)) ≠ idHash Config.identityCert → (s.link n).hail = [] →
      t = (s.bump .spnRxbytes n b.length).setLink n { s.link n with peerHail := ((b.drop 16).take (b.length - 32)) })
      ∧ (hlIdhash ((b.drop 16).take (b.length - 32)) = idHash Config.identityCert → t = (s.bump .spnRxbytes n b.length).refuseSpan n .spnLoopback
      ∧ t.rd .spnState n = 5 ∧ t.rd .spnRefuse n = Status.spnLoopback.code) ∧ t.rd .spnRxbytes n = (s.rd .spnRxbytes n + b.length) % 2 ^ 64)
  ∧ (∀ (s : State) (n : Nat) (b : List Byte), n < 32 → (s.rd .spnState n = 2 ∨ s.rd .spnState n = 5) → (s.link n).hail ≠ []
      ∧ (s.link n).peerHail ≠ [] → frameFormed b 7 = true → ∃ t, exec (.spanHailProofFrame n b false) s = .next t
      ∧ ((s.hailCheck (s.link n).hail (s.link n).peerHail ((b.drop 16).take (b.length - 32))) = .ok → t = (s.bump .spnRxbytes n b.length).spanUp n
      ∧ t.rd .spnState n = 3 ∧ t.rd .spnPeer n = (hlMember (s.link n).peerHail).getD 0 ∧ t.rd .spnPeerspan n = hlSpan (s.link n).peerHail)
      ∧ ((s.hailCheck (s.link n).hail (s.link n).peerHail ((b.drop 16).take (b.length - 32))) ≠ .ok →
      t = (s.bump .spnRxbytes n b.length).refuseSpan n (s.hailCheck (s.link n).hail (s.link n).peerHail ((b.drop 16).take (b.length - 32)))
      ∧ t.rd .spnState n = 5 ∧ t.rd .spnRefuse n = (s.hailCheck (s.link n).hail (s.link n).peerHail ((b.drop 16).take (b.length - 32))).code))
  ∧ (∀ (s : State) (n : Nat), n < 32 → s.rd .spnState n = 3 → (s.link n).queue = [] → 1 ≤ (s.link n).credit 0 → (s.link n).replayBytes + 64 ≤ 2 ^ 20
      ∧ (s.link n).tx.count < 2 ^ 40 → ∃ t, exec (.heartbeatSend n) s = .next t ∧ (t.link n).sent.map (fun f => (f.count, f.frame.ty,
      f.frame.payload)) = (s.link n).sent.map (fun f => (f.count, f.frame.ty, f.frame.payload)) ++ [((s.link n).tx.count, 5, s.heartbeat)]
      ∧ (t.link n).tx.count = (s.link n).tx.count + 1 ∧ t.out.length = s.out.length + 1 ∧ (t.link n).queue = []
      ∧ t = { s with regs := t.regs, span := t.span, out := t.out } ∧ sameRegs s t [Reg.spnTxbytes.key n])
  ∧ (∀ (s : State) (n : Nat), n < 32 → s.rd .spnState n = 3 → (s.link n).sent ≠ [] → (s.link n).lastAck + 100000 ≤ s.now → ∃ t,
      exec (.spanReplayTimeout n) s = .next t ∧ t.out = s.out ++ (s.link n).sent.map (fun f => Out.span n f.bytes)
      ∧ t.link n = { s.link n with lastAck := s.now } ∧ t.rd .spnReplays n = (s.rd .spnReplays n + (s.link n).sent.length) % 2 ^ 32
      ∧ t = { s with regs := t.regs, span := t.span, out := t.out } ∧ sameRegs s t [Reg.spnReplays.key n])
  ∧ (∀ (s : State) (n : Nat), n < 32 → s.rd .spnState n = 3 → 2 ^ 40 ≤ (s.link n).tx.count → 1 ≤ (s.link n).credit 0 →
      (s.link n).replayBytes + 32 ≤ 2 ^ 20 → (s.link n).queue = [] → ∃ t, exec (.spanKeyRollover n) s = .next t ∧ (t.link n).tx = (s.link n).tx.after
      ∧ t.rd .spnKeyupd n = (s.rd .spnKeyupd n + 1) % 2 ^ 32 ∧ t.out.length = s.out.length + 1 ∧ ((t.link n).sent.getLast?.map (fun f => (f.count,
      f.frame.ty))) = some ((s.link n).tx.count, 9))
  ∧ (∀ (s : State) (k : StuckFrame), s.span.stuck = [k] → k.since + 20000000 ≤ s.now → k.frame.transit = true ∧ k.frame.ty = 4 → ∃ t,
      exec (.spanNoRouteTimeout) s = .next t ∧ t.span = { s.span with stuck := [] }
      ∧ t.rd .spnDrops k.frame.via = (s.rd .spnDrops k.frame.via + 1) % 2 ^ 32 ∧ t = { s with regs := t.regs, span := t.span }
      ∧ sameRegs s t [Reg.spnDrops.key k.frame.via])
  ∧ (∀ (s : State) (k : StuckFrame), s.span.stuck = [k] → k.since + 20000000 ≤ s.now → k.frame.transit = false → ∃ t,
      exec (.spanNoRouteTimeout) s = .next t ∧ t.span = { s.span with stuck := [] }
      ∧ t = ({ s with span := { s.span with stuck := [] } } : State).frameLost k.frame .spnNoRoute ∧ t.regs = s.regs)
  ∧ (∀ (s : State) (n : Nat), n < 32 → s.rd .spnState n = 5 → s.sec.entropyBad = false → (s.link n).hail = [] → ∃ t,
      exec (.spanHailRetry n) s = .next t ∧ t = s.startHail n ∧ t.out.length = s.out.length + 1)
  ∧ (∀ (s : State) (n : Nat), (s.rd .spnState n ≠ 5 ∨ s.sec.entropyBad = true) → ∃ t, exec (.spanHailRetry n) s = .next t ∧ t = s)
  ∧ (∀ (s : State) (n : Nat) (b : List Byte), n < 32 → (s.rd .spnState n = 2 ∨ s.rd .spnState n = 5) →
      (frameFormed b 6 = false ∨ hailFormed ((b.drop 16).take (b.length - 32)) = false) → ∃ t, exec (.spanHailFrame n b false) s = .next t
      ∧ t = (s.bump .spnRxbytes n b.length).refuseSpan n .spnHailFormat)
  ∧ (∀ (s : State) (n : Nat) (b : List Byte), n < 32 → s.rd .spnState n = 3 → frameFormed b 6 = true →
      hailFormed ((b.drop 16).take (b.length - 32)) = true →
      (hlKey ((b.drop 16).take (b.length - 32)) ≠ hlKey (s.link n).peerHail ∨ hlNonce ((b.drop 16).take (b.length - 32)) ≠ hlNonce (s.link n).peerHail) →
      ∃ t, exec (.spanHailFrame n b false) s = .next t ∧ (hlIdhash ((b.drop 16).take (b.length - 32)) = idHash Config.identityCert →
      t = ((((s.bump .spnRxbytes n b.length).linkDown n).wr .spnState n 2).startHail n).refuseSpan n .spnLoopback)
      ∧ (hlIdhash ((b.drop 16).take (b.length - 32)) ≠ idHash Config.identityCert →
      (((((s.bump .spnRxbytes n b.length).linkDown n).wr .spnState n 2).startHail n).link n).hail ≠ [] →
      t = (((((s.bump .spnRxbytes n b.length).linkDown n).wr .spnState n 2).startHail n).setLink n { ((((s.bump .spnRxbytes n b.length).linkDown n).wr .spnState n 2).startHail n).link n with peerHail := ((b.drop 16).take (b.length - 32)) }).sendProof n)
      ∧ (hlIdhash ((b.drop 16).take (b.length - 32)) ≠ idHash Config.identityCert →
      (((((s.bump .spnRxbytes n b.length).linkDown n).wr .spnState n 2).startHail n).link n).hail = [] →
      t = ((((s.bump .spnRxbytes n b.length).linkDown n).wr .spnState n 2).startHail n).setLink n { ((((s.bump .spnRxbytes n b.length).linkDown n).wr .spnState n 2).startHail n).link n with peerHail := ((b.drop 16).take (b.length - 32)) }))
  ∧ (∀ (s : State) (n : Nat) (b : List Byte) (bad : Bool),
      (s.rd .spnState n = 0 ∨ s.rd .spnState n = 1 ∨ s.rd .spnState n = 4 ∨ s.rd .spnState n = 6 ∨ s.rd .spnState n = 7) → ∃ t,
      exec (.spanHailFrame n b bad) s = .next t ∧ t = s)
  ∧ (∀ (s : State) (n : Nat) (b : List Byte), n < 32 → (s.rd .spnState n = 2 ∨ s.rd .spnState n = 5) → (s.link n).hail ≠ []
      ∧ (s.link n).peerHail ≠ [] → ∃ t, exec (.spanHailFrame n b true) s = .next t ∧ exec (.spanHailProofFrame n b true) s = .next t
      ∧ t = s.bump .spnFecuncorr n 1)
  ∧ (∀ (s : State) (n : Nat) (b : List Byte), n < 32 → (s.rd .spnState n = 2 ∨ s.rd .spnState n = 5) → (s.link n).hail ≠ []
      ∧ (s.link n).peerHail ≠ [] → frameFormed b 7 = false → ∃ t, exec (.spanHailProofFrame n b false) s = .next t
      ∧ t = (s.bump .spnRxbytes n b.length).refuseSpan n .spnHailFormat)
  ∧ (∀ (s : State) (n : Nat) (b : List Byte) (bad : Bool), ((s.link n).hail = [] ∨ (s.link n).peerHail = []) → ∃ t,
      exec (.spanHailProofFrame n b bad) s = .next t ∧ t = s)
  ∧ (∀ (s : State) (n : Nat), s.rd .spnState n ≠ 3 → ∃ t, exec (.heartbeatSend n) s = .next t ∧ t = s)
  ∧ (∀ (s : State) (n : Nat), n < 32 → s.rd .spnState n = 3 → ∃ t, exec (.heartbeatSend n) s = .next t ∧ t = s.sendVc0 n 5 s.heartbeat)
  ∧ (∀ (s : State) (n : Nat), (s.rd .spnState n ≠ 3 ∨ (s.link n).sent = [] ∨ s.now < (s.link n).lastAck + 100000) → ∃ t,
      exec (.spanReplayTimeout n) s = .next t ∧ t = s)
  ∧ (∀ (s : State) (n : Nat), n < 32 → s.rd .spnState n = 3 → 2 ^ 40 ≤ (s.link n).tx.count → 1 ≤ (s.link n).credit 0 →
      (s.link n).replayBytes + 32 ≤ 2 ^ 20 → ∃ t, exec (.spanKeyRollover n) s = .next t
      ∧ t = ((((s.sendFrame n (s.link n) ⟨9, 0, 1, s.rd .fltMember 0, s.rd .spnPeer n, [], false, none, none, 0, []⟩).setLink n { (s.sendFrame n (s.link n) ⟨9, 0, 1, s.rd .fltMember 0, s.rd .spnPeer n, [], false, none, none, 0, []⟩).link n with tx := ((s.sendFrame n (s.link n) ⟨9, 0, 1, s.rd .fltMember 0, s.rd .spnPeer n, [], false, none, none, 0, []⟩).link n).tx.after }).bump .spnKeyupd n 1).pump n))
  ∧ (∀ (s : State) (n : Nat), (s.rd .spnState n ≠ 3 ∨ (s.link n).tx.count < 2 ^ 40 ∨ (s.link n).credit 0 = 0 ∨ 2 ^ 20 < (s.link n).replayBytes + 32) →
      ∃ t, exec (.spanKeyRollover n) s = .next t ∧ t = s)
  ∧ (∀ (s : State) (k : StuckFrame), s.span.stuck = [k] → k.since + 20000000 ≤ s.now → k.frame.transit = true ∧ k.frame.ty ≠ 4 → ∃ t,
      exec (.spanNoRouteTimeout) s = .next t
      ∧ t = (({ s with span := { s.span with stuck := [] } } : State).bump .spnDrops k.frame.via 1).notice k.frame.src k.frame.header)
  ∧ (∀ (s : State), s.span.stuck.all (fun k => decide (s.now < k.since + 20000000)) = true → ∃ t, exec (.spanNoRouteTimeout) s = .next t ∧ t = s)
  ∧ (∀ (s : State) (n : Nat) (b : List Byte), n < 32 → s.rd .spnState n = 3 → frameFormed b 6 = false →
      (hlKey ((b.drop 16).take (b.length - 32)) ≠ hlKey (s.link n).peerHail ∨ hlNonce ((b.drop 16).take (b.length - 32)) ≠ hlNonce (s.link n).peerHail) →
      ∃ t, exec (.spanHailFrame n b false) s = .next t ∧ t = s.bump .spnRxbytes n b.length)

/-- A frame of a type other than LINK that arrives in order on an UP span and opens is counted and does what its type says: a heartbeat gives the
peer's member, state and risk level; KEY_UPDATE lets the next key phase be accepted; a DATA, SIGNAL, CONFIRM, NOTICE or LEDGER frame for this
module (for the first three, a MEMBER's from a member that the ledger holds) lands its data, applies its signal, takes up its confirmation, fails
the entries that wait on the member named, or delivers its message; one for another module is forwarded; a DATA, SIGNAL or CONFIRM frame of a
module that is no member is dropped; a LEDGER frame on a span to a module that is no member speaks for that module. One whose tag fails is counted
in SPN_TAGFAIL. One with an uncorrectable codeword, malformed or out of order is discarded and the expected counter NAKed; on a span that is not
UP nothing happens. A LINK frame with nothing queued or stuck acknowledges and returns credit. What a LEDGER frame's payload says comes with the
command (log entry 44). -/
def Obligations.FramesReceived : Prop :=
  (∀ (s : State) (n : Nat) (b : List Byte), s.inOrder n 5 b = true → ∃ t, exec (.spanHeartbeatFrame n b false) s = .next t ∧ (s.opened n b = none →
      tagFailed s t n) ∧ (∀ p ∈ s.opened n b, frameTaken s t n b ∧ t.rd .spnPeer n = fieldAt p 0 2 % 2 ^ 14 ∧ t.rd .spnPeerstate n = fieldAt p 2 1 % 8
      ∧ (t.link n).level = fieldAt p 3 1 % 8))
  ∧ (∀ (s : State) (n : Nat) (b : List Byte), s.inOrder n 9 b = true → ∃ t, exec (.spanKeyUpdateFrame n b false) s = .next t ∧ (s.opened n b = none →
      tagFailed s t n) ∧ (∀ _p ∈ s.opened n b, frameTaken s t n b ∧ (t.link n).rxUpdate = true))
  ∧ (∀ (s : State) (n : Nat) (b : List Byte) (ecc : List (Nat × EccError)), s.inOrder n 1 b = true → s.forMe b = true → s.isMember = true
      ∧ s.memberLost (fSrc b) = false → ∃ t, exec (.spanDataFrame n b false ecc) s = .next t ∧ (s.opened n b = none → tagFailed s t n)
      ∧ (∀ p ∈ s.opened n b, t = ((s.receive n 1 b false).1.eccFound ecc).landData (n / 8) (fVc b) p))
  ∧ (∀ (s : State) (n : Nat) (b : List Byte), s.inOrder n 2 b = true → s.forMe b = true → s.isMember = true ∧ s.memberLost (fSrc b) = false → ∃ t,
      exec (.spanSignalFrame n b false) s = .next t ∧ (s.opened n b = none → tagFailed s t n) ∧ (∀ p ∈ s.opened n b,
      t = (s.receive n 2 b false).1.landSignal (n / 8) p))
  ∧ (∀ (s : State) (n : Nat) (b : List Byte), s.inOrder n 3 b = true → s.forMe b = true → s.isMember = true ∧ s.memberLost (fSrc b) = false → ∃ t,
      exec (.spanConfirmFrame n b false) s = .next t ∧ (s.opened n b = none → tagFailed s t n) ∧ (∀ p ∈ s.opened n b,
      t = (s.receive n 3 b false).1.hearConfirm (fSrc b) p))
  ∧ (∀ (s : State) (n : Nat) (b : List Byte), s.inOrder n 4 b = true → s.forMe b = true → ∃ t, exec (.spanNoticeFrame n b false) s = .next t
      ∧ (s.opened n b = none → tagFailed s t n) ∧ (∀ p ∈ s.opened n b, t = (s.receive n 4 b false).1.failMember (fDst (p.drop 4)) .spnNoRoute))
  ∧ (∀ (s : State) (n : Nat) (b : List Byte) (m : LedgerMsg), s.inOrder n 8 b = true → s.forMe b = true → s.rd .spnPeerstate n = fltMember →
      s.memberLost (fSrc b) = false → ∃ t, exec (.spanLedgerFrame n b false (some m)) s = .next t ∧ (s.opened n b = none → tagFailed s t n)
      ∧ (∀ _p ∈ s.opened n b, t = (s.receive n 8 b false).1.hearLedger (.member (fSrc b)) m))
  ∧ (∀ (s : State) (n : Nat) (b : List Byte), n < 32 → s.rd .spnState n = 3 → frameFormed b 0 = true → (s.link n).queue = [] ∧ s.span.stuck = [] →
      ∃ t, exec (.spanLinkFrame n b false) s = .next t ∧ (openSpanFrame (s.rxKey n b) (counterNear (s.rxKey n b).count (fSeq b)) b = none →
      tagFailed s t n) ∧ (∀ p ∈ openSpanFrame (s.rxKey n b) (counterNear (s.rxKey n b).count (fSeq b)) b,
      (t.link n).sent = ((s.link n).acked (fAck b) s.now).sent
      ∧ (t.link n).credits = (List.range 4).map (fun v => (s.link n).credit v + fieldAt p (4 + 2 * v) 2)
      ∧ t.rd .spnRxbytes n = (s.rd .spnRxbytes n + b.length) % 2 ^ 64))
  ∧ (∀ (s : State) (i : Instr) (n ty : Nat) (b : List Byte) (m : Option LedgerMsg), (ty,
      i) ∈ [(1, Instr.spanDataFrame n b true []), (2, .spanSignalFrame n b true), (3, .spanConfirmFrame n b true), (4, .spanNoticeFrame n b true), (5, .spanHeartbeatFrame n b true), (8, .spanLedgerFrame n b true m), (9, .spanKeyUpdateFrame n b true)] →
      n < 32 → s.rd .spnState n = 3 → ∃ t, exec i s = .next t ∧ t = (s.bump .spnFecuncorr n 1).sendLink n (some (s.link n).rx.count))
  ∧ (∀ (s : State) (i : Instr) (n ty : Nat) (b : List Byte) (m : Option LedgerMsg), (ty,
      i) ∈ [(1, Instr.spanDataFrame n b false []), (2, .spanSignalFrame n b false), (3, .spanConfirmFrame n b false), (4, .spanNoticeFrame n b false), (5, .spanHeartbeatFrame n b false), (8, .spanLedgerFrame n b false m), (9, .spanKeyUpdateFrame n b false)] →
      n < 32 → s.rd .spnState n = 3 → s.inOrder n ty b = false → ∃ t, exec i s = .next t ∧ t = s.sendLink n (some (s.link n).rx.count))
  ∧ (∀ (s : State) (i : Instr) (n ty : Nat) (b : List Byte) (bad : Bool) (m : Option LedgerMsg), (ty,
      i) ∈ [(1, Instr.spanDataFrame n b bad []), (2, .spanSignalFrame n b bad), (3, .spanConfirmFrame n b bad), (4, .spanNoticeFrame n b bad), (5, .spanHeartbeatFrame n b bad), (8, .spanLedgerFrame n b bad m), (9, .spanKeyUpdateFrame n b bad), (0, .spanLinkFrame n b bad)] →
      n < 32 → s.rd .spnState n ≠ 3 → ∃ t, exec i s = .next t ∧ t = s)
  ∧ (∀ (s : State) (i : Instr) (n ty : Nat) (b : List Byte), (ty,
      i) ∈ [(1, Instr.spanDataFrame n b false []), (2, .spanSignalFrame n b false), (3, .spanConfirmFrame n b false), (4, .spanNoticeFrame n b false)] →
      s.inOrder n ty b = true → s.forMe b = false → ∃ t, exec i s = .next t ∧ (s.opened n b = none → tagFailed s t n) ∧ (∀ p ∈ s.opened n b,
      t = (s.receive n ty b false).1.forward n b p))
  ∧ (∀ (s : State) (i : Instr) (n ty : Nat) (b : List Byte), (ty,
      i) ∈ [(1, Instr.spanDataFrame n b false []), (2, .spanSignalFrame n b false), (3, .spanConfirmFrame n b false)] → s.inOrder n ty b = true →
      s.forMe b = true → (s.isMember = false ∨ s.memberLost (fSrc b) = true) → ∃ t, exec i s = .next t ∧ (s.opened n b = none → tagFailed s t n)
      ∧ (∀ _p ∈ s.opened n b, t = (s.receive n ty b false).1))
  ∧ (∀ (s : State) (n : Nat) (b : List Byte) (m : LedgerMsg), s.inOrder n 8 b = true → s.rd .spnPeerstate n ≠ fltMember → ∃ t,
      exec (.spanLedgerFrame n b false (some m)) s = .next t ∧ (s.opened n b = none → tagFailed s t n) ∧ (∀ _p ∈ s.opened n b,
      t = (s.receive n 8 b false).1.hearLedger (.neighbour n) m))
  ∧ (∀ (s : State) (n : Nat) (b : List Byte) (m : Option LedgerMsg), s.inOrder n 8 b = true → s.rd .spnPeerstate n = fltMember →
      s.flag .fltMembervalid 0 = true → s.forMe b = false → ∃ t, exec (.spanLedgerFrame n b false m) s = .next t ∧ (s.opened n b = none →
      tagFailed s t n) ∧ (∀ p ∈ s.opened n b, t = (s.receive n 8 b false).1.forward n b p))
  ∧ (∀ (s : State) (n : Nat) (b : List Byte), n < 32 → s.rd .spnState n = 3 → frameFormed b 0 = false → ∃ t,
      exec (.spanLinkFrame n b false) s = .next t ∧ t = s.sendLink n (some (s.link n).rx.count))
  ∧ (∀ (s : State) (n : Nat) (b : List Byte), n < 32 → s.rd .spnState n = 3 → ∃ t, exec (.spanLinkFrame n b true) s = .next t
      ∧ t = (s.bump .spnFecuncorr n 1).sendLink n (some (s.link n).rx.count))

/-- The commands of FLT_CMD. From any reader but session 0 they answer SES_RIGHTS, and while one is under way GEN_CMD_BUSY, with no other effect. A
module that is no MEMBER refuses FLT_PERMIT, FLT_REVOKE, FLT_ACCEPT, FLT_BARRIER and FLT_LEAVE. A MEMBER's becomes the command under way and its
proposal: the lead's own joins its inbox, another member's leaves in a LEDGER frame to the lead (the form of its payload is the model's choice,
log entry 44); FLT_LEAVE makes the module LEAVING besides; FLT_ACCEPT is refused unless it names 1 to 4 hashes. FLT_ROUTE appends its entries to
those that the next commit puts in force; it is refused outside member IDs 0 to 16,383, and without a flight region (FLT_UNCONFIGURED). FLT_FOUND
of a configured module that is ALONE, with a well-formed body, applies the FOUND entry of epoch 1 where the body names this module's identity; it
is refused where it names another's, where the body is not well formed or the module is not ALONE, and answers FLT_UNCONFIGURED on a page not
configured. -/
def Obligations.FlightCommandsComplete : Prop :=
  (∀ (s : State) (i : Instr) (rdr : Reader), rdr ≠ .session 0 →
      i ∈ [Instr.fltFound rdr, Instr.fltPermit rdr, Instr.fltRevoke rdr, Instr.fltAccept rdr, Instr.fltBarrier rdr, Instr.fltLeave rdr, Instr.fltRoute rdr] →
      ∃ t, exec i s = .next t ∧ t = s.reply rdr .sesRights 0)
  ∧ (∀ (s : State) (i : Instr), s.flt.command.isSome = true →
      i ∈ [Instr.fltFound (.session 0), Instr.fltPermit (.session 0), Instr.fltRevoke (.session 0), Instr.fltAccept (.session 0), Instr.fltBarrier (.session 0), Instr.fltLeave (.session 0), Instr.fltRoute (.session 0)] →
      ∃ t, exec i s = .next t ∧ t = s.reply (.session 0) .genCmdBusy 0)
  ∧ (∀ (s : State) (i : Instr), s.flt.command = none → s.isMember = false →
      i ∈ [Instr.fltPermit (.session 0), Instr.fltRevoke (.session 0), Instr.fltAccept (.session 0), Instr.fltBarrier (.session 0), Instr.fltLeave (.session 0)] →
      ∃ t, exec i s = .next t ∧ t = (s.wr .fltCmdstatus 0 Status.fltCmdRefused.code).reply (.session 0) .ok 0)
  ∧ (∀ (s : State) (i : Instr) (kind n : Nat), (i, kind,
      n) ∈ [(Instr.fltPermit (.session 0), 2, 50), (Instr.fltRevoke (.session 0), 3, 48), (Instr.fltBarrier (.session 0), 9, 8)] →
      s.flt.command = none → s.isMember = true → s.flag .fltIslead 0 = false → ∃ t, exec i s = .next t
      ∧ t = (({ s with flt := { s.flt with command := some (kind, s.cmdBody n) } } : State).ledgerTo (s.rd .fltLead 0) (.proposal kind (s.cmdBody n))).reply (.session 0) .ok 0)
  ∧ (∀ (s : State) (i : Instr) (kind n : Nat), (i, kind,
      n) ∈ [(Instr.fltPermit (.session 0), 2, 50), (Instr.fltRevoke (.session 0), 3, 48), (Instr.fltBarrier (.session 0), 9, 8)] →
      s.flt.command = none → s.isMember = true → s.flag .fltIslead 0 = true → ∃ t, exec i s = .next t
      ∧ t = ({ s with flt := { s.flt with command := some (kind, s.cmdBody n), inbox := s.flt.inbox ++ [⟨s.me, kind, s.cmdBody n⟩] } } : State).reply (.session 0) .ok 0)
  ∧ (∀ (s : State) (n : Nat), s.flt.command = none → s.isMember = true → n = fieldAt (s.cmdBody 1) 0 1 → 1 ≤ n ∧ n ≤ 4 → ∃ t,
      exec (.fltAccept (.session 0)) s = .next t
      ∧ t = (({ s with flt := { s.flt with command := some (7, s.cmdBody (16 + 48 * n)) } } : State).propose 7 (s.cmdBody (16 + 48 * n))).reply (.session 0) .ok 0)
  ∧ (∀ (s : State) (n : Nat), s.flt.command = none → n = fieldAt (s.cmdBody 1) 0 1 → n = 0 ∨ 4 < n → ∃ t, exec (.fltAccept (.session 0)) s = .next t
      ∧ t = (s.wr .fltCmdstatus 0 Status.fltCmdRefused.code).reply (.session 0) .ok 0)
  ∧ (∀ (s : State), s.flt.command = none → s.isMember = true → ∃ t, exec (.fltLeave (.session 0)) s = .next t
      ∧ t = ((({ s with flt := { s.flt with command := some (5, leBytes 2 s.me) } } : State).propose 5 (leBytes 2 s.me)).wr .fltState 0 4).reply (.session 0) .ok 0)
  ∧ (∀ (s : State) (first n : Nat), s.flt.command = none → first = fieldAt (s.cmdBody 512) 0 2 → n = fieldAt (s.cmdBody 512) 2 2 → 1 ≤ n ∧ n ≤ 127
      ∧ first + n ≤ 16384 → s.rd .fltRegion 0 ≠ 0 → ∃ t, exec (.fltRoute (.session 0)) s = .next t
      ∧ t = (({ s with flt := { s.flt with routes := s.flt.routes ++ (List.range n).map (fun i => (first + i, fieldAt (s.cmdBody 512) (4 + 4 * i) 4)) } } : State).wr .fltCmdstatus 0 0).reply (.session 0) .ok 0)
  ∧ (∀ (s : State) (first n : Nat), s.flt.command = none → first = fieldAt (s.cmdBody 512) 0 2 → n = fieldAt (s.cmdBody 512) 2 2 →
      n = 0 ∨ 127 < n ∨ 16384 < first + n → ∃ t, exec (.fltRoute (.session 0)) s = .next t
      ∧ t = (s.wr .fltCmdstatus 0 Status.fltCmdRefused.code).reply (.session 0) .ok 0)
  ∧ (∀ (s : State) (first n : Nat), s.flt.command = none → first = fieldAt (s.cmdBody 512) 0 2 → n = fieldAt (s.cmdBody 512) 2 2 → 1 ≤ n ∧ n ≤ 127
      ∧ first + n ≤ 16384 → s.rd .fltRegion 0 = 0 → ∃ t, exec (.fltRoute (.session 0)) s = .next t
      ∧ t = (s.wr .fltCmdstatus 0 Status.fltUnconfigured.code).reply (.session 0) .ok 0)
  ∧ (∀ (s : State) (n : Nat), s.flt.command = none → s.rd .fltState 0 = 0 → s.rd .fltId 0 ≠ 0 ∧ s.rd .fltRegion 0 ≠ 0 →
      n = fieldAt (s.cmdBody 512) 9 1 → 1 ≤ n ∧ n ≤ 4 → fieldAt (s.cmdBody (64 + 48 * n)) 0 8 = s.rd .fltId 0 →
      (fieldAt (s.cmdBody (64 + 48 * n)) 8 1 = 5 ∨ fieldAt (s.cmdBody (64 + 48 * n)) 8 1 = 7) → fieldAt (s.cmdBody (64 + 48 * n)) 10 2 = 0 → ∃ t,
      exec (.fltFound (.session 0)) s = .next t ∧ (beNat (((s.cmdBody (64 + 48 * n)).drop 12).take 48) = idHash Config.identityCert →
      t.rd .fltEpoch 0 = 1 ∧ t.rd .fltState 0 = 3 ∧ t.rd .fltMember 0 = 0 ∧ t.rd .fltIslead 0 = 1 ∧ t.rd .fltIssteward 0 = 1 ∧ t.flt.stewards = [0]
      ∧ t.rd .fltStewtarget 0 = fieldAt (s.cmdBody (64 + 48 * n)) 8 1 % 2 ^ 3 ∧ t.flt.accepted = bodyHashes (s.cmdBody (64 + 48 * n)) 64 n
      ∧ t.rd .fltCmdstatus 0 = 0
      ∧ t = ((((({ s with flt := { FlightState.alone with routes := s.flt.routes } } : State).wr .fltEpoch 0 0).wr .fltCommitted 0 0).applyEntry ⟨1, 1, 1, 0, (s.cmdBody (64 + 48 * n))⟩).wr .fltCmdstatus 0 0).reply (.session 0) .ok 0)
      ∧ (beNat (((s.cmdBody (64 + 48 * n)).drop 12).take 48) ≠ idHash Config.identityCert →
      t = (s.wr .fltCmdstatus 0 Status.fltCmdRefused.code).reply (.session 0) .ok 0))
  ∧ (∀ (s : State), s.flt.command = none → s.rd .fltState 0 ≠ 0 → ∃ t, exec (.fltFound (.session 0)) s = .next t
      ∧ t = (s.wr .fltCmdstatus 0 Status.fltCmdRefused.code).reply (.session 0) .ok 0)
  ∧ (∀ (s : State), s.flt.command = none → s.rd .fltState 0 = 0 → s.rd .fltId 0 = 0 ∨ s.rd .fltRegion 0 = 0 → ∃ t,
      exec (.fltFound (.session 0)) s = .next t ∧ t = (s.wr .fltCmdstatus 0 Status.fltUnconfigured.code).reply (.session 0) .ok 0)
  ∧ (∀ (s : State) (n : Nat), s.flt.command = none → s.rd .fltState 0 = 0 → s.rd .fltId 0 ≠ 0 ∧ s.rd .fltRegion 0 ≠ 0 →
      n = fieldAt (s.cmdBody 512) 9 1 → n = 0 ∨ 4 < n ∨ fieldAt (s.cmdBody 512) 0 8 ≠ s.rd .fltId 0 ∨ (fieldAt (s.cmdBody 512) 8 1 ≠ 5
      ∧ fieldAt (s.cmdBody 512) 8 1 ≠ 7) ∨ fieldAt (s.cmdBody 512) 10 2 ≠ 0 → ∃ t, exec (.fltFound (.session 0)) s = .next t
      ∧ t = (s.wr .fltCmdstatus 0 Status.fltCmdRefused.code).reply (.session 0) .ok 0)

/-- A committed entry of the next epoch, with none held ahead of it, is applied by a module of the ledger: it is the applied epoch, is counted, and
does what its kind says. FOUND makes the founder member 0 and lead of its term; PERMIT and REVOKE change the permits; ADMIT adds the member, and
makes the candidate whose identity it names MEMBER; LEAVE ends a membership, this module's own too; FENCE of another member ends that one's, and a
run member's makes the workers rewind; FENCE of this module makes it FENCED (which memberships an entry that names this module's ID means is log
entry 120; a warm reset that waited for the fence is left out here); ACCEPT and STEWARDS set the accepted set and the stewards; BARRIER is
remembered and ends a recovery; SECURE SCHEDULE, POINT and PAIR set the schedule, the restore point and a member's partners (log entry 45 gives
the bodies), and a POINT committed only after a run member's FENCE does nothing. A REPLAN with a point puts its heir and the workers into RESTORE
for it; the first one of a step fault rewinds; one of an unhidden loss halts an armed member; a mirror that it promotes is stated nowhere here.
LEAD names the lead of its term. A command that carries an entry of another kind, one that is not later than the applied epoch, or any at a module
outside the ledger does nothing; one further ahead is held, up to 64, with the time of the gap, and beyond them the missing epochs are asked for. -/
def Obligations.LedgerEntriesApplied : Prop :=
  (∀ (s : State) (e : LedgerEntry), s.nextCommitted e 1 = true → ∃ t, exec (.ledgerFound e) s = .next t ∧ entryTaken s t e
      ∧ t.flt.founder = beNat ((e.body.drop 12).take 48) ∧ t.flt.accepted = bodyHashes e.body 64 (fieldAt e.body 9 1) ∧ t.flt.stewards = [0]
      ∧ t.flt.permits = [] ∧ (t.member 0).map (fun x => (x.state, x.idhash, x.epoch)) = some (fltMember, beNat ((e.body.drop 12).take 48), e.epoch)
      ∧ (∀ m, m ≠ 0 → t.member m = none) ∧ t.rd .fltLead 0 = 0 ∧ t.rd .fltLeadvalid 0 = 1 ∧ t.rd .fltStewards 0 = 1
      ∧ t.rd .fltTerm 0 = e.term % 2 ^ 32 ∧ t.rd .fltStewtarget 0 = fieldAt e.body 8 1 % 2 ^ 3)
  ∧ (∀ (s : State) (e : LedgerEntry), s.nextCommitted e 2 = true → ∃ t, exec (.ledgerPermit e) s = .next t ∧ entryTaken s t e
      ∧ t.flt.permits = s.flt.permits.filter (fun p => p.1 ≠ beNat (e.body.take 48)) ++ [(beNat (e.body.take 48), optMember (fieldAt e.body 48 2))]
      ∧ t.flt.members = s.flt.members)
  ∧ (∀ (s : State) (e : LedgerEntry), s.nextCommitted e 3 = true → ∃ t, exec (.ledgerRevoke e) s = .next t ∧ entryTaken s t e
      ∧ t.flt.permits = s.flt.permits.filter (fun p => p.1 ≠ beNat (e.body.take 48)) ∧ t.flt.members = s.flt.members)
  ∧ (∀ (s : State) (e : LedgerEntry), s.nextCommitted e 4 = true → ∃ t, exec (.ledgerAdmit e) s = .next t ∧ entryTaken s t e
      ∧ t.member (fieldAt e.body 0 2 % 2 ^ 14) = some ⟨fltMember, beNat ((e.body.drop 4).take 48), fieldAt e.body 2 2, beNat ((e.body.drop 52).take 48), e.epoch⟩
      ∧ (∀ m, m ≠ (fieldAt e.body 0 2 % 2 ^ 14) → t.member m = s.member m) ∧ (beNat ((e.body.drop 4).take 48) = idHash Config.identityCert →
      t.rd .fltState 0 = fltMember ∧ t.rd .fltMember 0 = (fieldAt e.body 0 2 % 2 ^ 14) ∧ t.rd .fltMembervalid 0 = 1)
      ∧ (beNat ((e.body.drop 4).take 48) ≠ idHash Config.identityCert → t.rd .fltState 0 = s.rd .fltState 0 ∧ t.rd .fltMember 0 = s.rd .fltMember 0))
  ∧ (∀ (s : State) (e : LedgerEntry) (x : Member), s.nextCommitted e 5 = true → s.member (fieldAt e.body 0 2 % 2 ^ 14) = some x → ∃ t,
      exec (.ledgerLeave e) s = .next t ∧ entryTaken s t e ∧ t.member (fieldAt e.body 0 2 % 2 ^ 14) = some { x with state := 5 } ∧ (∀ m,
      m ≠ (fieldAt e.body 0 2 % 2 ^ 14) → t.member m = s.member m) ∧ (s.namesMe (fieldAt e.body 0 2 % 2 ^ 14) = true → t.rd .fltState 0 = 0
      ∧ t.rd .fltMembervalid 0 = 0) ∧ (s.namesMe (fieldAt e.body 0 2 % 2 ^ 14) = false → t.rd .fltState 0 = s.rd .fltState 0
      ∧ t.rd .fltMembervalid 0 = s.rd .fltMembervalid 0))
  ∧ (∀ (s : State) (e : LedgerEntry) (x : Member), s.nextCommitted e 6 = true → s.member (fieldAt e.body 0 2 % 2 ^ 14) = some x →
      s.namesMe (fieldAt e.body 0 2 % 2 ^ 14) = false → ∃ t, exec (.ledgerFence e) s = .next t ∧ entryTaken s t e
      ∧ t.member (fieldAt e.body 0 2 % 2 ^ 14) = some { x with state := 5 } ∧ (∀ m, m ≠ (fieldAt e.body 0 2 % 2 ^ 14) → t.member m = s.member m)
      ∧ t.rd .fltState 0 = s.rd .fltState 0 ∧ t.flt.recovery = (if s.runMember (fieldAt e.body 0 2 % 2 ^ 14) then some ((fieldAt e.body 0 2 % 2 ^ 14),
      false, s.now) else s.flt.recovery) ∧ (s.runMember (fieldAt e.body 0 2 % 2 ^ 14) = true → s.isWorker = true → s.isMember = true →
      t.rd .fhState 0 = 3 ∧ t.fh.rewinding = true))
  ∧ (∀ (s : State) (e : LedgerEntry), s.nextCommitted e 6 = true → s.namesMe (fieldAt e.body 0 2 % 2 ^ 14) = true → s.pow.warmWaits = none → ∃ t,
      exec (.ledgerFence e) s = .next t ∧ entryTaken s t e ∧ t.rd .fltState 0 = 5 ∧ t.rd .fltMembervalid 0 = 0 ∧ t.rd .fltIslead 0 = 0
      ∧ t.rd .fltIssteward 0 = 0 ∧ t.rd .fltGroundreason 0 = Status.fltFenced.code)
  ∧ (∀ (s : State) (e : LedgerEntry), s.nextCommitted e 7 = true → ∃ t, exec (.ledgerAccept e) s = .next t ∧ entryTaken s t e
      ∧ t.flt.accepted = bodyHashes e.body 16 (fieldAt e.body 0 1) ∧ t.flt.members = s.flt.members)
  ∧ (∀ (s : State) (e : LedgerEntry), s.nextCommitted e 8 = true → ∃ t, exec (.ledgerStewards e) s = .next t ∧ entryTaken s t e
      ∧ t.flt.stewards = (List.range (fieldAt e.body 0 1)).map (fun i => fieldAt e.body (2 + 2 * i) 2 % 2 ^ 14)
      ∧ t.rd .fltStewards 0 = fieldAt e.body 0 1 % 2 ^ 3 ∧ t.rd .fltIssteward 0 = b2n (s.flag .fltMembervalid 0 && t.flt.stewards.contains s.me))
  ∧ (∀ (s : State) (e : LedgerEntry), s.nextCommitted e 9 = true → ∃ t, exec (.ledgerBarrier e) s = .next t ∧ entryTaken s t e
      ∧ t.flt.barrier = e.epoch ∧ t.flt.recovery = none ∧ t.flt.members = s.flt.members
      ∧ t.rd .fhState 0 = (if s.rd .fhState 0 = 5 then 1 else s.rd .fhState 0))
  ∧ (∀ (s : State) (e : LedgerEntry), s.nextCommitted e 10 = true → fieldAt e.body 0 1 = 1 → ∃ t, exec (.secureSchedule e) s = .next t
      ∧ entryTaken s t e ∧ t.rd .fhInterval 0 = fieldAt e.body 1 1 % 2 ^ 7 ∧ t.rd .fhKflight 0 = fieldAt e.body 2 1 % 2 ^ 7
      ∧ t.rd .fhBase 0 = fieldAt e.body 8 8 % 2 ^ 64)
  ∧ (∀ (s : State) (e : LedgerEntry), s.nextCommitted e 10 = true → fieldAt e.body 0 1 = 2 → s.flt.recovery = none → ∃ t,
      exec (.securePoint e) s = .next t ∧ entryTaken s t e ∧ t.rd .fhPoint 0 = fieldAt e.body 8 8 % 2 ^ 64
      ∧ t.rd .fhPrevpoint 0 = (if s.rd .fhSecures 0 = 0 then 2 ^ 64 - 1 else s.rd .fhPoint 0 % 2 ^ 64)
      ∧ t.rd .fhSecures 0 = (s.rd .fhSecures 0 + 1) % 2 ^ 32 ∧ t.flt.holders = s.flt.pairs
      ∧ t.flt.dones = s.flt.dones.filter (fun d => fieldAt e.body 8 8 < d.2))
  ∧ (∀ (s : State) (e : LedgerEntry), s.nextCommitted e 10 = true → fieldAt e.body 0 1 = 2 → s.flt.recovery.isSome = true → ∃ t,
      exec (.securePoint e) s = .next t ∧ entryTaken s t e ∧ t.rd .fhPoint 0 = s.rd .fhPoint 0 ∧ t.rd .fhPrevpoint 0 = s.rd .fhPrevpoint 0
      ∧ t.rd .fhSecures 0 = s.rd .fhSecures 0 ∧ t.flt.holders = s.flt.holders)
  ∧ (∀ (s : State) (e : LedgerEntry) (m : Nat) (ps : List Nat), s.nextCommitted e 10 = true → fieldAt e.body 0 1 = 3 →
      m = fieldAt e.body 2 2 % 2 ^ 14 → ps = (optMember (fieldAt e.body 4 2)).toList ++ (optMember (fieldAt e.body 6 2)).toList → ∃ t,
      exec (.securePair e) s = .next t ∧ entryTaken s t e ∧ t.flt.pairs = s.flt.pairs.filter (fun p => p.1 ≠ m) ++ ps.map (fun p => (m, p))
      ∧ t.flt.holders = (match optMember (fieldAt e.body 10 2) with | none => s.flt.holders | some p => s.flt.holders.filter (· ≠ (m, p)))
      ∧ (s.flag .fltMembervalid 0 = true → m = s.me → t.rd .fhPartnera 0 = fieldAt e.body 4 2 % 2 ^ 14
      ∧ t.rd .fhPartnerav 0 = fieldAt e.body 4 2 / 2 ^ 14 % 2 ∧ t.rd .fhPartnerb 0 = fieldAt e.body 6 2 % 2 ^ 14
      ∧ t.rd .fhPartnerbv 0 = fieldAt e.body 6 2 / 2 ^ 14 % 2 ∧ t.rd .fhExposed 0 = fieldAt e.body 8 1 % 2))
  ∧ (∀ (s : State) (e : LedgerEntry), s.nextCommitted e 11 = true → s.isMember = true → rpHeir e.body = some s.me → rpLost e.body ≠ s.me →
      rpMirror e.body = none → rpReason e.body ≠ Status.unhiddenLoss.code % 256 → rpPoint e.body ≠ noPoint → ∃ t, exec (.ledgerReplan e) s = .next t
      ∧ entryTaken s t e ∧ t.rd .fhState 0 = 4 ∧ t.fh.replan = some (rpPoint e.body, rpLost e.body, true) ∧ t.rd .fhPoint 0 = rpPoint e.body % 2 ^ 64
      ∧ t.rd .fhPrevpoint 0 = (if rpPoint e.body = s.rd .fhPoint 0 then s.rd .fhPrevpoint 0 else 2 ^ 64 - 1) ∧ t.flt.heir = some s.me)
  ∧ (∀ (s : State) (e : LedgerEntry), s.nextCommitted e 11 = true → s.isMember = true → s.isWorker = true →
      rpHeir e.body ≠ some s.me ∨ rpLost e.body = s.me → rpMirror e.body = none → rpReason e.body ≠ Status.unhiddenLoss.code % 256 →
      rpPoint e.body ≠ noPoint → ∃ t, exec (.ledgerReplan e) s = .next t ∧ entryTaken s t e ∧ t.rd .fhState 0 = 4
      ∧ t.fh.replan = some (rpPoint e.body, rpLost e.body, false) ∧ t.fh.rewinding = true ∧ t.rd .fhPoint 0 = rpPoint e.body % 2 ^ 64)
  ∧ (∀ (s : State) (e : LedgerEntry), s.nextCommitted e 11 = true → rpHeir e.body = some (rpLost e.body) → rpMirror e.body = none →
      rpReason e.body ≠ Status.unhiddenLoss.code % 256 → rpPoint e.body = noPoint → ∃ t, exec (.ledgerReplan e) s = .next t ∧ entryTaken s t e
      ∧ t.flt.recovery = some (rpLost e.body, true, s.now) ∧ (s.isWorker = true → s.isMember = true → t.rd .fhState 0 = 3 ∧ t.fh.rewinding = true))
  ∧ (∀ (s : State) (e : LedgerEntry), s.nextCommitted e 11 = true → rpMirror e.body = none → rpReason e.body = Status.unhiddenLoss.code % 256 → ∃ t,
      exec (.ledgerReplan e) s = .next t ∧ entryTaken s t e ∧ t.flt.recovery = none ∧ (s.isMember = true → s.flag .fhArm 0 = true →
      t.rd .fhState 0 = 6))
  ∧ (∀ (s : State) (e : LedgerEntry), s.nextCommitted e 12 = true → ∃ t, exec (.ledgerLead e) s = .next t ∧ entryTaken s t e
      ∧ t.rd .fltTerm 0 = max (s.rd .fltTerm 0) e.term % 2 ^ 32 ∧ t.rd .fltLead 0 = (fieldAt e.body 0 2 % 2 ^ 14) ∧ t.rd .fltLeadvalid 0 = 1
      ∧ t.rd .fltIslead 0 = (if (fieldAt e.body 0 2 % 2 ^ 14) = s.me ∧ s.flag .fltMembervalid 0 then s.rd .fltIslead 0 else 0))
  ∧ (∀ (s : State) (e : LedgerEntry) (i : Instr) (k sub : Nat), (i, k,
      sub) ∈ [(Instr.ledgerFound e, 1, 0), (Instr.ledgerPermit e, 2, 0), (Instr.ledgerRevoke e, 3, 0), (Instr.ledgerAdmit e, 4, 0), (Instr.ledgerLeave e, 5, 0), (Instr.ledgerFence e, 6, 0), (Instr.ledgerAccept e, 7, 0), (Instr.ledgerStewards e, 8, 0), (Instr.ledgerBarrier e, 9, 0), (Instr.secureSchedule e, 10, 1), (Instr.securePoint e, 10, 2), (Instr.securePair e, 10, 3), (Instr.ledgerReplan e, 11, 0), (Instr.ledgerLead e, 12, 0)] →
      e.kind ≠ k ∨ (k = 10 ∧ fieldAt e.body 0 1 ≠ sub) → ∃ t, exec i s = .next t ∧ t = s)
  ∧ (∀ (s : State) (e : LedgerEntry) (i : Instr) (k sub : Nat), (i, k,
      sub) ∈ [(Instr.ledgerFound e, 1, 0), (Instr.ledgerPermit e, 2, 0), (Instr.ledgerRevoke e, 3, 0), (Instr.ledgerAdmit e, 4, 0), (Instr.ledgerLeave e, 5, 0), (Instr.ledgerFence e, 6, 0), (Instr.ledgerAccept e, 7, 0), (Instr.ledgerStewards e, 8, 0), (Instr.ledgerBarrier e, 9, 0), (Instr.secureSchedule e, 10, 1), (Instr.securePoint e, 10, 2), (Instr.securePair e, 10, 3), (Instr.ledgerReplan e, 11, 0), (Instr.ledgerLead e, 12, 0)] →
      s.inLedger = false ∨ e.epoch ≤ s.rd .fltEpoch 0 → ∃ t, exec i s = .next t ∧ t = s)
  ∧ (∀ (s : State) (e : LedgerEntry) (i : Instr) (k sub : Nat), (i, k,
      sub) ∈ [(Instr.ledgerFound e, 1, 0), (Instr.ledgerPermit e, 2, 0), (Instr.ledgerRevoke e, 3, 0), (Instr.ledgerAdmit e, 4, 0), (Instr.ledgerLeave e, 5, 0), (Instr.ledgerFence e, 6, 0), (Instr.ledgerAccept e, 7, 0), (Instr.ledgerStewards e, 8, 0), (Instr.ledgerBarrier e, 9, 0), (Instr.secureSchedule e, 10, 1), (Instr.securePoint e, 10, 2), (Instr.securePair e, 10, 3), (Instr.ledgerReplan e, 11, 0), (Instr.ledgerLead e, 12, 0)] →
      e.kind = k → (k = 10 → fieldAt e.body 0 1 = sub) → s.inLedger = true → s.rd .fltEpoch 0 + 1 < e.epoch → s.flt.held.length < 64 → ∃ t,
      exec i s = .next t
      ∧ t = ({ s with flt := { s.flt with held := (if s.flt.held.any (fun x => x.epoch = e.epoch) then s.flt.held else s.flt.held ++ [e]), gapAt := s.flt.gapAt.or (some s.now) } } : State).wr .fltCommitted 0 (max (s.rd .fltCommitted 0) e.epoch))
  ∧ (∀ (s : State) (e : LedgerEntry) (i : Instr) (k sub : Nat), (i, k,
      sub) ∈ [(Instr.ledgerFound e, 1, 0), (Instr.ledgerPermit e, 2, 0), (Instr.ledgerRevoke e, 3, 0), (Instr.ledgerAdmit e, 4, 0), (Instr.ledgerLeave e, 5, 0), (Instr.ledgerFence e, 6, 0), (Instr.ledgerAccept e, 7, 0), (Instr.ledgerStewards e, 8, 0), (Instr.ledgerBarrier e, 9, 0), (Instr.secureSchedule e, 10, 1), (Instr.securePoint e, 10, 2), (Instr.securePair e, 10, 3), (Instr.ledgerReplan e, 11, 0), (Instr.ledgerLead e, 12, 0)] →
      e.kind = k → (k = 10 → fieldAt e.body 0 1 = sub) → s.inLedger = true → s.rd .fltEpoch 0 + 1 < e.epoch → 64 ≤ s.flt.held.length →
      s.flt.held.any (fun x => x.epoch = e.epoch) = false → ∃ t, exec i s = .next t
      ∧ t = (({ s with flt := { s.flt with gapAt := s.flt.gapAt.or (some s.now) } } : State).wr .fltCommitted 0 (max (s.rd .fltCommitted 0) e.epoch)).requestEpochs)

/-- Messages go as LEDGER frames to a member, or across one span to a module that is none (their payload is log entry 44). The lead stores a proposal
that it accepts under the next epoch and its term and sends it to the other stewards; it refuses one that R321 lets it refuse, drops a FENCE of a
module that is no member, and makes a schedule of a SETK; with none given it takes the oldest one of its inbox, and a module that does not lead
passes its oldest one on. A steward stores an entry of its term or a later one and acknowledges it; the lead keeps an acknowledgement of its term,
and applies the next entry once a majority stores it. After a gap of 5 ms the missing epochs are asked for from the parent, or across the first
span to a member; a later snapshot takes the place of what is applied. The lead's timer sends a keep-alive to each other steward; a keep-alive
names the lead of its term, and one of a lead behind this module fences it. A steward stands after its timeout, and with a majority it leads and
stores its LEAD entry; a vote is granted to a candidate of a later term that has stored no less. FLT_NO_QUORUM is raised once after 100 ms. A
BARRIER answer from ahead proposes a FENCE. The lead answers a hail with ADMIT or GROUND; a GROUND reply for this CANDIDATE grounds it, another's
is passed on; a GROUNDED module with a flight region asks again as CANDIDATE, one without takes FLT_UNCONFIGURED as its reason (log entry 120).
Where these conditions do not hold, the commands leave the state as it is. -/
def Obligations.LedgerAgreementComplete : Prop :=
  (∀ (s : State) (p : Proposal), s.flag .fltIslead 0 = true → s.proposalRefused p.kind p.body = false → p.kind ≠ 6 ∧ p.kind ≠ 10 → s.flt.stored = []
      ∧ s.flt.acks = [] → 2 * (s.flt.stewards.filter (fun m => m = s.me)).length ≤ s.flt.stewards.length → ∃ t,
      exec (.ledgerProposal (some (p.proposer, p.kind, p.body))) s = .next t
      ∧ t = (s.flt.stewards.filter (· ≠ s.me)).foldl (fun s' m => s'.ledgerTo m (.store ⟨s.rd .fltEpoch 0 + 1, s.rd .fltTerm 0, p.kind, p.proposer, p.body⟩)) ({ s with flt := { s.flt with stored := [⟨s.rd .fltEpoch 0 + 1, s.rd .fltTerm 0, p.kind, p.proposer, p.body⟩], lastTerm := s.rd .fltTerm 0, acks := (if s.flt.stewards.contains s.me then [(s.rd .fltEpoch 0 + 1, s.me)] else []) } } : State))
  ∧ (∀ (s : State) (p : Proposal), s.flag .fltIslead 0 = true → s.proposalRefused p.kind p.body = false → (p.kind = 6 →
      s.memberIds.contains (fieldAt p.body 0 2 % 2 ^ 14) = true) → ¬(p.kind = 10 ∧ fieldAt p.body 0 1 = 1 ∧ fieldAt p.body 1 1 = 0) → ∃ t,
      exec (.ledgerProposal (some (p.proposer, p.kind, p.body))) s = .next t ∧ t = s.leadAppend p.kind p.proposer p.body)
  ∧ (∀ (s : State) (p : Proposal), s.flag .fltIslead 0 = true → s.proposalRefused p.kind p.body = true → ∃ t, exec (.ledgerProposal (some (p.proposer,
      p.kind, p.body))) s = .next t ∧ t = s.ledgerTo p.proposer (.refused p.kind))
  ∧ (∀ (s : State) (p : Proposal), s.flag .fltIslead 0 = true → p.kind = 6 → s.memberIds.contains (fieldAt p.body 0 2 % 2 ^ 14) = false → ∃ t,
      exec (.ledgerProposal (some (p.proposer, p.kind, p.body))) s = .next t ∧ t = s)
  ∧ (∀ (s : State) (p : Proposal), s.flag .fltIslead 0 = true → p.kind = 10 ∧ fieldAt p.body 0 1 = 1 ∧ fieldAt p.body 1 1 = 0 → ∃ t,
      exec (.ledgerProposal (some (p.proposer, p.kind, p.body))) s = .next t ∧ t = s.reschedule (fieldAt p.body 2 1) false)
  ∧ (∀ (s : State) (p : Proposal), s.flag .fltIslead 0 = false → ∃ t, exec (.ledgerProposal (some (p.proposer, p.kind, p.body))) s = .next t ∧ t = s)
  ∧ (∀ (s : State) (q : Proposal) (l : List Proposal), s.flag .fltIslead 0 = true → s.flt.inbox = q :: l → s.proposalRefused q.kind q.body = true →
      ∃ t, exec (.ledgerProposal none) s = .next t ∧ t = ({ s with flt := { s.flt with inbox := l } } : State).ledgerTo q.proposer (.refused q.kind))
  ∧ (∀ (s : State) (q : Proposal) (l : List Proposal), s.flag .fltIslead 0 = true → s.flt.inbox = q :: l → s.proposalRefused q.kind q.body = false →
      q.kind ≠ 6 ∧ q.kind ≠ 10 → ∃ t, exec (.ledgerProposal none) s = .next t
      ∧ t = ({ s with flt := { s.flt with inbox := l } } : State).leadAppend q.kind q.proposer q.body)
  ∧ (∀ (s : State) (q : Proposal) (l : List Proposal), s.flag .fltIslead 0 = false → s.flt.inbox = q :: l → ∃ t,
      exec (.ledgerProposal none) s = .next t
      ∧ t = ({ s with flt := { s.flt with inbox := l } } : State).ledgerTo (s.rd .fltLead 0) (.proposal q.kind q.body))
  ∧ (∀ (s : State), s.flt.inbox = [] → ∃ t, exec (.ledgerProposal none) s = .next t ∧ t = s)
  ∧ (∀ (s : State) (lead : Nat) (e : LedgerEntry), s.flag .fltIssteward 0 = true → s.rd .fltTerm 0 ≤ e.term → s.rd .fltEpoch 0 < e.epoch → ∃ t,
      exec (.ledgerStore lead e) s = .next t
      ∧ t = ({ (if lead = s.me then (((s.wr .fltTerm 0 e.term).wr .fltLead 0 lead).wr .fltLeadvalid 0 1) else (((s.wr .fltTerm 0 e.term).wr .fltLead 0 lead).wr .fltLeadvalid 0 1).wr .fltIslead 0 0) with flt := { s.flt with stored := s.flt.stored.filter (fun x => x.epoch ≠ e.epoch && !(e.epoch < x.epoch && x.term < e.term)) ++ [e], lastTerm := e.term, heard := s.now, standing := none } } : State).ledgerTo lead (.stored e.epoch e.term))
  ∧ (∀ (s : State) (lead : Nat) (e : LedgerEntry), s.flag .fltIssteward 0 = false ∨ e.term < s.rd .fltTerm 0 ∨ e.epoch ≤ s.rd .fltEpoch 0 → ∃ t,
      exec (.ledgerStore lead e) s = .next t ∧ t = s)
  ∧ (∀ (s : State) (m : Nat) (e : LedgerEntry), s.flag .fltIslead 0 = true → s.flt.stored = [e] → e.epoch = s.rd .fltEpoch 0 + 1
      ∧ e.term = s.rd .fltTerm 0 → s.flt.acks.contains (e.epoch, m) = false →
      s.majority (((s.flt.acks ++ [(e.epoch, m)]).filter (fun a => a.1 = e.epoch)).map (·.2)) = true → ∃ t,
      exec (.ledgerStoreAck m e.epoch e.term) s = .next t
      ∧ t = ({ s with flt := { s.flt with acks := s.flt.acks ++ [(e.epoch, m)] } } : State).applyEntry e)
  ∧ (∀ (s : State) (m epoch : Nat), s.flag .fltIslead 0 = true → s.flt.acks.contains (epoch, m) = false →
      s.flt.stored.any (fun x => s.rd .fltEpoch 0 < x.epoch && x.term = s.rd .fltTerm 0 && s.majority (((s.flt.acks ++ [(epoch, m)]).filter (fun a => a.1 = x.epoch)).map (·.2))) = false →
      ∃ t, exec (.ledgerStoreAck m epoch (s.rd .fltTerm 0)) s = .next t
      ∧ t = ({ s with flt := { s.flt with acks := s.flt.acks ++ [(epoch, m)] } } : State))
  ∧ (∀ (s : State) (m epoch term : Nat), s.flag .fltIslead 0 = false ∨ term ≠ s.rd .fltTerm 0 ∨ s.flt.acks.contains (epoch, m) = true → ∃ t,
      exec (.ledgerStoreAck m epoch term) s = .next t ∧ t = s)
  ∧ (∀ (s : State) (at_ m : Nat), s.flt.gapAt = some at_ → at_ + 5000000 ≤ s.now → s.parent = some m → ∃ t, exec (.ledgerGapTimeout) s = .next t
      ∧ t = ({ s.bump .fltCatchups 0 1 with flt := { s.flt with gapAt := some s.now } } : State).ledgerTo m (.request (s.rd .fltEpoch 0 + 1)))
  ∧ (∀ (s : State) (at_ n : Nat), s.flt.gapAt = some at_ → at_ + 5000000 ≤ s.now → s.parent = none →
      (List.range 32).find? (fun n => s.rd .spnState n = spUp && s.rd .spnPeerstate n = fltMember) = some n → ∃ t,
      exec (.ledgerGapTimeout) s = .next t
      ∧ t = ({ s.bump .fltCatchups 0 1 with flt := { s.flt with gapAt := some s.now } } : State).ledgerAcross n (.request (s.rd .fltEpoch 0 + 1)))
  ∧ (∀ (s : State) (at_ : Nat), s.flt.gapAt = some at_ → at_ + 5000000 ≤ s.now → s.parent = none →
      (List.range 32).find? (fun n => s.rd .spnState n = spUp && s.rd .spnPeerstate n = fltMember) = none → ∃ t, exec (.ledgerGapTimeout) s = .next t
      ∧ t = ({ s.bump .fltCatchups 0 1 with flt := { s.flt with gapAt := some s.now } } : State))
  ∧ (∀ (s : State), (∀ a ∈ s.flt.gapAt, s.now < a + 5000000) → ∃ t, exec (.ledgerGapTimeout) s = .next t ∧ t = s)
  ∧ (∀ (s : State) (epoch : Nat) (ms : List (Nat × Nat × Nat × Nat × Nat × Nat)) (acc st : List Nat), s.inLedger = true → s.rd .fltEpoch 0 < epoch
      ∧ epoch < 2 ^ 64 → s.flt.held = [] → ∃ t, exec (.ledgerSnapshot epoch ms acc st) s = .next t ∧ t.rd .fltEpoch 0 = epoch
      ∧ t.rd .fltCommitted 0 = max (s.rd .fltCommitted 0) epoch % 2 ^ 64 ∧ t.flt.accepted = acc ∧ t.flt.stewards = st
      ∧ t.rd .fltStewards 0 = st.length % 2 ^ 3
      ∧ t.flt.members = ms.foldl (fun m x => sput none m x.1 (some ⟨x.2.1, x.2.2.1, x.2.2.2.1, x.2.2.2.2.1, x.2.2.2.2.2⟩)) []
      ∧ t.flt.stored = s.flt.stored.filter (fun e => epoch < e.epoch) ∧ (s.rd .fltState 0 ≠ 1 → t.rd .fltState 0 = s.rd .fltState 0)
      ∧ t = { s with regs := t.regs, flt := t.flt })
  ∧ (∀ (s : State) (epoch : Nat) (ms : List (Nat × Nat × Nat × Nat × Nat × Nat)) (acc st : List Nat), s.inLedger = false ∨ epoch ≤ s.rd .fltEpoch 0 →
      ∃ t, exec (.ledgerSnapshot epoch ms acc st) s = .next t ∧ t = s)
  ∧ (∀ (s : State), s.flag .fltIslead 0 = true → ∃ t, exec (.leadKeepalive none) s = .next t
      ∧ t = (s.flt.stewards.filter (· ≠ s.me)).foldl (fun s' m => s'.ledgerTo m (.keepAlive (s.rd .fltTerm 0) (s.rd .fltCommitted 0))) ({ s with flt := { s.flt with heard := s.now, quorumTold := false } } : State))
  ∧ (∀ (s : State), s.flag .fltIslead 0 = false → ∃ t, exec (.leadKeepalive none) s = .next t ∧ t = s)
  ∧ (∀ (s : State) (m term c : Nat), s.inLedger = true → s.rd .fltTerm 0 ≤ term → s.rd .fltEpoch 0 ≤ c → ∃ t, exec (.leadKeepalive (some (m, term,
      c))) s = .next t
      ∧ t = { (if m = s.me then (((s.wr .fltTerm 0 term).wr .fltLead 0 m).wr .fltLeadvalid 0 1) else (((s.wr .fltTerm 0 term).wr .fltLead 0 m).wr .fltLeadvalid 0 1).wr .fltIslead 0 0).wr .fltCommitted 0 (max (s.rd .fltCommitted 0) c) with flt := { s.flt with heard := s.now, quorumTold := false, standing := none, gapAt := (if s.rd .fltEpoch 0 < c then s.flt.gapAt.or (some s.now) else s.flt.gapAt) } })
  ∧ (∀ (s : State) (m term c : Nat), s.inLedger = true → s.rd .fltTerm 0 ≤ term → c < s.rd .fltEpoch 0 → s.pow.warmWaits = none → ∃ t,
      exec (.leadKeepalive (some (m, term, c))) s = .next t ∧ t.rd .fltState 0 = 5 ∧ t.rd .fltMembervalid 0 = 0
      ∧ t.rd .fltGroundreason 0 = Status.fltFenced.code ∧ t.rd .fltTerm 0 = term % 2 ^ 32 ∧ t = { s with regs := t.regs, flt := t.flt })
  ∧ (∀ (s : State) (m term c : Nat), s.inLedger = false ∨ term < s.rd .fltTerm 0 → ∃ t, exec (.leadKeepalive (some (m, term, c))) s = .next t ∧ t = s)
  ∧ (∀ (s : State), s.flag .fltIssteward 0 = true → s.flag .fltIslead 0 = false → s.flt.heard + 10000000 + s.me % 8 * 1250000 ≤ s.now →
      2 * (s.flt.stewards.filter (fun m => m = s.me)).length ≤ s.flt.stewards.length → ∃ t, exec (.electionTimeout) s = .next t
      ∧ t.rd .fltTerm 0 = (s.rd .fltTerm 0 + 1) % 2 ^ 32 ∧ t.rd .fltElections 0 = (s.rd .fltElections 0 + 1) % 2 ^ 32 ∧ t.rd .fltLeadvalid 0 = 0
      ∧ t.rd .fltIslead 0 = 0
      ∧ t.flt = { s.flt with standing := some (s.rd .fltTerm 0 + 1), votedTerm := (s.rd .fltTerm 0 + 1), votes := [s.me], heard := s.now }
      ∧ t = { ((s.flt.stewards.filter (· ≠ s.me)).foldl (fun s' m => s'.ledgerTo m (.voteRequest (s.rd .fltTerm 0 + 1) s.flt.lastTerm s.lastEpoch)) ({ ((((s.wr .fltTerm 0 (s.rd .fltTerm 0 + 1)).bump .fltElections 0 1).wr .fltLeadvalid 0 0).wr .fltIslead 0 0) with flt := { s.flt with votes := [], standing := some (s.rd .fltTerm 0 + 1), votedTerm := (s.rd .fltTerm 0 + 1), heard := s.now } } : State)) with flt := t.flt })
  ∧ (∀ (s : State), s.isMember = true → s.flag .fltMembervalid 0 = true → s.flag .fltIssteward 0 = true → s.flag .fltIslead 0 = false →
      s.flt.heard + 10000000 + s.me % 8 * 1250000 ≤ s.now → s.flt.stewards = [s.me] → s.flt.stored = [] → s.rd .fltEpoch 0 + 1 < 2 ^ 64
      ∧ (s.rd .fltTerm 0 + 1) < 2 ^ 32 → ∃ t, exec (.electionTimeout) s = .next t ∧ t.rd .fltTerm 0 = (s.rd .fltTerm 0 + 1) ∧ t.rd .fltIslead 0 = 1
      ∧ t.rd .fltLead 0 = s.me ∧ t.rd .fltLeadvalid 0 = 1 ∧ t.rd .fltEpoch 0 = s.rd .fltEpoch 0 + 1)
  ∧ (∀ (s : State), s.flag .fltIssteward 0 = false ∨ s.flag .fltIslead 0 = true ∨ s.now < s.flt.heard + 10000000 + s.me % 8 * 1250000 → ∃ t,
      exec (.electionTimeout) s = .next t ∧ t = s)
  ∧ (∀ (s : State) (m term lt le : Nat), s.flag .fltIssteward 0 = true → s.flt.votedTerm < term → s.rd .fltTerm 0 ≤ term →
      s.flt.lastTerm < lt ∨ (s.flt.lastTerm = lt ∧ s.lastEpoch ≤ le) → ∃ t, exec (.voteRequest m term lt le) s = .next t
      ∧ t = ({ (if s.rd .fltTerm 0 < term then ((s.wr .fltTerm 0 term).wr .fltIslead 0 0).wr .fltLeadvalid 0 0 else s) with flt := { s.flt with votedTerm := term, standing := none, heard := s.now } } : State).ledgerTo m (.voteGrant term))
  ∧ (∀ (s : State) (m term lt le : Nat), s.flag .fltIssteward 0 = true → s.flt.votedTerm < term → s.rd .fltTerm 0 ≤ term →
      ¬(s.flt.lastTerm < lt ∨ (s.flt.lastTerm = lt ∧ s.lastEpoch ≤ le)) → ∃ t, exec (.voteRequest m term lt le) s = .next t
      ∧ t = (if s.rd .fltTerm 0 < term then ((s.wr .fltTerm 0 term).wr .fltIslead 0 0).wr .fltLeadvalid 0 0 else s))
  ∧ (∀ (s : State) (m term lt le : Nat), s.flag .fltIssteward 0 = false ∨ term ≤ s.flt.votedTerm ∨ term < s.rd .fltTerm 0 → ∃ t,
      exec (.voteRequest m term lt le) s = .next t ∧ t = s)
  ∧ (∀ (s : State) (m term : Nat), s.flt.standing = some term → s.flt.votes.contains m = false → s.majority (s.flt.votes ++ [m]) = false → ∃ t,
      exec (.voteGrant m term) s = .next t ∧ t = { s with flt := { s.flt with votes := s.flt.votes ++ [m] } })
  ∧ (∀ (s : State) (m term : Nat), s.flt.standing = some term → s.flt.votes.contains m = false → s.majority (s.flt.votes ++ [m]) = true →
      s.flt.stored = [] → 2 * (s.flt.stewards.filter (fun m => m = s.me)).length ≤ s.flt.stewards.length → ∃ t, exec (.voteGrant m term) s = .next t
      ∧ t.rd .fltIslead 0 = 1 ∧ t.rd .fltLead 0 = s.me ∧ t.rd .fltLeadvalid 0 = 1 ∧ t.flt.standing = none
      ∧ t.flt.stored = [⟨s.rd .fltEpoch 0 + 1, s.rd .fltTerm 0, 12, s.me, leBytes 2 s.me⟩])
  ∧ (∀ (s : State) (m term : Nat), s.flt.standing ≠ some term ∨ s.flt.votes.contains m = true → ∃ t, exec (.voteGrant m term) s = .next t ∧ t = s)
  ∧ (∀ (s : State), s.isMember = true → s.flt.quorumTold = false → s.flt.heard + 100000000 ≤ s.now → ∃ t, exec (.fltNoQuorum) s = .next t
      ∧ t = ({ s with flt := { s.flt with quorumTold := true } } : State).raise0 flightPage .fltNoQuorum (s.rd .fltEpoch 0) 0
      ∧ eventAt t flightPage .fltNoQuorum)
  ∧ (∀ (s : State), s.isMember = false ∨ s.flt.quorumTold = true ∨ s.now < s.flt.heard + 100000000 → ∃ t, exec (.fltNoQuorum) s = .next t ∧ t = s)
  ∧ (∀ (s : State) (m epoch : Nat), s.flag .fltIslead 0 = true → s.flt.barrier < epoch → ∃ t, exec (.barrierAnswer m epoch) s = .next t
      ∧ t = { s with flt := { s.flt with inbox := s.flt.inbox ++ [⟨s.me, 6, fenceBody m Status.fltAhead.code⟩] } })
  ∧ (∀ (s : State) (m epoch : Nat), s.flag .fltIslead 0 = false ∨ epoch ≤ s.flt.barrier → ∃ t, exec (.barrierAnswer m epoch) s = .next t ∧ t = s)
  ∧ (∀ (s : State) (via : Nat) (h : List Byte), s.flag .fltIslead 0 = true → s.admissionCheck h = .ok → ∃ t,
      exec (.admissionRequest via h) s = .next t
      ∧ t = s.leadAppend 4 s.me (leBytes 2 (s.admitId h) ++ leBytes 2 (hlTag h) ++ beBytes 48 (hlIdhash h) ++ beBytes 48 (hlMfst h)))
  ∧ (∀ (s : State) (via : Nat) (h : List Byte), s.flag .fltIslead 0 = true → s.admissionCheck h ≠ .ok → ∃ t,
      exec (.admissionRequest via h) s = .next t ∧ t = s.ledgerTo via (.ground (hlIdhash h) (s.admissionCheck h).code))
  ∧ (∀ (s : State) (via : Nat) (h : List Byte), s.flag .fltIslead 0 = false → ∃ t, exec (.admissionRequest via h) s = .next t ∧ t = s)
  ∧ (∀ (s : State) (id status : Nat), ∃ t, exec (.groundReply id status) s = .next t ∧ (id = idHash Config.identityCert →
      t = (if s.rd .fltState 0 = 1 then (s.wr .fltState 0 2).wr .fltGroundreason 0 status else s)) ∧ (id ≠ idHash Config.identityCert →
      t = ((List.range 32).filter (fun n => s.rd .spnState n = spUp && hlIdhash (s.link n).peerHail = id)).foldl (fun s' n => s'.ledgerAcross n (.ground id status)) s))
  ∧ (∀ (s : State), s.rd .fltState 0 = 2 → s.rd .fltRegion 0 ≠ 0 → ∃ t, exec (.admissionRetry) s = .next t ∧ t = s.wr .fltState 0 1)
  ∧ (∀ (s : State), s.rd .fltState 0 = 2 → s.rd .fltRegion 0 = 0 → ∃ t, exec (.admissionRetry) s = .next t
      ∧ t = s.wr .fltGroundreason 0 Status.fltUnconfigured.code)
  ∧ (∀ (s : State), s.rd .fltState 0 ≠ 2 → ∃ t, exec (.admissionRetry) s = .next t ∧ t = s)

/-- HEALTH_EVALUATE records what was measured and each input's level, rises to the level that they give at once, and falls by one after 10 s without
the current level; it is 7 where FH_LEVELMIN is 7. The lead keeps a member's risk report, reschedules, and assigns partners anew where the role is
new. An UP span whose known peer has been silent for 20 ms is reported to the lead in a LEDGER frame (its payload is log entry 44). The lead's
first report of a member's silence sends a probe; 2 ms without an answer it proposes the member's FENCE. With every UP span and both tether ports
silent for 20 ms the module is isolated. Where these conditions do not hold, the commands leave the state as it is. -/
def Obligations.HealthAndSilenceComplete : Prop :=
  (∀ (s : State) (x : HealthSample) (L : List Nat) (lev cur : Nat), L = (List.range 9).map (fun i => (s.measured x).inputLevel x (i + 1)) →
      lev = (if ((((s.measured x).sixWakes L).remember L).levelSeven) then 7 else min 6 (L.foldl max 0)) → s.rd .fhLevel 0 = cur ∧ cur ≤ 7 → ∃ t,
      exec (.healthEvaluate x) s = .next t ∧ t.rd .fhThermmargin 0 = min 255 x.therm ∧ t.rd .pwrVin 0 = x.vin % 2 ^ Reg.pwrVin.info.width
      ∧ t.rd .pwrPin 0 = x.pin % 2 ^ Reg.pwrPin.info.width
      ∧ t.rd .fhInlevels 0 = ((L.zipIdx.map (fun p => p.1 * 2 ^ (3 * p.2))).foldl (· + ·) 0) % 2 ^ 27
      ∧ t.rd .fhLevel 0 = (if cur < lev then lev else if lev < cur ∧ s.health.reachedAt + 10000000000 ≤ s.now then cur - 1 else cur)
      ∧ t.rd .fhLevelchg 0 = (if cur < lev ∨ (lev < cur
      ∧ s.health.reachedAt + 10000000000 ≤ s.now) then (s.rd .fhLevelchg 0 + 1) % 2 ^ 32 else s.rd .fhLevelchg 0)
      ∧ t.health.reachedAt = (if cur ≤ lev ∨ s.health.reachedAt + 10000000000 ≤ s.now then s.now else s.health.reachedAt) ∧ (s.rd .fhLevelmin 0 = 7 →
      t.rd .fhLevel 0 = 7) ∧ t.mem = s.mem)
  ∧ (∀ (s : State) (m level runstep role : Nat) (mirror : Option Nat), s.flag .fltIslead 0 = true → s.memberIds.contains m = true → ∃ t,
      exec (.riskReport m level runstep role mirror) s = .next t
      ∧ t = (if (sget none s.flt.reports m).map (·.role) ≠ some role then (({ s with flt := { s.flt with reports := sput none s.flt.reports m (some ⟨level, runstep, role, mirror⟩) } } : State).reschedule s.kFlight false).repair else (({ s with flt := { s.flt with reports := sput none s.flt.reports m (some ⟨level, runstep, role, mirror⟩) } } : State).reschedule s.kFlight false))
      ∧ sget none t.flt.reports m = some ⟨level, runstep, role, mirror⟩ ∧ (∀ k, k ≠ m → sget none t.flt.reports k = sget none s.flt.reports k)
      ∧ t = { s with flt := { s.flt with reports := t.flt.reports, inbox := t.flt.inbox } })
  ∧ (∀ (s : State) (m level runstep role : Nat) (mirror : Option Nat), s.flag .fltIslead 0 = false ∨ s.memberIds.contains m = false → ∃ t,
      exec (.riskReport m level runstep role mirror) s = .next t ∧ t = s)
  ∧ (∀ (s : State) (n : Nat), n < 32 → s.rd .spnState n = spUp → s.flag .spnPeervalid n = true → (s.link n).lastRx + 20000000 ≤ s.now →
      s.isMember = true → s.flag .fltIslead 0 = false → ∃ t, exec (.silenceReport n) s = .next t
      ∧ t = s.ledgerTo (s.rd .fltLead 0) (.silence (s.rd .spnPeer n)))
  ∧ (∀ (s : State) (n : Nat), n < 32 → s.rd .spnState n = spUp → s.flag .spnPeervalid n = true → (s.link n).lastRx + 20000000 ≤ s.now →
      s.isMember = true → s.flag .fltIslead 0 = true → s.flt.silent.any (fun p => p.1 = s.rd .spnPeer n) = false → ∃ t,
      exec (.silenceReport n) s = .next t
      ∧ t = ({ s with flt := { s.flt with silent := s.flt.silent ++ [(s.rd .spnPeer n, s.now, true)] } } : State).ledgerTo (s.rd .spnPeer n) (.probe (s.rd .spnPeer n)))
  ∧ (∀ (s : State) (n : Nat), s.isMember = false ∨ (s.flag .fltIslead 0 = true ∧ s.flt.silent.any (fun p => p.1 = s.rd .spnPeer n) = true) → ∃ t,
      exec (.silenceReport n) s = .next t ∧ t = s)
  ∧ (∀ (s : State) (n : Nat), 32 ≤ n ∨ s.rd .spnState n ≠ spUp ∨ s.flag .spnPeervalid n = false ∨ s.now < (s.link n).lastRx + 20000000 → ∃ t,
      exec (.silenceReport n) s = .next t ∧ t = s)
  ∧ (∀ (s : State) (m : Nat), s.flag .fltIslead 0 = true → s.memberIds.contains m = true → s.flt.silent.any (fun p => p.1 = m) = false → ∃ t,
      exec (.silenceProbe m) s = .next t
      ∧ t = ({ s with flt := { s.flt with silent := s.flt.silent ++ [(m, s.now, true)] } } : State).ledgerTo m (.probe m))
  ∧ (∀ (s : State) (m : Nat), s.flag .fltIslead 0 = false ∨ s.memberIds.contains m = false ∨ s.flt.silent.any (fun p => p.1 = m) = true → ∃ t,
      exec (.silenceProbe m) s = .next t ∧ t = s)
  ∧ (∀ (s : State) (m at_ : Nat) (b : Bool), s.flt.silent.find? (fun p => p.1 = m) = some (m, at_, b) → s.flag .fltIslead 0 = true →
      at_ + 2000000 ≤ s.now → ∃ t, exec (.probeTimeout m) s = .next t
      ∧ t = { s with flt := { s.flt with silent := s.flt.silent.filter (fun p => p.1 ≠ m), inbox := s.flt.inbox ++ [⟨s.me, 6, fenceBody m Status.fhSilence.code⟩] } })
  ∧ (∀ (s : State) (m : Nat), s.flag .fltIslead 0 = false ∨ (∀ q ∈ s.flt.silent.find? (fun p => p.1 = m), s.now < q.2.1 + 2000000) → ∃ t,
      exec (.probeTimeout m) s = .next t ∧ t = s)
  ∧ (∀ (s : State), (∀ n < 32, s.rd .spnState n ≠ spUp ∨ (s.link n).lastRx + 20000000 ≤ s.now) → (∀ p < 2,
      (sget TetherPort.dark s.sec.ports p).lastRx + 20000000 ≤ s.now) → ∃ t, exec (.fhIsolated) s = .next t ∧ t = s.wr .fhIsolated 0 1)
  ∧ (∀ (s : State), (∃ n < 32, s.rd .spnState n = spUp ∧ s.now < (s.link n).lastRx + 20000000) ∨ (∃ p < 2,
      s.now < (sget TetherPort.dark s.sec.ports p).lastRx + 20000000) → ∃ t, exec (.fhIsolated) s = .next t ∧ t = s)

/-- The capture that a held STEP_CLOSE waits for is made once the previous copy has finished: with room for the image it makes the copy of the blocks
that changed, unless a read or write of it fails; too little room is FH_STAGE_FULL. A captured image goes to every partner, and DONE to the lead
when all have confirmed. The lead keeps DONE, REWOUND and REPLAY reports, and proposes the point, the REPLAN, or the end of the replay; a mismatch
makes it try the older point once. A member whose rewind is done reports once; survivors that have not within 100 ms are proposed for a FENCE. A
restore with its header and blocks supplied (log entry 60) ends in REPLAY at the restore point; an heir whose region list differs tells the lead
instead. From session 0 alone: FH_SETK proposes FH_K; FH_DECLARE_FAULT proposes this member's own FENCE, once; FH_RESUME leaves HALTED;
FH_RELEASE_WARD unmaps the lost ward's slot; each is refused where it does not apply. Where these conditions do not hold, the commands change
nothing but what the rewind's next steps change (the bodies of proposals are log entry 45). -/
def Obligations.SecuringAndRecoveryComplete : Prop :=
  (∀ (s : State) (r : Nat), s.secureDue s.armed = some r → s.fh.captured ≠ some r → s.closeHeld = true → s.fh.copying = none → ∃ t,
      exec (.secureCapture) s = .next t ∧ t.fh.captured = some r ∧ t.fh.waitSince = none ∧ t.rd .fhState 0 = 1
      ∧ (min (s.rd .fhStagesize 0) (s.rd .fhSlotsize 0) * 2 ^ 21 < imageBytes s.regions → t.fh.copying = none ∧ eventAt t hidePage .fhStageFull
      ∧ t.mem = s.mem)
      ∧ (t.fh.copying = none ∨ t.fh.copying = some ⟨r, s.targetSlot, (if s.fh.sendAll then secureBlocks s.regions else (secureBlocks s.regions).filter (fun b => sget false (s.dirty s.targetSlot) b)).filterMap (imageOffset s.regions), false, [], []⟩))
  ∧ (∀ (s : State) (r : Nat) (k : Capture), s.secureDue s.armed = some r → s.fh.captured ≠ some r → s.closeHeld = true → s.fh.copying = some k → ∃ t,
      exec (.secureCapture) s = .next t ∧ t = { s.wr .fhState 0 2 with fh := { s.fh with waitSince := s.fh.waitSince.or (some s.now) } })
  ∧ (∀ (s : State), s.secureDue s.armed = none ∨ s.fh.captured = s.secureDue s.armed ∨ s.closeHeld = false → ∃ t, exec (.secureCapture) s = .next t
      ∧ t = s)
  ∧ (∀ (s : State) (k : Capture), s.fh.copying = some k → k.begun = false → s.partners ≠ [] → ∃ t, exec (.ballastCopy) s = .next t
      ∧ t = { s.partners.foldl (fun s' m => s'.copyTo m k) s with fh := { s.fh with copying := some { k with begun := true, blocksTo := s.partners } } })
  ∧ (∀ (s : State), (∀ k ∈ s.fh.copying, k.begun = true ∨ s.partners = []) → ∃ t, exec (.ballastCopy) s = .next t ∧ t = s)
  ∧ (∀ (s : State) (k : Capture), s.fh.copying = some k → k.begun = true ∧ k.blocksTo = [] ∧ k.headTo = [] → ∃ t, exec (.ballastCopyDone) s = .next t
      ∧ t = ({ s with fh := { s.fh with copying := none, points := s.fh.points.set k.slot (some k.step) } } : State).ledgerTo (s.rd .fltLead 0) (.done k.step))
  ∧ (∀ (s : State), (∀ k ∈ s.fh.copying, ¬(k.begun = true ∧ k.blocksTo = [] ∧ k.headTo = [])) → ∃ t, exec (.ballastCopyDone) s = .next t ∧ t = s)
  ∧ (∀ (s : State) (m step : Nat), s.flag .fltIslead 0 = true → s.memberIds.contains m = true → s.flt.recovery = none → ∃ t,
      exec (.secureDoneReport m step) s = .next t
      ∧ t = { s with flt := { s.flt with dones := s.flt.dones.filter (· ≠ (m, step)) ++ [(m, step)], inbox := s.flt.inbox ++ (if (s.workers ≠ [] ∧ s.workers.all (fun w => (s.flt.dones.filter (· ≠ (m, step)) ++ [(m, step)]).contains (w, step)) = true ∧ s.underWay 10 2 = false ∧ (s.rd .fhSecures 0 = 0 ∨ s.rd .fhPoint 0 < step)) then [⟨s.me, 10, pointBody step⟩] else []) } })
  ∧ (∀ (s : State) (m step : Nat), s.flag .fltIslead 0 = false ∨ s.memberIds.contains m = false ∨ s.flt.recovery.isSome = true → ∃ t,
      exec (.secureDoneReport m step) s = .next t ∧ t = s)
  ∧ (∀ (s : State), s.sweep.rewoundReady = true → ∃ t, exec (.rewoundReport none) s = .next t
      ∧ t = ({ s.sweep with fh := { s.sweep.fh with reported := true } } : State).ledgerTo (s.sweep.rd .fltLead 0) .rewound)
  ∧ (∀ (s : State), s.sweep.rewoundReady = false → ∃ t, exec (.rewoundReport none) s = .next t ∧ t = s.sweep)
  ∧ (∀ (s : State) (m : Nat), s.flag .fltIslead 0 = true → s.flt.recovery.isSome = true → s.flt.rewound.contains m = false → ∃ t,
      exec (.rewoundReport (some m)) s = .next t ∧ t = ({ s with flt := { s.flt with rewound := s.flt.rewound ++ [m] } } : State).maybeReplan
      ∧ t = { s with flt := { s.flt with rewound := s.flt.rewound ++ [m], inbox := t.flt.inbox } }
      ∧ (s.workers.all (fun w => (s.flt.rewound ++ [m]).contains w) = false → t.flt.inbox = s.flt.inbox))
  ∧ (∀ (s : State) (m : Nat), s.flag .fltIslead 0 = false ∨ s.flt.recovery = none ∨ s.flt.rewound.contains m = true → ∃ t,
      exec (.rewoundReport (some m)) s = .next t ∧ t = s)
  ∧ (∀ (s : State) (m at_ : Nat) (b : Bool), s.flt.recovery = some (m, b, at_) → s.flag .fltIslead 0 = true → at_ + 100000000 ≤ s.now →
      s.underWay 11 0 = false → ∃ t, exec (.rewindTimeout) s = .next t
      ∧ t = { s with flt := { s.flt with inbox := s.flt.inbox ++ (s.workers.filter (fun w => !s.flt.rewound.contains w)).map (fun w => ⟨s.me, 6, fenceBody w Status.fhStepFault.code⟩) } })
  ∧ (∀ (s : State), (∀ r ∈ s.flt.recovery, s.flag .fltIslead 0 = false ∨ s.now < r.2.2 + 100000000 ∨ s.underWay 11 0 = true) → ∃ t,
      exec (.rewindTimeout) s = .next t ∧ t = s)
  ∧ (∀ (s : State) (p lost : Nat) (hdr : List Byte) (blocks l : List (Nat × List Byte)), s.sweep.fh.replan = some (p, lost, false) →
      ¬(s.sweep.fh.rewinding = true ∧ s.sweep.fh.swept = false) → (∀ b ∈ (s.sweep.stageRead (s.sweep.rd .fhStagebase 0) 0 4096).toOption,
      fieldAt b 8 8 ≠ p ∨ b.take 4 ≠ [0x4B#8, 0x42#8, 0x4C#8, 0x31#8]) → fieldAt hdr 8 8 = p →
      s.sweep.restoreSource s.sweep.regions p false blocks = some l → ∃ t, exec (.restoreComplete hdr blocks) s = .next t
      ∧ t = s.sweep.restore p false hdr l ∧ t.rd .fhState 0 = 5 ∧ t.rd .fhRunstep 0 = p % 2 ^ 64 ∧ t.fh.replan = none ∧ t.fh.rewinding = false
      ∧ t.fh.oldLoss = s.sweep.lossEntry (p + 1) ∧ eventAt t hidePage .fhRewound)
  ∧ (∀ (s : State) (p lost : Nat) (hdr : List Byte) (blocks l : List (Nat × List Byte)), s.sweep.fh.replan = some (p, lost, false) →
      ¬(s.sweep.fh.rewinding = true ∧ s.sweep.fh.swept = false) →
      fieldAt ((s.sweep.stageRead (s.sweep.rd .fhStagebase 0) 0 4096).toOption.getD []) 8 8 = p
      ∧ ((s.sweep.stageRead (s.sweep.rd .fhStagebase 0) 0 4096).toOption.getD []).take 4 = [0x4B#8, 0x42#8, 0x4C#8, 0x31#8] →
      s.sweep.restoreSource s.sweep.regions p false blocks = some l → ∃ t, exec (.restoreComplete hdr blocks) s = .next t
      ∧ t = s.sweep.restore p false ((s.sweep.stageRead (s.sweep.rd .fhStagebase 0) 0 4096).toOption.getD []) l)
  ∧ (∀ (s : State) (p lost : Nat) (hdr : List Byte) (blocks l : List (Nat × List Byte)), s.sweep.fh.replan = some (p, lost, true) →
      ¬(s.sweep.fh.rewinding = true ∧ s.sweep.fh.swept = false) → fieldAt hdr 8 8 = p →
      (hdr.drop 80).take 48 = (match s.sweep.regionBytes with | .ok b => shaBytes b | .error _ => []) →
      s.sweep.restoreSource s.sweep.regions p true blocks = some l → ∃ t, exec (.restoreComplete hdr blocks) s = .next t
      ∧ t = ((s.sweep.restore p true hdr l).wr .fhRole 0 0).reportRisk)
  ∧ (∀ (s : State) (p lost : Nat) (hdr : List Byte) (blocks : List (Nat × List Byte)), s.sweep.fh.replan = some (p, lost, true) →
      ¬(s.sweep.fh.rewinding = true ∧ s.sweep.fh.swept = false) → fieldAt hdr 8 8 = p →
      (hdr.drop 80).take 48 ≠ (match s.sweep.regionBytes with | .ok b => shaBytes b | .error _ => []) → ∃ t,
      exec (.restoreComplete hdr blocks) s = .next t
      ∧ t = ({ (((s.sweep.wr .fhPartnerav 0 0).wr .fhPartnerbv 0 0).wr .fhState 0 0) with fh := { s.sweep.fh with replan := none } } : State).ledgerTo (s.sweep.rd .fltLead 0) .heirLayout)
  ∧ (∀ (s : State) (hdr : List Byte) (blocks : List (Nat × List Byte)), s.sweep.fh.replan = none ∨ (s.sweep.fh.rewinding = true
      ∧ s.sweep.fh.swept = false) → ∃ t, exec (.restoreComplete hdr blocks) s = .next t ∧ t = s.sweep)
  ∧ (∀ (s : State) (p lost : Nat) (heir : Bool) (hdr : List Byte) (blocks : List (Nat × List Byte)), s.sweep.fh.replan = some (p, lost, heir) →
      (∀ b ∈ (s.sweep.stageRead (s.sweep.rd .fhStagebase 0) 0 4096).toOption,
      fieldAt b 8 8 ≠ p ∨ b.take 4 ≠ [0x4B#8, 0x42#8, 0x4C#8, 0x31#8]) ∨ heir = true → fieldAt hdr 8 8 ≠ p → ∃ t,
      exec (.restoreComplete hdr blocks) s = .next t ∧ t = s.sweep)
  ∧ (∀ (s : State) (p lost : Nat) (hdr : List Byte) (blocks : List (Nat × List Byte)), s.sweep.fh.replan = some (p, lost, false) →
      s.sweep.restoreSource s.sweep.regions p false blocks = none → ∃ t, exec (.restoreComplete hdr blocks) s = .next t ∧ t = s.sweep)
  ∧ (∀ (s : State) (m result : Nat), s.flag .fltIslead 0 = true → s.memberIds.contains m = true →
      s.workers.all (fun w => w = m || s.flt.replays.any (fun r => r.1 = w)) = false → ∃ t, exec (.replayReport m result) s = .next t
      ∧ t = ({ s with flt := { s.flt with replays := s.flt.replays.filter (fun r => r.1 ≠ m) ++ [(m, result)] } } : State))
  ∧ (∀ (s : State) (m result : Nat), s.flag .fltIslead 0 = true → s.memberIds.contains m = true →
      s.workers.all (fun w => w = m || s.flt.replays.any (fun r => r.1 = w)) = true →
      ({ s with flt := { s.flt with replays := s.flt.replays.filter (fun r => r.1 ≠ m) ++ [(m, result)] } } : State).flt.replays.any (fun r => r.2 = 2) = false →
      ({ s with flt := { s.flt with replays := s.flt.replays.filter (fun r => r.1 ≠ m) ++ [(m, result)] } } : State).flt.replays.any (fun r => r.2 = 1) = true →
      s.underWay 9 0 = false → ∃ t, exec (.replayReport m result) s = .next t
      ∧ t = { s with flt := { s.flt with replays := ({ s with flt := { s.flt with replays := s.flt.replays.filter (fun r => r.1 ≠ m) ++ [(m, result)] } } : State).flt.replays, inbox := s.flt.inbox ++ [⟨s.me, 9, zeros 8⟩] } })
  ∧ (∀ (s : State) (m result : Nat), s.flag .fltIslead 0 = true → s.memberIds.contains m = true →
      s.workers.all (fun w => w = m || s.flt.replays.any (fun r => r.1 = w)) = true →
      ({ s with flt := { s.flt with replays := s.flt.replays.filter (fun r => r.1 ≠ m) ++ [(m, result)] } } : State).flt.replays.any (fun r => r.2 = 2) = false →
      ({ s with flt := { s.flt with replays := s.flt.replays.filter (fun r => r.1 ≠ m) ++ [(m, result)] } } : State).flt.replays.any (fun r => r.2 = 1) = false ∨ s.underWay 9 0 = true →
      ∃ t, exec (.replayReport m result) s = .next t
      ∧ t = ({ s with flt := { s.flt with replays := s.flt.replays.filter (fun r => r.1 ≠ m) ++ [(m, result)] } } : State))
  ∧ (∀ (s : State) (m result : Nat), s.flag .fltIslead 0 = true → s.memberIds.contains m = true →
      s.workers.all (fun w => w = m || s.flt.replays.any (fun r => r.1 = w)) = true →
      ({ s with flt := { s.flt with replays := s.flt.replays.filter (fun r => r.1 ≠ m) ++ [(m, result)] } } : State).flt.replays.any (fun r => r.2 = 2) = true →
      s.flt.mismatch = 0 → s.rd .fhPrevpoint 0 ≠ 2 ^ 64 - 1 → ∃ t, exec (.replayReport m result) s = .next t
      ∧ t = { s.bump .fhMismatches 0 1 with flt := { s.flt with replays := [], mismatch := 1, inbox := s.flt.inbox ++ [⟨s.me, 11, replanBody ((s.flt.recovery.map (·.1)).getD s.me) (if (s.flt.recovery.all (·.2.1)) then some ((s.flt.recovery.map (·.1)).getD s.me) else s.flt.heir) (Status.fhReplayMismatch.code % 256) (s.rd .fhPrevpoint 0) none⟩] } })
  ∧ (∀ (s : State) (m result : Nat), s.flag .fltIslead 0 = true → s.memberIds.contains m = true →
      s.workers.all (fun w => w = m || s.flt.replays.any (fun r => r.1 = w)) = true →
      ({ s with flt := { s.flt with replays := s.flt.replays.filter (fun r => r.1 ≠ m) ++ [(m, result)] } } : State).flt.replays.any (fun r => r.2 = 2) = true →
      s.flt.mismatch ≠ 0 ∨ s.rd .fhPrevpoint 0 = 2 ^ 64 - 1 → ∃ t, exec (.replayReport m result) s = .next t
      ∧ t = { s.bump .fhMismatches 0 1 with flt := { s.flt with replays := [], mismatch := s.flt.mismatch + 1, inbox := s.flt.inbox ++ [⟨s.me, 11, replanBody ((s.flt.recovery.map (·.1)).getD s.me) none (Status.unhiddenLoss.code % 256) noPoint none⟩] } })
  ∧ (∀ (s : State) (m result : Nat), s.flag .fltIslead 0 = false ∨ s.memberIds.contains m = false → ∃ t, exec (.replayReport m result) s = .next t
      ∧ t = s)
  ∧ (∀ (s : State) (i : Instr) (rdr : Reader), rdr ≠ .session 0 →
      i ∈ [Instr.fhSetk rdr, Instr.fhDeclareFault rdr, Instr.fhResume rdr, Instr.fhReleaseWard rdr] → ∃ t, exec i s = .next t
      ∧ t = s.reply rdr .sesRights 0)
  ∧ (∀ (s : State), s.isMember = true → ∃ t, exec (.fhSetk (.session 0)) s = .next t
      ∧ t = ((s.propose 10 (scheduleBody 0 (s.rd .fhK 0) 0)).wr .fhCmdstatus 0 0).reply (.session 0) .ok 0)
  ∧ (∀ (s : State), s.isMember = true → s.fh.declared = false → ∃ t, exec (.fhDeclareFault (.session 0)) s = .next t
      ∧ t = ((({ s with fh := { s.fh with declared := true } } : State).propose 6 (fenceBody s.me Status.fhSelfFault.code)).wr .fhCmdstatus 0 0).reply (.session 0) .ok 0)
  ∧ (∀ (s : State), s.isMember = true → s.fh.declared = true → ∃ t, exec (.fhDeclareFault (.session 0)) s = .next t
      ∧ t = (s.wr .fhCmdstatus 0 0).reply (.session 0) .ok 0)
  ∧ (∀ (s : State) (i : Instr), i ∈ [Instr.fhSetk (.session 0), Instr.fhDeclareFault (.session 0)] → s.isMember = false → ∃ t, exec i s = .next t
      ∧ t = (s.wr .fhCmdstatus 0 Status.fhCmdRefused.code).reply (.session 0) .ok 0)
  ∧ (∀ (s : State), s.rd .fhState 0 = 6 → ∃ t, exec (.fhResume (.session 0)) s = .next t
      ∧ t = (({ (if s.fh.swept then s else s.sweepNow).wr .fhState 0 1 with fh := { s.fh with rewinding := false, swept := false } } : State).wr .fhCmdstatus 0 0).reply (.session 0) .ok 0)
  ∧ (∀ (s : State), s.rd .fhState 0 ≠ 6 → ∃ t, exec (.fhResume (.session 0)) s = .next t
      ∧ t = (s.wr .fhCmdstatus 0 Status.fhCmdRefused.code).reply (.session 0) .ok 0)
  ∧ (∀ (s : State) (k n : Nat), s.fh.window = some (k, n) → ∃ t, exec (.fhReleaseWard (.session 0)) s = .next t ∧ t.fh = { s.fh with window := none }
      ∧ (k < 2 → t.rd .fhWard0v 0 = 0) ∧ (2 ≤ k → t.rd .fhWard1v 0 = 0) ∧ t.rd .fhCmdstatus 0 = 0 ∧ answered t (.session 0) .ok ∧ sameConfig s t)
  ∧ (∀ (s : State), s.fh.window = none → ∃ t, exec (.fhReleaseWard (.session 0)) s = .next t
      ∧ t = (s.wr .fhCmdstatus 0 Status.fhCmdRefused.code).reply (.session 0) .ok 0)

/-- Memory errors that WEAVE_PLAN_START meets are recorded first. Of a WEAVE entry at the head of a TRANSFER ring, of a context whose plans go on,
with no plan of the ring under way, it starts the plan in a free place of its engine under the next sequence number and, for a WEIGHTS plan,
closes the context's gate; where the header fails its checks the entry completes with that status, the failure is counted, and an epoch that
differs fails the gate of a WEIGHTS plan. An entry in progress ends with its status written and its signal made once it has failed, or waits for
nothing (a WAIT, once it has completed); an entry of a reserved kind, or one that cannot be read, fails in place of issuing. A plan with nothing
in progress that has failed, or issued every entry, completes: its completion signal, its gate, its count and its record. Otherwise the commands
leave the state as it is. -/
def Obligations.WeavePlansComplete : Prop :=
  (∀ (s : State) (ecc : List (Nat × EccError)) (ring i : Nat) (b hdr : List Byte) (w : WorkEntry),
      ((s.eccFound ecc).dvaRead ((s.eccFound ecc).rd .dbCtx ring) ((s.eccFound ecc).entryDva ring ((s.eccFound ecc).rd .dbHead ring)) 64).toOption = some b →
      fieldAt b 0 1 % 16 = 2 → ((s.eccFound ecc).dvaRead ((s.eccFound ecc).rd .dbCtx ring) (fieldAt b 8 8) 64).toOption = some hdr →
      (s.eccFound ecc).planCheck ((s.eccFound ecc).rd .dbCtx ring) (fieldAt b 8 8) (.ok hdr) = .ok →
      (s.eccFound ecc).freePlace (wpEngine hdr) = some i → (s.eccFound ecc).ringPending ring 1 = true ∧ (s.eccFound ecc).ringHasPlan ring = false →
      (s.eccFound ecc).weaveHeld ((s.eccFound ecc).rd .dbCtx ring) = false →
      (s.eccFound ecc).flag .ctxClasspend ((s.eccFound ecc).rd .dbCtx ring) = false → ((s.eccFound ecc).takeWork ring).2 = some w → ∃ t,
      exec (.weavePlanStart ⟨ring, ecc⟩) s = .next t
      ∧ t.plan i = some ⟨((s.eccFound ecc).rd .dbCtx ring), ring, w.dva, w.complete, w.cring, w.tag, fieldAt b 8 8, hdr, (s.eccFound ecc).weave.nextSeq, 0, [], none⟩
      ∧ t.weave.nextSeq = ((s.eccFound ecc).weave.nextSeq + 1) % 2 ^ 16 ∧ (∀ j, j ≠ i → t.plan j = (s.eccFound ecc).plan j)
      ∧ t.rd .wvGate ((s.eccFound ecc).rd .dbCtx ring) = (if wpWeights hdr then 1 else (s.eccFound ecc).rd .wvGate ((s.eccFound ecc).rd .dbCtx ring))
      ∧ t.rd .dbHead ring = ((s.eccFound ecc).rd .dbHead ring + 1) % 2 ^ Reg.dbHead.info.width ∧ t.mem.near = (s.eccFound ecc).mem.near)
  ∧ (∀ (s : State) (ecc : List (Nat × EccError)) (ring : Nat) (b : List Byte) (w : WorkEntry) (st : Status),
      ((s.eccFound ecc).dvaRead ((s.eccFound ecc).rd .dbCtx ring) ((s.eccFound ecc).entryDva ring ((s.eccFound ecc).rd .dbHead ring)) 64).toOption = some b →
      fieldAt b 0 1 % 16 = 2 →
      (s.eccFound ecc).planCheck ((s.eccFound ecc).rd .dbCtx ring) (fieldAt b 8 8) ((s.eccFound ecc).dvaRead ((s.eccFound ecc).rd .dbCtx ring) (fieldAt b 8 8) 64) = st →
      st ≠ .ok → (s.eccFound ecc).ringPending ring 1 = true ∧ (s.eccFound ecc).ringHasPlan ring = false →
      (s.eccFound ecc).weaveHeld ((s.eccFound ecc).rd .dbCtx ring) = false →
      (s.eccFound ecc).flag .ctxClasspend ((s.eccFound ecc).rd .dbCtx ring) = false → ((s.eccFound ecc).takeWork ring).2 = some w → ∃ t,
      exec (.weavePlanStart ⟨ring, ecc⟩) s = .next t
      ∧ (st ≠ .wvEpoch ∨ wpWeights (((s.eccFound ecc).dvaRead ((s.eccFound ecc).rd .dbCtx ring) (fieldAt b 8 8) 64).toOption.getD []) = false →
      t = ((((((s.eccFound ecc).takeWork ring).1.countDvaRead ((s.eccFound ecc).rd .dbCtx ring) (fieldAt b 8 8) 64).recordError (0x410 + wpEngine (((s.eccFound ecc).dvaRead ((s.eccFound ecc).rd .dbCtx ring) (fieldAt b 8 8) 64).toOption.getD [])) st 0).bump .wvPlansfailed ((s.eccFound ecc).rd .dbCtx ring) 1).workDone 6 w.complete w.cring st.code ring w.tag (fieldAt b 8 8) 0xFFFFFFFF 0))
      ∧ (st = .wvEpoch → wpWeights (((s.eccFound ecc).dvaRead ((s.eccFound ecc).rd .dbCtx ring) (fieldAt b 8 8) 64).toOption.getD []) = true →
      t = (((((((s.eccFound ecc).takeWork ring).1.countDvaRead ((s.eccFound ecc).rd .dbCtx ring) (fieldAt b 8 8) 64).recordError (0x410 + wpEngine (((s.eccFound ecc).dvaRead ((s.eccFound ecc).rd .dbCtx ring) (fieldAt b 8 8) 64).toOption.getD [])) st 0).bump .wvPlansfailed ((s.eccFound ecc).rd .dbCtx ring) 1).endGate ((s.eccFound ecc).rd .dbCtx ring) false st).workDone 6 w.complete w.cring st.code ring w.tag (fieldAt b 8 8) 0xFFFFFFFF 0)))
  ∧ (∀ (s : State) (ecc : List (Nat × EccError)) (ring : Nat),
      (s.eccFound ecc).ringPending ring 1 = false ∨ (s.eccFound ecc).ringHasPlan ring = true ∨ (s.eccFound ecc).weaveHeld ((s.eccFound ecc).rd .dbCtx ring) = true ∨ (s.eccFound ecc).flag .ctxClasspend ((s.eccFound ecc).rd .dbCtx ring) = true →
      ∃ t, exec (.weavePlanStart ⟨ring, ecc⟩) s = .next t ∧ t = (s.eccFound ecc))
  ∧ (∀ (s : State) (eng plan idx : Nat) (p : Plan) (x : WvEntry), s.plan (planIx eng plan) = some p → p.inprog.find? (fun e => e.idx = idx) = some x →
      x.status = .ok ∧ x.waiting = [] ∧ x.blocked = false → ∃ t, exec (.weaveEntryComplete eng plan idx) s = .next t
      ∧ t = s.endEntry (planIx eng plan) p x)
  ∧ (∀ (s : State) (eng plan idx : Nat) (p : Plan) (x : WvEntry), s.plan (planIx eng plan) = some p → p.inprog.find? (fun e => e.idx = idx) = some x →
      x.status = .ok ∧ x.waiting = [] ∧ x.blocked = false ∧ x.nonfin = false → x.kind ≠ 5 ∧ x.kind ≠ 6 → wdSigen x.td = false →
      (s.dvaWrite p.ctx (p.entryAt x.idx + 120) (zeros 4)).2 = .ok → ∃ t, exec (.weaveEntryComplete eng plan idx) s = .next t
      ∧ t.plan (planIx eng plan) = some { p with inprog := p.inprog.filter (fun e => e.idx ≠ x.idx) }
      ∧ t.rd .wvEntries (eng % 4) = (s.rd .wvEntries (eng % 4) + 1) % 2 ^ Reg.wvEntries.info.width
      ∧ t.mem = (s.dvaWrite p.ctx (p.entryAt x.idx + 120) (zeros 4)).1.mem)
  ∧ (∀ (s : State) (eng plan idx : Nat) (p : Plan) (x : WvEntry), s.plan (planIx eng plan) = some p → p.inprog.find? (fun e => e.idx = idx) = some x →
      x.status ≠ .ok → ∃ t, exec (.weaveEntryComplete eng plan idx) s = .next t
      ∧ t = (s.takeWait (.plan (eng % 4) (plan % 16))).endEntry (planIx eng plan) p x
      ∧ (t.plan (planIx eng plan)).map (·.fail) = some (if p.fail = none then some (x.status, x.idx) else p.fail))
  ∧ (∀ (s : State) (eng plan idx : Nat) (p : Plan) (x : WvEntry) (st : Status), s.plan (planIx eng plan) = some p →
      p.inprog.find? (fun e => e.idx = idx) = some x → x.status = .ok ∧ x.waiting = [] ∧ x.blocked = true →
      s.waitDone (.plan (eng % 4) (plan % 16)) = some st → ∃ t, exec (.weaveEntryComplete eng plan idx) s = .next t
      ∧ t = (s.takeWait (.plan (eng % 4) (plan % 16))).endEntry (planIx eng plan) p { x with status := st })
  ∧ (∀ (s : State) (eng plan idx : Nat) (p : Plan) (x : WvEntry), s.plan (planIx eng plan) = some p → p.inprog.find? (fun e => e.idx = idx) = some x →
      x.status = .ok → x.waiting ≠ [] ∨ (x.blocked = true ∧ s.waitDone (.plan (eng % 4) (plan % 16)) = none) → ∃ t,
      exec (.weaveEntryComplete eng plan idx) s = .next t ∧ t = s)
  ∧ (∀ (s : State) (eng plan idx : Nat) (p : Plan) (td : List Byte), s.plan (planIx eng plan) = some p →
      p.inprog.find? (fun e => e.idx = idx) = none → ((s.nextEntry (planIx eng plan)).bind (fun q => q.2.toOption)) = some td → p.next = idx
      ∧ 9 ≤ wdKind td → ∃ t, exec (.weaveEntryComplete eng plan idx) s = .next t
      ∧ t = s.endEntry (planIx eng plan) { p with next := p.next + 1 } ⟨idx, wdKind td, td, .wvKindReserved, false, 0, false, []⟩)
  ∧ (∀ (s : State) (eng plan idx : Nat) (p : Plan) (st : Status), s.plan (planIx eng plan) = some p → p.inprog.find? (fun e => e.idx = idx) = none →
      (s.nextEntry (planIx eng plan)).isSome = true → (s.dvaRead p.ctx (p.entryAt p.next) 128).toOption = none →
      statusOf (s.dvaRead p.ctx (p.entryAt p.next) 128) = st → p.next = idx → ∃ t, exec (.weaveEntryComplete eng plan idx) s = .next t
      ∧ t = (s.setPlan (planIx eng plan) (some { p with next := p.next + 1, fail := some (st, idx) })).recordError (0x410 + eng % 4) st 0)
  ∧ (∀ (s : State) (eng plan idx : Nat), (∀ p ∈ s.plan (planIx eng plan), p.inprog.find? (fun e => e.idx = idx) = none
      ∧ (p.next ≠ idx ∨ s.nextEntry (planIx eng plan) = none)) → ∃ t, exec (.weaveEntryComplete eng plan idx) s = .next t ∧ t = s)
  ∧ (∀ (s : State) (eng plan : Nat) (p : Plan), s.plan (planIx eng plan) = some p → p.inprog = [] ∧ p.fail = none ∧ wpCount p.hdr ≤ p.next →
      s.weaveHeld p.ctx = false → wpDonetally p.hdr = 0 → ∃ t, exec (.weavePlanComplete eng plan) s = .next t
      ∧ t = (if wpWeights p.hdr then ((s.setPlan (planIx eng plan) none).bump .wvPlansdone p.ctx 1).endGate p.ctx (wpGatehold p.hdr) .ok else ((s.setPlan (planIx eng plan) none).bump .wvPlansdone p.ctx 1)).workDone 6 p.complete p.cring 0 p.ring p.tag p.entry 0xFFFFFFFF 0
      ∧ t.plan (planIx eng plan) = none ∧ (p.complete = false → wpWeights p.hdr = false →
      t = ((s.setPlan (planIx eng plan) none).bump .wvPlansdone p.ctx 1)) ∧ (p.complete = false → wpWeights p.hdr = true →
      t = ((((s.setPlan (planIx eng plan) none).bump .wvPlansdone p.ctx 1).wr .wvGatestatus p.ctx 0).wr .wvGate p.ctx (b2n (wpGatehold p.hdr)))))
  ∧ (∀ (s : State) (eng plan : Nat) (p : Plan), s.plan (planIx eng plan) = some p → p.inprog = [] ∧ p.fail = none ∧ wpCount p.hdr ≤ p.next →
      s.weaveHeld p.ctx = false → wpDonetally p.hdr ≠ 0 → ∃ t, exec (.weavePlanComplete eng plan) s = .next t
      ∧ (((s.setPlan (planIx eng plan) none).tallySignal (bankOfIsland (islWeavin (eng % 4))) p.ctx (wpDonetally p.hdr) (wpDonen p.hdr) false).2 = .ok →
      t = (if wpWeights p.hdr then (((s.setPlan (planIx eng plan) none).tallySignal (bankOfIsland (islWeavin (eng % 4))) p.ctx (wpDonetally p.hdr) (wpDonen p.hdr) false).1.bump .wvPlansdone p.ctx 1).endGate p.ctx (wpGatehold p.hdr) .ok else (((s.setPlan (planIx eng plan) none).tallySignal (bankOfIsland (islWeavin (eng % 4))) p.ctx (wpDonetally p.hdr) (wpDonen p.hdr) false).1.bump .wvPlansdone p.ctx 1)).workDone 6 p.complete p.cring 0 p.ring p.tag p.entry 0xFFFFFFFF 0)
      ∧ (((s.setPlan (planIx eng plan) none).tallySignal (bankOfIsland (islWeavin (eng % 4))) p.ctx (wpDonetally p.hdr) (wpDonen p.hdr) false).2 ≠ .ok →
      t = (if wpWeights p.hdr then ((((s.setPlan (planIx eng plan) none).tallySignal (bankOfIsland (islWeavin (eng % 4))) p.ctx (wpDonetally p.hdr) (wpDonen p.hdr) false).1.raise (0x410 + eng % 4) ((s.setPlan (planIx eng plan) none).tallySignal (bankOfIsland (islWeavin (eng % 4))) p.ctx (wpDonetally p.hdr) (wpDonen p.hdr) false).2 (some p.ctx) 0xFFFFFFFF 0).bump .wvPlansfailed p.ctx 1).endGate p.ctx (wpGatehold p.hdr) ((s.setPlan (planIx eng plan) none).tallySignal (bankOfIsland (islWeavin (eng % 4))) p.ctx (wpDonetally p.hdr) (wpDonen p.hdr) false).2 else ((((s.setPlan (planIx eng plan) none).tallySignal (bankOfIsland (islWeavin (eng % 4))) p.ctx (wpDonetally p.hdr) (wpDonen p.hdr) false).1.raise (0x410 + eng % 4) ((s.setPlan (planIx eng plan) none).tallySignal (bankOfIsland (islWeavin (eng % 4))) p.ctx (wpDonetally p.hdr) (wpDonen p.hdr) false).2 (some p.ctx) 0xFFFFFFFF 0).bump .wvPlansfailed p.ctx 1)).workDone 6 p.complete p.cring ((s.setPlan (planIx eng plan) none).tallySignal (bankOfIsland (islWeavin (eng % 4))) p.ctx (wpDonetally p.hdr) (wpDonen p.hdr) false).2.code p.ring p.tag p.dva 0xFFFFFFFF 0))
  ∧ (∀ (s : State) (eng plan k : Nat) (p : Plan) (st : Status), s.plan (planIx eng plan) = some p → p.inprog = [] ∧ p.fail = some (st, k) →
      s.weaveHeld p.ctx = false → ∃ t, exec (.weavePlanComplete eng plan) s = .next t
      ∧ t = (if wpWeights p.hdr then (((s.setPlan (planIx eng plan) none).raise (0x410 + eng % 4) st (some p.ctx) k 0).bump .wvPlansfailed p.ctx 1).endGate p.ctx (wpGatehold p.hdr) st else (((s.setPlan (planIx eng plan) none).raise (0x410 + eng % 4) st (some p.ctx) k 0).bump .wvPlansfailed p.ctx 1)).workDone 6 p.complete p.cring st.code p.ring p.tag p.dva k 0)
  ∧ (∀ (s : State) (eng plan : Nat), (∀ p ∈ s.plan (planIx eng plan), p.inprog ≠ [] ∨ (p.fail = none
      ∧ p.next < wpCount p.hdr) ∨ s.weaveHeld p.ctx = true) → ∃ t, exec (.weavePlanComplete eng plan) s = .next t ∧ t = s)

/-- The next entry of a plan that may issue, with no epoch being adopted by the fabric hub, does what its kind says; memory errors that its reads find
are recorded first. NOP ends at once. COPY and ACCUM that pass their checks read their source rows here, or from the module that holds them, and
move them, converted, to each destination; a COPY to a local destination writes its rows there and nothing else. DISPATCH and COMBINE that pass
theirs move what their lists name. WAIT on a tally that covers it subtracts, on another it blocks the plan; a local SIGNAL adds, a remote one
leaves in a frame. MANIFEST of a WEIGHTS plan binds its slot where the manifest passes and empties it otherwise; LOAD of one loads its chunk into
the destination's context, with the status of the chunk. A check that fails makes the entry fail with that status, a refusal of a local
destination being counted. With no such entry to issue, the commands leave the state as it is. -/
def Obligations.WeaveEntriesComplete : Prop :=
  (∀ (s : State) (i : Instr) (k eng plan : Nat) (rem : RemoteRead) (ecc : List (Nat × EccError)), (i,
      k) ∈ [(Instr.nop eng plan, 0), (Instr.copy eng plan rem ecc, 1), (Instr.accum eng plan ecc, 2), (Instr.weaveWait eng plan, 3), (Instr.weaveSignal eng plan, 4), (Instr.dispatch eng plan ecc, 5), (Instr.combine eng plan ecc, 6), (Instr.manifest eng plan ecc, 7), (Instr.load eng plan ecc, 8)] →
      s.overlay islHub = [] → s.entryOf (planIx eng plan) k = none → ∃ t, exec i s = .next t ∧ t = s)
  ∧ (∀ (s : State) (eng plan : Nat) (p : Plan) (td : List Byte), s.entryOf (planIx eng plan) 0 = some (p, td) → ∃ t, exec (.nop eng plan) s = .next t
      ∧ t = (s.wr .wvCtx ((planIx eng plan) / 16) p.ctx).endEntry (planIx eng plan) { p with next := p.next + 1 } ⟨p.next, 0, td, (s.wr .wvCtx ((planIx eng plan) / 16) p.ctx).gradCheck p.ctx td, false, 0, false, []⟩)
  ∧ (∀ (s : State) (eng plan : Nat) (p : Plan) (td : List Byte), s.entryOf (planIx eng plan) 0 = some (p, td) → s.gradCheck p.ctx td = .ok →
      wdSigen td = false → ((s.wr .wvCtx ((planIx eng plan) / 16) p.ctx).dvaWrite p.ctx (p.entryAt p.next + 120) (zeros 4)).2 = .ok → ∃ t,
      exec (.nop eng plan) s = .next t
      ∧ t.plan (planIx eng plan) = some { p with next := p.next + 1, inprog := p.inprog.filter (fun e => e.idx ≠ p.next) }
      ∧ t.rd .wvEntries ((planIx eng plan) / 16) = (s.rd .wvEntries ((planIx eng plan) / 16) + 1) % 2 ^ Reg.wvEntries.info.width
      ∧ t.rd .wvCtx ((planIx eng plan) / 16) = p.ctx % 2 ^ Reg.wvCtx.info.width)
  ∧ (∀ (s : State) (i : Instr) (k eng plan : Nat) (acc : Bool) (rem : RemoteRead) (ecc : List (Nat × EccError)) (p : Plan) (td : List Byte) (rows : List WvRow),
      (i, k, acc) ∈ [(Instr.copy eng plan rem ecc, 1, false), (Instr.accum eng plan ecc, 2, true)] → s.overlay islHub = [] →
      s.entryOf (planIx eng plan) k = some (p, td) → (s.eccFound ecc).moveCheck p.ctx td acc = .ok → wdNdst td ≤ 1 ∧ wdSrcrem td = false →
      (s.eccFound ecc).destCheck p.ctx false (wdDest td) = .ok → wdDst td % 16 = 0 →
      ((s.eccFound ecc).readRows p.ctx (wdSfmt td) (wdE0 td) (srcRows td)).2.toOption = some rows → ∃ t, exec i s = .next t
      ∧ t = ((s.eccFound ecc).readRows p.ctx (wdSfmt td) (wdE0 td) (srcRows td)).1.moveEntry (planIx eng plan) p td (.ok (copyMoved td (((s.eccFound ecc).readRows p.ctx (wdSfmt td) (wdE0 td) (srcRows td)).1.propagates p.ctx) acc [wdDest td] rows))
      ∧ (t.plan (planIx eng plan)).map (fun q => (q.next, q.inprog.length)) = some (p.next + 1, p.inprog.length + 1))
  ∧ (∀ (s : State) (i : Instr) (k eng plan : Nat) (acc : Bool) (rem : RemoteRead) (ecc : List (Nat × EccError)) (p : Plan) (td : List Byte) (rows : List WvRow),
      (i, k, acc) ∈ [(Instr.copy eng plan rem ecc, 1, false), (Instr.accum eng plan ecc, 2, true)] → s.overlay islHub = [] →
      s.entryOf (planIx eng plan) k = some (p, td) → acc = false → (s.eccFound ecc).moveCheck p.ctx td acc = .ok → wdNdst td ≤ 1
      ∧ wdSrcrem td = false → (wdDest td).remote = false → (s.eccFound ecc).destCheck p.ctx false (wdDest td) = .ok → wdDst td % 16 = 0 →
      ((s.eccFound ecc).readRows p.ctx (wdSfmt td) (wdE0 td) (srcRows td)).2.toOption = some rows → ∃ t, exec i s = .next t
      ∧ t.mem = ((copyWrites td (((s.eccFound ecc).readRows p.ctx (wdSfmt td) (wdE0 td) (srcRows td)).1.propagates p.ctx) rows (wdDst td)).foldl (fun s' w => (s'.dvaWrite (wdDest td).ctx w.dva w.bytes).1) ((s.eccFound ecc).readRows p.ctx (wdSfmt td) (wdE0 td) (srcRows td)).1).mem)
  ∧ (∀ (s : State) (i : Instr) (k eng plan : Nat) (acc : Bool) (rem : RemoteRead) (ecc : List (Nat × EccError)) (p : Plan) (td : List Byte), (i, k,
      acc) ∈ [(Instr.copy eng plan rem ecc, 1, false), (Instr.accum eng plan ecc, 2, true)] → s.overlay islHub = [] →
      s.entryOf (planIx eng plan) k = some (p, td) → (s.eccFound ecc).moveCheck p.ctx td acc = .ok → wdNdst td ≤ 1 ∧ wdSrcrem td = false →
      (s.eccFound ecc).destCheck p.ctx false (wdDest td) = .ok → wdDst td % 16 = 0 →
      ((s.eccFound ecc).readRows p.ctx (wdSfmt td) (wdE0 td) (srcRows td)).2.toOption = none → ∃ t, exec i s = .next t
      ∧ t = ((s.eccFound ecc).readRows p.ctx (wdSfmt td) (wdE0 td) (srcRows td)).1.issueEntry (planIx eng plan) p td (statusOf ((s.eccFound ecc).readRows p.ctx (wdSfmt td) (wdE0 td) (srcRows td)).2) false 0 false [])
  ∧ (∀ (s : State) (i : Instr) (k eng plan : Nat) (acc : Bool) (rem : RemoteRead) (ecc : List (Nat × EccError)) (p : Plan) (td : List Byte) (ds : List WvDest),
      (i, k, acc) ∈ [(Instr.copy eng plan rem ecc, 1, false), (Instr.accum eng plan ecc, 2, true)] → s.overlay islHub = [] →
      s.entryOf (planIx eng plan) k = some (p, td) → (s.eccFound ecc).moveCheck p.ctx td acc = .ok →
      ((s.eccFound ecc).wdDests p.ctx td).2.toOption = some ds → ∃ t, exec i s = .next t
      ∧ t = ((s.eccFound ecc).wdDests p.ctx td).1.copyInto (planIx eng plan) p td acc (if acc then .refused else rem) ds)
  ∧ (∀ (s : State) (i : Instr) (k eng plan : Nat) (acc : Bool) (rem : RemoteRead) (ecc : List (Nat × EccError)) (p : Plan) (td : List Byte), (i, k,
      acc) ∈ [(Instr.copy eng plan rem ecc, 1, false), (Instr.accum eng plan ecc, 2, true)] → s.overlay islHub = [] →
      s.entryOf (planIx eng plan) k = some (p, td) → (s.eccFound ecc).moveCheck p.ctx td acc = .ok →
      ((s.eccFound ecc).wdDests p.ctx td).2.toOption = none → ∃ t, exec i s = .next t
      ∧ t = ((s.eccFound ecc).wdDests p.ctx td).1.issueEntry (planIx eng plan) p td (statusOf ((s.eccFound ecc).wdDests p.ctx td).2) false 0 false [])
  ∧ (∀ (s : State) (i : Instr) (k eng plan : Nat) (acc : Bool) (rem : RemoteRead) (ecc : List (Nat × EccError)) (p : Plan) (td : List Byte) (st : Status),
      (i, k, acc) ∈ [(Instr.copy eng plan rem ecc, 1, false), (Instr.accum eng plan ecc, 2, true)] → s.overlay islHub = [] →
      s.entryOf (planIx eng plan) k = some (p, td) → (s.eccFound ecc).moveCheck p.ctx td acc = .ok → wdNdst td ≤ 1 ∧ wdSrcrem td = false →
      (s.eccFound ecc).destCheck p.ctx false (wdDest td) = st → st ≠ .ok → ∃ t, exec i s = .next t
      ∧ t = ((s.eccFound ecc).countRefused ((planIx eng plan) / 16) st).issueEntry (planIx eng plan) p td st false 0 false []
      ∧ (t.plan (planIx eng plan)).map (·.fail) = some (some (st, p.next)))
  ∧ (∀ (s : State) (i : Instr) (k eng plan : Nat) (acc : Bool) (rem : RemoteRead) (ecc : List (Nat × EccError)) (p : Plan) (td : List Byte) (st : Status),
      (i, k, acc) ∈ [(Instr.copy eng plan rem ecc, 1, false), (Instr.accum eng plan ecc, 2, true)] → s.overlay islHub = [] →
      s.entryOf (planIx eng plan) k = some (p, td) → (s.eccFound ecc).moveCheck p.ctx td acc = st → st ≠ .ok → ∃ t, exec i s = .next t
      ∧ t = (s.eccFound ecc).issueEntry (planIx eng plan) p td st false 0 false [] ∧ (t.plan (planIx eng plan)).map (·.fail) = some (some (st,
      p.next)))
  ∧ (∀ (s : State) (eng plan : Nat) (b : List Byte) (ecc : List (Nat × EccError)) (p : Plan) (td : List Byte), s.overlay islHub = [] →
      s.entryOf (planIx eng plan) 1 = some (p, td) → (s.eccFound ecc).moveCheck p.ctx td false = .ok → wdNdst td ≤ 1 ∧ wdSrcrem td = true →
      (s.eccFound ecc).destCheck p.ctx true (wdDest td) = .ok → wdDst td % 16 = 0 → ∃ t, exec (.copy eng plan (.data b) ecc) s = .next t
      ∧ t = ((s.eccFound ecc).readAsk p.ctx td).moveEntry (planIx eng plan) p td (.ok (copyMoved td ((s.eccFound ecc).propagates p.ctx) false [wdDest td] (remoteRows td b))))
  ∧ (∀ (s : State) (eng plan : Nat) (rem : RemoteRead) (ecc : List (Nat × EccError)) (p : Plan) (td : List Byte), s.overlay islHub = [] →
      s.entryOf (planIx eng plan) 1 = some (p, td) → (s.eccFound ecc).moveCheck p.ctx td false = .ok → wdNdst td ≤ 1 ∧ wdSrcrem td = true →
      (s.eccFound ecc).destCheck p.ctx true (wdDest td) = .ok → wdDst td % 16 = 0 → readFailure rem ≠ .ok → ∃ t,
      exec (.copy eng plan rem ecc) s = .next t
      ∧ t = ((s.eccFound ecc).readAsk p.ctx td).issueEntry (planIx eng plan) p td (readFailure rem) false 0 false [])
  ∧ (∀ (s : State) (eng plan e : Nat) (p : Plan) (td : List Byte), s.entryOf (planIx eng plan) 3 = some (p, td) → s.gradCheck p.ctx td = .ok →
      (s.tallyXlate (bankOfIsland (islWeavin (eng % 4))) p.ctx (wdTallyid td)).2.toOption = some e → s.tallyQueue (bitsAt e 0 20) = [] →
      wdTallyn td ≤ s.tallyVal (bitsAt e 0 20) → ∃ t, exec (.weaveWait eng plan) s = .next t
      ∧ t.plan (planIx eng plan) = some { p with next := p.next + 1, inprog := p.inprog ++ [⟨p.next, 3, td, .ok, false, 0, false, []⟩] }
      ∧ t.tallyVal (bitsAt e 0 20) = s.tallyVal (bitsAt e 0 20) - wdTallyn td ∧ t.mem = s.mem)
  ∧ (∀ (s : State) (eng plan : Nat) (p : Plan) (td : List Byte), s.entryOf (planIx eng plan) 3 = some (p, td) → s.gradCheck p.ctx td = .ok → ∃ t,
      exec (.weaveWait eng plan) s = .next t
      ∧ ((s.tallyWait (bankOfIsland (islWeavin (eng % 4))) p.ctx (wdTallyid td) (wdTallyn td) (.plan (eng % 4) (plan % 16))).2.toOption = some true →
      t = (s.tallyWait (bankOfIsland (islWeavin (eng % 4))) p.ctx (wdTallyid td) (wdTallyn td) (.plan (eng % 4) (plan % 16))).1.issueEntry (planIx eng plan) p td .ok false 0 false [])
      ∧ ((s.tallyWait (bankOfIsland (islWeavin (eng % 4))) p.ctx (wdTallyid td) (wdTallyn td) (.plan (eng % 4) (plan % 16))).2.toOption = some false →
      t = (s.tallyWait (bankOfIsland (islWeavin (eng % 4))) p.ctx (wdTallyid td) (wdTallyn td) (.plan (eng % 4) (plan % 16))).1.issueEntry (planIx eng plan) p td .ok false 0 true [])
      ∧ ((s.tallyWait (bankOfIsland (islWeavin (eng % 4))) p.ctx (wdTallyid td) (wdTallyn td) (.plan (eng % 4) (plan % 16))).2.toOption = none →
      t = (s.tallyWait (bankOfIsland (islWeavin (eng % 4))) p.ctx (wdTallyid td) (wdTallyn td) (.plan (eng % 4) (plan % 16))).1.issueEntry (planIx eng plan) p td (statusOf (s.tallyWait (bankOfIsland (islWeavin (eng % 4))) p.ctx (wdTallyid td) (wdTallyn td) (.plan (eng % 4) (plan % 16))).2) false 0 false []))
  ∧ (∀ (s : State) (eng plan e : Nat) (p : Plan) (td : List Byte), s.overlay islHub = [] → s.entryOf (planIx eng plan) 4 = some (p, td) →
      s.gradCheck p.ctx td = .ok → (wdDest td).remote = false →
      (s.tallyXlate (bankOfIsland (islWeavin (eng % 4))) p.ctx (wdTallyid td)).2.toOption = some e → 0 < wdTallyn td →
      s.tallyVal (bitsAt e 0 20) + wdTallyn td ≤ 0xFFFFFFFF → ∃ t, exec (.weaveSignal eng plan) s = .next t
      ∧ t.plan (planIx eng plan) = some { p with next := p.next + 1, inprog := p.inprog ++ [⟨p.next, 4, td, .ok, false, 0, false, []⟩] }
      ∧ t.tallyVal (bitsAt e 0 20) = (serveQueue (s.tallyVal (bitsAt e 0 20) + wdTallyn td) (s.tallyQueue (bitsAt e 0 20))).1 ∧ t.mem = s.mem)
  ∧ (∀ (s : State) (eng plan : Nat) (p : Plan) (td : List Byte), s.overlay islHub = [] → s.entryOf (planIx eng plan) 4 = some (p, td) →
      s.gradCheck p.ctx td = .ok → (wdDest td).remote = false → ∃ t, exec (.weaveSignal eng plan) s = .next t
      ∧ t = (s.tallySignal (bankOfIsland (islWeavin (eng % 4))) p.ctx (wdTallyid td) (wdTallyn td) false).1.issueEntry (planIx eng plan) p td (s.tallySignal (bankOfIsland (islWeavin (eng % 4))) p.ctx (wdTallyid td) (wdTallyn td) false).2 false 0 false [])
  ∧ (∀ (s : State) (eng plan : Nat) (p : Plan) (td : List Byte), s.overlay islHub = [] → s.entryOf (planIx eng plan) 4 = some (p, td) →
      s.gradCheck p.ctx td = .ok → (wdDest td).remote = true → s.destCheck p.ctx false (wdDest td) = .ok → ∃ t,
      exec (.weaveSignal eng plan) s = .next t
      ∧ t = (s.originate 2 1 (wdDest td).member (weaveHeader (s.rd .wvJob p.ctx) (s.rd .fltMember 0) (wdDest td).ctx 0 0 0 (wdTallyid td) (wdTallyn td) 0 p.next p.seq 0) (some p.ctx) (some (eng % 4,
      p.seq, p.next))).issueEntry (planIx eng plan) p td .ok false 0 false [((wdDest td).member, (wdDest td).ctx)])
  ∧ (∀ (s : State) (eng plan : Nat) (p : Plan) (td : List Byte) (st : Status), s.overlay islHub = [] → s.entryOf (planIx eng plan) 4 = some (p, td) →
      s.gradCheck p.ctx td = .ok → (wdDest td).remote = true → s.destCheck p.ctx false (wdDest td) = st → st ≠ .ok → ∃ t,
      exec (.weaveSignal eng plan) s = .next t ∧ t = s.issueEntry (planIx eng plan) p td st false 0 false [])
  ∧ (∀ (s : State) (i : Instr) (k eng plan : Nat) (comb : Bool) (ecc : List (Nat × EccError)) (p : Plan) (td : List Byte), (i, k,
      comb) ∈ [(Instr.dispatch eng plan ecc, 5, false), (Instr.combine eng plan ecc, 6, true)] → s.overlay islHub = [] →
      s.entryOf (planIx eng plan) k = some (p, td) → s.rowsCheck p.ctx td comb = .ok → ∃ t, exec i s = .next t
      ∧ t = (if comb then (s.eccFound ecc).combineMoved p.ctx td else (s.eccFound ecc).dispatchMoved p.ctx td).1.moveEntry (planIx eng plan) p td (if comb then (s.eccFound ecc).combineMoved p.ctx td else (s.eccFound ecc).dispatchMoved p.ctx td).2
      ∧ (t.plan (planIx eng plan)).map (fun q => (q.next, q.inprog.length)) = some (p.next + 1, p.inprog.length + 1))
  ∧ (∀ (s : State) (i : Instr) (k eng plan : Nat) (comb : Bool) (ecc : List (Nat × EccError)) (p : Plan) (td : List Byte) (st : Status), (i, k,
      comb) ∈ [(Instr.dispatch eng plan ecc, 5, false), (Instr.combine eng plan ecc, 6, true)] → s.overlay islHub = [] →
      s.entryOf (planIx eng plan) k = some (p, td) → s.rowsCheck p.ctx td comb = st → st ≠ .ok → ∃ t, exec i s = .next t
      ∧ t = (s.countRefused ((planIx eng plan) / 16) st).issueEntry (planIx eng plan) p td st false 0 false []
      ∧ (t.plan (planIx eng plan)).map (·.fail) = some (some (st, p.next)))
  ∧ (∀ (s : State) (eng plan : Nat) (ecc : List (Nat × EccError)) (p : Plan) (td : List Byte), s.entryOf (planIx eng plan) 7 = some (p, td) →
      s.gradCheck p.ctx td = .ok → wpWeights p.hdr = true → ∃ t, exec (.manifest eng plan ecc) s = .next t
      ∧ t = ((s.eccFound ecc).bindMfst p.ctx td).1.issueEntry (planIx eng plan) p td ((s.eccFound ecc).bindMfst p.ctx td).2 false 0 false []
      ∧ (((s.eccFound ecc).bindMfst p.ctx td).2 = .ok → (sget none t.weave.bound (p.ctx * 4 + wdMslot td)).isSome = true)
      ∧ (((s.eccFound ecc).bindMfst p.ctx td).2 ≠ .ok → sget none t.weave.bound (p.ctx * 4 + wdMslot td) = none))
  ∧ (∀ (s : State) (eng plan : Nat) (ecc : List (Nat × EccError)) (p : Plan) (td : List Byte), s.overlay islHub = [] →
      s.entryOf (planIx eng plan) 8 = some (p, td) →
      firstBad [s.gradCheck p.ctx td, refuseIf (!wpWeights p.hdr) .wvWeightsPlan, refuseIf (wdSrcrem td) .wvRemoteBoth, s.destCheck p.ctx false { wdDest td with remote := false }] = .ok →
      ∃ t, exec (.load eng plan ecc) s = .next t
      ∧ t = ((s.eccFound ecc).loadChunk (eng % 4) p.ctx (wdDest td).ctx td).1.issueEntry (planIx eng plan) p td ((s.eccFound ecc).loadChunk (eng % 4) p.ctx (wdDest td).ctx td).2 false 0 false []
      ∧ (t.plan (planIx eng plan)).map (fun q => (q.next, q.inprog.length)) = some (p.next + 1, p.inprog.length + 1))
  ∧ (∀ (s : State) (eng plan : Nat) (ecc : List (Nat × EccError)) (p : Plan) (td : List Byte) (st : Status), s.overlay islHub = [] →
      s.entryOf (planIx eng plan) 8 = some (p, td) →
      firstBad [s.gradCheck p.ctx td, refuseIf (!wpWeights p.hdr) .wvWeightsPlan, refuseIf (wdSrcrem td) .wvRemoteBoth, s.destCheck p.ctx false { wdDest td with remote := false }] = st →
      st ≠ .ok → ∃ t, exec (.load eng plan ecc) s = .next t
      ∧ t = (s.countRefused ((planIx eng plan) / 16) st).issueEntry (planIx eng plan) p td st false 0 false []
      ∧ (t.plan (planIx eng plan)).map (·.fail) = some (some (st, p.next)))
  ∧ (∀ (s : State) (eng plan : Nat) (ecc : List (Nat × EccError)) (p : Plan) (td : List Byte), s.entryOf (planIx eng plan) 7 = some (p, td) →
      s.gradCheck p.ctx td = .ok → wpWeights p.hdr = false → ∃ t, exec (.manifest eng plan ecc) s = .next t
      ∧ t = s.issueEntry (planIx eng plan) p td .wvWeightsPlan false 0 false []
      ∧ (t.plan (planIx eng plan)).map (·.fail) = some (some (.wvWeightsPlan, p.next)))
  ∧ (∀ (s : State) (i : Instr) (k eng plan : Nat) (ecc : List (Nat × EccError)) (p : Plan) (td : List Byte), (i,
      k) ∈ [(Instr.weaveWait eng plan, 3), (Instr.weaveSignal eng plan, 4), (Instr.manifest eng plan ecc, 7)] → s.overlay islHub = [] →
      s.entryOf (planIx eng plan) k = some (p, td) → wdGrad td = true → ∃ t, exec i s = .next t
      ∧ t = s.issueEntry (planIx eng plan) p td .wvGradClass false 0 false [])

/-- TETHER_LIGHT trains a port that is DARK or DOWN. TETHER_FEC_LOCK brings a port in TRAINING UP (what it numbers and sends again is log entry 65)
and TETHER_DOWN after 1 ms without a frame makes an UP port DOWN; sessions then go to their home ports. TETHER_LINK_SEND sends one LINK frame with
the number to NAK, or all ones, and the credit to return, which are then none and 0. TETHER_LINK_FRAME frees what it acknowledges, takes the
credit it returns, replays from the number it NAKs, and sends what may now go. TETHER_REPLAY_TIMEOUT after 50 µs without an acknowledgement sends
every frame not acknowledged again. A frame with an uncorrectable codeword, or a corrupt one, is not taken: the number expected is NAKed in the
next LINK frame. Where these conditions do not hold, the commands leave the state as it is. -/
def Obligations.TetherPortsComplete : Prop :=
  (∀ (s : State) (p : Nat), p < 2 → s.portState p = tpDark ∨ s.portState p = tpDown → ∃ t, exec (.tetherLight p) s = .next t
      ∧ t = s.wr (portReg p) 0 tpTraining)
  ∧ (∀ (s : State) (p : Nat), 2 ≤ p ∨ (s.portState p ≠ tpDark ∧ s.portState p ≠ tpDown) → ∃ t, exec (.tetherLight p) s = .next t ∧ t = s)
  ∧ (∀ (s : State) (p : Nat), p < 2 → s.portState p = tpTraining → ∃ t, exec (.tetherFecLock p) s = .next t ∧ t = s.portComesUp p
      ∧ t.portState p = tpUp ∧ (t.port p).lastRx = s.now ∧ (t.port p).expect = 0 ∧ t.mem = s.mem ∧ t.flt = s.flt ∧ t.pending = s.pending)
  ∧ (∀ (s : State) (p : Nat), 2 ≤ p ∨ s.portState p ≠ tpTraining → ∃ t, exec (.tetherFecLock p) s = .next t ∧ t = s)
  ∧ (∀ (s : State) (p : Nat), s.portUp p = true → (s.port p).lastRx + 1000000 ≤ s.now → ∃ t, exec (.tetherDown p) s = .next t
      ∧ t = (s.wr (portReg p) 0 tpDown).rehome ∧ t.portState p = tpDown ∧ t.mem = s.mem ∧ t.flt = s.flt ∧ t.pending = s.pending)
  ∧ (∀ (s : State) (p : Nat), s.portUp p = false ∨ s.now < (s.port p).lastRx + 1000000 → ∃ t, exec (.tetherDown p) s = .next t ∧ t = s)
  ∧ (∀ (s : State) (p : Nat), s.portUp p = true → ∃ t, exec (.tetherLinkSend p) s = .next t
      ∧ t = (({ s.setPort p { s.port p with owed := 0, nak := none, lastLink := s.now } with out := s.out ++ [.tether p ((tfHeader tfLink 0 false 8 0 (s.port p).lack 0 ++ (leBytes 4 ((s.port p).nak.getD 0xFFFFFFFF) ++ leBytes 4 (s.port p).owed)) ++ leBytes 4 (crc32c (tfHeader tfLink 0 false 8 0 (s.port p).lack 0 ++ (leBytes 4 ((s.port p).nak.getD 0xFFFFFFFF) ++ leBytes 4 (s.port p).owed))))] } : State).bump .tethTxframes 0 1))
  ∧ (∀ (s : State) (p : Nat), s.portUp p = false → ∃ t, exec (.tetherLinkSend p) s = .next t ∧ t = s)
  ∧ (∀ (s : State) (p : Nat) (b : List Byte), s.portUp p = true → tfFormed b tfLink = true ∧ tfLen b = 8 → tfCorrupt b = false → ∃ t,
      exec (.tetherLinkFrame p b false) s = .next t ∧ (fieldAt b 24 4 = 0xFFFFFFFF →
      t = (((s.setPort p { ((s.port p).acked (tfLack b) s.now) with credit := ((s.port p).acked (tfLack b) s.now).credit + fieldAt b 28 4, lastRx := s.now }).bump .tethRxframes 0 1).pumpPort p))
      ∧ (fieldAt b 24 4 ≠ 0xFFFFFFFF →
      t = ((((s.setPort p { ((s.port p).acked (tfLack b) s.now) with credit := ((s.port p).acked (tfLack b) s.now).credit + fieldAt b 28 4, lastRx := s.now }).bump .tethRxframes 0 1).replayPort p (((s.port p).acked (tfLack b) s.now).sent.dropWhile (fun f => f.lseq ≠ fieldAt b 24 4))).pumpPort p))
      ∧ ((s.port p).queue = [] → (t.port p).sent = ((s.port p).acked (tfLack b) s.now).sent ∧ (t.port p).credit = (s.port p).credit + fieldAt b 28 4
      ∧ t.out = s.out ++ (if fieldAt b 24 4 = 0xFFFFFFFF then [] else (((s.port p).acked (tfLack b) s.now).sent.dropWhile (fun f => decide (f.lseq ≠ fieldAt b 24 4))).map (fun f => Out.tether p f.bytes))))
  ∧ (∀ (s : State) (p : Nat) (b : List Byte), s.portUp p = false ∨ (tfCorrupt b = false ∧ (tfFormed b tfLink = false ∨ tfLen b ≠ 8)) → ∃ t,
      exec (.tetherLinkFrame p b false) s = .next t ∧ t = s)
  ∧ (∀ (s : State) (p : Nat) (b : List Byte), s.portUp p = true → tfCorrupt b = true → ∃ t, exec (.tetherLinkFrame p b false) s = .next t
      ∧ t = (s.bump .tethCorrupt 0 1).setPort p { s.port p with nak := some (s.port p).expect })
  ∧ (∀ (s : State) (p : Nat) (b : List Byte), s.portUp p = true → ∃ t, exec (.tetherLinkFrame p b true) s = .next t
      ∧ t = s.setPort p { s.port p with nak := some (s.port p).expect })
  ∧ (∀ (s : State) (p : Nat) (b : List Byte), s.portUp p = false → ∃ t, exec (.tetherLinkFrame p b true) s = .next t ∧ t = s)
  ∧ (∀ (s : State) (p : Nat), s.portUp p = true → (s.port p).sent ≠ [] → (s.port p).lastAck + 50000 ≤ s.now → ∃ t,
      exec (.tetherReplayTimeout p) s = .next t
      ∧ t = (({ s.setPort p { s.port p with lastAck := s.now } with out := s.out ++ (s.port p).sent.map (fun f => Out.tether p f.bytes) } : State).bump .tethReplays 0 (s.port p).sent.length))
  ∧ (∀ (s : State) (p : Nat), s.portUp p = false ∨ (s.port p).sent = [] ∨ s.now < (s.port p).lastAck + 50000 → ∃ t,
      exec (.tetherReplayTimeout p) s = .next t ∧ t = s)

/-- SESSION_GAP_TIMEOUT closes an OPEN session whose gap has stood for 100 ms, with CLOSE sent (log entry 67), reason GAP and without its keys, and
its captures are discarded. TETHER_KEY_ROLLOVER at counter 2^40 sends KEY_UPDATE and goes on to the key that follows, whose counter begins at 0,
in the other phase. HANDSHAKE_TIMEOUT 1 s after ACCEPT ends the handshake; a session that is OPEN goes on. Where these conditions do not hold, the
commands leave the state as it is. -/
def Obligations.SessionsTimeAndClose : Prop :=
  (∀ (s : State) (n g : Nat), s.isOpen n = true → (s.sess n).gapAt = some g → g + 100000000 ≤ s.now → ∃ t, exec (.sessionGapTimeout n) s = .next t
      ∧ t = (s.sessionSend n tfClose []).closeSession n .gap ∧ t.rd .tsClosereason n = 2 ∧ t.rd .tsState n = (if (s.sess n).hs.isSome then 1 else 0)
      ∧ t.rd .tsEvtwindow n = 0 ∧ t.sess n = { Session.none with hs := (s.sess n).hs, frags := (s.sess n).frags } ∧ (∀ q ∈ t.cfg.captures,
      q.1 / 2 ^ 40 ≠ n) ∧ t.mem = s.mem)
  ∧ (∀ (s : State) (n : Nat), s.isOpen n = false ∨ (∀ g ∈ (s.sess n).gapAt, s.now < g + 100000000) → ∃ t, exec (.sessionGapTimeout n) s = .next t
      ∧ t = s)
  ∧ (∀ (s : State) (n : Nat), s.isOpen n = true → 2 ^ 40 ≤ (s.sess n).tx.count → ∃ t, exec (.tetherKeyRollover n) s = .next t
      ∧ t = ((((s.setSess n { s.sess n with tx := tethNext (s.sess n).tx }).wr .tsTxctr n (s.sess n).tx.count).queueFrame n (tfSeal (s.sess n).tx tfKeyUpdate n [])).flush n)
      ∧ ((s.sess n).waiting = [] → (t.sess n).tx = tethNext (s.sess n).tx ∧ (t.sess n).tx.count = 0 ∧ (t.sess n).tx.phase = !(s.sess n).tx.phase))
  ∧ (∀ (s : State) (n : Nat), s.isOpen n = false ∨ (s.sess n).tx.count < 2 ^ 40 → ∃ t, exec (.tetherKeyRollover n) s = .next t ∧ t = s)
  ∧ (∀ (s : State) (n : Nat) (h : Handshake), (s.sess n).hs = some h → h.at_ + 1000000000 ≤ s.now → ∃ t, exec (.handshakeTimeout n) s = .next t
      ∧ t = (if s.isOpen n then s.setSess n { s.sess n with hs := none } else (s.setSess n { s.sess n with hs := none }).wr .tsState n 0))
  ∧ (∀ (s : State) (n : Nat), (∀ h ∈ (s.sess n).hs, s.now < h.at_ + 1000000000) → ∃ t, exec (.handshakeTimeout n) s = .next t ∧ t = s)

/-- HANDSHAKE_OPEN, a whole OPEN message in one fragment that a port takes, while signatures are left and the entropy source is sound: a handshake of
the mode is under way with that message, its second begins now, one signature index is spent, and a session that is not OPEN is in HANDSHAKE; with
the signatures spent the handshake fails (log entry 67), and a message of another length, or one that the entropy source cannot serve, is dropped.
HANDSHAKE_FINISH within 1 s of ACCEPT: where the checks of the mode pass, the session is OPEN in the handshake's mode, counted in TS_OPENS, with
fresh counters (the receive counter 0, the send counter 1 after READY: R396) and no handshake; where they fail, the handshake ends and nothing is
opened; later than 1 s, or with no handshake, nothing is opened. A fragment of a longer message is kept until the message is whole, and the
message then taken; one that is not well formed is dropped. -/
def Obligations.HandshakesComplete : Prop :=
  (∀ (s : State) (p : Nat) (b m : List Byte), s.linkNext p 1 b = true → fragmentFormed ((b.drop 24).take (tfLen b)) = true →
      fieldAt ((b.drop 24).take (tfLen b)) 0 1 = 1 ∧ fieldAt ((b.drop 24).take (tfLen b)) 2 1 = 1 → m = ((b.drop 24).take (tfLen b)).drop 4 →
      m.length = 133 ∧ fieldAt m 1 3 = 0 → s.sec.entropyBad = false → s.sec.sigNext < sigTotal → ∃ t, exec (.handshakeOpen p b false) s = .next t
      ∧ (t.sess (tfSession b)).hs.map (fun h => (h.mode, h.opened, h.at_)) = some (fieldAt m 0 1, m, s.now) ∧ t.sec.sigNext = s.sec.sigNext + 1
      ∧ t.rd .secLmsleft 0 = sigTotal - (s.sec.sigNext + 1) ∧ (s.isOpen (tfSession b) = false → t.rd .tsState (tfSession b) = 1)
      ∧ (s.isOpen (tfSession b) = true → t.rd .tsState (tfSession b) = 2) ∧ t.mem = s.mem)
  ∧ (∀ (s : State) (p : Nat) (b m : List Byte), s.linkNext p 1 b = true → fragmentFormed ((b.drop 24).take (tfLen b)) = true →
      fieldAt ((b.drop 24).take (tfLen b)) 0 1 = 1 ∧ fieldAt ((b.drop 24).take (tfLen b)) 2 1 = 1 → m = ((b.drop 24).take (tfLen b)).drop 4 →
      m.length = 133 ∧ fieldAt m 1 3 = 0 → s.sec.entropyBad = false → sigTotal ≤ s.sec.sigNext → ∃ t, exec (.handshakeOpen p b false) s = .next t
      ∧ (t.sess (tfSession b)).hs = none ∧ t.sec.sigNext = s.sec.sigNext ∧ t.rd .tsState (tfSession b) = (if s.isOpen (tfSession b) then 2 else 0)
      ∧ t.mem = s.mem)
  ∧ (∀ (s : State) (p : Nat) (b m : List Byte), s.linkNext p 1 b = true → fragmentFormed ((b.drop 24).take (tfLen b)) = true →
      fieldAt ((b.drop 24).take (tfLen b)) 0 1 = 1 ∧ fieldAt ((b.drop 24).take (tfLen b)) 2 1 = 1 → m = ((b.drop 24).take (tfLen b)).drop 4 →
      m.length ≠ 133 ∨ fieldAt m 1 3 ≠ 0 ∨ s.sec.entropyBad = true → ∃ t, exec (.handshakeOpen p b false) s = .next t
      ∧ t = ((s.portReceive p 1 b false).1.setSess (tfSession b) { (s.portReceive p 1 b false).1.sess (tfSession b) with frags := (0, 0, []) }))
  ∧ (∀ (s : State) (p : Nat) (b m : List Byte) (h : Handshake), s.linkNext p 1 b = true → fragmentFormed ((b.drop 24).take (tfLen b)) = true →
      fieldAt ((b.drop 24).take (tfLen b)) 0 1 = 3 ∧ fieldAt ((b.drop 24).take (tfLen b)) 2 1 = 1 → m = ((b.drop 24).take (tfLen b)).drop 4 →
      (s.sess (tfSession b)).hs = some h → s.now < h.at_ + 1000000000 → ∃ t, exec (.handshakeFinish p b false) s = .next t
      ∧ (t.sess (tfSession b)).hs = none ∧ (s.finishVerifies (tfSession b) h m = true → t.rd .tsState (tfSession b) = 2
      ∧ t.rd .tsMode (tfSession b) = h.mode ∧ t.rd .tsOpens (tfSession b) = (s.rd .tsOpens (tfSession b) + 1) % 2 ^ 32
      ∧ (t.sess (tfSession b)).rx.count = 0 ∧ (t.sess (tfSession b)).tx.count = 1) ∧ (s.finishVerifies (tfSession b) h m = false →
      t.rd .tsState (tfSession b) = (if s.isOpen (tfSession b) then 2 else 0) ∧ t.rd .tsOpens (tfSession b) = s.rd .tsOpens (tfSession b))
      ∧ t.mem = s.mem)
  ∧ (∀ (s : State) (p : Nat) (b m : List Byte) (h : Handshake), s.linkNext p 1 b = true → fragmentFormed ((b.drop 24).take (tfLen b)) = true →
      fieldAt ((b.drop 24).take (tfLen b)) 0 1 = 3 ∧ fieldAt ((b.drop 24).take (tfLen b)) 2 1 = 1 → m = ((b.drop 24).take (tfLen b)).drop 4 →
      (s.sess (tfSession b)).hs = some h → h.at_ + 1000000000 ≤ s.now → ∃ t, exec (.handshakeFinish p b false) s = .next t
      ∧ t = ((s.portReceive p 1 b false).1.setSess (tfSession b) { (s.portReceive p 1 b false).1.sess (tfSession b) with frags := (0, 0, []) }).endHandshake (tfSession b)
      ∧ (t.sess (tfSession b)).hs = none ∧ t.rd .tsOpens (tfSession b) = s.rd .tsOpens (tfSession b))
  ∧ (∀ (s : State) (p : Nat) (b m : List Byte), s.linkNext p 1 b = true → fragmentFormed ((b.drop 24).take (tfLen b)) = true →
      fieldAt ((b.drop 24).take (tfLen b)) 0 1 = 3 ∧ fieldAt ((b.drop 24).take (tfLen b)) 2 1 = 1 → m = ((b.drop 24).take (tfLen b)).drop 4 →
      (s.sess (tfSession b)).hs = none → ∃ t, exec (.handshakeFinish p b false) s = .next t
      ∧ t = ((s.portReceive p 1 b false).1.setSess (tfSession b) { (s.portReceive p 1 b false).1.sess (tfSession b) with frags := (0, 0, []) }))
  ∧ (∀ (s : State) (p : Nat) (b : List Byte) (i : Instr), i ∈ [Instr.handshakeOpen p b false, Instr.handshakeFinish p b false] →
      s.linkNext p 1 b = true → fragmentFormed ((b.drop 24).take (tfLen b)) = true →
      ((List.range (((s.portReceive p 1 b false).1.sess (tfSession b)).withFragment ((b.drop 24).take (tfLen b))).2.1).filterMap (fun i => sget none (((s.portReceive p 1 b false).1.sess (tfSession b)).withFragment ((b.drop 24).take (tfLen b))).2.2 i)).length < (((s.portReceive p 1 b false).1.sess (tfSession b)).withFragment ((b.drop 24).take (tfLen b))).2.1 →
      ∃ t, exec i s = .next t
      ∧ t = (s.portReceive p 1 b false).1.setSess (tfSession b) { (s.portReceive p 1 b false).1.sess (tfSession b) with frags := (((s.portReceive p 1 b false).1.sess (tfSession b)).withFragment ((b.drop 24).take (tfLen b))) })
  ∧ (∀ (s : State) (p : Nat) (b : List Byte) (i : Instr), i ∈ [Instr.handshakeOpen p b false, Instr.handshakeFinish p b false] →
      s.linkNext p 1 b = true → fragmentFormed ((b.drop 24).take (tfLen b)) = true →
      (((s.portReceive p 1 b false).1.sess (tfSession b)).withFragment ((b.drop 24).take (tfLen b))).2.1 ≤ ((List.range (((s.portReceive p 1 b false).1.sess (tfSession b)).withFragment ((b.drop 24).take (tfLen b))).2.1).filterMap (fun i => sget none (((s.portReceive p 1 b false).1.sess (tfSession b)).withFragment ((b.drop 24).take (tfLen b))).2.2 i)).length →
      ∃ t, exec i s = .next t
      ∧ t = (if (((s.portReceive p 1 b false).1.sess (tfSession b)).withFragment ((b.drop 24).take (tfLen b))).1 = 1 then ((s.portReceive p 1 b false).1.setSess (tfSession b) { (s.portReceive p 1 b false).1.sess (tfSession b) with frags := (0, 0, []) }).takeOpen (tfSession b) ((List.range (((s.portReceive p 1 b false).1.sess (tfSession b)).withFragment ((b.drop 24).take (tfLen b))).2.1).filterMap (fun i => sget none (((s.portReceive p 1 b false).1.sess (tfSession b)).withFragment ((b.drop 24).take (tfLen b))).2.2 i)).flatten else ((s.portReceive p 1 b false).1.setSess (tfSession b) { (s.portReceive p 1 b false).1.sess (tfSession b) with frags := (0, 0, []) }).takeFinish (tfSession b) ((List.range (((s.portReceive p 1 b false).1.sess (tfSession b)).withFragment ((b.drop 24).take (tfLen b))).2.1).filterMap (fun i => sget none (((s.portReceive p 1 b false).1.sess (tfSession b)).withFragment ((b.drop 24).take (tfLen b))).2.2 i)).flatten))
  ∧ (∀ (s : State) (p : Nat) (b : List Byte) (i : Instr), i ∈ [Instr.handshakeOpen p b false, Instr.handshakeFinish p b false] →
      s.linkNext p 1 b = true → fragmentFormed ((b.drop 24).take (tfLen b)) = false → ∃ t, exec i s = .next t ∧ t = (s.portReceive p 1 b false).1)

/-- A protected frame of an OPEN session that holds nothing back, taken by its port and next in counter order under its session's key: where its tag
fails, the failure is counted. Where it opens, KEY_UPDATE lets the next key phase be accepted; CLOSE closes the session with reason CLOSE; ATTEST
of 48 bytes spends one signature index, while one is left, and sends its QUOTE, and any other length spends none; REQUEST runs its operations and
sends one RESPONSE; BULK_WRITE and BULK_READ of a live context that the session may reach write and read through the context's addresses,
BULK_WRITE of the security buffer writes there, and what fails is answered with ERROR. For BULK_WRITE and BULK_READ the state is the one in which
the errors met have been reported. A frame of any of these commands on a port in LISTEN wakes the module and is not received; on another port that
is not UP it does nothing; one with an uncorrectable codeword, corrupt, of another form, or out of link order is not taken, and one taken already
only shows that the port lives. A frame of a session that is not open, or out of counter order, writes no memory where none is held back. -/
def Obligations.SessionFramesTakeEffect : Prop :=
  (∀ (s : State) (p : Nat) (b : List Byte), s.linkNext p 11 b = true → s.counterNext b = true → ∃ t, exec (.tetherKeyUpdate p b false) s = .next t
      ∧ (s.openedOn b = none → tetherTagFailed s t (tfSession b)) ∧ (∀ _q ∈ s.openedOn b, (t.sess (tfSession b)).rxUpdate = true
      ∧ (t.sess (tfSession b)).rx.count = tfCtr b + 1 ∧ t.rd .tsRxctr (tfSession b) = tfCtr b % 2 ^ 64)
      ∧ t.rd .tethRxframes 0 = (s.rd .tethRxframes 0 + 1) % 2 ^ 64 ∧ t.mem = s.mem)
  ∧ (∀ (s : State) (p : Nat) (b : List Byte), s.linkNext p 10 b = true → s.counterNext b = true → ∃ t, exec (.sessionClose p b false) s = .next t
      ∧ (s.openedOn b = none → tetherTagFailed s t (tfSession b)) ∧ (∀ _q ∈ s.openedOn b, t.rd .tsClosereason (tfSession b) = 1
      ∧ t.rd .tsState (tfSession b) = (if (s.sess (tfSession b)).hs.isSome then 1 else 0) ∧ (t.sess (tfSession b)).rx = SpanKey.none
      ∧ (t.sess (tfSession b)).tx = SpanKey.none) ∧ t.mem = s.mem)
  ∧ (∀ (s : State) (p : Nat) (b : List Byte), s.linkNext p 8 b = true → s.counterNext b = true → s.sec.sigNext < sigTotal → ∃ t,
      exec (.attest p b false) s = .next t ∧ (s.openedOn b = none → tetherTagFailed s t (tfSession b)) ∧ (∀ q ∈ s.openedOn b, q.length = 48 →
      t.sec.sigNext = s.sec.sigNext + 1 ∧ t.rd .secLmsleft 0 = sigTotal - (s.sec.sigNext + 1)) ∧ (∀ q ∈ s.openedOn b, q.length ≠ 48 →
      t.sec.sigNext = s.sec.sigNext) ∧ (∀ q ∈ s.openedOn b, (s.sess (tfSession b)).waiting = [] → s.portUp (s.homeOf (tfSession b)) = true →
      (s.sess (tfSession b)).tx.count < 2 ^ 40 → (t.sess (tfSession b)).tx.count = (s.sess (tfSession b)).tx.count + 1
      ∧ t.rd .tsTxctr (tfSession b) = (s.sess (tfSession b)).tx.count) ∧ t.mem = s.mem)
  ∧ (∀ (s : State) (p : Nat) (b : List Byte), s.linkNext p 2 b = true → s.counterNext b = true → ∃ t, exec (.request p b false) s = .next t
      ∧ (s.openedOn b = none → tetherTagFailed s t (tfSession b)) ∧ (∀ q ∈ s.openedOn b, requestFormed q = true →
      t = (((s.receivedOn p 2 b).requestRun (tfSession b) (requestOps q)).1.sessionSend (tfSession b) tfResponse ((q ++ zeros 8).take 8 ++ ((s.receivedOn p 2 b).requestRun (tfSession b) (requestOps q)).2)).ownerCloses.drainSession (tfSession b) 64)
      ∧ (∀ q ∈ s.openedOn b, requestFormed q = false → t.mem = s.mem ∧ t.cfg = s.cfg ∧ ((s.sess (tfSession b)).waiting = [] →
      s.portUp (s.homeOf (tfSession b)) = true → (s.sess (tfSession b)).tx.count < 2 ^ 40 →
      (t.sess (tfSession b)).tx.count = (s.sess (tfSession b)).tx.count + 1)))
  ∧ (∀ (s : State) (p : Nat) (b : List Byte) (ecc : List (Nat × EccError)), (s.eccFound ecc).linkNext p 4 b = true →
      (s.eccFound ecc).counterNext b = true → ∃ t, exec (.bulkWrite p b false ecc) s = .next t ∧ ((s.eccFound ecc).openedOn b = none →
      tetherTagFailed (s.eccFound ecc) t (tfSession b)) ∧ (∀ q ∈ (s.eccFound ecc).openedOn b, fieldAt q 0 1 < 64 → fieldAt q 1 3 = 0 →
      0 < fieldAt q 4 4 → fieldAt q 4 4 ≤ 8192 → q.length = 16 + fieldAt q 4 4 →
      ((s.eccFound ecc).receivedOn p 4 b).bulkMay (tfSession b) (fieldAt q 0 1) = .ok →
      (((s.eccFound ecc).receivedOn p 4 b).dvaWrite (fieldAt q 0 1) (fieldAt q 8 8) (q.drop 16)).2 = .ok →
      t = (((s.eccFound ecc).receivedOn p 4 b).dvaWrite (fieldAt q 0 1) (fieldAt q 8 8) (q.drop 16)).1.drainSession (tfSession b) 64))
  ∧ (∀ (s : State) (p : Nat) (b : List Byte) (ecc : List (Nat × EccError)), (s.eccFound ecc).linkNext p 5 b = true →
      (s.eccFound ecc).counterNext b = true → ∃ t, exec (.bulkRead p b false ecc) s = .next t ∧ ((s.eccFound ecc).openedOn b = none →
      tetherTagFailed (s.eccFound ecc) t (tfSession b)) ∧ (∀ q ∈ (s.eccFound ecc).openedOn b, fieldAt q 0 1 < 64 → fieldAt q 1 3 = 0 →
      0 < fieldAt q 4 4 → fieldAt q 4 4 ≤ 2 ^ 20 → q.length = 16 → ((s.eccFound ecc).receivedOn p 5 b).bulkMay (tfSession b) (fieldAt q 0 1) = .ok →
      (((s.eccFound ecc).receivedOn p 5 b).readDva (fieldAt q 0 1) (fieldAt q 8 8) (fieldAt q 4 4)).2.toOption.isSome →
      t = ((((s.eccFound ecc).receivedOn p 5 b).readDva (fieldAt q 0 1) (fieldAt q 8 8) (fieldAt q 4 4)).1.sendBulkData (tfSession b) (fieldAt q 0 1) (fieldAt q 8 8) ((((s.eccFound ecc).receivedOn p 5 b).readDva (fieldAt q 0 1) (fieldAt q 8 8) (fieldAt q 4 4)).2.toOption.getD [])).drainSession (tfSession b) 64)
      ∧ (∀ q ∈ (s.eccFound ecc).openedOn b, q.length ≠ 16 → t.mem = (s.eccFound ecc).mem))
  ∧ (∀ (s : State) (p : Nat) (b : List Byte) (ecc : List (Nat × EccError)), (s.eccFound ecc).linkNext p 4 b = true →
      (s.eccFound ecc).counterNext b = true → ∃ t, exec (.bulkWrite p b false ecc) s = .next t ∧ ((∀ q ∈ (s.eccFound ecc).openedOn b,
      128 ≤ fieldAt q 0 1 ∨ fieldAt q 1 3 ≠ 0 ∨ fieldAt q 4 4 = 0 ∨ 8192 < fieldAt q 4 4 ∨ q.length ≠ 16 + fieldAt q 4 4 →
      t = (((s.eccFound ecc).receivedOn p 4 b).sendError (tfSession b) (tfCtr b) .sesOpFormat).drainSession (tfSession b) 64)
      ∧ (∀ q ∈ (s.eccFound ecc).openedOn b, fieldAt q 0 1 < 64 → fieldAt q 1 3 = 0 → 0 < fieldAt q 4 4 → fieldAt q 4 4 ≤ 8192 →
      q.length = 16 + fieldAt q 4 4 → (((s.eccFound ecc).receivedOn p 4 b).bulkMay (tfSession b) (fieldAt q 0 1)) ≠ .ok →
      t = (((s.eccFound ecc).receivedOn p 4 b).sendError (tfSession b) (tfCtr b) (((s.eccFound ecc).receivedOn p 4 b).bulkMay (tfSession b) (fieldAt q 0 1))).drainSession (tfSession b) 64)
      ∧ (∀ q ∈ (s.eccFound ecc).openedOn b, fieldAt q 0 1 < 64 → fieldAt q 1 3 = 0 → 0 < fieldAt q 4 4 → fieldAt q 4 4 ≤ 8192 →
      q.length = 16 + fieldAt q 4 4 → (((s.eccFound ecc).receivedOn p 4 b).bulkMay (tfSession b) (fieldAt q 0 1)) = .ok →
      (((s.eccFound ecc).receivedOn p 4 b).dvaWrite (fieldAt q 0 1) (fieldAt q 8 8) (q.drop 16)).2 ≠ .ok →
      t = ((((s.eccFound ecc).receivedOn p 4 b).dvaWrite (fieldAt q 0 1) (fieldAt q 8 8) (q.drop 16)).1.sendError (tfSession b) (tfCtr b) (((s.eccFound ecc).receivedOn p 4 b).dvaWrite (fieldAt q 0 1) (fieldAt q 8 8) (q.drop 16)).2).drainSession (tfSession b) 64)
      ∧ (∀ q ∈ (s.eccFound ecc).openedOn b, 64 ≤ fieldAt q 0 1 → fieldAt q 0 1 < 128 → fieldAt q 1 3 = 0 → 0 < fieldAt q 4 4 → fieldAt q 4 4 ≤ 8192 →
      q.length = 16 + fieldAt q 4 4 → ((((s.eccFound ecc).receivedOn p 4 b).bulkSecbuf (tfSession b) (fieldAt q 8 8) (q.drop 16)).2 = .ok →
      t = (((s.eccFound ecc).receivedOn p 4 b).bulkSecbuf (tfSession b) (fieldAt q 8 8) (q.drop 16)).1.drainSession (tfSession b) 64)
      ∧ ((((s.eccFound ecc).receivedOn p 4 b).bulkSecbuf (tfSession b) (fieldAt q 8 8) (q.drop 16)).2 ≠ .ok →
      t = ((((s.eccFound ecc).receivedOn p 4 b).bulkSecbuf (tfSession b) (fieldAt q 8 8) (q.drop 16)).1.sendError (tfSession b) (tfCtr b) (((s.eccFound ecc).receivedOn p 4 b).bulkSecbuf (tfSession b) (fieldAt q 8 8) (q.drop 16)).2).drainSession (tfSession b) 64))))
  ∧ (∀ (s : State) (p : Nat) (b : List Byte) (ecc : List (Nat × EccError)), (s.eccFound ecc).linkNext p 5 b = true →
      (s.eccFound ecc).counterNext b = true → ∃ t, exec (.bulkRead p b false ecc) s = .next t ∧ ((∀ q ∈ (s.eccFound ecc).openedOn b,
      64 ≤ fieldAt q 0 1 ∨ fieldAt q 1 3 ≠ 0 ∨ fieldAt q 4 4 = 0 ∨ 2 ^ 20 < fieldAt q 4 4 ∨ q.length ≠ 16 →
      t = (((s.eccFound ecc).receivedOn p 5 b).sendError (tfSession b) (tfCtr b) .sesOpFormat).drainSession (tfSession b) 64)
      ∧ (∀ q ∈ (s.eccFound ecc).openedOn b, fieldAt q 0 1 < 64 → fieldAt q 1 3 = 0 → 0 < fieldAt q 4 4 → fieldAt q 4 4 ≤ 2 ^ 20 → q.length = 16 →
      (((s.eccFound ecc).receivedOn p 5 b).bulkMay (tfSession b) (fieldAt q 0 1)) ≠ .ok →
      t = (((s.eccFound ecc).receivedOn p 5 b).sendError (tfSession b) (tfCtr b) (((s.eccFound ecc).receivedOn p 5 b).bulkMay (tfSession b) (fieldAt q 0 1))).drainSession (tfSession b) 64)
      ∧ (∀ q ∈ (s.eccFound ecc).openedOn b, fieldAt q 0 1 < 64 → fieldAt q 1 3 = 0 → 0 < fieldAt q 4 4 → fieldAt q 4 4 ≤ 2 ^ 20 → q.length = 16 →
      (((s.eccFound ecc).receivedOn p 5 b).bulkMay (tfSession b) (fieldAt q 0 1)) = .ok →
      (((s.eccFound ecc).receivedOn p 5 b).readDva (fieldAt q 0 1) (fieldAt q 8 8) (fieldAt q 4 4)).2.toOption = none →
      t = ((((s.eccFound ecc).receivedOn p 5 b).readDva (fieldAt q 0 1) (fieldAt q 8 8) (fieldAt q 4 4)).1.sendError (tfSession b) (tfCtr b) (statusOf (((s.eccFound ecc).receivedOn p 5 b).readDva (fieldAt q 0 1) (fieldAt q 8 8) (fieldAt q 4 4)).2)).drainSession (tfSession b) 64)))
  ∧ (∀ (s : State) (p : Nat) (b : List Byte), s.linkNext p 8 b = true → s.counterNext b = true → sigTotal ≤ s.sec.sigNext → ∃ t,
      exec (.attest p b false) s = .next t ∧ (∀ q ∈ s.openedOn b, q.length = 48 → t.sec.sigNext = s.sec.sigNext) ∧ t.mem = s.mem)
  ∧ (∀ (s v : State) (i : Instr) (p ty : Nat) (b : List Byte) (bad : Bool) (ecc : List (Nat × EccError)), (i, ty,
      v) ∈ [(Instr.tetherKeyUpdate p b bad, 11, s), (Instr.handshakeOpen p b bad, 1, s), (Instr.handshakeFinish p b bad, 1, s), (Instr.request p b bad, 2, s), (Instr.bulkWrite p b bad ecc, 4, s.eccFound ecc), (Instr.bulkRead p b bad ecc, 5, s.eccFound ecc), (Instr.attest p b bad, 8, s), (Instr.sessionClose p b bad, 10, s)] →
      p < 2 → v.portState p = tpListen → ∃ t, exec i s = .next t ∧ t = (if bad = true ∨ tfFormed b ty = false then v else v.wakeActivity 1 p))
  ∧ (∀ (s v : State) (i : Instr) (p ty : Nat) (b : List Byte) (bad : Bool) (ecc : List (Nat × EccError)), (i, ty,
      v) ∈ [(Instr.tetherKeyUpdate p b bad, 11, s), (Instr.handshakeOpen p b bad, 1, s), (Instr.handshakeFinish p b bad, 1, s), (Instr.request p b bad, 2, s), (Instr.bulkWrite p b bad ecc, 4, s.eccFound ecc), (Instr.bulkRead p b bad ecc, 5, s.eccFound ecc), (Instr.attest p b bad, 8, s), (Instr.sessionClose p b bad, 10, s)] →
      v.portUp p = false → (p < 2 → v.portState p ≠ tpListen) → ∃ t, exec i s = .next t ∧ t = v)
  ∧ (∀ (s v : State) (i : Instr) (p ty : Nat) (b : List Byte) (bad : Bool) (ecc : List (Nat × EccError)), (i, ty,
      v) ∈ [(Instr.tetherKeyUpdate p b bad, 11, s), (Instr.handshakeOpen p b bad, 1, s), (Instr.handshakeFinish p b bad, 1, s), (Instr.request p b bad, 2, s), (Instr.bulkWrite p b bad ecc, 4, s.eccFound ecc), (Instr.bulkRead p b bad ecc, 5, s.eccFound ecc), (Instr.attest p b bad, 8, s), (Instr.sessionClose p b bad, 10, s)] →
      v.portUp p = true → bad = true ∨ (tfCorrupt b = false ∧ (tfFormed b ty = false ∨ v.holdFull b = true ∨ (tfLseq b ≠ (v.port p).expect
      ∧ (tfLseq b + 2 ^ 32 - (v.port p).expect) % 2 ^ 32 < 2 ^ 31))) → ∃ t, exec i s = .next t
      ∧ t = v.setPort p { v.port p with nak := some (v.port p).expect })
  ∧ (∀ (s v : State) (i : Instr) (p ty : Nat) (b : List Byte) (bad : Bool) (ecc : List (Nat × EccError)), (i, ty,
      v) ∈ [(Instr.tetherKeyUpdate p b bad, 11, s), (Instr.handshakeOpen p b bad, 1, s), (Instr.handshakeFinish p b bad, 1, s), (Instr.request p b bad, 2, s), (Instr.bulkWrite p b bad ecc, 4, s.eccFound ecc), (Instr.bulkRead p b bad ecc, 5, s.eccFound ecc), (Instr.attest p b bad, 8, s), (Instr.sessionClose p b bad, 10, s)] →
      v.portUp p = true → bad = false ∧ tfCorrupt b = true → ∃ t, exec i s = .next t
      ∧ t = (v.bump .tethCorrupt 0 1).setPort p { v.port p with nak := some (v.port p).expect })
  ∧ (∀ (s v : State) (i : Instr) (p ty : Nat) (b : List Byte) (bad : Bool) (ecc : List (Nat × EccError)), (i, ty,
      v) ∈ [(Instr.tetherKeyUpdate p b bad, 11, s), (Instr.handshakeOpen p b bad, 1, s), (Instr.handshakeFinish p b bad, 1, s), (Instr.request p b bad, 2, s), (Instr.bulkWrite p b bad ecc, 4, s.eccFound ecc), (Instr.bulkRead p b bad ecc, 5, s.eccFound ecc), (Instr.attest p b bad, 8, s), (Instr.sessionClose p b bad, 10, s)] →
      v.portUp p = true → bad = false ∧ tfCorrupt b = false ∧ tfFormed b ty = true ∧ v.holdFull b = false → tfLseq b ≠ (v.port p).expect
      ∧ 2 ^ 31 ≤ (tfLseq b + 2 ^ 32 - (v.port p).expect) % 2 ^ 32 → ∃ t, exec i s = .next t ∧ t = v.setPort p { v.port p with lastRx := v.now })
  ∧ (∀ (s v : State) (i : Instr) (p ty : Nat) (b : List Byte) (bad : Bool) (ecc : List (Nat × EccError)), (i, ty,
      v) ∈ [(Instr.tetherKeyUpdate p b bad, 11, s), (Instr.handshakeOpen p b bad, 1, s), (Instr.handshakeFinish p b bad, 1, s), (Instr.request p b bad, 2, s), (Instr.bulkWrite p b bad ecc, 4, s.eccFound ecc), (Instr.bulkRead p b bad ecc, 5, s.eccFound ecc), (Instr.attest p b bad, 8, s), (Instr.sessionClose p b bad, 10, s)] →
      bad = false → ty ≠ 1 → v.linkNext p ty b = true → v.isOpen (tfSession b) = false ∨ v.sessionKey b = none → ∃ t, exec i s = .next t
      ∧ t = (v.receivedOn p ty b).drainSession (tfSession b) 64 ∧ ((v.sess (tfSession b)).held = [] → t.mem = v.mem))

/-- Session 0 sets the owner key with a valid OWNER certificate while every context is EMPTY: the change is counted, logged in the fuse log and shown
in FUSE_OWNERHASH; the PSKs, the bindings and rights of sessions, the publisher keys and the content keys are cleared, and every OPEN session
closes with reason OWNER. FW_EPOCH raises the epoch by one, to no more than the running image's. POWER_LOWER takes a ceiling from 1,000 W to one
below the current one. FW_LOAD of an image that passes its checks starts a warm reset with cause 6 that runs it, or waits for the module's own
FENCE where the module holds work of its flight; an image that fails changes no running firmware. Each command's status is in SEC_CMDSTATUS of its
session, and its write is answered OK; a command that fails, for a spent budget, a value, a certificate, a context not EMPTY or an image that
cannot be read, changes nothing else; a session that may not issue it is answered SES_RIGHTS. -/
def Obligations.SettingsBurned : Prop :=
  (∀ (s : State) (b : List Byte), s.rd .fuseOwnerused 0 < 8 → s.secCert.toOption = some b → (∀ c < 64, s.rd .ctxState c = 0) → ∃ t,
      exec (.ownerSet 0) s = .next t ∧ answered t (.session 0) .ok ∧ (ownerValid b = false → t.rd .secCmdstatus 0 = Status.sesAuth.code
      ∧ t.sec.owner = s.sec.owner ∧ t.rd .fuseOwnerused 0 = s.rd .fuseOwnerused 0) ∧ (ownerValid b = true → t.rd .secCmdstatus 0 = 0
      ∧ t.rd .fuseOwnerused 0 = s.rd .fuseOwnerused 0 + 1 ∧ t.rd .fuseOwnerhash 0 = leNat (beBytes 48 (certKeyHash b))
      ∧ t.rd .fuseLogcount 0 = (s.rd .fuseLogcount 0 + 1) % 2 ^ 8 ∧ t.sec.owner = certRecord b) ∧ (ownerValid b = true → t.sec.psks = []
      ∧ t.sec.pubs = [] ∧ t.sec.content = []) ∧ (ownerValid b = true → s.sec.ownerClose = false → ∀ n < 64, t.rd .tsEnabled n = 0
      ∧ t.rd .tsPskok n = 0 ∧ t.rd .tsReadall n = 0 ∧ t.rd .tsKeys n = 0 ∧ t.rd .tsPskset n = 0 ∧ t.rd .tsBindhash n = 0 ∧ t.rd .tsState n ≠ 2
      ∧ (s.rd .tsState n = 2 → t.rd .tsClosereason n = 5)))
  ∧ (∀ (s : State) (r : Nat × Nat), s.maySec0 0 = true → s.rd .fuseFwepoch 0 < 127 → s.sec.running = some r → s.rd .fuseFwepoch 0 + 1 ≤ r.2 → ∃ t,
      exec (.fwEpoch 0) s = .next t ∧ answered t (.session 0) .ok ∧ t.rd .secCmdstatus 0 = 0 ∧ t.rd .fuseFwepoch 0 = s.rd .fuseFwepoch 0 + 1
      ∧ t.rd .fuseLogcount 0 = (s.rd .fuseLogcount 0 + 1) % 2 ^ 8
      ∧ t.rd .fuseLog (s.rd .fuseLogcount 0) = leNat (leBytes 1 2 ++ leBytes 1 (s.rd .fuseFwepoch 0 + 1) ++ zeros 2 ++ leBytes 4 (s.rd .fuseFwepoch 0 + 1) ++ zeros 48 ++ leBytes 8 (s.sess 0).subject)
      ∧ t = { s with regs := t.regs, cfg := t.cfg } ∧ sameConfig s t
      ∧ sameRegs s t [Reg.fuseFwepoch.key 0, Reg.fuseLogcount.key 0, Reg.fuseLog.key (s.rd .fuseLogcount 0), Reg.secCmdstatus.key 0])
  ∧ (∀ (s : State), s.maySec0 0 = true → s.rd .fuseCeilused 0 < 4 → 1000 ≤ fieldAt (s.secArgs 0) 0 2
      ∧ fieldAt (s.secArgs 0) 0 2 < s.rd .fuseCeiling 0 → ∃ t, exec (.powerLower 0) s = .next t ∧ answered t (.session 0) .ok
      ∧ t.rd .secCmdstatus 0 = 0 ∧ t.rd .fuseCeiling 0 = fieldAt (s.secArgs 0) 0 2 ∧ t.rd .fuseCeilused 0 = s.rd .fuseCeilused 0 + 1
      ∧ t.rd .fuseLogcount 0 = (s.rd .fuseLogcount 0 + 1) % 2 ^ 8
      ∧ t.rd .fuseLog (s.rd .fuseLogcount 0) = leNat (leBytes 1 3 ++ leBytes 1 (s.rd .fuseCeilused 0 + 1) ++ zeros 2 ++ leBytes 4 (fieldAt (s.secArgs 0) 0 2) ++ zeros 48 ++ leBytes 8 (s.sess 0).subject)
      ∧ t = { s with regs := t.regs, cfg := t.cfg } ∧ sameConfig s t
      ∧ sameRegs s t [Reg.fuseCeiling.key 0, Reg.fuseCeilused.key 0, Reg.fuseLogcount.key 0, Reg.fuseLog.key (s.rd .fuseLogcount 0), Reg.secCmdstatus.key 0])
  ∧ (∀ (s : State) (h sig body : List Byte) (l : Nat), s.maySec0 0 = true → (s.secBytes 0 128).toOption = some h →
      (s.secSigLen 128).toOption = some l → (s.secBytes 128 l).toOption = some sig →
      (s.secBytes (roundUp (128 + l) 64) (fieldAt h 8 8)).toOption = some body → s.pow.resetting = none ∧ s.pow.warmWaits = none → ∃ t,
      exec (.fwLoad 0) s = .next t ∧ answered t (.session 0) .ok ∧ t.rd .secCmdstatus 0 = (s.fwCheck h sig body).code ∧ (s.fwCheck h sig body = .ok →
      s.flightWork = false → t.sec.running = some ((Config.sha384 h).toNat, fieldAt h 6 1) ∧ t.pow.resetting = some .warm ∧ t.rd .rstCause 0 = 6)
      ∧ (s.fwCheck h sig body = .ok → s.flightWork = true → t.sec.staged = some ((Config.sha384 h).toNat, fieldAt h 6 1) ∧ t.pow.warmWaits = some 6)
      ∧ (s.fwCheck h sig body ≠ .ok → t.sec = s.sec ∧ t.pow = s.pow ∧ t.mem = s.mem))
  ∧ (∀ (s : State) (i : Instr) (n : Nat), i ∈ [Instr.fwLoad n, Instr.fwEpoch n, Instr.powerLower n] → s.maySec0 n = false → ∃ t, exec i s = .next t
      ∧ t = s.reply (.session n) .sesRights 0)
  ∧ (∀ (s : State) (n : Nat), n ≠ 0 → s.sec.ownerClose = false → ∃ t, exec (.ownerSet n) s = .next t ∧ t = s.reply (.session n) .sesRights 0)
  ∧ (∀ (s : State) (st : Status), s.sec.ownerClose = false → (8 ≤ s.rd .fuseOwnerused 0 ∧ st = .secBudget) ∨ (s.rd .fuseOwnerused 0 < 8
      ∧ s.secCert.toOption = none ∧ st = statusOf s.secCert) → ∃ t, exec (.ownerSet 0) s = .next t ∧ t = (s.secEnd 0 st).reply (.session 0) .ok 0)
  ∧ (∀ (s : State) (b : List Byte), s.sec.ownerClose = false → s.rd .fuseOwnerused 0 < 8 → s.secCert.toOption = some b → (∃ c < 64,
      s.rd .ctxState c ≠ 0) → ∃ t, exec (.ownerSet 0) s = .next t
      ∧ t = (s.secEnd 0 (if ownerValid b then .secState else .sesAuth)).reply (.session 0) .ok 0)
  ∧ (∀ (s : State) (st : Status), s.maySec0 0 = true → (127 ≤ s.rd .fuseFwepoch 0 ∧ st = .secBudget) ∨ (s.rd .fuseFwepoch 0 < 127
      ∧ s.sec.running.all (fun r => r.2 < s.rd .fuseFwepoch 0 + 1) = true ∧ st = .secValue) → ∃ t, exec (.fwEpoch 0) s = .next t
      ∧ t = (s.secEnd 0 st).reply (.session 0) .ok 0)
  ∧ (∀ (s : State) (w : Nat) (st : Status), s.maySec0 0 = true → w = fieldAt (s.secArgs 0) 0 2 → (4 ≤ s.rd .fuseCeilused 0
      ∧ st = .secBudget) ∨ (s.rd .fuseCeilused 0 < 4 ∧ s.rd .fuseCeiling 0 ≤ w ∧ st = .secRaise) ∨ (s.rd .fuseCeilused 0 < 4 ∧ w < s.rd .fuseCeiling 0
      ∧ w < 1000 ∧ st = .secValue) → ∃ t, exec (.powerLower 0) s = .next t ∧ t = (s.secEnd 0 st).reply (.session 0) .ok 0)
  ∧ (∀ (s : State) (h sig body : List Byte) (l : Nat), s.maySec0 0 = true → (s.secBytes 0 128).toOption = some h →
      (s.secSigLen 128).toOption = some l → (s.secBytes 128 l).toOption = some sig →
      (s.secBytes (roundUp (128 + l) 64) (fieldAt h 8 8)).toOption = some body → ∃ t, exec (.fwLoad 0) s = .next t ∧ (s.fwCheck h sig body = .ok →
      t = ((({ s with sec := { s.sec with staged := some ((Config.sha384 h).toNat, fieldAt h 6 1) } } : State).startWarm 6).secEnd 0 .ok).reply (.session 0) .ok 0)
      ∧ (s.fwCheck h sig body ≠ .ok → t = (s.secEnd 0 (s.fwCheck h sig body)).reply (.session 0) .ok 0))
  ∧ (∀ (s : State) (st : Status), s.maySec0 0 = true → (s.secBytes 0 128).toOption = none → st = statusOf (s.secBytes 0 128) → ∃ t,
      exec (.fwLoad 0) s = .next t ∧ t = (s.secEnd 0 st).reply (.session 0) .ok 0)
  ∧ (∀ (s : State) (h : List Byte) (l : Nat) (st : Status), s.maySec0 0 = true → (s.secBytes 0 128).toOption = some h →
      (s.secSigLen 128).toOption = some l → ((s.secBytes 128 l).toOption = none
      ∧ st = statusOf (s.secBytes 128 l)) ∨ ((s.secBytes 128 l).toOption.isSome = true
      ∧ (s.secBytes (roundUp (128 + l) 64) (fieldAt h 8 8)).toOption = none ∧ st = statusOf (s.secBytes (roundUp (128 + l) 64) (fieldAt h 8 8))) →
      ∃ t, exec (.fwLoad 0) s = .next t ∧ t = (s.secEnd 0 (if st = .secState then .secFwFormat else st)).reply (.session 0) .ok 0)

/-- PUB_ADD of a valid PUBLISHER certificate adds its key record where it is new and fewer than 16 are held; PUB_REMOVE of a key that no bound
manifest names removes it. PSK_SET of a key that unwraps under its session's label sets the session's PSK, and BIND sets a session's rights and
key hash; both close that session with reason REBOUND if it is open. KEY_INSTALL and KEY_CLEAR by a session that may set and empty a key slot of a
context which no bound manifest slot uses. A key that does not unwrap changes no slot, with SEC_UNWRAP. A command that fails sets SEC_CMDSTATUS
and changes nothing else; a session that may not issue it is answered SES_RIGHTS. TS_EVTACK by the session, not in CLAIM mode, lowers its count of
records not acknowledged; otherwise it is refused. ENTROPY_FAILURE is noted and raised, once. -/
def Obligations.KeysAndRights : Prop :=
  (∀ (s : State) (b : List Byte), s.maySec0 0 = true → s.secCert.toOption = some b → s.sec.pubs.length < 16 → ∃ t, exec (.pubAdd 0) s = .next t
      ∧ answered t (.session 0) .ok ∧ (s.issuedValid b 4 = false → t.rd .secCmdstatus 0 = Status.sesAuth.code ∧ t.sec = s.sec)
      ∧ (s.issuedValid b 4 = true → t.rd .secCmdstatus 0 = 0
      ∧ t.sec = (if s.sec.pubs.contains (certRecord b) then s.sec else { s.sec with pubs := s.sec.pubs ++ [certRecord b] }))
      ∧ t = { s with regs := t.regs, cfg := t.cfg, sec := t.sec } ∧ sameConfig s t ∧ sameRegs s t [Reg.secCmdstatus.key 0])
  ∧ (∀ (s : State), s.maySec0 0 = true → s.publisherBound ((s.secArgs 0).take 48) = false → ∃ t, exec (.pubRemove 0) s = .next t
      ∧ answered t (.session 0) .ok ∧ (s.sec.pubs.find? (fun r => shaBytes r = (s.secArgs 0).take 48) = none →
      t.rd .secCmdstatus 0 = Status.secValue.code ∧ t.sec = s.sec) ∧ (∀ r ∈ s.sec.pubs.find? (fun r => shaBytes r = (s.secArgs 0).take 48),
      t.rd .secCmdstatus 0 = 0 ∧ t.sec = { s.sec with pubs := s.sec.pubs.erase r }) ∧ t = { s with regs := t.regs, cfg := t.cfg, sec := t.sec }
      ∧ sameConfig s t ∧ sameRegs s t [Reg.secCmdstatus.key 0])
  ∧ (∀ (s : State) (m : Nat) (w : List Byte), s.maySec0 0 = true → m = fieldAt (s.secArgs 0) 0 1 ∧ 1 ≤ m ∧ m < 64 → fieldAt (s.secArgs 0) 1 15 = 0 →
      w = (s.secArgs 0).drop 16 ∧ w.take 16 = zeros 15 ++ leBytes 1 m → ∃ t, exec (.pskSet 0) s = .next t ∧ answered t (.session 0) .ok
      ∧ (unwrapKey w = none → t.rd .secCmdstatus 0 = Status.secUnwrap.code ∧ t.sec = s.sec) ∧ (∀ k ∈ unwrapKey w, t.rd .secCmdstatus 0 = 0
      ∧ sget none t.sec.psks m = some k ∧ t.rd .tsPskset m = 1 ∧ t.rd .tsState m ≠ 2 ∧ (s.rd .tsState m = 2 → t.rd .tsClosereason m = 6))
      ∧ t.mem = s.mem)
  ∧ (∀ (s : State) (m r : Nat), s.maySec0 0 = true → m = fieldAt (s.secArgs 0) 0 1 ∧ 1 ≤ m ∧ m < 64 → fieldAt (s.secArgs 0) 1 3 = 0 →
      r = fieldAt (s.secArgs 0) 4 4 → ∃ t, exec (.bind 0) s = .next t ∧ answered t (.session 0) .ok ∧ t.rd .secCmdstatus 0 = 0
      ∧ t.rd .tsEnabled m = bitsAt r 0 1 ∧ t.rd .tsPskok m = bitsAt r 1 1 ∧ t.rd .tsReadall m = bitsAt r 2 1 ∧ t.rd .tsKeys m = bitsAt r 3 1
      ∧ t.rd .tsBindhash m = fieldAt (s.secArgs 0) 8 48 ∧ (t.rd .tsState m ≠ 2 ∧ (s.rd .tsState m = 2 → t.rd .tsClosereason m = 6)) ∧ t.mem = s.mem)
  ∧ (∀ (s : State) (n c k : Nat), s.mayKeys n c = true → c = fieldAt (s.secArgs n) 0 1 ∧ c < 64 → k = fieldAt (s.secArgs n) 1 1 ∧ k < 16 →
      fieldAt (s.secArgs n) 2 14 = 0 → s.keySlotBound c k = false → ∃ t, exec (.keyInstall n) s = .next t ∧ answered t (.session n) .ok
      ∧ (unwrapKey ((s.secArgs n).drop 16) = none → t.rd .secCmdstatus n = Status.secUnwrap.code ∧ t.sec = s.sec)
      ∧ (∀ key ∈ unwrapKey ((s.secArgs n).drop 16), t.rd .secCmdstatus n = 0
      ∧ t.sec = { s.sec with content := sput none s.sec.content (c * 16 + k) (some ⟨((s.secArgs n).drop 16).take 16, key⟩) })
      ∧ t = { s with regs := t.regs, cfg := t.cfg, sec := t.sec } ∧ sameConfig s t ∧ sameRegs s t [Reg.secCmdstatus.key n])
  ∧ (∀ (s : State) (n c k : Nat), s.mayKeys n c = true → c = fieldAt (s.secArgs n) 0 1 ∧ c < 64 → k = fieldAt (s.secArgs n) 1 1 ∧ k < 16 →
      s.keySlotBound c k = false → ∃ t, exec (.keyClear n) s = .next t ∧ answered t (.session n) .ok ∧ t.rd .secCmdstatus n = 0
      ∧ t.sec = { s.sec with content := sput none s.sec.content (c * 16 + k) none } ∧ sget none t.sec.content (c * 16 + k) = none
      ∧ t = { s with regs := t.regs, cfg := t.cfg, sec := t.sec } ∧ sameConfig s t ∧ sameRegs s t [Reg.secCmdstatus.key n])
  ∧ (∀ (s : State), s.sec.entropyBad = false → ∃ t, exec (.entropyFailure) s = .next t ∧ t.sec = { s.sec with entropyBad := true }
      ∧ eventAt t 0x40 .secEntropy ∧ t.mem = s.mem ∧ t.flt = s.flt)
  ∧ (∀ (s : State) (n v : Nat), s.isClaim n = false → ∃ t, exec (.tsEvtack (.session n) n v) s = .next t
      ∧ t = (s.wr .tsEvtwindow n (s.rd .tsEvtwindow n - v % 2 ^ 11)).reply (.session n) .ok 0)
  ∧ (∀ (s : State) (r : Reader) (n v : Nat), r ≠ .session n ∨ s.isClaim n = true → ∃ t, exec (.tsEvtack r n v) s = .next t
      ∧ t = s.reply r .sesRights 0)
  ∧ (∀ (s : State), s.sec.entropyBad = true → ∃ t, exec (.entropyFailure) s = .next t ∧ t = s)
  ∧ (∀ (s : State) (i : Instr) (n : Nat) (may : Bool), (i,
      may) ∈ [(Instr.pubAdd n, s.maySec0 n), (Instr.pubRemove n, s.maySec0 n), (Instr.pskSet n, s.maySec0 n), (Instr.bind n, s.maySec0 n), (Instr.keyInstall n, s.mayKeys n (fieldAt (s.secArgs n) 0 1)), (Instr.keyClear n, s.mayKeys n (fieldAt (s.secArgs n) 0 1))] →
      may = false → ∃ t, exec i s = .next t ∧ t = s.reply (.session n) .sesRights 0)
  ∧ (∀ (s : State), s.maySec0 0 = true → s.secCert.toOption = none → ∃ t, exec (.pubAdd 0) s = .next t
      ∧ t = (s.secEnd 0 (statusOf s.secCert)).reply (.session 0) .ok 0)
  ∧ (∀ (s : State) (b : List Byte), s.maySec0 0 = true → s.secCert.toOption = some b → 16 ≤ s.sec.pubs.length → ∃ t, exec (.pubAdd 0) s = .next t
      ∧ t = (s.secEnd 0 (if s.issuedValid b 4 = false then .sesAuth else if s.sec.pubs.contains (certRecord b) then .ok else .secPubFull)).reply (.session 0) .ok 0)
  ∧ (∀ (s : State), s.maySec0 0 = true → s.publisherBound ((s.secArgs 0).take 48) = true → ∃ t, exec (.pubRemove 0) s = .next t
      ∧ t = (s.secEnd 0 .secState).reply (.session 0) .ok 0)
  ∧ (∀ (s : State) (m : Nat), s.maySec0 0 = true → m = fieldAt (s.secArgs 0) 0 1 → m = 0 ∨ 64 ≤ m ∨ fieldAt (s.secArgs 0) 1 15 ≠ 0 → ∃ t,
      exec (.pskSet 0) s = .next t ∧ t = (s.secEnd 0 .secValue).reply (.session 0) .ok 0)
  ∧ (∀ (s : State) (m : Nat), s.maySec0 0 = true → m = fieldAt (s.secArgs 0) 0 1 ∧ 1 ≤ m ∧ m < 64 → fieldAt (s.secArgs 0) 1 15 = 0 →
      ((s.secArgs 0).drop 16).take 16 ≠ zeros 15 ++ leBytes 1 m → ∃ t, exec (.pskSet 0) s = .next t
      ∧ t = (s.secEnd 0 .secUnwrap).reply (.session 0) .ok 0)
  ∧ (∀ (s : State) (m : Nat), s.maySec0 0 = true → m = fieldAt (s.secArgs 0) 0 1 → m = 0 ∨ 64 ≤ m ∨ fieldAt (s.secArgs 0) 1 3 ≠ 0 → ∃ t,
      exec (.bind 0) s = .next t ∧ t = (s.secEnd 0 .secValue).reply (.session 0) .ok 0)
  ∧ (∀ (s : State) (i : Instr) (n c k : Nat), c = fieldAt (s.secArgs n) 0 1 ∧ k = fieldAt (s.secArgs n) 1 1 → s.mayKeys n c = true →
      (i = .keyInstall n ∧ fieldAt (s.secArgs n) 2 14 ≠ 0) ∨ ((i = .keyInstall n ∨ i = .keyClear n) ∧ (64 ≤ c ∨ 16 ≤ k)) → ∃ t, exec i s = .next t
      ∧ t = (s.secEnd n .secValue).reply (.session n) .ok 0)
  ∧ (∀ (s : State) (i : Instr) (n c k : Nat), c = fieldAt (s.secArgs n) 0 1 ∧ k = fieldAt (s.secArgs n) 1 1 → s.mayKeys n c = true → c < 64 ∧ k < 16
      ∧ s.keySlotBound c k = true → (i = .keyInstall n ∧ fieldAt (s.secArgs n) 2 14 = 0) ∨ i = .keyClear n → ∃ t, exec i s = .next t
      ∧ t = (s.secEnd n .secState).reply (.session n) .ok 0)

/-- COUNTER_FRAME_SEND sends one frame for every stream, numbered by MTR_SEQ. STREAM_TAIL_END drops an instance 60 s after its closure (MTR_TAIL
counts up to 64: log entry 122). A write of MTR_LEARNTOK by one that may adds the tokens; one that would pass 2^32 - 1 is discarded and recorded;
one by another reader is refused. CARRIER_APPEAR from a cartridge that has power and may light it makes MTR_STATE SETTLING where it was ABSENT,
CARRIER_SETTLED after 100 ms makes it VALID and ends MTR_INVALID with MTR_RESTORED, and CARRIER_LOSS makes it ABSENT and raises MTR_INVALID where
it was VALID and METERED contexts exist. A METROLOGY frame's fragment is handed to the cartridge: it begins a request while fewer than four whole
ones and nothing else are held, and is discarded beyond them; a whole request of a reserved kind is answered METER_BAD_REQUEST at once (log entry
122), and without a cartridge a whole request is answered METER_ABSENT, unsigned. Otherwise the commands leave the state as it is, but for what
the frame does on its port. -/
def Obligations.MeteringInterfaceComplete : Prop :=
  (∀ (s : State), ∃ t, exec (.counterFrameSend) s = .next t
      ∧ t.out = s.out ++ s.meterStreams.zipIdx.map (fun x => Out.counterFrame (s.counterFrame x.1.1 x.1.2.1 (s.rd .mtrSeq 0 + x.2) x.1.2.2))
      ∧ t.rd .mtrSeq 0 % 2 ^ 64 = (s.rd .mtrSeq 0 + s.meterStreams.length) % 2 ^ 64 ∧ t = { s with regs := t.regs, out := t.out }
      ∧ sameRegs s t [Reg.mtrSeq.key 0])
  ∧ (∀ (s : State) (c n : Nat), ∃ t, exec (.streamTailEnd c n) s = .next t ∧ t.meter.tails = s.meter.tails.filter (fun x => !decide (x.ctx = c
      ∧ x.inst.number = n ∧ x.closedAt + 60000000000 ≤ s.now)) ∧ t.rd .mtrTail 0 = min 64 t.meter.tails.length
      ∧ t = { s with regs := t.regs, meter := t.meter } ∧ sameRegs s t [Reg.mtrTail.key 0])
  ∧ (∀ (s : State) (r : Reader) (c n : Nat), s.mayWriteCtx r c = true → s.rd .mtrLearnpend c + n % 2 ^ 32 ≤ 2 ^ 32 - 1 → ∃ t,
      exec (.mtrLearntok r c n) s = .next t ∧ t = (s.wr .mtrLearnpend c (s.rd .mtrLearnpend c + n % 2 ^ 32)).reply r .ok 0)
  ∧ (∀ (s : State) (r : Reader) (c n : Nat), s.mayWriteCtx r c = true → 2 ^ 32 - 1 < s.rd .mtrLearnpend c + n % 2 ^ 32 → ∃ t,
      exec (.mtrLearntok r c n) s = .next t ∧ t = (s.recordError 0x438 .mtrDeclRange c).reply r .ok 0)
  ∧ (∀ (s : State) (r : Reader) (c n : Nat), s.mayWriteCtx r c = false → ∃ t, exec (.mtrLearntok r c n) s = .next t ∧ t = s.reply r .sesRights 0)
  ∧ (∀ (s : State), s.cartOn = true → s.cart.mayLight = true → s.meter.carrierAt = none → ∃ t, exec (.carrierAppear) s = .next t
      ∧ (s.rd .mtrState 0 = 0 → t = (({ s with meter := { s.meter with carrierAt := some s.now } } : State).wr .mtrState 0 1).bump .mtrValidchg 0 1)
      ∧ (s.rd .mtrState 0 ≠ 0 → t = ({ s with meter := { s.meter with carrierAt := some s.now } } : State)))
  ∧ (∀ (s : State), s.cartOn = false ∨ s.cart.mayLight = false ∨ s.meter.carrierAt.isSome = true → ∃ t, exec (.carrierAppear) s = .next t ∧ t = s)
  ∧ (∀ (s : State) (a : Nat), s.rd .mtrState 0 = 1 → s.meter.carrierAt = some a → a + 100000000 ≤ s.now → ∃ t, exec (.carrierSettled) s = .next t
      ∧ (s.meter.invalid = true →
      t = { ((s.wr .mtrState 0 2).bump .mtrValidchg 0 1).raise0 0x438 .mtrRestored 0 0 with meter := { s.meter with invalid := false } }
      ∧ eventAt t 0x438 .mtrRestored) ∧ (s.meter.invalid = false → t = (s.wr .mtrState 0 2).bump .mtrValidchg 0 1))
  ∧ (∀ (s : State), s.rd .mtrState 0 ≠ 1 ∨ (∀ a ∈ s.meter.carrierAt, s.now < a + 100000000) → ∃ t, exec (.carrierSettled) s = .next t ∧ t = s)
  ∧ (∀ (s : State), s.rd .mtrState 0 ≠ 0 → ∃ t, exec (.carrierLoss) s = .next t ∧ (s.rd .mtrState 0 = 2 → s.anyMetered = true →
      t = { ((({ s with meter := { s.meter with carrierAt := none }, cart := { s.cart with intervalValid := false } } : State).wr .mtrState 0 0).bump .mtrValidchg 0 1).raise0 0x438 .mtrInvalid 0 0 with meter := { s.meter with carrierAt := none, invalid := true } }
      ∧ eventAt t 0x438 .mtrInvalid) ∧ (s.rd .mtrState 0 ≠ 2 ∨ s.anyMetered = false →
      t = (({ s with meter := { s.meter with carrierAt := none }, cart := { s.cart with intervalValid := false } } : State).wr .mtrState 0 0).bump .mtrValidchg 0 1))
  ∧ (∀ (s : State), s.rd .mtrState 0 = 0 → ∃ t, exec (.carrierLoss) s = .next t
      ∧ t = ({ s with meter := { s.meter with carrierAt := none }, cart := { s.cart with intervalValid := false } } : State))
  ∧ (∀ (s : State) (p : Nat) (b : List Byte) (bad : Bool), (s.portReceive p 13 b bad).2 = false → ∃ t, exec (.metrology p b bad) s = .next t
      ∧ t = (s.portReceive p 13 b bad).1)
  ∧ (∀ (s : State) (p : Nat) (b : List Byte), s.linkNext p 13 b = true → ∃ t, exec (.metrology p b false) s = .next t
      ∧ t = (s.portReceive p 13 b false).1.relayMetrology ((b.drop 24).take (tfLen b)) ∧ (t.port p).expect = (tfLseq b + 1) % 2 ^ 32)
  ∧ (∀ (s : State) (p : Nat) (b : List Byte), s.linkNext p 13 b = true → 4 ≤ ((b.drop 24).take (tfLen b)).length
      ∧ 1 ≤ fieldAt ((b.drop 24).take (tfLen b)) 2 1 ∧ fieldAt ((b.drop 24).take (tfLen b)) 2 1 ≤ 8
      ∧ fieldAt ((b.drop 24).take (tfLen b)) 1 1 < fieldAt ((b.drop 24).take (tfLen b)) 2 1 ∧ fieldAt ((b.drop 24).take (tfLen b)) 3 1 = 0 →
      s.cart.held.all (·.whole) = true ∧ s.cart.held.length < 4 → fieldAt ((b.drop 24).take (tfLen b)) 2 1 ≠ 1 ∨ (s.cart.present = true
      ∧ (1 ≤ fieldAt ((b.drop 24).take (tfLen b)) 0 1 ∧ fieldAt ((b.drop 24).take (tfLen b)) 0 1 ≤ 6)) → ∃ t, exec (.metrology p b false) s = .next t
      ∧ t = { (s.portReceive p 13 b false).1 with cart := { s.cart with held := s.cart.held ++ [⟨[(fieldAt ((b.drop 24).take (tfLen b)) 1 1, ((b.drop 24).take (tfLen b)))], fieldAt ((b.drop 24).take (tfLen b)) 2 1⟩] } })
  ∧ (∀ (s : State) (p : Nat) (b : List Byte), s.linkNext p 13 b = true → 4 ≤ ((b.drop 24).take (tfLen b)).length
      ∧ 1 ≤ fieldAt ((b.drop 24).take (tfLen b)) 2 1 ∧ fieldAt ((b.drop 24).take (tfLen b)) 2 1 ≤ 8
      ∧ fieldAt ((b.drop 24).take (tfLen b)) 1 1 < fieldAt ((b.drop 24).take (tfLen b)) 2 1 ∧ fieldAt ((b.drop 24).take (tfLen b)) 3 1 = 0 →
      s.cart.present = true → s.cart.held.all (fun r => r.whole && 1 ≤ fieldAt r.message 0 1 && fieldAt r.message 0 1 ≤ 6) = true →
      4 ≤ s.cart.held.length → ∃ t, exec (.metrology p b false) s = .next t ∧ t = (s.portReceive p 13 b false).1)
  ∧ (∀ (s : State) (p : Nat) (b : List Byte), s.linkNext p 13 b = true → 4 ≤ ((b.drop 24).take (tfLen b)).length
      ∧ 1 ≤ fieldAt ((b.drop 24).take (tfLen b)) 2 1 ∧ fieldAt ((b.drop 24).take (tfLen b)) 2 1 ≤ 8
      ∧ fieldAt ((b.drop 24).take (tfLen b)) 1 1 < fieldAt ((b.drop 24).take (tfLen b)) 2 1 ∧ fieldAt ((b.drop 24).take (tfLen b)) 3 1 = 0 →
      s.cart.held.all (·.whole) = true ∧ s.cart.held.length < 4 → fieldAt ((b.drop 24).take (tfLen b)) 2 1 = 1 → s.cart.present = true →
      ¬(1 ≤ fieldAt ((b.drop 24).take (tfLen b)) 0 1 ∧ fieldAt ((b.drop 24).take (tfLen b)) 0 1 ≤ 6) → ∃ t, exec (.metrology p b false) s = .next t
      ∧ t = (s.portReceive p 13 b false).1.meterReply s.cart (fieldAt ((b.drop 24).take (tfLen b)) 0 1) .meterBadRequest ((((b.drop 24).take (tfLen b)).drop 4).take 32) [])
  ∧ (∀ (s : State) (p : Nat) (b : List Byte), s.linkNext p 13 b = true → 4 ≤ ((b.drop 24).take (tfLen b)).length
      ∧ 1 ≤ fieldAt ((b.drop 24).take (tfLen b)) 2 1 ∧ fieldAt ((b.drop 24).take (tfLen b)) 2 1 ≤ 8
      ∧ fieldAt ((b.drop 24).take (tfLen b)) 1 1 < fieldAt ((b.drop 24).take (tfLen b)) 2 1 ∧ fieldAt ((b.drop 24).take (tfLen b)) 3 1 = 0 →
      s.cart.held.all (·.whole) = true ∧ s.cart.held.length < 4 → fieldAt ((b.drop 24).take (tfLen b)) 2 1 = 1 → s.cart.present = false → ∃ t,
      exec (.metrology p b false) s = .next t
      ∧ t = (s.portReceive p 13 b false).1.sendMetrology (leBytes 1 (fieldAt ((b.drop 24).take (tfLen b)) 0 1 ||| 0x80) ++ zeros 3 ++ leBytes 2 Status.meterAbsent.code ++ zeros 2 ++ ((((b.drop 24).take (tfLen b)).drop 4).take 32 ++ zeros 32).take 32))
  ∧ (∀ (s : State) (p : Nat) (b : List Byte), s.linkNext p 13 b = true → ¬(4 ≤ ((b.drop 24).take (tfLen b)).length
      ∧ 1 ≤ fieldAt ((b.drop 24).take (tfLen b)) 2 1 ∧ fieldAt ((b.drop 24).take (tfLen b)) 2 1 ≤ 8
      ∧ fieldAt ((b.drop 24).take (tfLen b)) 1 1 < fieldAt ((b.drop 24).take (tfLen b)) 2 1 ∧ fieldAt ((b.drop 24).take (tfLen b)) 3 1 = 0) → ∃ t,
      exec (.metrology p b false) s = .next t ∧ t = (s.portReceive p 13 b false).1)

/-- CARTRIDGE_FRAME_ACCEPT of a correct frame by a cartridge in its socket with power: an open stream that it knows takes the frame's values and
number, and a module other than the last is logged, unless a counter or the boot falls, which is logged as COUNTER_REGRESS and changes no stream
(a lower boot names counter 0: log entry 122); a CLOSED frame closes its stream with a FINAL record; a frame of a closed stream does nothing; a
new stream is kept from then on, and a higher boot first closes the older one's streams. After LINK_LOST the frame first logs that the link is
back. INTERVAL_RECORD writes one record for the energy and one for each open stream that had a frame. OVERCURRENT, SEAL_BROKEN, CARTRIDGE_REMOVED,
CARTRIDGE_INSERTED, LINK_LOST and SELFTEST_FAIL each log their event; a broken seal stays broken, is in the metrological log, and with a failed
self-test or a removal ends the carrier (log entry 122). Without power, or where they find what they would bring about, they leave the state as it
is. -/
def Obligations.CartridgeRecords : Prop :=
  (∀ (s : State) (b : List Byte) (x : MeterStream), s.cartOn = true ∧ s.cart.linkLost = false → b.length = 144
      ∧ b.take 4 = [0x4B#8, 0x4D#8, 0x43#8, 0x31#8] ∧ fieldAt b 4 2 = 1 ∧ fieldAt b 136 4 = crc32c (b.take 136) →
      s.cart.streams.find? (fun x => decide (x.serial = (fieldAt b 8 6) ∧ x.boot = (fieldAt b 16 4) ∧ x.inst = (fieldAt b 20 4))) = some x →
      x.closed = false ∧ bitAt (fieldAt b 7 1) 1 = false → sget 0 s.cart.boots (fieldAt b 8 6) ≤ (fieldAt b 16 4) →
      regressAt 0 ((List.range 13).map (fun i => fieldAt b (32 + 8 * i) 8)) x.counts = none → ∃ t, exec (.cartridgeFrameAccept b) s = .next t
      ∧ t = { s with cart := { (s.cart.fromModule (fieldAt b 8 6)) with streams := s.cart.streams.map (fun z => if z.serial = (fieldAt b 8 6) ∧ z.boot = (fieldAt b 16 4) ∧ z.inst = (fieldAt b 20 4) then { x with ctx := fieldAt b 6 1 % 128, counts := ((List.range 13).map (fun i => fieldAt b (32 + 8 * i) 8)), seq := (fieldAt b 24 8), closed := false, heard := true, gap := x.gapped s.now, at_ := s.now } else z) } })
  ∧ (∀ (s : State) (b : List Byte) (x : MeterStream), s.cartOn = true ∧ s.cart.linkLost = false → b.length = 144
      ∧ b.take 4 = [0x4B#8, 0x4D#8, 0x43#8, 0x31#8] ∧ fieldAt b 4 2 = 1 ∧ fieldAt b 136 4 = crc32c (b.take 136) →
      s.cart.streams.find? (fun x => decide (x.serial = (fieldAt b 8 6) ∧ x.boot = (fieldAt b 16 4) ∧ x.inst = (fieldAt b 20 4))) = some x →
      x.closed = false ∧ bitAt (fieldAt b 7 1) 1 = true → sget 0 s.cart.boots (fieldAt b 8 6) ≤ (fieldAt b 16 4) →
      regressAt 0 ((List.range 13).map (fun i => fieldAt b (32 + 8 * i) 8)) x.counts = none → ∃ t, exec (.cartridgeFrameAccept b) s = .next t
      ∧ t = { s with cart := { (s.cart.fromModule (fieldAt b 8 6)).streamRecord s.now 2 { x with ctx := fieldAt b 6 1 % 128, counts := ((List.range 13).map (fun i => fieldAt b (32 + 8 * i) 8)), seq := (fieldAt b 24 8), closed := true, heard := true, gap := x.gapped s.now, at_ := s.now } with streams := s.cart.streams.map (fun z => if z.serial = (fieldAt b 8 6) ∧ z.boot = (fieldAt b 16 4) ∧ z.inst = (fieldAt b 20 4) then { x with ctx := fieldAt b 6 1 % 128, counts := ((List.range 13).map (fun i => fieldAt b (32 + 8 * i) 8)), seq := (fieldAt b 24 8), closed := true, heard := true, gap := x.gapped s.now, at_ := s.now } else z) } }
      ∧ t.cart.newest = s.cart.newest + 1 ∧ fieldAt (sget [] t.cart.records (s.cart.newest + 1)) 4 1 = 2)
  ∧ (∀ (s : State) (b : List Byte) (x : MeterStream) (i : Nat), s.cartOn = true ∧ s.cart.linkLost = false → b.length = 144
      ∧ b.take 4 = [0x4B#8, 0x4D#8, 0x43#8, 0x31#8] ∧ fieldAt b 4 2 = 1 ∧ fieldAt b 136 4 = crc32c (b.take 136) →
      s.cart.streams.find? (fun x => decide (x.serial = (fieldAt b 8 6) ∧ x.boot = (fieldAt b 16 4) ∧ x.inst = (fieldAt b 20 4))) = some x →
      x.closed = false → sget 0 s.cart.boots (fieldAt b 8 6) ≤ (fieldAt b 16 4) →
      regressAt 0 ((List.range 13).map (fun i => fieldAt b (32 + 8 * i) 8)) x.counts = some i → ∃ t, exec (.cartridgeFrameAccept b) s = .next t
      ∧ t = { s with cart := s.cart.logEvent 10 (leBytes 8 (fieldAt b 8 6) ++ leBytes 4 (fieldAt b 16 4) ++ leBytes 4 (fieldAt b 20 4) ++ leBytes 4 i) })
  ∧ (∀ (s : State) (b : List Byte), s.cartOn = true ∧ s.cart.linkLost = false → b.length = 144 ∧ b.take 4 = [0x4B#8, 0x4D#8, 0x43#8, 0x31#8]
      ∧ fieldAt b 4 2 = 1 ∧ fieldAt b 136 4 = crc32c (b.take 136) → (∀ x ∈ s.cart.streams.find? (fun x => decide (x.serial = (fieldAt b 8 6)
      ∧ x.boot = (fieldAt b 16 4) ∧ x.inst = (fieldAt b 20 4))), x.closed = false) → (fieldAt b 16 4) < sget 0 s.cart.boots (fieldAt b 8 6) → ∃ t,
      exec (.cartridgeFrameAccept b) s = .next t
      ∧ t = { s with cart := s.cart.logEvent 10 (leBytes 8 (fieldAt b 8 6) ++ leBytes 4 (fieldAt b 16 4) ++ leBytes 4 (fieldAt b 20 4) ++ leBytes 4 0) })
  ∧ (∀ (s : State) (b : List Byte) (x : MeterStream), s.cartOn = true ∧ s.cart.linkLost = false → b.length = 144
      ∧ b.take 4 = [0x4B#8, 0x4D#8, 0x43#8, 0x31#8] ∧ fieldAt b 4 2 = 1 ∧ fieldAt b 136 4 = crc32c (b.take 136) →
      s.cart.streams.find? (fun x => decide (x.serial = (fieldAt b 8 6) ∧ x.boot = (fieldAt b 16 4) ∧ x.inst = (fieldAt b 20 4))) = some x →
      x.closed = true → ∃ t, exec (.cartridgeFrameAccept b) s = .next t ∧ t = s)
  ∧ (∀ (s : State) (b : List Byte), s.cartOn = true ∧ s.cart.linkLost = false → b.length = 144 ∧ b.take 4 = [0x4B#8, 0x4D#8, 0x43#8, 0x31#8]
      ∧ fieldAt b 4 2 = 1 ∧ fieldAt b 136 4 = crc32c (b.take 136) → s.cart.streams.find? (fun x => decide (x.serial = (fieldAt b 8 6)
      ∧ x.boot = (fieldAt b 16 4) ∧ x.inst = (fieldAt b 20 4))) = none → sget 0 s.cart.boots (fieldAt b 8 6) ≤ (fieldAt b 16 4) → ∃ t,
      exec (.cartridgeFrameAccept b) s = .next t
      ∧ t = { s with cart := { (if bitAt (fieldAt b 7 1) 1 then (if sget 0 s.cart.boots (fieldAt b 8 6) < (fieldAt b 16 4) then (s.cart.fromModule (fieldAt b 8 6)).newBoot s.now (fieldAt b 8 6) (fieldAt b 16 4) else (s.cart.fromModule (fieldAt b 8 6))).streamRecord s.now 2 ⟨(fieldAt b 8 6), (fieldAt b 16 4), (fieldAt b 20 4), fieldAt b 6 1 % 128, ((List.range 13).map (fun i => fieldAt b (32 + 8 * i) 8)), (fieldAt b 24 8), bitAt (fieldAt b 7 1) 1, true, false, s.now⟩ else (if sget 0 s.cart.boots (fieldAt b 8 6) < (fieldAt b 16 4) then (s.cart.fromModule (fieldAt b 8 6)).newBoot s.now (fieldAt b 8 6) (fieldAt b 16 4) else (s.cart.fromModule (fieldAt b 8 6)))) with streams := (if sget 0 s.cart.boots (fieldAt b 8 6) < (fieldAt b 16 4) then (s.cart.fromModule (fieldAt b 8 6)).newBoot s.now (fieldAt b 8 6) (fieldAt b 16 4) else (s.cart.fromModule (fieldAt b 8 6))).streams ++ [⟨(fieldAt b 8 6), (fieldAt b 16 4), (fieldAt b 20 4), fieldAt b 6 1 % 128, ((List.range 13).map (fun i => fieldAt b (32 + 8 * i) 8)), (fieldAt b 24 8), bitAt (fieldAt b 7 1) 1, true, false, s.now⟩] } })
  ∧ (∀ (s : State) (b : List Byte), s.cartOn = true ∧ s.cart.linkLost = true → b.length = 144 ∧ b.take 4 = [0x4B#8, 0x4D#8, 0x43#8, 0x31#8]
      ∧ fieldAt b 4 2 = 1 ∧ fieldAt b 136 4 = crc32c (b.take 136) → ∃ t, exec (.cartridgeFrameAccept b) s = .next t
      ∧ t = { s with cart := ({ s.cart.logEvent 12 (leBytes 8 (fieldAt b 24 8)) with linkLost := false } : Cartridge).takeFrame s.now b })
  ∧ (∀ (s : State) (b : List Byte),
      s.cartOn = false ∨ b.length ≠ 144 ∨ b.take 4 ≠ [0x4B#8, 0x4D#8, 0x43#8, 0x31#8] ∨ fieldAt b 4 2 ≠ 1 ∨ fieldAt b 136 4 ≠ crc32c (b.take 136) →
      ∃ t, exec (.cartridgeFrameAccept b) s = .next t ∧ t = s)
  ∧ (∀ (s : State) (e k : Nat), s.cartOn = true → ∃ t, exec (.intervalRecord e k) s = .next t
      ∧ t.cart.newest = s.cart.newest + 1 + (s.cart.streams.filter (fun x => !x.closed && x.heard)).length
      ∧ t.cart.energy = (s.cart.energy + e) % 2 ^ 64 ∧ t.cart.clock = s.cart.clock + k
      ∧ t.cart.streams = s.cart.streams.map (fun x => { x with heard := false, gap := false }) ∧ t.cart.intervalValid = s.cart.mayLight
      ∧ t.cart.intervalCal = false ∧ (s.cart.streams = [] →
      sget [] t.cart.records (s.cart.newest + 1) = (s.cart.advance e k).record 1 (s.cart.flags false) (s.cart.newest + 1) (s.cart.lastSerial.getD 0) 0 0 0xFF 0 [])
      ∧ t = { s with cart := { s.cart with newest := t.cart.newest, records := t.cart.records, energy := t.cart.energy, clock := t.cart.clock, streams := t.cart.streams, intervalValid := t.cart.intervalValid, intervalCal := t.cart.intervalCal } })
  ∧ (∀ (s : State) (i : Instr) (a c : Nat), i ∈ [Instr.intervalRecord a c, Instr.overcurrent a, Instr.selftestFail a, Instr.linkLost] →
      s.cartOn = false → ∃ t, exec i s = .next t ∧ t = s)
  ∧ (∀ (s : State) (mA : Nat), s.cartOn = true → ∃ t, exec (.overcurrent mA) s = .next t ∧ t = { s with cart := s.cart.logEvent 14 (leBytes 4 mA) }
      ∧ eventLogged s t 14 (leBytes 4 mA))
  ∧ (∀ (s : State), s.cart.sealIntact = true → ∃ t, exec (.sealBroken) s = .next t
      ∧ t = { s with meter := { s.meter with carrierAt := none }, cart := { s.cart.logEvent 7 [] with sealIntact := false, intervalValid := false } }
      ∧ t.cart.mayLight = false ∧ t.cart.metroLog = (s.cart.metroLog ++ [sget [] t.cart.log (s.cart.newestLog + 1)]).take 32)
  ∧ (∀ (s : State), s.cart.sealIntact = false → ∃ t, exec (.sealBroken) s = .next t ∧ t = s)
  ∧ (∀ (s : State), s.cart.present = true → ∃ t, exec (.cartridgeRemoved) s = .next t
      ∧ t = { s with meter := { s.meter with carrierAt := none }, cart := { s.cart.logEvent 3 (leBytes 8 s.cart.energy) with present := false, held := [] } })
  ∧ (∀ (s : State), s.cart.present = false → ∃ t, exec (.cartridgeRemoved) s = .next t ∧ t = s)
  ∧ (∀ (s : State) (n c e k : Nat), s.cart.present = false → ∃ t, exec (.cartridgeInserted n c e k) s = .next t ∧ (s.cart.serial = n →
      t = { s with cart := ({ s.cart with clock := max s.cart.clock k, present := true } : Cartridge).logEvent 4 [] }) ∧ (s.cart.serial ≠ n →
      t = { s with cart := ({ Cartridge.absent with serial := n, calibrations := min 16 c, energy := e % 2 ^ 64, clock := k, present := true } : Cartridge).logEvent 4 [] })
      ∧ fieldAt (sget [] t.cart.log t.cart.newestLog) 16 1 = 4)
  ∧ (∀ (s : State) (n c e k : Nat), s.cart.present = true → ∃ t, exec (.cartridgeInserted n c e k) s = .next t ∧ t = s)
  ∧ (∀ (s : State), s.cartOn = true ∧ s.cart.linkLost = false → ∃ t, exec (.linkLost) s = .next t
      ∧ t = { s with cart := { s.cart.logEvent 11 (leBytes 8 ((s.cart.streams.map (·.seq)).foldl max 0)) with linkLost := true } })
  ∧ (∀ (s : State), s.cart.linkLost = true → ∃ t, exec (.linkLost) s = .next t ∧ t = s)
  ∧ (∀ (s : State) (k : Nat), s.cartOn = true → ∃ t, exec (.selftestFail k) s = .next t
      ∧ t = { s with meter := { s.meter with carrierAt := none }, cart := { s.cart.logEvent 13 (leBytes 4 k) with selfTests := false, intervalValid := false } }
      ∧ t.cart.mayLight = false)

/-- While a cartridge with signatures left is in the socket and holds a whole request of the kind, the command takes the first of them out and sends
its signed reply: IDENTIFY the certificate, image hash and counts; READ_RECORDS and READ_LOG what is held of the numbers asked for, and
METER_BAD_REQUEST beyond 32 or 128; READ_NOW a record formed now and not stored (its number 0 is log entry 122); CALIBRATE and TIME_SET with a
signature that does not verify or another cartridge's serial, METER_AUTH, then METER_BAD_REQUEST and METER_BUDGET by their checks, and with every
check passed, the new constants or the new time, logged. The body layouts of CALIBRATE and TIME_SET are the model's choice (log entry 31). A
request without its fixed fields is answered METER_BAD_REQUEST (log entry 122). With no signature left the reply, here of IDENTIFY, READ_RECORDS
and READ_LOG and of any short request, is METER_SIG_EXHAUSTED, unsigned and without a body. With no such request held the commands leave the state
as it is. -/
def Obligations.CartridgeReplies : Prop :=
  (∀ (s : State) (m : List Byte) (c : Cartridge), s.cart.present = true → s.cart.takeRequest 1 = some (m, c) → 0 < c.signatures → 48 ≤ m.length → ∃ t,
      exec (.identify) s = .next t
      ∧ replied s t c 1 .ok m (Config.cartridgeCert ++ bytes384 Config.cartridgeImage ++ leBytes 4 c.calibrations ++ leBytes 4 (b2n c.sealIntact) ++ leBytes 8 c.energy ++ leBytes 8 c.newest ++ leBytes 8 c.newestLog)
      ∧ t.cart = { c with signatures := c.signatures - 1 } ∧ t.mem = s.mem)
  ∧ (∀ (s : State) (i : Instr) (kind e k : Nat) (m : List Byte) (c : Cartridge), (i,
      kind) ∈ [(Instr.identify, 1), (Instr.readRecords, 2), (Instr.readLog, 3), (Instr.readNow e k, 4), (Instr.calibrate, 5), (Instr.timeSet, 6)] →
      s.cart.present = true → s.cart.takeRequest kind = some (m, c) → c.signatures = 0 → m.length < 48 ∨ kind ≤ 3 → ∃ t, exec i s = .next t
      ∧ t = ({ s with cart := c } : State).sendMetrology (leBytes 1 (kind ||| 0x80) ++ zeros 3 ++ leBytes 2 Status.meterSigExhausted.code ++ zeros 2 ++ (((m.drop 4).take 32) ++ zeros 32).take 32))
  ∧ (∀ (s : State) (i : Instr) (kind e k : Nat) (m : List Byte) (c : Cartridge), (i,
      kind) ∈ [(Instr.identify, 1), (Instr.readRecords, 2), (Instr.readLog, 3), (Instr.readNow e k, 4), (Instr.calibrate, 5), (Instr.timeSet, 6)] →
      s.cart.present = true → s.cart.takeRequest kind = some (m, c) → 0 < c.signatures → m.length < 48 → ∃ t, exec i s = .next t
      ∧ replied s t c kind .meterBadRequest m [])
  ∧ (∀ (s : State) (i : Instr) (kind e k : Nat), (i,
      kind) ∈ [(Instr.identify, 1), (Instr.readRecords, 2), (Instr.readLog, 3), (Instr.readNow e k, 4), (Instr.calibrate, 5), (Instr.timeSet, 6)] →
      s.cart.present = false ∨ s.cart.takeRequest kind = none → ∃ t, exec i s = .next t ∧ t = s)
  ∧ (∀ (s : State) (m : List Byte) (c : Cartridge), s.cart.present = true → s.cart.takeRequest 2 = some (m, c) → 0 < c.signatures → 48 ≤ m.length →
      ∃ t, exec (.readRecords) s = .next t ∧ (fieldAt m 44 4 ≤ 32 →
      replied s t c 2 .ok m ((List.range (fieldAt m 44 4)).map (fun k => sget [] c.records (fieldAt m 36 8 + k))).flatten) ∧ (32 < fieldAt m 44 4 →
      replied s t c 2 .meterBadRequest m []) ∧ t.cart = { c with signatures := c.signatures - 1 } ∧ t.mem = s.mem)
  ∧ (∀ (s : State) (m : List Byte) (c : Cartridge), s.cart.present = true → s.cart.takeRequest 3 = some (m, c) → 0 < c.signatures → 48 ≤ m.length →
      ∃ t, exec (.readLog) s = .next t ∧ (fieldAt m 44 4 = 0 → replied s t c 3 .ok m c.metroLog.flatten) ∧ (0 < fieldAt m 44 4 →
      fieldAt m 44 4 ≤ 128 → replied s t c 3 .ok m ((List.range (fieldAt m 44 4)).map (fun k => sget [] c.log (fieldAt m 36 8 + k))).flatten)
      ∧ (128 < fieldAt m 44 4 → replied s t c 3 .meterBadRequest m []) ∧ t.cart = { c with signatures := c.signatures - 1 } ∧ t.mem = s.mem)
  ∧ (∀ (s : State) (e k : Nat) (m : List Byte) (c : Cartridge), s.cart.present = true → s.cart.takeRequest 4 = some (m, c) → 0 < c.signatures →
      48 ≤ m.length → ∃ t, exec (.readNow e k) s = .next t
      ∧ replied s t (c.advance e k) 4 .ok m ((c.advance e k).record 4 (c.flags false) 0 (c.lastSerial.getD 0) 0 0 0xFF 0 [])
      ∧ t.cart = { c with signatures := c.signatures - 1, energy := (c.energy + e) % 2 ^ 64, clock := c.clock + k } ∧ t.mem = s.mem)
  ∧ (∀ (s : State) (m : List Byte) (c : Cartridge), s.cart.present = true → s.cart.takeRequest 5 = some (m, c) → 0 < c.signatures → 48 ≤ m.length →
      ∃ t, exec (.calibrate) s = .next t
      ∧ (Config.verifies Config.calibrationAuthority (Config.sha384 ((m.drop 48).take 32)) ((m.drop 48).drop 32) = false →
      replied s t c 5 .meterAuth m [])
      ∧ (Config.verifies Config.calibrationAuthority (Config.sha384 ((m.drop 48).take 32)) ((m.drop 48).drop 32) = true →
      (fieldAt (m.drop 48) 0 8 ≠ c.serial → replied s t c 5 .meterAuth m []) ∧ (fieldAt (m.drop 48) 0 8 = c.serial →
      (fieldAt (m.drop 48) 8 4 ≠ c.calibrations + 1 → replied s t c 5 .meterBadRequest m []) ∧ (fieldAt (m.drop 48) 8 4 = c.calibrations + 1 →
      (16 ≤ c.calibrations → replied s t c 5 .meterBudget m []) ∧ (c.calibrations < 16 →
      ((List.range 5).any (fun i => !Config.calibrationBound i (BitVec.ofNat 32 (((List.range 5).map (fun i => fieldAt (m.drop 48) (12 + 4 * i) 4)).getD i 0))) = true →
      replied s t c 5 .meterBadRequest m [])
      ∧ ((List.range 5).any (fun i => !Config.calibrationBound i (BitVec.ofNat 32 (((List.range 5).map (fun i => fieldAt (m.drop 48) (12 + 4 * i) 4)).getD i 0))) = false →
      replied s t { c.logEvent 8 (leBytes 4 (fieldAt (m.drop 48) 8 4) ++ (((List.range 5).map (fun i => fieldAt (m.drop 48) (12 + 4 * i) 4)).map (leBytes 4)).flatten) with calibrations := fieldAt (m.drop 48) 8 4, constants := ((List.range 5).map (fun i => fieldAt (m.drop 48) (12 + 4 * i) 4)), intervalCal := true } 5 .ok m [])))))
      ∧ t.mem = s.mem)
  ∧ (∀ (s : State) (m : List Byte) (c : Cartridge), s.cart.present = true → s.cart.takeRequest 6 = some (m, c) → 0 < c.signatures → 48 ≤ m.length →
      ∃ t, exec (.timeSet) s = .next t
      ∧ (Config.verifies Config.calibrationAuthority (Config.sha384 ((m.drop 48).take 16)) ((m.drop 48).drop 16) = false →
      replied s t c 6 .meterAuth m [])
      ∧ (Config.verifies Config.calibrationAuthority (Config.sha384 ((m.drop 48).take 16)) ((m.drop 48).drop 16) = true →
      (fieldAt (m.drop 48) 0 8 ≠ c.serial → replied s t c 6 .meterAuth m []) ∧ (fieldAt (m.drop 48) 0 8 = c.serial →
      (c.clock + 60 < (fieldAt (m.drop 48) 8 8) ∨ (fieldAt (m.drop 48) 8 8) + 60 < c.clock → replied s t c 6 .meterBadRequest m [])
      ∧ ((fieldAt (m.drop 48) 8 8) ≤ c.clock + 60 → c.clock ≤ (fieldAt (m.drop 48) 8 8) + 60 →
      (c.lastTimeSet.any (fun u => c.clock < u + 86400) = true → replied s t c 6 .meterBudget m [])
      ∧ (c.lastTimeSet.any (fun u => c.clock < u + 86400) = false →
      replied s t { c.logEvent 9 (leBytes 8 c.clock ++ leBytes 8 (fieldAt (m.drop 48) 8 8)) with clock := (fieldAt (m.drop 48) 8 8), lastTimeSet := some (fieldAt (m.drop 48) 8 8) } 6 .ok m []))))
      ∧ t.mem = s.mem)

/-- In P0, GETTID answers with the terminus ID, and a command outside the supported sets with the completion that R503 names; GETPLDMTYPES answers
types 0, 2, 4 and 5; GETPLDMCOMMANDS and GETPLDMVERSION answer for one of those types, and for no other; SET_ENDPOINT_ID takes the endpoint ID.
ENTDAA gives the dynamic address. A sensor, descriptor or inventory read is answered in every state in which the always-on domain has power, and
changes nothing. One of those first commands that comes in P2 wakes the module with source SIDEBAND, where PWR_WAKEMASK lets it, and waits; it
only waits where the mask does not, and while the module wakes; early in the entry to P2 it aborts the entry and takes effect. Without power none
of them does anything. The layouts of the answers are the model's choice (log entry 66). -/
def Obligations.SidebandAnswers : Prop :=
  (∀ (s : State) (a : Nat), s.pow.on = true → ∃ t, exec (.entdaa a) s = .next t ∧ t = { s with pow := { s.pow with address := some (a % 128) } })
  ∧ (∀ (s : State) (e : Nat), s.pow.on = true → s.rd .pwrState 0 = 0 → ∃ t, exec (.setEndpointId e) s = .next t
      ∧ t = { s with pow := { s.pow with eid := e % 256 }, out := s.out ++ [.sideband .success []] })
  ∧ (∀ (s : State), s.pow.on = true → s.rd .pwrState 0 = 0 → ∃ t, exec (.gettid true) s = .next t ∧ sidebandAnswered s t .success [Config.tid])
  ∧ (∀ (s : State), s.pow.on = true → s.rd .pwrState 0 = 0 → ∃ t, exec (.gettid false) s = .next t ∧ sidebandAnswered s t .unsupportedCommand [])
  ∧ (∀ (s : State), s.pow.on = true → s.rd .pwrState 0 = 0 → ∃ t, exec (.getpldmtypes) s = .next t ∧ sidebandAnswered s t .success (leBytes 8 0x35))
  ∧ (∀ (s : State) (k : Nat), s.pow.on = true → s.rd .pwrState 0 = 0 → ∃ t, exec (.getpldmcommands k) s = .next t ∧ (k ∈ [0, 2, 4, 5] →
      sidebandAnswered s t .success (leBytes 32 (Config.pldmCommands k).toNat)) ∧ (k ∉ [0, 2, 4, 5] → sidebandAnswered s t .invalidData []))
  ∧ (∀ (s : State) (k : Nat), s.pow.on = true → s.rd .pwrState 0 = 0 → ∃ t, exec (.getpldmversion k) s = .next t ∧ (k ∈ [0, 2, 4, 5] →
      sidebandAnswered s t .success (leBytes 4 (Config.pldmVersion k).toNat)) ∧ (k ∉ [0, 2, 4, 5] → sidebandAnswered s t .invalidData []))
  ∧ (∀ (s : State) (k m : Nat), s.pow.on = true → s.pow.heldOff = false → ∃ t, exec (.pldmSensorRead k m) s = .next t ∧ (k = 1 →
      sidebandAnswered s t .success (leBytes 4 (s.rd .pwrVin 0))) ∧ (k = 2 → sidebandAnswered s t .success (leBytes 4 (s.rd .pwrPin 0)))
      ∧ (k = 3 ∨ k = 4 ∨ k = 5 → sidebandAnswered s t .success (leBytes 4 m)) ∧ (k = 6 →
      sidebandAnswered s t .success (leBytes 4 (s.rd .fhThermmargin 0))) ∧ (k = 7 → sidebandAnswered s t .success (leBytes 4 (s.rd .fhLevel 0)))
      ∧ (k = 8 → sidebandAnswered s t .success (leBytes 4 (s.rd .pwrState 0))) ∧ (k = 9 →
      sidebandAnswered s t .success (leBytes 4 (s.rd .mtrState 0))) ∧ (k = 0 ∨ 9 < k → sidebandAnswered s t .invalidData []))
  ∧ (∀ (s : State) (k m : Nat), s.pow.on = true → s.pow.heldOff = true → ∃ t, exec (.pldmSensorRead k m) s = .next t ∧ (1 ≤ k ∧ k ≤ 6 →
      sidebandAnswered s t .success (leBytes 4 m)) ∧ (k = 7 → sidebandAnswered s t .success (leBytes 4 (s.rd .fhLevel 0))) ∧ (k = 8 →
      sidebandAnswered s t .success (leBytes 4 4)) ∧ (k = 9 → sidebandAnswered s t .success (leBytes 4 (s.rd .mtrState 0))))
  ∧ (∀ (s : State) (k : Nat), s.pow.on = true → ∃ t, exec (.pldmPdrRead k) s = .next t ∧ (1 ≤ k ∧ k ≤ 12 →
      sidebandAnswered s t .success (leBytes 2 k ++ leBytes 1 (if k ≤ 7 then 0 else if k ≤ 9 then 1 else if k = 10 then 2 else 3)))
      ∧ (k = 0 ∨ 12 < k → sidebandAnswered s t .invalidData []))
  ∧ (∀ (s : State), s.pow.on = true → ∃ t, exec (.pldmFruRead) s = .next t
      ∧ sidebandAnswered s t .success (leBytes 2 (s.rd .glbPart 0) ++ leBytes 6 (s.rd .glbSerial 0) ++ leBytes 1 (s.rd .glbStepping 0) ++ leBytes 1 (b2n s.cart.present) ++ leBytes 8 (if s.cart.present then s.cart.serial else 0)))
  ∧ (∀ (s : State) (i : Instr) (a : SidebandAct) (e : Nat), (i,
      a) ∈ [(Instr.setEndpointId e, SidebandAct.setEid (e % 256)), (Instr.gettid true, .answer .success [Config.tid]), (Instr.gettid false, .answer .unsupportedCommand []), (Instr.getpldmtypes, .answer .success (leBytes 8 0x35))] →
      s.pow.on = true → s.rd .pwrState 0 = 2 → bitAt (s.rd .pwrWakemask 0) 4 = true → ∃ t, exec i s = .next t ∧ t.rd .pwrState 0 = 3
      ∧ t.rd .wakeSource 0 = 5 ∧ t.rd .pwrWaketime 0 = s.now % 2 ^ 64 ∧ t.pow = { s.pow with deferred := s.pow.deferred ++ [a] }
      ∧ t = { s with regs := t.regs, pow := t.pow })
  ∧ (∀ (s : State) (i : Instr) (a : SidebandAct) (e : Nat), (i,
      a) ∈ [(Instr.setEndpointId e, SidebandAct.setEid (e % 256)), (Instr.gettid true, .answer .success [Config.tid]), (Instr.gettid false, .answer .unsupportedCommand []), (Instr.getpldmtypes, .answer .success (leBytes 8 0x35))] →
      s.pow.on = true → s.rd .pwrState 0 ≠ 0 → s.rd .pwrState 0 = 3 ∨ bitAt (s.rd .pwrWakemask 0) 4 = false → ∃ t, exec i s = .next t
      ∧ t = { s with pow := { s.pow with deferred := s.pow.deferred ++ [a] } })
  ∧ (∀ (s : State) (e : Nat), s.pow.on = true → s.rd .pwrState 0 = 1 → bitAt (s.rd .pwrWakemask 0) 4 = true → s.now < s.pow.enteredAt + 50000 → ∃ t,
      exec (.setEndpointId e) s = .next t ∧ t.rd .pwrState 0 = 0 ∧ t.rd .pwrCmdstatus 0 = Status.pwrEntryAborted.code ∧ t.pow.eid = e % 256
      ∧ Out.sideband .success [] ∈ t.out)
  ∧ (∀ (s : State) (i : Instr) (a m : Nat) (b : Bool),
      i ∈ [Instr.entdaa a, Instr.setEndpointId a, Instr.gettid b, Instr.getpldmtypes, Instr.getpldmcommands a, Instr.getpldmversion a, Instr.pldmSensorRead (1 + a % 9) m, Instr.pldmPdrRead (1 + a % 12), Instr.pldmFruRead] →
      s.pow.on = false → ∃ t, exec i s = .next t ∧ t = s)

/-- In P0, FEED_TAG_CONFIRM follows the four rows of R496. RESET_EFFECTER begins a module reset with cause 3, unless one or a power-on is under way.
POWER_EFFECTER_OFF holds the module off with power gone, also in P2. POWER_EFFECTER_ON of a module that is held off starts a power-on with
RST_CAUSE 1 and the straps, is refused with NOT_READY while an island is still hot, and changes nothing of a module that is not held off.
PLDM_FIRMWARE_UPDATE of an image that passes its checks keeps it for its activation, and one that fails leaves the module as it was;
FIRMWARE_UPDATE_ACTIVATE starts a warm reset with cause 6, which waits for the module's own FENCE where it has work in a flight, starts no second
one, and without an image is refused. A module that is held off answers the reset and the firmware commands NOT_READY. Outside P0 the commands but
the power effecter's wake the module where PWR_WAKEMASK lets them, and wait. Without power none of them does anything. -/
def Obligations.SidebandEffecters : Prop :=
  (∀ (s : State) (v : Nat), s.pow.on = true → s.rd .pwrState 0 = 0 → v % 65536 = s.rd .fltFeedtag 0 → s.rd .fltFeedtag 0 ≠ 0xFFFF → ∃ t,
      exec (.feedTagConfirm v) s = .next t ∧ t.rd .fltFeedok 0 = (if s.flag .fltFeedok 0 then s.rd .fltFeedok 0 else 1)
      ∧ t = { s with regs := t.regs, out := s.out ++ [.sideband .success []] } ∧ sameRegs s t [Reg.fltFeedok.key 0])
  ∧ (∀ (s : State) (v : Nat), s.pow.on = true → s.rd .pwrState 0 = 0 → (v % 65536 ≠ s.rd .fltFeedtag 0 ∨ (s.rd .fltFeedtag 0 = 0xFFFF
      ∧ s.flag .fltFeedok 0 = false)) → ∃ t, exec (.feedTagConfirm v) s = .next t ∧ t.rd .fltFeedok 0 = s.rd .fltFeedok 0
      ∧ (Out.sideband .invalidData [] ∈ t.out) ∧ eventAt t 0x430 .fltFeedtagUnconfirmed ∧ t.mem = s.mem ∧ t.flt = s.flt)
  ∧ (∀ (s : State), s.pow.on = true ∧ s.pow.heldOff = false → s.rd .pwrState 0 = 0 → s.pow.resetting ≠ some .module
      ∧ s.pow.resetting ≠ some .powerOn → ∃ t, exec (.resetEffecter) s = .next t ∧ t.pow.resetting = some .module ∧ t.rd .rstCause 0 = 3
      ∧ t.rd .rstLast 0 = 2 ∧ t.rd .rstModules 0 = (s.rd .rstModules 0 + 1) % 2 ^ 32 ∧ t.rd .mtrBoot 0 = (s.rd .mtrBoot 0 + 1) % 2 ^ 32
      ∧ t.mem.near = [] ∧ (∀ n < 64, s.rd .tsState n = 2 → t.rd .tsClosereason n = 7) ∧ t.out = s.out ++ [.sideband .success []])
  ∧ (∀ (s : State), s.pow.on = true ∧ s.pow.heldOff = false → s.rd .pwrState 0 = 0 →
      (s.pow.resetting = some .module ∨ s.pow.resetting = some .powerOn) → ∃ t, exec (.resetEffecter) s = .next t ∧ sidebandAnswered s t .success [])
  ∧ (∀ (s : State), s.pow.on = true → ∃ t, exec (.powerEffecterOff) s = .next t ∧ t.pow.heldOff = true ∧ t.pow.on = true ∧ t.pow.resetting = none
      ∧ t.pow.address = s.pow.address ∧ t.pow.eid = s.pow.eid ∧ t.mem.near = [] ∧ t.sec.running = none ∧ (∀ c < 64, t.rd .ctxState c = 0)
      ∧ t.rd .fuseCeiling 0 = s.rd .fuseCeiling 0 ∧ t.rd .fuseOwnerhash 0 = s.rd .fuseOwnerhash 0 ∧ t.rd .fltFeedok 0 = 0
      ∧ t.sec.sigNext = s.sec.sigEnd ∧ t.out = s.out ++ [.sideband .success []] ∧ t.pending = s.pending)
  ∧ (∀ (s : State) (straps : Nat), s.pow.on = true ∧ s.pow.heldOff = true → ∃ t, exec (.powerEffecterOn straps false) s = .next t
      ∧ t.pow.heldOff = false ∧ t.pow.resetting = some .powerOn ∧ t.rd .rstCause 0 = 1 ∧ t.rd .fltFeedtag 0 = straps % 2 ^ 16 ∧ t.rd .fltFeedok 0 = 0
      ∧ t.pow.address = s.pow.address ∧ t.pow.eid = s.pow.eid ∧ t.out = s.out ++ [.sideband .success []] ∧ t.pending = s.pending)
  ∧ (∀ (s : State) (straps : Nat), s.pow.on = true ∧ s.pow.heldOff = true → ∃ t, exec (.powerEffecterOn straps true) s = .next t
      ∧ sidebandAnswered s t .notReady [])
  ∧ (∀ (s : State) (straps : Nat) (hot : Bool), s.pow.on = true ∧ s.pow.heldOff = false → s.rd .pwrState 0 = 0 → ∃ t,
      exec (.powerEffecterOn straps hot) s = .next t ∧ sidebandAnswered s t .success [])
  ∧ (∀ (s : State) (b : List Byte), s.pow.on = true ∧ s.pow.heldOff = false → s.rd .pwrState 0 = 0 → ∃ t, exec (.pldmFirmwareUpdate b) s = .next t
      ∧ (s.fwCheck (imageParts b).1 (imageParts b).2.1 (imageParts b).2.2 = .ok →
      t = { s with sec := { s.sec with staged := some ((Config.sha384 (b.take 128)).toNat, fieldAt (b.take 128) 6 1) }, out := s.out ++ [.sideband .success []] })
      ∧ (s.fwCheck (imageParts b).1 (imageParts b).2.1 (imageParts b).2.2 ≠ .ok →
      sidebandAnswered s t .invalidData (leBytes 2 (s.fwCheck (imageParts b).1 (imageParts b).2.1 (imageParts b).2.2).code)))
  ∧ (∀ (s : State) (h e : Nat), s.pow.on = true ∧ s.pow.heldOff = false → s.rd .pwrState 0 = 0 → s.pow.resetting = none ∧ s.pow.warmWaits = none →
      s.sec.staged = some (h, e) → s.flightWork = false → ∃ t, exec (.firmwareUpdateActivate) s = .next t ∧ t.sec.running = some (h, e)
      ∧ t.sec.staged = none ∧ t.pow.resetting = some .warm ∧ t.rd .rstCause 0 = 6 ∧ t.rd .rstLast 0 = 3 ∧ t.mem.near = s.mem.near
      ∧ t.mem.far = s.mem.far)
  ∧ (∀ (s : State), s.pow.on = true ∧ s.pow.heldOff = false → s.rd .pwrState 0 = 0 → s.sec.staged = none → ∃ t,
      exec (.firmwareUpdateActivate) s = .next t ∧ sidebandAnswered s t .invalidData [])
  ∧ (∀ (s : State), s.pow.on = true ∧ s.pow.heldOff = false → s.rd .pwrState 0 = 0 → s.pow.resetting = none ∧ s.pow.warmWaits = none →
      s.sec.staged.isSome = true → s.flightWork = true → ∃ t, exec (.firmwareUpdateActivate) s = .next t
      ∧ t = { ({ s with out := s.out ++ [.sideband .success []] } : State).declareFault .fhSelfFault with pow := { (({ s with out := s.out ++ [.sideband .success []] } : State).declareFault .fhSelfFault).pow with warmWaits := some 6 } })
  ∧ (∀ (s : State), s.pow.on = true ∧ s.pow.heldOff = false → s.rd .pwrState 0 = 0 → s.pow.resetting.isSome = true ∨ s.pow.warmWaits.isSome = true →
      s.sec.staged.isSome = true → ∃ t, exec (.firmwareUpdateActivate) s = .next t ∧ sidebandAnswered s t .success [])
  ∧ (∀ (s : State) (i : Instr) (b : List Byte), i ∈ [Instr.resetEffecter, Instr.pldmFirmwareUpdate b, Instr.firmwareUpdateActivate] → s.pow.on = true
      ∧ s.pow.heldOff = true → s.rd .pwrState 0 = 0 → ∃ t, exec i s = .next t ∧ sidebandAnswered s t .notReady [])
  ∧ (∀ (s : State) (i : Instr) (a : SidebandAct) (v : Nat) (b : List Byte), (i,
      a) ∈ [(Instr.feedTagConfirm v, SidebandAct.feedTag (v % 65536)), (Instr.resetEffecter, .reset), (Instr.pldmFirmwareUpdate b, .update b), (Instr.firmwareUpdateActivate, .activate)] →
      s.pow.on = true → s.rd .pwrState 0 = 2 → bitAt (s.rd .pwrWakemask 0) 4 = true → ∃ t, exec i s = .next t ∧ t.rd .pwrState 0 = 3
      ∧ t.rd .wakeSource 0 = 5 ∧ t.rd .pwrWaketime 0 = s.now % 2 ^ 64 ∧ t.pow = { s.pow with deferred := s.pow.deferred ++ [a] }
      ∧ t = { s with regs := t.regs, pow := t.pow })
  ∧ (∀ (s : State) (i : Instr) (a : SidebandAct) (v : Nat) (b : List Byte), (i,
      a) ∈ [(Instr.feedTagConfirm v, SidebandAct.feedTag (v % 65536)), (Instr.resetEffecter, .reset), (Instr.pldmFirmwareUpdate b, .update b), (Instr.firmwareUpdateActivate, .activate)] →
      s.pow.on = true → s.rd .pwrState 0 ≠ 0 → s.rd .pwrState 0 = 3 ∨ bitAt (s.rd .pwrWakemask 0) 4 = false → ∃ t, exec i s = .next t
      ∧ t = { s with pow := { s.pow with deferred := s.pow.deferred ++ [a] } })
  ∧ (∀ (s : State) (i : Instr) (v : Nat) (hot : Bool) (b : List Byte),
      i ∈ [Instr.feedTagConfirm v, Instr.resetEffecter, Instr.powerEffecterOff, Instr.powerEffecterOn v hot, Instr.pldmFirmwareUpdate b, Instr.firmwareUpdateActivate] →
      s.pow.on = false → ∃ t, exec i s = .next t ∧ t = s)

/-- For a hart that runs and is not held, with a context: a load whose bytes translate to near memory or the CXL tier and read puts the number,
extended as the instruction says, into its destination (x0 discards) and goes on behind the instruction; a store that translates and is written
goes on behind the instruction; a fetch changes no register; a read of the time counter takes device time. What does not translate, or reads or
writes with an error, takes the exception of its kind, with the PC and the address, at the handler. An aligned 32-bit load or store of the window
reads or writes the register space as R480 maps it, and traps where the answer is a general error or SES_RIGHTS; a page of the window that shows
nothing reads zero; any other access to the window, also one that reaches over its edge, takes an access fault. The RISC-V causes are the model's
choice (log entry 71). The state is the one in which the errors met have been reported. A hart that does not run, is held in a KC.TWAIT or has no
context leaves the state as it is. -/
def Obligations.GondolaAccessesComplete : Prop :=
  (∀ (s : State) (h dva len handler c rd n : Nat) (ecc : List (Nat × EccError)) (ps : List (Place × Nat)) (sg : Bool) (b : List Byte),
      (s.core (.hart h)).running = true ∧ (s.core (.hart h)).waitRd = none → s.ctxOfHart h = some c →
      (s.dvaPieces c dva (max 1 n) .read true).toOption = some ps → ps.all (fun p => decide (p.1.target ≠ 2)) = true →
      ((s.eccFound ecc).readPieces ps).toOption = some b → ∃ t, exec (.gondolaMemoryAccess h (.load false rd n sg) dva len handler ecc) s = .next t
      ∧ ((t.core (.hart h)).readX (rd % 32) = (if rd % 32 = 0 then 0 else (if sg = true ∧ n < 8 then signExtended n (leNat b) else leNat b) % 2 ^ 64))
      ∧ (t.core (.hart h)).pc = (((s.eccFound ecc).core (.hart h)).pc + len) % 2 ^ 64 ∧ (∀ r, r ≠ rd % 32 →
      (t.core (.hart h)).readX r = ((s.eccFound ecc).core (.hart h)).readX r) ∧ (t.core (.hart h)).f = ((s.eccFound ecc).core (.hart h)).f
      ∧ t.mem = { (s.eccFound ecc).mem with buckets := t.mem.buckets }
      ∧ (t = { (s.eccFound ecc) with regs := t.regs, harts := t.harts, mem := t.mem }))
  ∧ (∀ (s : State) (h dva len handler c rd n : Nat) (ecc : List (Nat × EccError)) (ps : List (Place × Nat)) (b : List Byte),
      (s.core (.hart h)).running = true ∧ (s.core (.hart h)).waitRd = none → s.ctxOfHart h = some c →
      (s.dvaPieces c dva (max 1 n) .read true).toOption = some ps → ps.all (fun p => decide (p.1.target ≠ 2)) = true →
      ((s.eccFound ecc).readPieces ps).toOption = some b → ∃ t, exec (.gondolaMemoryAccess h (.load true rd n false) dva len handler ecc) s = .next t
      ∧ sget 0 (t.core (.hart h)).f (rd % 32) = leNat b % 2 ^ 64 ∧ (t.core (.hart h)).pc = (((s.eccFound ecc).core (.hart h)).pc + len) % 2 ^ 64
      ∧ (t.core (.hart h)).x = ((s.eccFound ecc).core (.hart h)).x ∧ t.mem = { (s.eccFound ecc).mem with buckets := t.mem.buckets })
  ∧ (∀ (s : State) (h dva len handler c n v : Nat) (ecc : List (Nat × EccError)) (ps : List (Place × Nat)), (s.core (.hart h)).running = true
      ∧ (s.core (.hart h)).waitRd = none → s.ctxOfHart h = some c → (s.dvaPieces c dva (max 1 n) .write true).toOption = some ps →
      ps.all (fun p => decide (p.1.target ≠ 2)) = true → ((s.eccFound ecc).writePieces c ps (leBytes (max 1 n) v)).2 = .ok → ∃ t,
      exec (.gondolaMemoryAccess h (.store n v) dva len handler ecc) s = .next t
      ∧ t.mem.near = ((s.eccFound ecc).writePieces c ps (leBytes (max 1 n) v)).1.mem.near
      ∧ t.mem.far = ((s.eccFound ecc).writePieces c ps (leBytes (max 1 n) v)).1.mem.far
      ∧ (t.core (.hart h)).pc = (((s.eccFound ecc).core (.hart h)).pc + len) % 2 ^ 64 ∧ (t.core (.hart h)).x = ((s.eccFound ecc).core (.hart h)).x
      ∧ (t.core (.hart h)).f = ((s.eccFound ecc).core (.hart h)).f)
  ∧ (∀ (s : State) (h dva len handler c n : Nat) (ecc : List (Nat × EccError)) (ps : List (Place × Nat)) (b : List Byte),
      (s.core (.hart h)).running = true ∧ (s.core (.hart h)).waitRd = none → s.ctxOfHart h = some c →
      (s.dvaPieces c dva (max 1 n) .exec true).toOption = some ps → ps.all (fun p => decide (p.1.target ≠ 2)) = true →
      ((s.eccFound ecc).readPieces ps).toOption = some b → ∃ t, exec (.gondolaMemoryAccess h (.fetch n) dva len handler ecc) s = .next t
      ∧ t = { (s.eccFound ecc) with regs := t.regs, mem := t.mem } ∧ t.harts = (s.eccFound ecc).harts
      ∧ t.mem = { (s.eccFound ecc).mem with buckets := t.mem.buckets })
  ∧ (∀ (s : State) (h dva len handler c rd : Nat) (ecc : List (Nat × EccError)), (s.core (.hart h)).running = true
      ∧ (s.core (.hart h)).waitRd = none → s.ctxOfHart h = some c → ∃ t, exec (.gondolaMemoryAccess h (.time rd) dva len handler ecc) s = .next t
      ∧ t = s.setCore (.hart h) (({ s.core (.hart h) with pc := ((s.core (.hart h)).pc + len) % 2 ^ 64 } : Core).writeX (rd % 32) (s.now % 2 ^ 64)))
  ∧ (∀ (s : State) (h dva len handler : Nat) (a : HartAccess) (ecc : List (Nat × EccError)),
      (s.core (.hart h)).running = false ∨ (s.core (.hart h)).waitRd.isSome = true ∨ s.ctxOfHart h = none → ∃ t,
      exec (.gondolaMemoryAccess h a dva len handler ecc) s = .next t ∧ t = s)
  ∧ (∀ (s : State) (h dva len handler c : Nat) (a : HartAccess) (e : Status) (ecc : List (Nat × EccError)), (s.core (.hart h)).running = true
      ∧ (s.core (.hart h)).waitRd = none → s.ctxOfHart h = some c → (∀ rd, a ≠ .time rd) →
      (s.dvaPieces c dva (hartSize a) (hartKind a) true).toOption = none → e = statusOf (s.dvaPieces c dva (hartSize a) (hartKind a) true) → ∃ t,
      exec (.gondolaMemoryAccess h a dva len handler ecc) s = .next t
      ∧ t = s.setCore (.hart h) { s.core (.hart h) with trap := some (hartCause a e, (s.core (.hart h)).pc, dva % 2 ^ 64), pc := handler % 2 ^ 64 })
  ∧ (∀ (s : State) (h dva len handler c n rd : Nat) (ecc : List (Nat × EccError)) (ps : List (Place × Nat)) (fl sg : Bool) (a : HartAccess) (e : Status),
      a ∈ [HartAccess.load fl rd n sg, .fetch n] → (s.core (.hart h)).running = true ∧ (s.core (.hart h)).waitRd = none → s.ctxOfHart h = some c →
      (s.dvaPieces c dva (max 1 n) (hartKind a) true).toOption = some ps → ps.all (fun p => decide (p.1.target ≠ 2)) = true →
      ((s.eccFound ecc).readPieces ps).toOption = none → e = statusOf ((s.eccFound ecc).readPieces ps) → ∃ t,
      exec (.gondolaMemoryAccess h a dva len handler ecc) s = .next t ∧ (e ≠ .memUncorrectable →
      t = (s.eccFound ecc).setCore (.hart h) { (s.eccFound ecc).core (.hart h) with trap := some (hartCause a e, ((s.eccFound ecc).core (.hart h)).pc, dva % 2 ^ 64), pc := handler % 2 ^ 64 })
      ∧ (e = .memUncorrectable →
      t = ((s.eccFound ecc).poisonMet ps).setCore (.hart h) { ((s.eccFound ecc).poisonMet ps).core (.hart h) with trap := some (hartCause a e, (((s.eccFound ecc).poisonMet ps).core (.hart h)).pc, dva % 2 ^ 64), pc := handler % 2 ^ 64 }))
  ∧ (∀ (s : State) (h dva len handler c n v : Nat) (ecc : List (Nat × EccError)) (ps : List (Place × Nat)) (e : Status),
      (s.core (.hart h)).running = true ∧ (s.core (.hart h)).waitRd = none → s.ctxOfHart h = some c →
      (s.dvaPieces c dva (max 1 n) .write true).toOption = some ps → ps.all (fun p => decide (p.1.target ≠ 2)) = true →
      ((s.eccFound ecc).writePieces c ps (leBytes (max 1 n) v)).2 = e → e ≠ .ok → ∃ t,
      exec (.gondolaMemoryAccess h (.store n v) dva len handler ecc) s = .next t
      ∧ t = ((s.eccFound ecc).writePieces c ps (leBytes (max 1 n) v)).1.setCore (.hart h) { ((s.eccFound ecc).writePieces c ps (leBytes (max 1 n) v)).1.core (.hart h) with trap := some (hartCause (.store n v) e, (((s.eccFound ecc).writePieces c ps (leBytes (max 1 n) v)).1.core (.hart h)).pc, dva % 2 ^ 64), pc := handler % 2 ^ 64 })
  ∧ (∀ (s : State) (h dva len handler c rd : Nat) (fl sg : Bool) (ecc : List (Nat × EccError)) (p : Place × Nat), (s.core (.hart h)).running = true
      ∧ (s.core (.hart h)).waitRd = none → s.ctxOfHart h = some c → (s.dvaPieces c dva 4 .read true).toOption = some [p] → p.1.target = 2 →
      p.1.pa % 4 = 0 → ∃ t, exec (.gondolaMemoryAccess h (.load fl rd 4 sg) dva len handler ecc) s = .next t
      ∧ (((s.eccFound ecc).windowRead h c (p.1.pa % 0x800000)).2.1.faultsHart = false → ∃ w,
      w = (if sg = true then signExtended 4 ((s.eccFound ecc).windowRead h c (p.1.pa % 0x800000)).2.2 else ((s.eccFound ecc).windowRead h c (p.1.pa % 0x800000)).2.2)
      ∧ t = ((s.eccFound ecc).windowRead h c (p.1.pa % 0x800000)).1.setCore (.hart h) (if fl = true then { ((s.eccFound ecc).windowRead h c (p.1.pa % 0x800000)).1.core (.hart h) with pc := ((((s.eccFound ecc).windowRead h c (p.1.pa % 0x800000)).1.core (.hart h)).pc + len) % 2 ^ 64, f := sput 0 (((s.eccFound ecc).windowRead h c (p.1.pa % 0x800000)).1.core (.hart h)).f (rd % 32) (w % 2 ^ 64) } else ({ ((s.eccFound ecc).windowRead h c (p.1.pa % 0x800000)).1.core (.hart h) with pc := ((((s.eccFound ecc).windowRead h c (p.1.pa % 0x800000)).1.core (.hart h)).pc + len) % 2 ^ 64 } : Core).writeX (rd % 32) w))
      ∧ (((s.eccFound ecc).windowRead h c (p.1.pa % 0x800000)).2.1.faultsHart = true →
      t = ((s.eccFound ecc).windowRead h c (p.1.pa % 0x800000)).1.setCore (.hart h) { ((s.eccFound ecc).windowRead h c (p.1.pa % 0x800000)).1.core (.hart h) with trap := some (5, (((s.eccFound ecc).windowRead h c (p.1.pa % 0x800000)).1.core (.hart h)).pc, dva % 2 ^ 64), pc := handler % 2 ^ 64 }))
  ∧ (∀ (s : State) (h dva len handler c v : Nat) (ecc : List (Nat × EccError)) (p : Place × Nat), (s.core (.hart h)).running = true
      ∧ (s.core (.hart h)).waitRd = none → s.ctxOfHart h = some c → (s.dvaPieces c dva 4 .write true).toOption = some [p] → p.1.target = 2 →
      p.1.pa % 4 = 0 → ∃ t, exec (.gondolaMemoryAccess h (.store 4 v) dva len handler ecc) s = .next t
      ∧ (((s.eccFound ecc).windowWrite h c (p.1.pa % 0x800000) (v % 2 ^ 32)).2.faultsHart = false →
      t = ((s.eccFound ecc).windowWrite h c (p.1.pa % 0x800000) (v % 2 ^ 32)).1.setCore (.hart h) { ((s.eccFound ecc).windowWrite h c (p.1.pa % 0x800000) (v % 2 ^ 32)).1.core (.hart h) with pc := ((((s.eccFound ecc).windowWrite h c (p.1.pa % 0x800000) (v % 2 ^ 32)).1.core (.hart h)).pc + len) % 2 ^ 64 })
      ∧ (((s.eccFound ecc).windowWrite h c (p.1.pa % 0x800000) (v % 2 ^ 32)).2.faultsHart = true →
      t = ((s.eccFound ecc).windowWrite h c (p.1.pa % 0x800000) (v % 2 ^ 32)).1.setCore (.hart h) { ((s.eccFound ecc).windowWrite h c (p.1.pa % 0x800000) (v % 2 ^ 32)).1.core (.hart h) with trap := some (7, (((s.eccFound ecc).windowWrite h c (p.1.pa % 0x800000) (v % 2 ^ 32)).1.core (.hart h)).pc, dva % 2 ^ 64), pc := handler % 2 ^ 64 }))
  ∧ (∀ (s : State) (h dva len handler c rd : Nat) (ecc : List (Nat × EccError)) (p : Place × Nat), (s.core (.hart h)).running = true
      ∧ (s.core (.hart h)).waitRd = none → s.ctxOfHart h = some c → (s.dvaPieces c dva 4 .read true).toOption = some [p] → p.1.target = 2
      ∧ p.1.pa % 4 = 0 → 9 * 4096 ≤ p.1.pa % 0x800000 ∧ p.1.pa % 0x800000 < 0x200000 → 0 < rd % 32 → ∃ t,
      exec (.gondolaMemoryAccess h (.load false rd 4 false) dva len handler ecc) s = .next t ∧ (t.core (.hart h)).readX (rd % 32) = 0
      ∧ (t.core (.hart h)).pc = (((s.eccFound ecc).core (.hart h)).pc + len) % 2 ^ 64 ∧ (t = { s.eccFound ecc with harts := t.harts }))
  ∧ (∀ (s : State) (h dva len handler c : Nat) (a : HartAccess) (ecc : List (Nat × EccError)) (p : Place × Nat), (s.core (.hart h)).running = true
      ∧ (s.core (.hart h)).waitRd = none → s.ctxOfHart h = some c → (s.dvaPieces c dva (hartSize a) (hartKind a) true).toOption = some [p] →
      p.1.target = 2 → (∀ rd, a ≠ .time rd) → p.1.pa % 4 ≠ 0 ∨ hartSize a ≠ 4 ∨ hartKind a = .exec → ∃ t,
      exec (.gondolaMemoryAccess h a dva len handler ecc) s = .next t
      ∧ t = (s.eccFound ecc).setCore (.hart h) { (s.eccFound ecc).core (.hart h) with trap := some (hartCause a .genAccessSize, ((s.eccFound ecc).core (.hart h)).pc, dva % 2 ^ 64), pc := handler % 2 ^ 64 })
  ∧ (∀ (s : State) (h dva len handler c : Nat) (ecc : List (Nat × EccError)) (ps : List (Place × Nat)) (a : HartAccess),
      (s.core (.hart h)).running = true ∧ (s.core (.hart h)).waitRd = none → s.ctxOfHart h = some c → (∀ rd, a ≠ .time rd) →
      (s.dvaPieces c dva (hartSize a) (hartKind a) true).toOption = some ps → ps.length ≠ 1 → ps.any (fun p => decide (p.1.target = 2)) = true → ∃ t,
      exec (.gondolaMemoryAccess h a dva len handler ecc) s = .next t
      ∧ t = (s.eccFound ecc).setCore (.hart h) { (s.eccFound ecc).core (.hart h) with trap := some (hartCause a .genAccessSize, ((s.eccFound ecc).core (.hart h)).pc, dva % 2 ^ 64), pc := handler % 2 ^ 64 })
end

