-- ==== Sys2Proof/Laws/Bits.lean ====
section
/-!
SUPPORT. Lemmas about byte lists and the numbers that they spell (R9).
-/
namespace Sys2Proof.Machine
open Sys2Proof

@[simp] theorem leBytes_length (n v : Nat) : (leBytes n v).length = n := by
  induction n generalizing v with
  | zero => rfl
  | succ n ih => simp [leBytes, ih]

@[simp] theorem zeros_length (n : Nat) : (zeros n).length = n := by simp [zeros]

@[simp] theorem beBytes_length (n v : Nat) : (beBytes n v).length = n := by simp [beBytes]

/-- R9: reading n little-endian bytes gives back what was written, modulo their width. -/
theorem leNat_leBytes (n v : Nat) : leNat (leBytes n v) = v % 256 ^ n := by
  induction n generalizing v with
  | zero => simp [leBytes, leNat, Nat.mod_one]
  | succ n ih =>
    simp only [leBytes, leNat, ih, BitVec.toNat_ofNat]
    have h := Nat.mod_mul (x := v) (a := 256) (b := 256 ^ n)
    rw [show 256 ^ (n + 1) = 256 * 256 ^ n from Nat.pow_succ', h]

theorem leNat_lt (l : List Byte) : leNat l < 256 ^ l.length := by
  induction l with
  | nil => simp [leNat]
  | cons b t ih =>
    have := b.isLt
    simp only [leNat, List.length_cons, Nat.pow_succ']
    omega

/-- A field whose bytes stand in a list after those of a prefix. -/
theorem fieldAt_append (a b c : List Byte) (o n : Nat) (ho : a.length = o) (hn : b.length = n) : fieldAt (a ++ (b ++ c)) o n = leNat b := by
  subst ho hn
  simp [fieldAt]

end Sys2Proof.Machine
end

