-- ==== Sys2Proof/Laws/Sparse.lean ====
section
/-!
SUPPORT. The laws of sparse tables: what a key reads as after each operation, and that each keeps the canonical form.
-/
namespace Sys2Proof.Machine

variable {α : Type}

@[simp] theorem sget_nil (d : α) (k : Nat) : sget d [] k = d := rfl

theorem sget_cons (d : α) (p : Nat × α) (m : Sparse α) (k : Nat) : sget d (p :: m) k = if p.1 = k then p.2 else sget d m k := rfl

@[simp] theorem sget_sdrop_same (d : α) (m : Sparse α) (k : Nat) : sget d (sdrop m k) k = d := by
  induction m with
  | nil => rfl
  | cons p m ih => simp only [sdrop]; split <;> simp_all [sget_cons]

theorem sget_sdrop_ne (d : α) (m : Sparse α) {k j : Nat} (h : j ≠ k) : sget d (sdrop m k) j = sget d m j := by
  induction m with
  | nil => rfl
  | cons p m ih => simp only [sdrop]; split <;> simp_all [sget_cons]; intro e; exact absurd e.symm h

theorem sget_sdrop (d : α) (m : Sparse α) (k j : Nat) : sget d (sdrop m k) j = if j = k then d else sget d m j := by
  split
  · next h => subst h; simp
  · next h => exact sget_sdrop_ne d m h

theorem sget_sinsert_same (d : α) (m : Sparse α) (k : Nat) (v : α) (h : ∀ p ∈ m, p.1 ≠ k) : sget d (sinsert m k v) k = v := by
  induction m with
  | nil => simp [sinsert, sget_cons]
  | cons p m ih =>
    simp only [sinsert]; split
    · simp [sget_cons]
    · simp only [sget_cons, if_neg (h p (by simp))]; exact ih (fun q hq => h q (by simp [hq]))

theorem sget_sinsert_ne (d : α) (m : Sparse α) {k j : Nat} (v : α) (h : j ≠ k) : sget d (sinsert m k v) j = sget d m j := by
  induction m with
  | nil => simp [sinsert, sget_cons, Ne.symm h]
  | cons p m ih => simp only [sinsert]; split <;> simp_all [sget_cons, Ne.symm h]

theorem sdrop_no_key (m : Sparse α) (k : Nat) : ∀ p ∈ sdrop m k, p.1 ≠ k := by
  induction m with
  | nil => simp [sdrop]
  | cons p m ih =>
    simp only [sdrop]; split
    · exact ih
    · next h => exact List.forall_mem_cons.2 ⟨h, ih⟩

/-- A key reads as what was written to it last. -/
@[simp] theorem sget_sput_same [DecidableEq α] (d : α) (m : Sparse α) (k : Nat) (v : α) : sget d (sput d m k v) k = v := by
  simp only [sput]; split
  · next h => simp [h]
  · exact sget_sinsert_same d _ k v (sdrop_no_key m k)

/-- A write leaves every other key alone, whatever the defaults are. -/
theorem sget_sput_ne [DecidableEq α] (d e : α) (m : Sparse α) {k j : Nat} (v : α) (h : j ≠ k) : sget e (sput d m k v) j = sget e m j := by
  simp only [sput]; split
  · exact sget_sdrop_ne e m h
  · rw [sget_sinsert_ne e _ v h, sget_sdrop_ne e m h]

theorem sget_sput [DecidableEq α] (d : α) (m : Sparse α) (k j : Nat) (v : α) : sget d (sput d m k v) j = if j = k then v else sget d m j := by
  split
  · next h => subst h; simp
  · next h => exact sget_sput_ne d d m v h

/-! ## The canonical form -/

theorem srising_mono {m : Sparse α} : ∀ {lo hi : Nat}, lo ≤ hi → srising hi m = true → srising lo m = true := by
  cases m with
  | nil => intros; rfl
  | cons p m => intro lo hi h; simp only [srising, Bool.and_eq_true, decide_eq_true_eq]; rintro ⟨a, b⟩; exact ⟨Nat.le_trans h a, b⟩

theorem srising_sdrop (m : Sparse α) (k : Nat) : ∀ lo, srising lo m = true → srising lo (sdrop m k) = true := by
  induction m with
  | nil => intros; rfl
  | cons p m ih =>
    intro lo h
    simp only [srising, Bool.and_eq_true, decide_eq_true_eq] at h
    simp only [sdrop]; split
    · exact srising_mono (Nat.le_succ_of_le h.1) (ih _ h.2)
    · simp only [srising, Bool.and_eq_true, decide_eq_true_eq]; exact ⟨h.1, ih _ h.2⟩

theorem srising_sinsert (m : Sparse α) (k : Nat) (v : α) :
    ∀ lo, lo ≤ k → srising lo m = true → (∀ p ∈ m, p.1 ≠ k) → srising lo (sinsert m k v) = true := by
  induction m with
  | nil => intro lo h _ _; simp [sinsert, srising, h]
  | cons p m ih =>
    intro lo hk h hne
    simp only [srising, Bool.and_eq_true, decide_eq_true_eq] at h
    simp only [sinsert]; split
    · simp only [srising, Bool.and_eq_true, decide_eq_true_eq]; exact ⟨hk, by omega, h.2⟩
    · have hp := hne p (by simp)
      simp only [srising, Bool.and_eq_true, decide_eq_true_eq]
      exact ⟨h.1, ih _ (by omega) h.2 (fun q hq => hne q (by simp [hq]))⟩

theorem mem_sdrop {m : Sparse α} {k : Nat} {p : Nat × α} : p ∈ sdrop m k → p ∈ m := by
  induction m with
  | nil => simp [sdrop]
  | cons q m ih =>
    simp only [sdrop]; split
    · exact fun h => List.mem_cons_of_mem _ (ih h)
    · intro h
      rcases List.mem_cons.1 h with rfl | h
      · exact List.mem_cons_self
      · exact List.mem_cons_of_mem _ (ih h)

theorem mem_sinsert {m : Sparse α} {k : Nat} {v : α} {p : Nat × α} : p ∈ sinsert m k v → p = (k, v) ∨ p ∈ m := by
  induction m with
  | nil => simp [sinsert]
  | cons q m ih =>
    simp only [sinsert]; split
    · exact fun h => List.mem_cons.1 h
    · intro h
      rcases List.mem_cons.1 h with rfl | h
      · exact .inr List.mem_cons_self
      · exact (ih h).imp id (List.mem_cons_of_mem _)

/-- A write keeps the canonical form. -/
theorem scanon_sput [DecidableEq α] (d : Nat → α) (m : Sparse α) (k : Nat) (v : α) (h : scanon d m = true) : scanon d (sput (d k) m k v) = true := by
  simp only [scanon, Bool.and_eq_true, List.all_eq_true, decide_eq_true_eq] at h ⊢
  simp only [sput]; split
  · exact ⟨srising_sdrop m k 0 h.1, fun p hp => h.2 p (mem_sdrop hp)⟩
  · next hv =>
    refine ⟨srising_sinsert _ k v 0 (Nat.zero_le _) (srising_sdrop m k 0 h.1) (sdrop_no_key m k), fun p hp => ?_⟩
    rcases mem_sinsert hp with rfl | hp
    · exact hv
    · exact h.2 p (mem_sdrop hp)

theorem scanon_sdrop [DecidableEq α] (d : Nat → α) (m : Sparse α) (k : Nat) (h : scanon d m = true) : scanon d (sdrop m k) = true := by
  simp only [scanon, Bool.and_eq_true, List.all_eq_true, decide_eq_true_eq] at h ⊢
  exact ⟨srising_sdrop m k 0 h.1, fun p hp => h.2 p (mem_sdrop hp)⟩

theorem srising_filter (f : Nat × α → Bool) (m : Sparse α) : ∀ lo, srising lo m = true → srising lo (m.filter f) = true := by
  induction m with
  | nil => intros; rfl
  | cons p m ih =>
    intro lo h
    simp only [srising, Bool.and_eq_true, decide_eq_true_eq] at h
    simp only [List.filter]; split
    · simp only [srising, Bool.and_eq_true, decide_eq_true_eq]; exact ⟨h.1, ih _ h.2⟩
    · exact srising_mono (Nat.le_succ_of_le h.1) (ih _ h.2)

/-- Dropping entries keeps the canonical form. -/
theorem scanon_filter [DecidableEq α] (d : Nat → α) (f : Nat × α → Bool) (m : Sparse α) (h : scanon d m = true) : scanon d (m.filter f) = true := by
  simp only [scanon, Bool.and_eq_true, List.all_eq_true, decide_eq_true_eq] at h ⊢
  exact ⟨srising_filter f m 0 h.1, fun p hp => h.2 p (List.mem_filter.1 hp).1⟩

theorem scanon_sclear [DecidableEq α] (d : Nat → α) (m : Sparse α) (lo hi : Nat) (h : scanon d m = true) : scanon d (sclear m lo hi) = true :=
  scanon_filter d _ m h

/-- A table that lists the same value under every key of a list of numbers. -/
theorem sget_map_mem (d v : α) (f : Nat → Nat) (k : Nat) (l : List Nat) (h : k ∈ l) : sget d (l.map (fun i => (f i, v))) (f k) = v := by
  induction l with
  | nil => cases h
  | cons a t ih =>
    simp only [List.map_cons, sget]
    split
    · rfl
    · rename_i hne
      rcases List.mem_cons.mp h with rfl | h
      · exact absurd rfl hne
      · exact ih h

end Sys2Proof.Machine
end

