-- ==== Sys2Proof/Laws/State.lean ====
section
/-!
SUPPORT. What each named update of the state leaves as it was, field by field, and what register fields read as after it.
-/
namespace Sys2Proof.Machine
open Sys2Proof

variable (s : State)

/-! ## stagePage -/

@[simp] theorem State.stagePage_regs (p : Nat) : (s.stagePage p).regs = s.regs := rfl
@[simp] theorem State.stagePage_mem (p : Nat) : (s.stagePage p).mem = s.mem := rfl
@[simp] theorem State.stagePage_tly (p : Nat) : (s.stagePage p).tly = s.tly := rfl
@[simp] theorem State.stagePage_events (p : Nat) : (s.stagePage p).events = s.events := rfl
@[simp] theorem State.stagePage_rings (p : Nat) : (s.stagePage p).rings = s.rings := rfl
@[simp] theorem State.stagePage_vectors (p : Nat) : (s.stagePage p).vectors = s.vectors := rfl
@[simp] theorem State.stagePage_harts (p : Nat) : (s.stagePage p).harts = s.harts := rfl
@[simp] theorem State.stagePage_clu (p : Nat) : (s.stagePage p).clu = s.clu := rfl
@[simp] theorem State.stagePage_upd (p : Nat) : (s.stagePage p).upd = s.upd := rfl
@[simp] theorem State.stagePage_seq (p : Nat) : (s.stagePage p).seq = s.seq := rfl
@[simp] theorem State.stagePage_kv (p : Nat) : (s.stagePage p).kv = s.kv := rfl
@[simp] theorem State.stagePage_weave (p : Nat) : (s.stagePage p).weave = s.weave := rfl
@[simp] theorem State.stagePage_span (p : Nat) : (s.stagePage p).span = s.span := rfl
@[simp] theorem State.stagePage_flt (p : Nat) : (s.stagePage p).flt = s.flt := rfl
@[simp] theorem State.stagePage_health (p : Nat) : (s.stagePage p).health = s.health := rfl
@[simp] theorem State.stagePage_fh (p : Nat) : (s.stagePage p).fh = s.fh := rfl
@[simp] theorem State.stagePage_ctxRunning (p : Nat) : (s.stagePage p).ctxRunning = s.ctxRunning := rfl
@[simp] theorem State.stagePage_keelEvents (p : Nat) : (s.stagePage p).keelEvents = s.keelEvents := rfl
@[simp] theorem State.stagePage_meter (p : Nat) : (s.stagePage p).meter = s.meter := rfl
@[simp] theorem State.stagePage_cart (p : Nat) : (s.stagePage p).cart = s.cart := rfl
@[simp] theorem State.stagePage_sec (p : Nat) : (s.stagePage p).sec = s.sec := rfl
@[simp] theorem State.stagePage_pow (p : Nat) : (s.stagePage p).pow = s.pow := rfl
@[simp] theorem State.stagePage_chosor (p : Nat) : (s.stagePage p).chosor = s.chosor := rfl
@[simp] theorem State.stagePage_out (p : Nat) : (s.stagePage p).out = s.out := rfl
@[simp] theorem State.stagePage_freeCount (p : Nat) : (s.stagePage p).freeCount = s.freeCount := rfl
@[simp] theorem State.stagePage_pending (p : Nat) : (s.stagePage p).pending = s.pending := rfl
@[simp] theorem State.stagePage_rd (p : Nat) (reg : Reg) (copy : Nat) : (s.stagePage p).rd reg copy = s.rd reg copy := rfl

/-! ## discardPage -/

@[simp] theorem State.discardPage_regs (p : Nat) : (s.discardPage p).regs = s.regs := rfl
@[simp] theorem State.discardPage_mem (p : Nat) : (s.discardPage p).mem = s.mem := rfl
@[simp] theorem State.discardPage_tly (p : Nat) : (s.discardPage p).tly = s.tly := rfl
@[simp] theorem State.discardPage_events (p : Nat) : (s.discardPage p).events = s.events := rfl
@[simp] theorem State.discardPage_rings (p : Nat) : (s.discardPage p).rings = s.rings := rfl
@[simp] theorem State.discardPage_vectors (p : Nat) : (s.discardPage p).vectors = s.vectors := rfl
@[simp] theorem State.discardPage_harts (p : Nat) : (s.discardPage p).harts = s.harts := rfl
@[simp] theorem State.discardPage_clu (p : Nat) : (s.discardPage p).clu = s.clu := rfl
@[simp] theorem State.discardPage_upd (p : Nat) : (s.discardPage p).upd = s.upd := rfl
@[simp] theorem State.discardPage_seq (p : Nat) : (s.discardPage p).seq = s.seq := rfl
@[simp] theorem State.discardPage_kv (p : Nat) : (s.discardPage p).kv = s.kv := rfl
@[simp] theorem State.discardPage_weave (p : Nat) : (s.discardPage p).weave = s.weave := rfl
@[simp] theorem State.discardPage_span (p : Nat) : (s.discardPage p).span = s.span := rfl
@[simp] theorem State.discardPage_flt (p : Nat) : (s.discardPage p).flt = s.flt := rfl
@[simp] theorem State.discardPage_health (p : Nat) : (s.discardPage p).health = s.health := rfl
@[simp] theorem State.discardPage_fh (p : Nat) : (s.discardPage p).fh = s.fh := rfl
@[simp] theorem State.discardPage_ctxRunning (p : Nat) : (s.discardPage p).ctxRunning = s.ctxRunning := rfl
@[simp] theorem State.discardPage_keelEvents (p : Nat) : (s.discardPage p).keelEvents = s.keelEvents := rfl
@[simp] theorem State.discardPage_meter (p : Nat) : (s.discardPage p).meter = s.meter := rfl
@[simp] theorem State.discardPage_cart (p : Nat) : (s.discardPage p).cart = s.cart := rfl
@[simp] theorem State.discardPage_sec (p : Nat) : (s.discardPage p).sec = s.sec := rfl
@[simp] theorem State.discardPage_pow (p : Nat) : (s.discardPage p).pow = s.pow := rfl
@[simp] theorem State.discardPage_chosor (p : Nat) : (s.discardPage p).chosor = s.chosor := rfl
@[simp] theorem State.discardPage_out (p : Nat) : (s.discardPage p).out = s.out := rfl
@[simp] theorem State.discardPage_freeCount (p : Nat) : (s.discardPage p).freeCount = s.freeCount := rfl
@[simp] theorem State.discardPage_pending (p : Nat) : (s.discardPage p).pending = s.pending := rfl
@[simp] theorem State.discardPage_rd (p : Nat) (reg : Reg) (copy : Nat) : (s.discardPage p).rd reg copy = s.rd reg copy := rfl

/-! ## setRunning -/

@[simp] theorem State.setRunning_regs (c k : Nat) : (s.setRunning c k).regs = s.regs := rfl
@[simp] theorem State.setRunning_cfg (c k : Nat) : (s.setRunning c k).cfg = s.cfg := rfl
@[simp] theorem State.setRunning_mem (c k : Nat) : (s.setRunning c k).mem = s.mem := rfl
@[simp] theorem State.setRunning_tly (c k : Nat) : (s.setRunning c k).tly = s.tly := rfl
@[simp] theorem State.setRunning_events (c k : Nat) : (s.setRunning c k).events = s.events := rfl
@[simp] theorem State.setRunning_rings (c k : Nat) : (s.setRunning c k).rings = s.rings := rfl
@[simp] theorem State.setRunning_vectors (c k : Nat) : (s.setRunning c k).vectors = s.vectors := rfl
@[simp] theorem State.setRunning_harts (c k : Nat) : (s.setRunning c k).harts = s.harts := rfl
@[simp] theorem State.setRunning_clu (c k : Nat) : (s.setRunning c k).clu = s.clu := rfl
@[simp] theorem State.setRunning_upd (c k : Nat) : (s.setRunning c k).upd = s.upd := rfl
@[simp] theorem State.setRunning_seq (c k : Nat) : (s.setRunning c k).seq = s.seq := rfl
@[simp] theorem State.setRunning_kv (c k : Nat) : (s.setRunning c k).kv = s.kv := rfl
@[simp] theorem State.setRunning_weave (c k : Nat) : (s.setRunning c k).weave = s.weave := rfl
@[simp] theorem State.setRunning_span (c k : Nat) : (s.setRunning c k).span = s.span := rfl
@[simp] theorem State.setRunning_flt (c k : Nat) : (s.setRunning c k).flt = s.flt := rfl
@[simp] theorem State.setRunning_health (c k : Nat) : (s.setRunning c k).health = s.health := rfl
@[simp] theorem State.setRunning_fh (c k : Nat) : (s.setRunning c k).fh = s.fh := rfl
@[simp] theorem State.setRunning_keelEvents (c k : Nat) : (s.setRunning c k).keelEvents = s.keelEvents := rfl
@[simp] theorem State.setRunning_meter (c k : Nat) : (s.setRunning c k).meter = s.meter := rfl
@[simp] theorem State.setRunning_cart (c k : Nat) : (s.setRunning c k).cart = s.cart := rfl
@[simp] theorem State.setRunning_sec (c k : Nat) : (s.setRunning c k).sec = s.sec := rfl
@[simp] theorem State.setRunning_pow (c k : Nat) : (s.setRunning c k).pow = s.pow := rfl
@[simp] theorem State.setRunning_chosor (c k : Nat) : (s.setRunning c k).chosor = s.chosor := rfl
@[simp] theorem State.setRunning_out (c k : Nat) : (s.setRunning c k).out = s.out := rfl
@[simp] theorem State.setRunning_freeCount (c k : Nat) : (s.setRunning c k).freeCount = s.freeCount := rfl
@[simp] theorem State.setRunning_pending (c k : Nat) : (s.setRunning c k).pending = s.pending := rfl
@[simp] theorem State.setRunning_rd (c k : Nat) (reg : Reg) (copy : Nat) : (s.setRunning c k).rd reg copy = s.rd reg copy := rfl

/-! ## clearNear -/

@[simp] theorem State.clearNear_regs (pa n : Nat) : (s.clearNear pa n).regs = s.regs := rfl
@[simp] theorem State.clearNear_cfg (pa n : Nat) : (s.clearNear pa n).cfg = s.cfg := rfl
@[simp] theorem State.clearNear_tly (pa n : Nat) : (s.clearNear pa n).tly = s.tly := rfl
@[simp] theorem State.clearNear_events (pa n : Nat) : (s.clearNear pa n).events = s.events := rfl
@[simp] theorem State.clearNear_rings (pa n : Nat) : (s.clearNear pa n).rings = s.rings := rfl
@[simp] theorem State.clearNear_vectors (pa n : Nat) : (s.clearNear pa n).vectors = s.vectors := rfl
@[simp] theorem State.clearNear_harts (pa n : Nat) : (s.clearNear pa n).harts = s.harts := rfl
@[simp] theorem State.clearNear_clu (pa n : Nat) : (s.clearNear pa n).clu = s.clu := rfl
@[simp] theorem State.clearNear_upd (pa n : Nat) : (s.clearNear pa n).upd = s.upd := rfl
@[simp] theorem State.clearNear_seq (pa n : Nat) : (s.clearNear pa n).seq = s.seq := rfl
@[simp] theorem State.clearNear_kv (pa n : Nat) : (s.clearNear pa n).kv = s.kv := rfl
@[simp] theorem State.clearNear_weave (pa n : Nat) : (s.clearNear pa n).weave = s.weave := rfl
@[simp] theorem State.clearNear_span (pa n : Nat) : (s.clearNear pa n).span = s.span := rfl
@[simp] theorem State.clearNear_flt (pa n : Nat) : (s.clearNear pa n).flt = s.flt := rfl
@[simp] theorem State.clearNear_health (pa n : Nat) : (s.clearNear pa n).health = s.health := rfl
@[simp] theorem State.clearNear_fh (pa n : Nat) : (s.clearNear pa n).fh = s.fh := rfl
@[simp] theorem State.clearNear_ctxRunning (pa n : Nat) : (s.clearNear pa n).ctxRunning = s.ctxRunning := rfl
@[simp] theorem State.clearNear_keelEvents (pa n : Nat) : (s.clearNear pa n).keelEvents = s.keelEvents := rfl
@[simp] theorem State.clearNear_meter (pa n : Nat) : (s.clearNear pa n).meter = s.meter := rfl
@[simp] theorem State.clearNear_cart (pa n : Nat) : (s.clearNear pa n).cart = s.cart := rfl
@[simp] theorem State.clearNear_sec (pa n : Nat) : (s.clearNear pa n).sec = s.sec := rfl
@[simp] theorem State.clearNear_pow (pa n : Nat) : (s.clearNear pa n).pow = s.pow := rfl
@[simp] theorem State.clearNear_chosor (pa n : Nat) : (s.clearNear pa n).chosor = s.chosor := rfl
@[simp] theorem State.clearNear_out (pa n : Nat) : (s.clearNear pa n).out = s.out := rfl
@[simp] theorem State.clearNear_freeCount (pa n : Nat) : (s.clearNear pa n).freeCount = s.freeCount := rfl
@[simp] theorem State.clearNear_pending (pa n : Nat) : (s.clearNear pa n).pending = s.pending := rfl
@[simp] theorem State.clearNear_rd (pa n : Nat) (reg : Reg) (copy : Nat) : (s.clearNear pa n).rd reg copy = s.rd reg copy := rfl

/-! ## setCluster -/

@[simp] theorem State.setCluster_regs (n : Nat) (c : Cluster) : (s.setCluster n c).regs = s.regs := rfl
@[simp] theorem State.setCluster_cfg (n : Nat) (c : Cluster) : (s.setCluster n c).cfg = s.cfg := rfl
@[simp] theorem State.setCluster_mem (n : Nat) (c : Cluster) : (s.setCluster n c).mem = s.mem := rfl
@[simp] theorem State.setCluster_tly (n : Nat) (c : Cluster) : (s.setCluster n c).tly = s.tly := rfl
@[simp] theorem State.setCluster_events (n : Nat) (c : Cluster) : (s.setCluster n c).events = s.events := rfl
@[simp] theorem State.setCluster_rings (n : Nat) (c : Cluster) : (s.setCluster n c).rings = s.rings := rfl
@[simp] theorem State.setCluster_vectors (n : Nat) (c : Cluster) : (s.setCluster n c).vectors = s.vectors := rfl
@[simp] theorem State.setCluster_harts (n : Nat) (c : Cluster) : (s.setCluster n c).harts = s.harts := rfl
@[simp] theorem State.setCluster_upd (n : Nat) (c : Cluster) : (s.setCluster n c).upd = s.upd := rfl
@[simp] theorem State.setCluster_seq (n : Nat) (c : Cluster) : (s.setCluster n c).seq = s.seq := rfl
@[simp] theorem State.setCluster_kv (n : Nat) (c : Cluster) : (s.setCluster n c).kv = s.kv := rfl
@[simp] theorem State.setCluster_weave (n : Nat) (c : Cluster) : (s.setCluster n c).weave = s.weave := rfl
@[simp] theorem State.setCluster_span (n : Nat) (c : Cluster) : (s.setCluster n c).span = s.span := rfl
@[simp] theorem State.setCluster_flt (n : Nat) (c : Cluster) : (s.setCluster n c).flt = s.flt := rfl
@[simp] theorem State.setCluster_health (n : Nat) (c : Cluster) : (s.setCluster n c).health = s.health := rfl
@[simp] theorem State.setCluster_fh (n : Nat) (c : Cluster) : (s.setCluster n c).fh = s.fh := rfl
@[simp] theorem State.setCluster_ctxRunning (n : Nat) (c : Cluster) : (s.setCluster n c).ctxRunning = s.ctxRunning := rfl
@[simp] theorem State.setCluster_keelEvents (n : Nat) (c : Cluster) : (s.setCluster n c).keelEvents = s.keelEvents := rfl
@[simp] theorem State.setCluster_meter (n : Nat) (c : Cluster) : (s.setCluster n c).meter = s.meter := rfl
@[simp] theorem State.setCluster_cart (n : Nat) (c : Cluster) : (s.setCluster n c).cart = s.cart := rfl
@[simp] theorem State.setCluster_sec (n : Nat) (c : Cluster) : (s.setCluster n c).sec = s.sec := rfl
@[simp] theorem State.setCluster_pow (n : Nat) (c : Cluster) : (s.setCluster n c).pow = s.pow := rfl
@[simp] theorem State.setCluster_chosor (n : Nat) (c : Cluster) : (s.setCluster n c).chosor = s.chosor := rfl
@[simp] theorem State.setCluster_out (n : Nat) (c : Cluster) : (s.setCluster n c).out = s.out := rfl
@[simp] theorem State.setCluster_freeCount (n : Nat) (c : Cluster) : (s.setCluster n c).freeCount = s.freeCount := rfl
@[simp] theorem State.setCluster_pending (n : Nat) (c : Cluster) : (s.setCluster n c).pending = s.pending := rfl
@[simp] theorem State.setCluster_rd (n : Nat) (c : Cluster) (reg : Reg) (copy : Nat) : (s.setCluster n c).rd reg copy = s.rd reg copy := rfl

/-! ## putVals -/

@[simp] theorem State.putVals_cfg (vals : Sparse Nat) : (s.putVals vals).cfg = s.cfg := rfl
@[simp] theorem State.putVals_mem (vals : Sparse Nat) : (s.putVals vals).mem = s.mem := rfl
@[simp] theorem State.putVals_tly (vals : Sparse Nat) : (s.putVals vals).tly = s.tly := rfl
@[simp] theorem State.putVals_events (vals : Sparse Nat) : (s.putVals vals).events = s.events := rfl
@[simp] theorem State.putVals_rings (vals : Sparse Nat) : (s.putVals vals).rings = s.rings := rfl
@[simp] theorem State.putVals_vectors (vals : Sparse Nat) : (s.putVals vals).vectors = s.vectors := rfl
@[simp] theorem State.putVals_harts (vals : Sparse Nat) : (s.putVals vals).harts = s.harts := rfl
@[simp] theorem State.putVals_clu (vals : Sparse Nat) : (s.putVals vals).clu = s.clu := rfl
@[simp] theorem State.putVals_upd (vals : Sparse Nat) : (s.putVals vals).upd = s.upd := rfl
@[simp] theorem State.putVals_seq (vals : Sparse Nat) : (s.putVals vals).seq = s.seq := rfl
@[simp] theorem State.putVals_kv (vals : Sparse Nat) : (s.putVals vals).kv = s.kv := rfl
@[simp] theorem State.putVals_weave (vals : Sparse Nat) : (s.putVals vals).weave = s.weave := rfl
@[simp] theorem State.putVals_span (vals : Sparse Nat) : (s.putVals vals).span = s.span := rfl
@[simp] theorem State.putVals_flt (vals : Sparse Nat) : (s.putVals vals).flt = s.flt := rfl
@[simp] theorem State.putVals_health (vals : Sparse Nat) : (s.putVals vals).health = s.health := rfl
@[simp] theorem State.putVals_fh (vals : Sparse Nat) : (s.putVals vals).fh = s.fh := rfl
@[simp] theorem State.putVals_ctxRunning (vals : Sparse Nat) : (s.putVals vals).ctxRunning = s.ctxRunning := rfl
@[simp] theorem State.putVals_keelEvents (vals : Sparse Nat) : (s.putVals vals).keelEvents = s.keelEvents := rfl
@[simp] theorem State.putVals_meter (vals : Sparse Nat) : (s.putVals vals).meter = s.meter := rfl
@[simp] theorem State.putVals_cart (vals : Sparse Nat) : (s.putVals vals).cart = s.cart := rfl
@[simp] theorem State.putVals_sec (vals : Sparse Nat) : (s.putVals vals).sec = s.sec := rfl
@[simp] theorem State.putVals_pow (vals : Sparse Nat) : (s.putVals vals).pow = s.pow := rfl
@[simp] theorem State.putVals_chosor (vals : Sparse Nat) : (s.putVals vals).chosor = s.chosor := rfl
@[simp] theorem State.putVals_out (vals : Sparse Nat) : (s.putVals vals).out = s.out := rfl
@[simp] theorem State.putVals_freeCount (vals : Sparse Nat) : (s.putVals vals).freeCount = s.freeCount := rfl
@[simp] theorem State.putVals_pending (vals : Sparse Nat) : (s.putVals vals).pending = s.pending := rfl

/-! ## setSeq -/

@[simp] theorem State.setSeq_regs (i : Nat) (x : Seq) : (s.setSeq i x).regs = s.regs := rfl
@[simp] theorem State.setSeq_cfg (i : Nat) (x : Seq) : (s.setSeq i x).cfg = s.cfg := rfl
@[simp] theorem State.setSeq_mem (i : Nat) (x : Seq) : (s.setSeq i x).mem = s.mem := rfl
@[simp] theorem State.setSeq_tly (i : Nat) (x : Seq) : (s.setSeq i x).tly = s.tly := rfl
@[simp] theorem State.setSeq_events (i : Nat) (x : Seq) : (s.setSeq i x).events = s.events := rfl
@[simp] theorem State.setSeq_rings (i : Nat) (x : Seq) : (s.setSeq i x).rings = s.rings := rfl
@[simp] theorem State.setSeq_vectors (i : Nat) (x : Seq) : (s.setSeq i x).vectors = s.vectors := rfl
@[simp] theorem State.setSeq_harts (i : Nat) (x : Seq) : (s.setSeq i x).harts = s.harts := rfl
@[simp] theorem State.setSeq_clu (i : Nat) (x : Seq) : (s.setSeq i x).clu = s.clu := rfl
@[simp] theorem State.setSeq_upd (i : Nat) (x : Seq) : (s.setSeq i x).upd = s.upd := rfl
@[simp] theorem State.setSeq_kv (i : Nat) (x : Seq) : (s.setSeq i x).kv = s.kv := rfl
@[simp] theorem State.setSeq_weave (i : Nat) (x : Seq) : (s.setSeq i x).weave = s.weave := rfl
@[simp] theorem State.setSeq_span (i : Nat) (x : Seq) : (s.setSeq i x).span = s.span := rfl
@[simp] theorem State.setSeq_flt (i : Nat) (x : Seq) : (s.setSeq i x).flt = s.flt := rfl
@[simp] theorem State.setSeq_health (i : Nat) (x : Seq) : (s.setSeq i x).health = s.health := rfl
@[simp] theorem State.setSeq_fh (i : Nat) (x : Seq) : (s.setSeq i x).fh = s.fh := rfl
@[simp] theorem State.setSeq_ctxRunning (i : Nat) (x : Seq) : (s.setSeq i x).ctxRunning = s.ctxRunning := rfl
@[simp] theorem State.setSeq_keelEvents (i : Nat) (x : Seq) : (s.setSeq i x).keelEvents = s.keelEvents := rfl
@[simp] theorem State.setSeq_meter (i : Nat) (x : Seq) : (s.setSeq i x).meter = s.meter := rfl
@[simp] theorem State.setSeq_cart (i : Nat) (x : Seq) : (s.setSeq i x).cart = s.cart := rfl
@[simp] theorem State.setSeq_sec (i : Nat) (x : Seq) : (s.setSeq i x).sec = s.sec := rfl
@[simp] theorem State.setSeq_pow (i : Nat) (x : Seq) : (s.setSeq i x).pow = s.pow := rfl
@[simp] theorem State.setSeq_chosor (i : Nat) (x : Seq) : (s.setSeq i x).chosor = s.chosor := rfl
@[simp] theorem State.setSeq_out (i : Nat) (x : Seq) : (s.setSeq i x).out = s.out := rfl
@[simp] theorem State.setSeq_freeCount (i : Nat) (x : Seq) : (s.setSeq i x).freeCount = s.freeCount := rfl
@[simp] theorem State.setSeq_pending (i : Nat) (x : Seq) : (s.setSeq i x).pending = s.pending := rfl
@[simp] theorem State.setSeq_rd (i : Nat) (x : Seq) (reg : Reg) (copy : Nat) : (s.setSeq i x).rd reg copy = s.rd reg copy := rfl

/-! ## setStep -/

@[simp] theorem State.setStep_regs (c : Nat) (x : StepState) : (s.setStep c x).regs = s.regs := rfl
@[simp] theorem State.setStep_cfg (c : Nat) (x : StepState) : (s.setStep c x).cfg = s.cfg := rfl
@[simp] theorem State.setStep_mem (c : Nat) (x : StepState) : (s.setStep c x).mem = s.mem := rfl
@[simp] theorem State.setStep_tly (c : Nat) (x : StepState) : (s.setStep c x).tly = s.tly := rfl
@[simp] theorem State.setStep_events (c : Nat) (x : StepState) : (s.setStep c x).events = s.events := rfl
@[simp] theorem State.setStep_rings (c : Nat) (x : StepState) : (s.setStep c x).rings = s.rings := rfl
@[simp] theorem State.setStep_vectors (c : Nat) (x : StepState) : (s.setStep c x).vectors = s.vectors := rfl
@[simp] theorem State.setStep_harts (c : Nat) (x : StepState) : (s.setStep c x).harts = s.harts := rfl
@[simp] theorem State.setStep_clu (c : Nat) (x : StepState) : (s.setStep c x).clu = s.clu := rfl
@[simp] theorem State.setStep_upd (c : Nat) (x : StepState) : (s.setStep c x).upd = s.upd := rfl
@[simp] theorem State.setStep_kv (c : Nat) (x : StepState) : (s.setStep c x).kv = s.kv := rfl
@[simp] theorem State.setStep_weave (c : Nat) (x : StepState) : (s.setStep c x).weave = s.weave := rfl
@[simp] theorem State.setStep_span (c : Nat) (x : StepState) : (s.setStep c x).span = s.span := rfl
@[simp] theorem State.setStep_flt (c : Nat) (x : StepState) : (s.setStep c x).flt = s.flt := rfl
@[simp] theorem State.setStep_health (c : Nat) (x : StepState) : (s.setStep c x).health = s.health := rfl
@[simp] theorem State.setStep_fh (c : Nat) (x : StepState) : (s.setStep c x).fh = s.fh := rfl
@[simp] theorem State.setStep_ctxRunning (c : Nat) (x : StepState) : (s.setStep c x).ctxRunning = s.ctxRunning := rfl
@[simp] theorem State.setStep_keelEvents (c : Nat) (x : StepState) : (s.setStep c x).keelEvents = s.keelEvents := rfl
@[simp] theorem State.setStep_meter (c : Nat) (x : StepState) : (s.setStep c x).meter = s.meter := rfl
@[simp] theorem State.setStep_cart (c : Nat) (x : StepState) : (s.setStep c x).cart = s.cart := rfl
@[simp] theorem State.setStep_sec (c : Nat) (x : StepState) : (s.setStep c x).sec = s.sec := rfl
@[simp] theorem State.setStep_pow (c : Nat) (x : StepState) : (s.setStep c x).pow = s.pow := rfl
@[simp] theorem State.setStep_chosor (c : Nat) (x : StepState) : (s.setStep c x).chosor = s.chosor := rfl
@[simp] theorem State.setStep_out (c : Nat) (x : StepState) : (s.setStep c x).out = s.out := rfl
@[simp] theorem State.setStep_freeCount (c : Nat) (x : StepState) : (s.setStep c x).freeCount = s.freeCount := rfl
@[simp] theorem State.setStep_pending (c : Nat) (x : StepState) : (s.setStep c x).pending = s.pending := rfl
@[simp] theorem State.setStep_rd (c : Nat) (x : StepState) (reg : Reg) (copy : Nat) : (s.setStep c x).rd reg copy = s.rd reg copy := rfl

/-! ## setPfx -/

@[simp] theorem State.setPfx_regs (c k : Nat) (x : PfxSlot) : (s.setPfx c k x).regs = s.regs := rfl
@[simp] theorem State.setPfx_cfg (c k : Nat) (x : PfxSlot) : (s.setPfx c k x).cfg = s.cfg := rfl
@[simp] theorem State.setPfx_mem (c k : Nat) (x : PfxSlot) : (s.setPfx c k x).mem = s.mem := rfl
@[simp] theorem State.setPfx_tly (c k : Nat) (x : PfxSlot) : (s.setPfx c k x).tly = s.tly := rfl
@[simp] theorem State.setPfx_events (c k : Nat) (x : PfxSlot) : (s.setPfx c k x).events = s.events := rfl
@[simp] theorem State.setPfx_rings (c k : Nat) (x : PfxSlot) : (s.setPfx c k x).rings = s.rings := rfl
@[simp] theorem State.setPfx_vectors (c k : Nat) (x : PfxSlot) : (s.setPfx c k x).vectors = s.vectors := rfl
@[simp] theorem State.setPfx_harts (c k : Nat) (x : PfxSlot) : (s.setPfx c k x).harts = s.harts := rfl
@[simp] theorem State.setPfx_clu (c k : Nat) (x : PfxSlot) : (s.setPfx c k x).clu = s.clu := rfl
@[simp] theorem State.setPfx_upd (c k : Nat) (x : PfxSlot) : (s.setPfx c k x).upd = s.upd := rfl
@[simp] theorem State.setPfx_seq (c k : Nat) (x : PfxSlot) : (s.setPfx c k x).seq = s.seq := rfl
@[simp] theorem State.setPfx_weave (c k : Nat) (x : PfxSlot) : (s.setPfx c k x).weave = s.weave := rfl
@[simp] theorem State.setPfx_span (c k : Nat) (x : PfxSlot) : (s.setPfx c k x).span = s.span := rfl
@[simp] theorem State.setPfx_flt (c k : Nat) (x : PfxSlot) : (s.setPfx c k x).flt = s.flt := rfl
@[simp] theorem State.setPfx_health (c k : Nat) (x : PfxSlot) : (s.setPfx c k x).health = s.health := rfl
@[simp] theorem State.setPfx_fh (c k : Nat) (x : PfxSlot) : (s.setPfx c k x).fh = s.fh := rfl
@[simp] theorem State.setPfx_ctxRunning (c k : Nat) (x : PfxSlot) : (s.setPfx c k x).ctxRunning = s.ctxRunning := rfl
@[simp] theorem State.setPfx_keelEvents (c k : Nat) (x : PfxSlot) : (s.setPfx c k x).keelEvents = s.keelEvents := rfl
@[simp] theorem State.setPfx_meter (c k : Nat) (x : PfxSlot) : (s.setPfx c k x).meter = s.meter := rfl
@[simp] theorem State.setPfx_cart (c k : Nat) (x : PfxSlot) : (s.setPfx c k x).cart = s.cart := rfl
@[simp] theorem State.setPfx_sec (c k : Nat) (x : PfxSlot) : (s.setPfx c k x).sec = s.sec := rfl
@[simp] theorem State.setPfx_pow (c k : Nat) (x : PfxSlot) : (s.setPfx c k x).pow = s.pow := rfl
@[simp] theorem State.setPfx_chosor (c k : Nat) (x : PfxSlot) : (s.setPfx c k x).chosor = s.chosor := rfl
@[simp] theorem State.setPfx_out (c k : Nat) (x : PfxSlot) : (s.setPfx c k x).out = s.out := rfl
@[simp] theorem State.setPfx_freeCount (c k : Nat) (x : PfxSlot) : (s.setPfx c k x).freeCount = s.freeCount := rfl
@[simp] theorem State.setPfx_pending (c k : Nat) (x : PfxSlot) : (s.setPfx c k x).pending = s.pending := rfl
@[simp] theorem State.setPfx_rd (c k : Nat) (x : PfxSlot) (reg : Reg) (copy : Nat) : (s.setPfx c k x).rd reg copy = s.rd reg copy := rfl

/-! ## setInstance -/

@[simp] theorem State.setInstance_regs (k : Nat) (x : MeterInstance) : (s.setInstance k x).regs = s.regs := rfl
@[simp] theorem State.setInstance_cfg (k : Nat) (x : MeterInstance) : (s.setInstance k x).cfg = s.cfg := rfl
@[simp] theorem State.setInstance_mem (k : Nat) (x : MeterInstance) : (s.setInstance k x).mem = s.mem := rfl
@[simp] theorem State.setInstance_tly (k : Nat) (x : MeterInstance) : (s.setInstance k x).tly = s.tly := rfl
@[simp] theorem State.setInstance_events (k : Nat) (x : MeterInstance) : (s.setInstance k x).events = s.events := rfl
@[simp] theorem State.setInstance_rings (k : Nat) (x : MeterInstance) : (s.setInstance k x).rings = s.rings := rfl
@[simp] theorem State.setInstance_vectors (k : Nat) (x : MeterInstance) : (s.setInstance k x).vectors = s.vectors := rfl
@[simp] theorem State.setInstance_harts (k : Nat) (x : MeterInstance) : (s.setInstance k x).harts = s.harts := rfl
@[simp] theorem State.setInstance_clu (k : Nat) (x : MeterInstance) : (s.setInstance k x).clu = s.clu := rfl
@[simp] theorem State.setInstance_upd (k : Nat) (x : MeterInstance) : (s.setInstance k x).upd = s.upd := rfl
@[simp] theorem State.setInstance_seq (k : Nat) (x : MeterInstance) : (s.setInstance k x).seq = s.seq := rfl
@[simp] theorem State.setInstance_kv (k : Nat) (x : MeterInstance) : (s.setInstance k x).kv = s.kv := rfl
@[simp] theorem State.setInstance_weave (k : Nat) (x : MeterInstance) : (s.setInstance k x).weave = s.weave := rfl
@[simp] theorem State.setInstance_span (k : Nat) (x : MeterInstance) : (s.setInstance k x).span = s.span := rfl
@[simp] theorem State.setInstance_flt (k : Nat) (x : MeterInstance) : (s.setInstance k x).flt = s.flt := rfl
@[simp] theorem State.setInstance_health (k : Nat) (x : MeterInstance) : (s.setInstance k x).health = s.health := rfl
@[simp] theorem State.setInstance_fh (k : Nat) (x : MeterInstance) : (s.setInstance k x).fh = s.fh := rfl
@[simp] theorem State.setInstance_ctxRunning (k : Nat) (x : MeterInstance) : (s.setInstance k x).ctxRunning = s.ctxRunning := rfl
@[simp] theorem State.setInstance_keelEvents (k : Nat) (x : MeterInstance) : (s.setInstance k x).keelEvents = s.keelEvents := rfl
@[simp] theorem State.setInstance_cart (k : Nat) (x : MeterInstance) : (s.setInstance k x).cart = s.cart := rfl
@[simp] theorem State.setInstance_sec (k : Nat) (x : MeterInstance) : (s.setInstance k x).sec = s.sec := rfl
@[simp] theorem State.setInstance_pow (k : Nat) (x : MeterInstance) : (s.setInstance k x).pow = s.pow := rfl
@[simp] theorem State.setInstance_chosor (k : Nat) (x : MeterInstance) : (s.setInstance k x).chosor = s.chosor := rfl
@[simp] theorem State.setInstance_out (k : Nat) (x : MeterInstance) : (s.setInstance k x).out = s.out := rfl
@[simp] theorem State.setInstance_freeCount (k : Nat) (x : MeterInstance) : (s.setInstance k x).freeCount = s.freeCount := rfl
@[simp] theorem State.setInstance_pending (k : Nat) (x : MeterInstance) : (s.setInstance k x).pending = s.pending := rfl
@[simp] theorem State.setInstance_rd (k : Nat) (x : MeterInstance) (reg : Reg) (copy : Nat) : (s.setInstance k x).rd reg copy = s.rd reg copy := rfl

/-! ## wr -/

@[simp] theorem State.wr_cfg (r : Reg) (i v : Nat) : (s.wr r i v).cfg = s.cfg := rfl
@[simp] theorem State.wr_mem (r : Reg) (i v : Nat) : (s.wr r i v).mem = s.mem := rfl
@[simp] theorem State.wr_tly (r : Reg) (i v : Nat) : (s.wr r i v).tly = s.tly := rfl
@[simp] theorem State.wr_events (r : Reg) (i v : Nat) : (s.wr r i v).events = s.events := rfl
@[simp] theorem State.wr_rings (r : Reg) (i v : Nat) : (s.wr r i v).rings = s.rings := rfl
@[simp] theorem State.wr_vectors (r : Reg) (i v : Nat) : (s.wr r i v).vectors = s.vectors := rfl
@[simp] theorem State.wr_harts (r : Reg) (i v : Nat) : (s.wr r i v).harts = s.harts := rfl
@[simp] theorem State.wr_clu (r : Reg) (i v : Nat) : (s.wr r i v).clu = s.clu := rfl
@[simp] theorem State.wr_upd (r : Reg) (i v : Nat) : (s.wr r i v).upd = s.upd := rfl
@[simp] theorem State.wr_seq (r : Reg) (i v : Nat) : (s.wr r i v).seq = s.seq := rfl
@[simp] theorem State.wr_kv (r : Reg) (i v : Nat) : (s.wr r i v).kv = s.kv := rfl
@[simp] theorem State.wr_weave (r : Reg) (i v : Nat) : (s.wr r i v).weave = s.weave := rfl
@[simp] theorem State.wr_span (r : Reg) (i v : Nat) : (s.wr r i v).span = s.span := rfl
@[simp] theorem State.wr_flt (r : Reg) (i v : Nat) : (s.wr r i v).flt = s.flt := rfl
@[simp] theorem State.wr_health (r : Reg) (i v : Nat) : (s.wr r i v).health = s.health := rfl
@[simp] theorem State.wr_fh (r : Reg) (i v : Nat) : (s.wr r i v).fh = s.fh := rfl
@[simp] theorem State.wr_ctxRunning (r : Reg) (i v : Nat) : (s.wr r i v).ctxRunning = s.ctxRunning := rfl
@[simp] theorem State.wr_keelEvents (r : Reg) (i v : Nat) : (s.wr r i v).keelEvents = s.keelEvents := rfl
@[simp] theorem State.wr_meter (r : Reg) (i v : Nat) : (s.wr r i v).meter = s.meter := rfl
@[simp] theorem State.wr_cart (r : Reg) (i v : Nat) : (s.wr r i v).cart = s.cart := rfl
@[simp] theorem State.wr_sec (r : Reg) (i v : Nat) : (s.wr r i v).sec = s.sec := rfl
@[simp] theorem State.wr_pow (r : Reg) (i v : Nat) : (s.wr r i v).pow = s.pow := rfl
@[simp] theorem State.wr_chosor (r : Reg) (i v : Nat) : (s.wr r i v).chosor = s.chosor := rfl
@[simp] theorem State.wr_out (r : Reg) (i v : Nat) : (s.wr r i v).out = s.out := rfl
@[simp] theorem State.wr_freeCount (r : Reg) (i v : Nat) : (s.wr r i v).freeCount = s.freeCount := rfl
@[simp] theorem State.wr_pending (r : Reg) (i v : Nat) : (s.wr r i v).pending = s.pending := rfl

/-! ## reply -/

@[simp] theorem State.reply_regs (rdr : Reader) (st : Status) (v : Nat) : (s.reply rdr st v).regs = s.regs := rfl
@[simp] theorem State.reply_mem (rdr : Reader) (st : Status) (v : Nat) : (s.reply rdr st v).mem = s.mem := rfl
@[simp] theorem State.reply_tly (rdr : Reader) (st : Status) (v : Nat) : (s.reply rdr st v).tly = s.tly := rfl
@[simp] theorem State.reply_events (rdr : Reader) (st : Status) (v : Nat) : (s.reply rdr st v).events = s.events := rfl
@[simp] theorem State.reply_rings (rdr : Reader) (st : Status) (v : Nat) : (s.reply rdr st v).rings = s.rings := rfl
@[simp] theorem State.reply_vectors (rdr : Reader) (st : Status) (v : Nat) : (s.reply rdr st v).vectors = s.vectors := rfl
@[simp] theorem State.reply_harts (rdr : Reader) (st : Status) (v : Nat) : (s.reply rdr st v).harts = s.harts := rfl
@[simp] theorem State.reply_clu (rdr : Reader) (st : Status) (v : Nat) : (s.reply rdr st v).clu = s.clu := rfl
@[simp] theorem State.reply_upd (rdr : Reader) (st : Status) (v : Nat) : (s.reply rdr st v).upd = s.upd := rfl
@[simp] theorem State.reply_seq (rdr : Reader) (st : Status) (v : Nat) : (s.reply rdr st v).seq = s.seq := rfl
@[simp] theorem State.reply_kv (rdr : Reader) (st : Status) (v : Nat) : (s.reply rdr st v).kv = s.kv := rfl
@[simp] theorem State.reply_weave (rdr : Reader) (st : Status) (v : Nat) : (s.reply rdr st v).weave = s.weave := rfl
@[simp] theorem State.reply_span (rdr : Reader) (st : Status) (v : Nat) : (s.reply rdr st v).span = s.span := rfl
@[simp] theorem State.reply_flt (rdr : Reader) (st : Status) (v : Nat) : (s.reply rdr st v).flt = s.flt := rfl
@[simp] theorem State.reply_health (rdr : Reader) (st : Status) (v : Nat) : (s.reply rdr st v).health = s.health := rfl
@[simp] theorem State.reply_fh (rdr : Reader) (st : Status) (v : Nat) : (s.reply rdr st v).fh = s.fh := rfl
@[simp] theorem State.reply_ctxRunning (rdr : Reader) (st : Status) (v : Nat) : (s.reply rdr st v).ctxRunning = s.ctxRunning := rfl
@[simp] theorem State.reply_keelEvents (rdr : Reader) (st : Status) (v : Nat) : (s.reply rdr st v).keelEvents = s.keelEvents := rfl
@[simp] theorem State.reply_meter (rdr : Reader) (st : Status) (v : Nat) : (s.reply rdr st v).meter = s.meter := rfl
@[simp] theorem State.reply_cart (rdr : Reader) (st : Status) (v : Nat) : (s.reply rdr st v).cart = s.cart := rfl
@[simp] theorem State.reply_sec (rdr : Reader) (st : Status) (v : Nat) : (s.reply rdr st v).sec = s.sec := rfl
@[simp] theorem State.reply_pow (rdr : Reader) (st : Status) (v : Nat) : (s.reply rdr st v).pow = s.pow := rfl
@[simp] theorem State.reply_chosor (rdr : Reader) (st : Status) (v : Nat) : (s.reply rdr st v).chosor = s.chosor := rfl
@[simp] theorem State.reply_out (rdr : Reader) (st : Status) (v : Nat) : (s.reply rdr st v).out = s.out := rfl
@[simp] theorem State.reply_freeCount (rdr : Reader) (st : Status) (v : Nat) : (s.reply rdr st v).freeCount = s.freeCount := rfl
@[simp] theorem State.reply_pending (rdr : Reader) (st : Status) (v : Nat) : (s.reply rdr st v).pending = s.pending := rfl
@[simp] theorem State.reply_rd (rdr : Reader) (st : Status) (v : Nat) (reg : Reg) (copy : Nat) : (s.reply rdr st v).rd reg copy = s.rd reg copy := rfl

/-! ## replyAgent -/

@[simp] theorem State.replyAgent_regs (st : Status) (v : Nat) : (s.replyAgent st v).regs = s.regs := rfl
@[simp] theorem State.replyAgent_mem (st : Status) (v : Nat) : (s.replyAgent st v).mem = s.mem := rfl
@[simp] theorem State.replyAgent_tly (st : Status) (v : Nat) : (s.replyAgent st v).tly = s.tly := rfl
@[simp] theorem State.replyAgent_events (st : Status) (v : Nat) : (s.replyAgent st v).events = s.events := rfl
@[simp] theorem State.replyAgent_rings (st : Status) (v : Nat) : (s.replyAgent st v).rings = s.rings := rfl
@[simp] theorem State.replyAgent_vectors (st : Status) (v : Nat) : (s.replyAgent st v).vectors = s.vectors := rfl
@[simp] theorem State.replyAgent_harts (st : Status) (v : Nat) : (s.replyAgent st v).harts = s.harts := rfl
@[simp] theorem State.replyAgent_clu (st : Status) (v : Nat) : (s.replyAgent st v).clu = s.clu := rfl
@[simp] theorem State.replyAgent_upd (st : Status) (v : Nat) : (s.replyAgent st v).upd = s.upd := rfl
@[simp] theorem State.replyAgent_seq (st : Status) (v : Nat) : (s.replyAgent st v).seq = s.seq := rfl
@[simp] theorem State.replyAgent_kv (st : Status) (v : Nat) : (s.replyAgent st v).kv = s.kv := rfl
@[simp] theorem State.replyAgent_weave (st : Status) (v : Nat) : (s.replyAgent st v).weave = s.weave := rfl
@[simp] theorem State.replyAgent_span (st : Status) (v : Nat) : (s.replyAgent st v).span = s.span := rfl
@[simp] theorem State.replyAgent_flt (st : Status) (v : Nat) : (s.replyAgent st v).flt = s.flt := rfl
@[simp] theorem State.replyAgent_health (st : Status) (v : Nat) : (s.replyAgent st v).health = s.health := rfl
@[simp] theorem State.replyAgent_fh (st : Status) (v : Nat) : (s.replyAgent st v).fh = s.fh := rfl
@[simp] theorem State.replyAgent_ctxRunning (st : Status) (v : Nat) : (s.replyAgent st v).ctxRunning = s.ctxRunning := rfl
@[simp] theorem State.replyAgent_keelEvents (st : Status) (v : Nat) : (s.replyAgent st v).keelEvents = s.keelEvents := rfl
@[simp] theorem State.replyAgent_meter (st : Status) (v : Nat) : (s.replyAgent st v).meter = s.meter := rfl
@[simp] theorem State.replyAgent_cart (st : Status) (v : Nat) : (s.replyAgent st v).cart = s.cart := rfl
@[simp] theorem State.replyAgent_sec (st : Status) (v : Nat) : (s.replyAgent st v).sec = s.sec := rfl
@[simp] theorem State.replyAgent_pow (st : Status) (v : Nat) : (s.replyAgent st v).pow = s.pow := rfl
@[simp] theorem State.replyAgent_chosor (st : Status) (v : Nat) : (s.replyAgent st v).chosor = s.chosor := rfl
@[simp] theorem State.replyAgent_out (st : Status) (v : Nat) : (s.replyAgent st v).out = s.out := rfl
@[simp] theorem State.replyAgent_freeCount (st : Status) (v : Nat) : (s.replyAgent st v).freeCount = s.freeCount := rfl
@[simp] theorem State.replyAgent_pending (st : Status) (v : Nat) : (s.replyAgent st v).pending = s.pending := rfl
@[simp] theorem State.replyAgent_rd (st : Status) (v : Nat) (reg : Reg) (copy : Nat) : (s.replyAgent st v).rd reg copy = s.rd reg copy := rfl

/-! ## emit -/

@[simp] theorem State.emit_regs (o : Out) : (s.emit o).regs = s.regs := rfl
@[simp] theorem State.emit_cfg (o : Out) : (s.emit o).cfg = s.cfg := rfl
@[simp] theorem State.emit_mem (o : Out) : (s.emit o).mem = s.mem := rfl
@[simp] theorem State.emit_tly (o : Out) : (s.emit o).tly = s.tly := rfl
@[simp] theorem State.emit_events (o : Out) : (s.emit o).events = s.events := rfl
@[simp] theorem State.emit_rings (o : Out) : (s.emit o).rings = s.rings := rfl
@[simp] theorem State.emit_vectors (o : Out) : (s.emit o).vectors = s.vectors := rfl
@[simp] theorem State.emit_harts (o : Out) : (s.emit o).harts = s.harts := rfl
@[simp] theorem State.emit_clu (o : Out) : (s.emit o).clu = s.clu := rfl
@[simp] theorem State.emit_upd (o : Out) : (s.emit o).upd = s.upd := rfl
@[simp] theorem State.emit_seq (o : Out) : (s.emit o).seq = s.seq := rfl
@[simp] theorem State.emit_kv (o : Out) : (s.emit o).kv = s.kv := rfl
@[simp] theorem State.emit_weave (o : Out) : (s.emit o).weave = s.weave := rfl
@[simp] theorem State.emit_span (o : Out) : (s.emit o).span = s.span := rfl
@[simp] theorem State.emit_flt (o : Out) : (s.emit o).flt = s.flt := rfl
@[simp] theorem State.emit_health (o : Out) : (s.emit o).health = s.health := rfl
@[simp] theorem State.emit_fh (o : Out) : (s.emit o).fh = s.fh := rfl
@[simp] theorem State.emit_ctxRunning (o : Out) : (s.emit o).ctxRunning = s.ctxRunning := rfl
@[simp] theorem State.emit_keelEvents (o : Out) : (s.emit o).keelEvents = s.keelEvents := rfl
@[simp] theorem State.emit_meter (o : Out) : (s.emit o).meter = s.meter := rfl
@[simp] theorem State.emit_cart (o : Out) : (s.emit o).cart = s.cart := rfl
@[simp] theorem State.emit_sec (o : Out) : (s.emit o).sec = s.sec := rfl
@[simp] theorem State.emit_pow (o : Out) : (s.emit o).pow = s.pow := rfl
@[simp] theorem State.emit_chosor (o : Out) : (s.emit o).chosor = s.chosor := rfl
@[simp] theorem State.emit_freeCount (o : Out) : (s.emit o).freeCount = s.freeCount := rfl
@[simp] theorem State.emit_pending (o : Out) : (s.emit o).pending = s.pending := rfl
@[simp] theorem State.emit_rd (o : Out) (reg : Reg) (copy : Nat) : (s.emit o).rd reg copy = s.rd reg copy := rfl

/-! ## drawn -/

@[simp] theorem State.drawn_regs : (s.drawn).regs = s.regs := rfl
@[simp] theorem State.drawn_cfg : (s.drawn).cfg = s.cfg := rfl
@[simp] theorem State.drawn_mem : (s.drawn).mem = s.mem := rfl
@[simp] theorem State.drawn_tly : (s.drawn).tly = s.tly := rfl
@[simp] theorem State.drawn_events : (s.drawn).events = s.events := rfl
@[simp] theorem State.drawn_rings : (s.drawn).rings = s.rings := rfl
@[simp] theorem State.drawn_vectors : (s.drawn).vectors = s.vectors := rfl
@[simp] theorem State.drawn_harts : (s.drawn).harts = s.harts := rfl
@[simp] theorem State.drawn_clu : (s.drawn).clu = s.clu := rfl
@[simp] theorem State.drawn_upd : (s.drawn).upd = s.upd := rfl
@[simp] theorem State.drawn_seq : (s.drawn).seq = s.seq := rfl
@[simp] theorem State.drawn_kv : (s.drawn).kv = s.kv := rfl
@[simp] theorem State.drawn_weave : (s.drawn).weave = s.weave := rfl
@[simp] theorem State.drawn_span : (s.drawn).span = s.span := rfl
@[simp] theorem State.drawn_flt : (s.drawn).flt = s.flt := rfl
@[simp] theorem State.drawn_health : (s.drawn).health = s.health := rfl
@[simp] theorem State.drawn_fh : (s.drawn).fh = s.fh := rfl
@[simp] theorem State.drawn_ctxRunning : (s.drawn).ctxRunning = s.ctxRunning := rfl
@[simp] theorem State.drawn_keelEvents : (s.drawn).keelEvents = s.keelEvents := rfl
@[simp] theorem State.drawn_meter : (s.drawn).meter = s.meter := rfl
@[simp] theorem State.drawn_cart : (s.drawn).cart = s.cart := rfl
@[simp] theorem State.drawn_sec : (s.drawn).sec = s.sec := rfl
@[simp] theorem State.drawn_pow : (s.drawn).pow = s.pow := rfl
@[simp] theorem State.drawn_chosor : (s.drawn).chosor = s.chosor := rfl
@[simp] theorem State.drawn_out : (s.drawn).out = s.out := rfl
@[simp] theorem State.drawn_pending : (s.drawn).pending = s.pending := rfl
@[simp] theorem State.drawn_rd (reg : Reg) (copy : Nat) : (s.drawn).rd reg copy = s.rd reg copy := rfl

/-! ## setEvList -/

@[simp] theorem State.setEvList_regs (k : Nat) (l : EventList) : (s.setEvList k l).regs = s.regs := rfl
@[simp] theorem State.setEvList_cfg (k : Nat) (l : EventList) : (s.setEvList k l).cfg = s.cfg := rfl
@[simp] theorem State.setEvList_mem (k : Nat) (l : EventList) : (s.setEvList k l).mem = s.mem := rfl
@[simp] theorem State.setEvList_tly (k : Nat) (l : EventList) : (s.setEvList k l).tly = s.tly := rfl
@[simp] theorem State.setEvList_rings (k : Nat) (l : EventList) : (s.setEvList k l).rings = s.rings := rfl
@[simp] theorem State.setEvList_vectors (k : Nat) (l : EventList) : (s.setEvList k l).vectors = s.vectors := rfl
@[simp] theorem State.setEvList_harts (k : Nat) (l : EventList) : (s.setEvList k l).harts = s.harts := rfl
@[simp] theorem State.setEvList_clu (k : Nat) (l : EventList) : (s.setEvList k l).clu = s.clu := rfl
@[simp] theorem State.setEvList_upd (k : Nat) (l : EventList) : (s.setEvList k l).upd = s.upd := rfl
@[simp] theorem State.setEvList_seq (k : Nat) (l : EventList) : (s.setEvList k l).seq = s.seq := rfl
@[simp] theorem State.setEvList_kv (k : Nat) (l : EventList) : (s.setEvList k l).kv = s.kv := rfl
@[simp] theorem State.setEvList_weave (k : Nat) (l : EventList) : (s.setEvList k l).weave = s.weave := rfl
@[simp] theorem State.setEvList_span (k : Nat) (l : EventList) : (s.setEvList k l).span = s.span := rfl
@[simp] theorem State.setEvList_flt (k : Nat) (l : EventList) : (s.setEvList k l).flt = s.flt := rfl
@[simp] theorem State.setEvList_health (k : Nat) (l : EventList) : (s.setEvList k l).health = s.health := rfl
@[simp] theorem State.setEvList_fh (k : Nat) (l : EventList) : (s.setEvList k l).fh = s.fh := rfl
@[simp] theorem State.setEvList_ctxRunning (k : Nat) (l : EventList) : (s.setEvList k l).ctxRunning = s.ctxRunning := rfl
@[simp] theorem State.setEvList_keelEvents (k : Nat) (l : EventList) : (s.setEvList k l).keelEvents = s.keelEvents := rfl
@[simp] theorem State.setEvList_meter (k : Nat) (l : EventList) : (s.setEvList k l).meter = s.meter := rfl
@[simp] theorem State.setEvList_cart (k : Nat) (l : EventList) : (s.setEvList k l).cart = s.cart := rfl
@[simp] theorem State.setEvList_sec (k : Nat) (l : EventList) : (s.setEvList k l).sec = s.sec := rfl
@[simp] theorem State.setEvList_pow (k : Nat) (l : EventList) : (s.setEvList k l).pow = s.pow := rfl
@[simp] theorem State.setEvList_chosor (k : Nat) (l : EventList) : (s.setEvList k l).chosor = s.chosor := rfl
@[simp] theorem State.setEvList_out (k : Nat) (l : EventList) : (s.setEvList k l).out = s.out := rfl
@[simp] theorem State.setEvList_freeCount (k : Nat) (l : EventList) : (s.setEvList k l).freeCount = s.freeCount := rfl
@[simp] theorem State.setEvList_pending (k : Nat) (l : EventList) : (s.setEvList k l).pending = s.pending := rfl
@[simp] theorem State.setEvList_rd (k : Nat) (l : EventList) (reg : Reg) (copy : Nat) : (s.setEvList k l).rd reg copy = s.rd reg copy := rfl

/-! ## setResetting -/

@[simp] theorem State.setResetting_regs (k : Option ResetKind) : (s.setResetting k).regs = s.regs := rfl
@[simp] theorem State.setResetting_cfg (k : Option ResetKind) : (s.setResetting k).cfg = s.cfg := rfl
@[simp] theorem State.setResetting_mem (k : Option ResetKind) : (s.setResetting k).mem = s.mem := rfl
@[simp] theorem State.setResetting_tly (k : Option ResetKind) : (s.setResetting k).tly = s.tly := rfl
@[simp] theorem State.setResetting_events (k : Option ResetKind) : (s.setResetting k).events = s.events := rfl
@[simp] theorem State.setResetting_rings (k : Option ResetKind) : (s.setResetting k).rings = s.rings := rfl
@[simp] theorem State.setResetting_vectors (k : Option ResetKind) : (s.setResetting k).vectors = s.vectors := rfl
@[simp] theorem State.setResetting_harts (k : Option ResetKind) : (s.setResetting k).harts = s.harts := rfl
@[simp] theorem State.setResetting_clu (k : Option ResetKind) : (s.setResetting k).clu = s.clu := rfl
@[simp] theorem State.setResetting_upd (k : Option ResetKind) : (s.setResetting k).upd = s.upd := rfl
@[simp] theorem State.setResetting_seq (k : Option ResetKind) : (s.setResetting k).seq = s.seq := rfl
@[simp] theorem State.setResetting_kv (k : Option ResetKind) : (s.setResetting k).kv = s.kv := rfl
@[simp] theorem State.setResetting_weave (k : Option ResetKind) : (s.setResetting k).weave = s.weave := rfl
@[simp] theorem State.setResetting_span (k : Option ResetKind) : (s.setResetting k).span = s.span := rfl
@[simp] theorem State.setResetting_flt (k : Option ResetKind) : (s.setResetting k).flt = s.flt := rfl
@[simp] theorem State.setResetting_health (k : Option ResetKind) : (s.setResetting k).health = s.health := rfl
@[simp] theorem State.setResetting_fh (k : Option ResetKind) : (s.setResetting k).fh = s.fh := rfl
@[simp] theorem State.setResetting_ctxRunning (k : Option ResetKind) : (s.setResetting k).ctxRunning = s.ctxRunning := rfl
@[simp] theorem State.setResetting_keelEvents (k : Option ResetKind) : (s.setResetting k).keelEvents = s.keelEvents := rfl
@[simp] theorem State.setResetting_meter (k : Option ResetKind) : (s.setResetting k).meter = s.meter := rfl
@[simp] theorem State.setResetting_cart (k : Option ResetKind) : (s.setResetting k).cart = s.cart := rfl
@[simp] theorem State.setResetting_sec (k : Option ResetKind) : (s.setResetting k).sec = s.sec := rfl
@[simp] theorem State.setResetting_out (k : Option ResetKind) : (s.setResetting k).out = s.out := rfl
@[simp] theorem State.setResetting_freeCount (k : Option ResetKind) : (s.setResetting k).freeCount = s.freeCount := rfl
@[simp] theorem State.setResetting_pending (k : Option ResetKind) : (s.setResetting k).pending = s.pending := rfl
@[simp] theorem State.setResetting_rd (k : Option ResetKind) (reg : Reg) (copy : Nat) : (s.setResetting k).rd reg copy = s.rd reg copy := rfl

/-! ## setCapture -/

@[simp] theorem State.setCapture_regs (k : Nat) (v : Option Nat) : (s.setCapture k v).regs = s.regs := rfl
@[simp] theorem State.setCapture_mem (k : Nat) (v : Option Nat) : (s.setCapture k v).mem = s.mem := rfl
@[simp] theorem State.setCapture_tly (k : Nat) (v : Option Nat) : (s.setCapture k v).tly = s.tly := rfl
@[simp] theorem State.setCapture_events (k : Nat) (v : Option Nat) : (s.setCapture k v).events = s.events := rfl
@[simp] theorem State.setCapture_rings (k : Nat) (v : Option Nat) : (s.setCapture k v).rings = s.rings := rfl
@[simp] theorem State.setCapture_vectors (k : Nat) (v : Option Nat) : (s.setCapture k v).vectors = s.vectors := rfl
@[simp] theorem State.setCapture_harts (k : Nat) (v : Option Nat) : (s.setCapture k v).harts = s.harts := rfl
@[simp] theorem State.setCapture_clu (k : Nat) (v : Option Nat) : (s.setCapture k v).clu = s.clu := rfl
@[simp] theorem State.setCapture_upd (k : Nat) (v : Option Nat) : (s.setCapture k v).upd = s.upd := rfl
@[simp] theorem State.setCapture_seq (k : Nat) (v : Option Nat) : (s.setCapture k v).seq = s.seq := rfl
@[simp] theorem State.setCapture_kv (k : Nat) (v : Option Nat) : (s.setCapture k v).kv = s.kv := rfl
@[simp] theorem State.setCapture_weave (k : Nat) (v : Option Nat) : (s.setCapture k v).weave = s.weave := rfl
@[simp] theorem State.setCapture_span (k : Nat) (v : Option Nat) : (s.setCapture k v).span = s.span := rfl
@[simp] theorem State.setCapture_flt (k : Nat) (v : Option Nat) : (s.setCapture k v).flt = s.flt := rfl
@[simp] theorem State.setCapture_health (k : Nat) (v : Option Nat) : (s.setCapture k v).health = s.health := rfl
@[simp] theorem State.setCapture_fh (k : Nat) (v : Option Nat) : (s.setCapture k v).fh = s.fh := rfl
@[simp] theorem State.setCapture_ctxRunning (k : Nat) (v : Option Nat) : (s.setCapture k v).ctxRunning = s.ctxRunning := rfl
@[simp] theorem State.setCapture_keelEvents (k : Nat) (v : Option Nat) : (s.setCapture k v).keelEvents = s.keelEvents := rfl
@[simp] theorem State.setCapture_meter (k : Nat) (v : Option Nat) : (s.setCapture k v).meter = s.meter := rfl
@[simp] theorem State.setCapture_cart (k : Nat) (v : Option Nat) : (s.setCapture k v).cart = s.cart := rfl
@[simp] theorem State.setCapture_sec (k : Nat) (v : Option Nat) : (s.setCapture k v).sec = s.sec := rfl
@[simp] theorem State.setCapture_pow (k : Nat) (v : Option Nat) : (s.setCapture k v).pow = s.pow := rfl
@[simp] theorem State.setCapture_chosor (k : Nat) (v : Option Nat) : (s.setCapture k v).chosor = s.chosor := rfl
@[simp] theorem State.setCapture_out (k : Nat) (v : Option Nat) : (s.setCapture k v).out = s.out := rfl
@[simp] theorem State.setCapture_freeCount (k : Nat) (v : Option Nat) : (s.setCapture k v).freeCount = s.freeCount := rfl
@[simp] theorem State.setCapture_pending (k : Nat) (v : Option Nat) : (s.setCapture k v).pending = s.pending := rfl
@[simp] theorem State.setCapture_rd (k : Nat) (v : Option Nat) (reg : Reg) (copy : Nat) : (s.setCapture k v).rd reg copy = s.rd reg copy := rfl

/-! ## unstage -/

@[simp] theorem State.unstage_regs : (s.unstage).regs = s.regs := rfl
@[simp] theorem State.unstage_mem : (s.unstage).mem = s.mem := rfl
@[simp] theorem State.unstage_tly : (s.unstage).tly = s.tly := rfl
@[simp] theorem State.unstage_events : (s.unstage).events = s.events := rfl
@[simp] theorem State.unstage_rings : (s.unstage).rings = s.rings := rfl
@[simp] theorem State.unstage_vectors : (s.unstage).vectors = s.vectors := rfl
@[simp] theorem State.unstage_harts : (s.unstage).harts = s.harts := rfl
@[simp] theorem State.unstage_clu : (s.unstage).clu = s.clu := rfl
@[simp] theorem State.unstage_upd : (s.unstage).upd = s.upd := rfl
@[simp] theorem State.unstage_seq : (s.unstage).seq = s.seq := rfl
@[simp] theorem State.unstage_kv : (s.unstage).kv = s.kv := rfl
@[simp] theorem State.unstage_weave : (s.unstage).weave = s.weave := rfl
@[simp] theorem State.unstage_span : (s.unstage).span = s.span := rfl
@[simp] theorem State.unstage_flt : (s.unstage).flt = s.flt := rfl
@[simp] theorem State.unstage_health : (s.unstage).health = s.health := rfl
@[simp] theorem State.unstage_fh : (s.unstage).fh = s.fh := rfl
@[simp] theorem State.unstage_ctxRunning : (s.unstage).ctxRunning = s.ctxRunning := rfl
@[simp] theorem State.unstage_keelEvents : (s.unstage).keelEvents = s.keelEvents := rfl
@[simp] theorem State.unstage_meter : (s.unstage).meter = s.meter := rfl
@[simp] theorem State.unstage_cart : (s.unstage).cart = s.cart := rfl
@[simp] theorem State.unstage_sec : (s.unstage).sec = s.sec := rfl
@[simp] theorem State.unstage_pow : (s.unstage).pow = s.pow := rfl
@[simp] theorem State.unstage_chosor : (s.unstage).chosor = s.chosor := rfl
@[simp] theorem State.unstage_out : (s.unstage).out = s.out := rfl
@[simp] theorem State.unstage_freeCount : (s.unstage).freeCount = s.freeCount := rfl
@[simp] theorem State.unstage_pending : (s.unstage).pending = s.pending := rfl
@[simp] theorem State.unstage_rd (reg : Reg) (copy : Nat) : (s.unstage).rd reg copy = s.rd reg copy := rfl

/-! ## endKeys -/

@[simp] theorem State.endKeys_regs (c : Nat) : (s.endKeys c).regs = s.regs := rfl
@[simp] theorem State.endKeys_cfg (c : Nat) : (s.endKeys c).cfg = s.cfg := rfl
@[simp] theorem State.endKeys_mem (c : Nat) : (s.endKeys c).mem = s.mem := rfl
@[simp] theorem State.endKeys_tly (c : Nat) : (s.endKeys c).tly = s.tly := rfl
@[simp] theorem State.endKeys_events (c : Nat) : (s.endKeys c).events = s.events := rfl
@[simp] theorem State.endKeys_rings (c : Nat) : (s.endKeys c).rings = s.rings := rfl
@[simp] theorem State.endKeys_vectors (c : Nat) : (s.endKeys c).vectors = s.vectors := rfl
@[simp] theorem State.endKeys_harts (c : Nat) : (s.endKeys c).harts = s.harts := rfl
@[simp] theorem State.endKeys_clu (c : Nat) : (s.endKeys c).clu = s.clu := rfl
@[simp] theorem State.endKeys_upd (c : Nat) : (s.endKeys c).upd = s.upd := rfl
@[simp] theorem State.endKeys_seq (c : Nat) : (s.endKeys c).seq = s.seq := rfl
@[simp] theorem State.endKeys_kv (c : Nat) : (s.endKeys c).kv = s.kv := rfl
@[simp] theorem State.endKeys_weave (c : Nat) : (s.endKeys c).weave = s.weave := rfl
@[simp] theorem State.endKeys_span (c : Nat) : (s.endKeys c).span = s.span := rfl
@[simp] theorem State.endKeys_flt (c : Nat) : (s.endKeys c).flt = s.flt := rfl
@[simp] theorem State.endKeys_health (c : Nat) : (s.endKeys c).health = s.health := rfl
@[simp] theorem State.endKeys_fh (c : Nat) : (s.endKeys c).fh = s.fh := rfl
@[simp] theorem State.endKeys_ctxRunning (c : Nat) : (s.endKeys c).ctxRunning = s.ctxRunning := rfl
@[simp] theorem State.endKeys_keelEvents (c : Nat) : (s.endKeys c).keelEvents = s.keelEvents := rfl
@[simp] theorem State.endKeys_meter (c : Nat) : (s.endKeys c).meter = s.meter := rfl
@[simp] theorem State.endKeys_cart (c : Nat) : (s.endKeys c).cart = s.cart := rfl
@[simp] theorem State.endKeys_pow (c : Nat) : (s.endKeys c).pow = s.pow := rfl
@[simp] theorem State.endKeys_chosor (c : Nat) : (s.endKeys c).chosor = s.chosor := rfl
@[simp] theorem State.endKeys_out (c : Nat) : (s.endKeys c).out = s.out := rfl
@[simp] theorem State.endKeys_freeCount (c : Nat) : (s.endKeys c).freeCount = s.freeCount := rfl
@[simp] theorem State.endKeys_pending (c : Nat) : (s.endKeys c).pending = s.pending := rfl
@[simp] theorem State.endKeys_rd (c : Nat) (reg : Reg) (copy : Nat) : (s.endKeys c).rd reg copy = s.rd reg copy := rfl

/-! ## setRing -/

@[simp] theorem State.setRing_regs (r : Nat) (x : Ring) : (s.setRing r x).regs = s.regs := rfl
@[simp] theorem State.setRing_cfg (r : Nat) (x : Ring) : (s.setRing r x).cfg = s.cfg := rfl
@[simp] theorem State.setRing_mem (r : Nat) (x : Ring) : (s.setRing r x).mem = s.mem := rfl
@[simp] theorem State.setRing_tly (r : Nat) (x : Ring) : (s.setRing r x).tly = s.tly := rfl
@[simp] theorem State.setRing_events (r : Nat) (x : Ring) : (s.setRing r x).events = s.events := rfl
@[simp] theorem State.setRing_vectors (r : Nat) (x : Ring) : (s.setRing r x).vectors = s.vectors := rfl
@[simp] theorem State.setRing_harts (r : Nat) (x : Ring) : (s.setRing r x).harts = s.harts := rfl
@[simp] theorem State.setRing_clu (r : Nat) (x : Ring) : (s.setRing r x).clu = s.clu := rfl
@[simp] theorem State.setRing_upd (r : Nat) (x : Ring) : (s.setRing r x).upd = s.upd := rfl
@[simp] theorem State.setRing_seq (r : Nat) (x : Ring) : (s.setRing r x).seq = s.seq := rfl
@[simp] theorem State.setRing_kv (r : Nat) (x : Ring) : (s.setRing r x).kv = s.kv := rfl
@[simp] theorem State.setRing_weave (r : Nat) (x : Ring) : (s.setRing r x).weave = s.weave := rfl
@[simp] theorem State.setRing_span (r : Nat) (x : Ring) : (s.setRing r x).span = s.span := rfl
@[simp] theorem State.setRing_flt (r : Nat) (x : Ring) : (s.setRing r x).flt = s.flt := rfl
@[simp] theorem State.setRing_health (r : Nat) (x : Ring) : (s.setRing r x).health = s.health := rfl
@[simp] theorem State.setRing_fh (r : Nat) (x : Ring) : (s.setRing r x).fh = s.fh := rfl
@[simp] theorem State.setRing_ctxRunning (r : Nat) (x : Ring) : (s.setRing r x).ctxRunning = s.ctxRunning := rfl
@[simp] theorem State.setRing_keelEvents (r : Nat) (x : Ring) : (s.setRing r x).keelEvents = s.keelEvents := rfl
@[simp] theorem State.setRing_meter (r : Nat) (x : Ring) : (s.setRing r x).meter = s.meter := rfl
@[simp] theorem State.setRing_cart (r : Nat) (x : Ring) : (s.setRing r x).cart = s.cart := rfl
@[simp] theorem State.setRing_sec (r : Nat) (x : Ring) : (s.setRing r x).sec = s.sec := rfl
@[simp] theorem State.setRing_pow (r : Nat) (x : Ring) : (s.setRing r x).pow = s.pow := rfl
@[simp] theorem State.setRing_chosor (r : Nat) (x : Ring) : (s.setRing r x).chosor = s.chosor := rfl
@[simp] theorem State.setRing_out (r : Nat) (x : Ring) : (s.setRing r x).out = s.out := rfl
@[simp] theorem State.setRing_freeCount (r : Nat) (x : Ring) : (s.setRing r x).freeCount = s.freeCount := rfl
@[simp] theorem State.setRing_pending (r : Nat) (x : Ring) : (s.setRing r x).pending = s.pending := rfl
@[simp] theorem State.setRing_rd (r : Nat) (x : Ring) (reg : Reg) (copy : Nat) : (s.setRing r x).rd reg copy = s.rd reg copy := rfl

/-! ## setLink -/

@[simp] theorem State.setLink_regs (n : Nat) (l : SpanLink) : (s.setLink n l).regs = s.regs := rfl
@[simp] theorem State.setLink_cfg (n : Nat) (l : SpanLink) : (s.setLink n l).cfg = s.cfg := rfl
@[simp] theorem State.setLink_mem (n : Nat) (l : SpanLink) : (s.setLink n l).mem = s.mem := rfl
@[simp] theorem State.setLink_tly (n : Nat) (l : SpanLink) : (s.setLink n l).tly = s.tly := rfl
@[simp] theorem State.setLink_events (n : Nat) (l : SpanLink) : (s.setLink n l).events = s.events := rfl
@[simp] theorem State.setLink_rings (n : Nat) (l : SpanLink) : (s.setLink n l).rings = s.rings := rfl
@[simp] theorem State.setLink_vectors (n : Nat) (l : SpanLink) : (s.setLink n l).vectors = s.vectors := rfl
@[simp] theorem State.setLink_harts (n : Nat) (l : SpanLink) : (s.setLink n l).harts = s.harts := rfl
@[simp] theorem State.setLink_clu (n : Nat) (l : SpanLink) : (s.setLink n l).clu = s.clu := rfl
@[simp] theorem State.setLink_upd (n : Nat) (l : SpanLink) : (s.setLink n l).upd = s.upd := rfl
@[simp] theorem State.setLink_seq (n : Nat) (l : SpanLink) : (s.setLink n l).seq = s.seq := rfl
@[simp] theorem State.setLink_kv (n : Nat) (l : SpanLink) : (s.setLink n l).kv = s.kv := rfl
@[simp] theorem State.setLink_weave (n : Nat) (l : SpanLink) : (s.setLink n l).weave = s.weave := rfl
@[simp] theorem State.setLink_flt (n : Nat) (l : SpanLink) : (s.setLink n l).flt = s.flt := rfl
@[simp] theorem State.setLink_health (n : Nat) (l : SpanLink) : (s.setLink n l).health = s.health := rfl
@[simp] theorem State.setLink_fh (n : Nat) (l : SpanLink) : (s.setLink n l).fh = s.fh := rfl
@[simp] theorem State.setLink_ctxRunning (n : Nat) (l : SpanLink) : (s.setLink n l).ctxRunning = s.ctxRunning := rfl
@[simp] theorem State.setLink_keelEvents (n : Nat) (l : SpanLink) : (s.setLink n l).keelEvents = s.keelEvents := rfl
@[simp] theorem State.setLink_meter (n : Nat) (l : SpanLink) : (s.setLink n l).meter = s.meter := rfl
@[simp] theorem State.setLink_cart (n : Nat) (l : SpanLink) : (s.setLink n l).cart = s.cart := rfl
@[simp] theorem State.setLink_sec (n : Nat) (l : SpanLink) : (s.setLink n l).sec = s.sec := rfl
@[simp] theorem State.setLink_pow (n : Nat) (l : SpanLink) : (s.setLink n l).pow = s.pow := rfl
@[simp] theorem State.setLink_chosor (n : Nat) (l : SpanLink) : (s.setLink n l).chosor = s.chosor := rfl
@[simp] theorem State.setLink_out (n : Nat) (l : SpanLink) : (s.setLink n l).out = s.out := rfl
@[simp] theorem State.setLink_freeCount (n : Nat) (l : SpanLink) : (s.setLink n l).freeCount = s.freeCount := rfl
@[simp] theorem State.setLink_pending (n : Nat) (l : SpanLink) : (s.setLink n l).pending = s.pending := rfl
@[simp] theorem State.setLink_rd (n : Nat) (l : SpanLink) (reg : Reg) (copy : Nat) : (s.setLink n l).rd reg copy = s.rd reg copy := rfl

/-! ## setPlan -/

@[simp] theorem State.setPlan_regs (k : Nat) (p : Option Plan) : (s.setPlan k p).regs = s.regs := rfl
@[simp] theorem State.setPlan_cfg (k : Nat) (p : Option Plan) : (s.setPlan k p).cfg = s.cfg := rfl
@[simp] theorem State.setPlan_mem (k : Nat) (p : Option Plan) : (s.setPlan k p).mem = s.mem := rfl
@[simp] theorem State.setPlan_tly (k : Nat) (p : Option Plan) : (s.setPlan k p).tly = s.tly := rfl
@[simp] theorem State.setPlan_events (k : Nat) (p : Option Plan) : (s.setPlan k p).events = s.events := rfl
@[simp] theorem State.setPlan_rings (k : Nat) (p : Option Plan) : (s.setPlan k p).rings = s.rings := rfl
@[simp] theorem State.setPlan_vectors (k : Nat) (p : Option Plan) : (s.setPlan k p).vectors = s.vectors := rfl
@[simp] theorem State.setPlan_harts (k : Nat) (p : Option Plan) : (s.setPlan k p).harts = s.harts := rfl
@[simp] theorem State.setPlan_clu (k : Nat) (p : Option Plan) : (s.setPlan k p).clu = s.clu := rfl
@[simp] theorem State.setPlan_upd (k : Nat) (p : Option Plan) : (s.setPlan k p).upd = s.upd := rfl
@[simp] theorem State.setPlan_seq (k : Nat) (p : Option Plan) : (s.setPlan k p).seq = s.seq := rfl
@[simp] theorem State.setPlan_kv (k : Nat) (p : Option Plan) : (s.setPlan k p).kv = s.kv := rfl
@[simp] theorem State.setPlan_span (k : Nat) (p : Option Plan) : (s.setPlan k p).span = s.span := rfl
@[simp] theorem State.setPlan_flt (k : Nat) (p : Option Plan) : (s.setPlan k p).flt = s.flt := rfl
@[simp] theorem State.setPlan_health (k : Nat) (p : Option Plan) : (s.setPlan k p).health = s.health := rfl
@[simp] theorem State.setPlan_fh (k : Nat) (p : Option Plan) : (s.setPlan k p).fh = s.fh := rfl
@[simp] theorem State.setPlan_ctxRunning (k : Nat) (p : Option Plan) : (s.setPlan k p).ctxRunning = s.ctxRunning := rfl
@[simp] theorem State.setPlan_keelEvents (k : Nat) (p : Option Plan) : (s.setPlan k p).keelEvents = s.keelEvents := rfl
@[simp] theorem State.setPlan_meter (k : Nat) (p : Option Plan) : (s.setPlan k p).meter = s.meter := rfl
@[simp] theorem State.setPlan_cart (k : Nat) (p : Option Plan) : (s.setPlan k p).cart = s.cart := rfl
@[simp] theorem State.setPlan_sec (k : Nat) (p : Option Plan) : (s.setPlan k p).sec = s.sec := rfl
@[simp] theorem State.setPlan_pow (k : Nat) (p : Option Plan) : (s.setPlan k p).pow = s.pow := rfl
@[simp] theorem State.setPlan_chosor (k : Nat) (p : Option Plan) : (s.setPlan k p).chosor = s.chosor := rfl
@[simp] theorem State.setPlan_out (k : Nat) (p : Option Plan) : (s.setPlan k p).out = s.out := rfl
@[simp] theorem State.setPlan_freeCount (k : Nat) (p : Option Plan) : (s.setPlan k p).freeCount = s.freeCount := rfl
@[simp] theorem State.setPlan_pending (k : Nat) (p : Option Plan) : (s.setPlan k p).pending = s.pending := rfl
@[simp] theorem State.setPlan_rd (k : Nat) (p : Option Plan) (reg : Reg) (copy : Nat) : (s.setPlan k p).rd reg copy = s.rd reg copy := rfl

/-! ## setTallyVal -/

@[simp] theorem State.setTallyVal_regs (p v : Nat) : (s.setTallyVal p v).regs = s.regs := rfl
@[simp] theorem State.setTallyVal_cfg (p v : Nat) : (s.setTallyVal p v).cfg = s.cfg := rfl
@[simp] theorem State.setTallyVal_mem (p v : Nat) : (s.setTallyVal p v).mem = s.mem := rfl
@[simp] theorem State.setTallyVal_events (p v : Nat) : (s.setTallyVal p v).events = s.events := rfl
@[simp] theorem State.setTallyVal_rings (p v : Nat) : (s.setTallyVal p v).rings = s.rings := rfl
@[simp] theorem State.setTallyVal_vectors (p v : Nat) : (s.setTallyVal p v).vectors = s.vectors := rfl
@[simp] theorem State.setTallyVal_harts (p v : Nat) : (s.setTallyVal p v).harts = s.harts := rfl
@[simp] theorem State.setTallyVal_clu (p v : Nat) : (s.setTallyVal p v).clu = s.clu := rfl
@[simp] theorem State.setTallyVal_upd (p v : Nat) : (s.setTallyVal p v).upd = s.upd := rfl
@[simp] theorem State.setTallyVal_seq (p v : Nat) : (s.setTallyVal p v).seq = s.seq := rfl
@[simp] theorem State.setTallyVal_kv (p v : Nat) : (s.setTallyVal p v).kv = s.kv := rfl
@[simp] theorem State.setTallyVal_weave (p v : Nat) : (s.setTallyVal p v).weave = s.weave := rfl
@[simp] theorem State.setTallyVal_span (p v : Nat) : (s.setTallyVal p v).span = s.span := rfl
@[simp] theorem State.setTallyVal_flt (p v : Nat) : (s.setTallyVal p v).flt = s.flt := rfl
@[simp] theorem State.setTallyVal_health (p v : Nat) : (s.setTallyVal p v).health = s.health := rfl
@[simp] theorem State.setTallyVal_fh (p v : Nat) : (s.setTallyVal p v).fh = s.fh := rfl
@[simp] theorem State.setTallyVal_ctxRunning (p v : Nat) : (s.setTallyVal p v).ctxRunning = s.ctxRunning := rfl
@[simp] theorem State.setTallyVal_keelEvents (p v : Nat) : (s.setTallyVal p v).keelEvents = s.keelEvents := rfl
@[simp] theorem State.setTallyVal_meter (p v : Nat) : (s.setTallyVal p v).meter = s.meter := rfl
@[simp] theorem State.setTallyVal_cart (p v : Nat) : (s.setTallyVal p v).cart = s.cart := rfl
@[simp] theorem State.setTallyVal_sec (p v : Nat) : (s.setTallyVal p v).sec = s.sec := rfl
@[simp] theorem State.setTallyVal_pow (p v : Nat) : (s.setTallyVal p v).pow = s.pow := rfl
@[simp] theorem State.setTallyVal_chosor (p v : Nat) : (s.setTallyVal p v).chosor = s.chosor := rfl
@[simp] theorem State.setTallyVal_out (p v : Nat) : (s.setTallyVal p v).out = s.out := rfl
@[simp] theorem State.setTallyVal_freeCount (p v : Nat) : (s.setTallyVal p v).freeCount = s.freeCount := rfl
@[simp] theorem State.setTallyVal_pending (p v : Nat) : (s.setTallyVal p v).pending = s.pending := rfl
@[simp] theorem State.setTallyVal_rd (p v : Nat) (reg : Reg) (copy : Nat) : (s.setTallyVal p v).rd reg copy = s.rd reg copy := rfl

/-! ## setTallyQueue -/

@[simp] theorem State.setTallyQueue_regs (p : Nat) (q : List Waiter) : (s.setTallyQueue p q).regs = s.regs := rfl
@[simp] theorem State.setTallyQueue_cfg (p : Nat) (q : List Waiter) : (s.setTallyQueue p q).cfg = s.cfg := rfl
@[simp] theorem State.setTallyQueue_mem (p : Nat) (q : List Waiter) : (s.setTallyQueue p q).mem = s.mem := rfl
@[simp] theorem State.setTallyQueue_events (p : Nat) (q : List Waiter) : (s.setTallyQueue p q).events = s.events := rfl
@[simp] theorem State.setTallyQueue_rings (p : Nat) (q : List Waiter) : (s.setTallyQueue p q).rings = s.rings := rfl
@[simp] theorem State.setTallyQueue_vectors (p : Nat) (q : List Waiter) : (s.setTallyQueue p q).vectors = s.vectors := rfl
@[simp] theorem State.setTallyQueue_harts (p : Nat) (q : List Waiter) : (s.setTallyQueue p q).harts = s.harts := rfl
@[simp] theorem State.setTallyQueue_clu (p : Nat) (q : List Waiter) : (s.setTallyQueue p q).clu = s.clu := rfl
@[simp] theorem State.setTallyQueue_upd (p : Nat) (q : List Waiter) : (s.setTallyQueue p q).upd = s.upd := rfl
@[simp] theorem State.setTallyQueue_seq (p : Nat) (q : List Waiter) : (s.setTallyQueue p q).seq = s.seq := rfl
@[simp] theorem State.setTallyQueue_kv (p : Nat) (q : List Waiter) : (s.setTallyQueue p q).kv = s.kv := rfl
@[simp] theorem State.setTallyQueue_weave (p : Nat) (q : List Waiter) : (s.setTallyQueue p q).weave = s.weave := rfl
@[simp] theorem State.setTallyQueue_span (p : Nat) (q : List Waiter) : (s.setTallyQueue p q).span = s.span := rfl
@[simp] theorem State.setTallyQueue_flt (p : Nat) (q : List Waiter) : (s.setTallyQueue p q).flt = s.flt := rfl
@[simp] theorem State.setTallyQueue_health (p : Nat) (q : List Waiter) : (s.setTallyQueue p q).health = s.health := rfl
@[simp] theorem State.setTallyQueue_fh (p : Nat) (q : List Waiter) : (s.setTallyQueue p q).fh = s.fh := rfl
@[simp] theorem State.setTallyQueue_ctxRunning (p : Nat) (q : List Waiter) : (s.setTallyQueue p q).ctxRunning = s.ctxRunning := rfl
@[simp] theorem State.setTallyQueue_keelEvents (p : Nat) (q : List Waiter) : (s.setTallyQueue p q).keelEvents = s.keelEvents := rfl
@[simp] theorem State.setTallyQueue_meter (p : Nat) (q : List Waiter) : (s.setTallyQueue p q).meter = s.meter := rfl
@[simp] theorem State.setTallyQueue_cart (p : Nat) (q : List Waiter) : (s.setTallyQueue p q).cart = s.cart := rfl
@[simp] theorem State.setTallyQueue_sec (p : Nat) (q : List Waiter) : (s.setTallyQueue p q).sec = s.sec := rfl
@[simp] theorem State.setTallyQueue_pow (p : Nat) (q : List Waiter) : (s.setTallyQueue p q).pow = s.pow := rfl
@[simp] theorem State.setTallyQueue_chosor (p : Nat) (q : List Waiter) : (s.setTallyQueue p q).chosor = s.chosor := rfl
@[simp] theorem State.setTallyQueue_out (p : Nat) (q : List Waiter) : (s.setTallyQueue p q).out = s.out := rfl
@[simp] theorem State.setTallyQueue_freeCount (p : Nat) (q : List Waiter) : (s.setTallyQueue p q).freeCount = s.freeCount := rfl
@[simp] theorem State.setTallyQueue_pending (p : Nat) (q : List Waiter) : (s.setTallyQueue p q).pending = s.pending := rfl
@[simp] theorem State.setTallyQueue_rd (p : Nat) (q : List Waiter) (reg : Reg) (copy : Nat) : (s.setTallyQueue p q).rd reg copy = s.rd reg copy := rfl

/-! ## takeWait -/

@[simp] theorem State.takeWait_regs (a : Agent) : (s.takeWait a).regs = s.regs := rfl
@[simp] theorem State.takeWait_cfg (a : Agent) : (s.takeWait a).cfg = s.cfg := rfl
@[simp] theorem State.takeWait_mem (a : Agent) : (s.takeWait a).mem = s.mem := rfl
@[simp] theorem State.takeWait_events (a : Agent) : (s.takeWait a).events = s.events := rfl
@[simp] theorem State.takeWait_rings (a : Agent) : (s.takeWait a).rings = s.rings := rfl
@[simp] theorem State.takeWait_vectors (a : Agent) : (s.takeWait a).vectors = s.vectors := rfl
@[simp] theorem State.takeWait_harts (a : Agent) : (s.takeWait a).harts = s.harts := rfl
@[simp] theorem State.takeWait_clu (a : Agent) : (s.takeWait a).clu = s.clu := rfl
@[simp] theorem State.takeWait_upd (a : Agent) : (s.takeWait a).upd = s.upd := rfl
@[simp] theorem State.takeWait_seq (a : Agent) : (s.takeWait a).seq = s.seq := rfl
@[simp] theorem State.takeWait_kv (a : Agent) : (s.takeWait a).kv = s.kv := rfl
@[simp] theorem State.takeWait_weave (a : Agent) : (s.takeWait a).weave = s.weave := rfl
@[simp] theorem State.takeWait_span (a : Agent) : (s.takeWait a).span = s.span := rfl
@[simp] theorem State.takeWait_flt (a : Agent) : (s.takeWait a).flt = s.flt := rfl
@[simp] theorem State.takeWait_health (a : Agent) : (s.takeWait a).health = s.health := rfl
@[simp] theorem State.takeWait_fh (a : Agent) : (s.takeWait a).fh = s.fh := rfl
@[simp] theorem State.takeWait_ctxRunning (a : Agent) : (s.takeWait a).ctxRunning = s.ctxRunning := rfl
@[simp] theorem State.takeWait_keelEvents (a : Agent) : (s.takeWait a).keelEvents = s.keelEvents := rfl
@[simp] theorem State.takeWait_meter (a : Agent) : (s.takeWait a).meter = s.meter := rfl
@[simp] theorem State.takeWait_cart (a : Agent) : (s.takeWait a).cart = s.cart := rfl
@[simp] theorem State.takeWait_sec (a : Agent) : (s.takeWait a).sec = s.sec := rfl
@[simp] theorem State.takeWait_pow (a : Agent) : (s.takeWait a).pow = s.pow := rfl
@[simp] theorem State.takeWait_chosor (a : Agent) : (s.takeWait a).chosor = s.chosor := rfl
@[simp] theorem State.takeWait_out (a : Agent) : (s.takeWait a).out = s.out := rfl
@[simp] theorem State.takeWait_freeCount (a : Agent) : (s.takeWait a).freeCount = s.freeCount := rfl
@[simp] theorem State.takeWait_pending (a : Agent) : (s.takeWait a).pending = s.pending := rfl
@[simp] theorem State.takeWait_rd (a : Agent) (reg : Reg) (copy : Nat) : (s.takeWait a).rd reg copy = s.rd reg copy := rfl

/-! ## withdrawWait -/

@[simp] theorem State.withdrawWait_regs (a : Agent) : (s.withdrawWait a).regs = s.regs := rfl
@[simp] theorem State.withdrawWait_cfg (a : Agent) : (s.withdrawWait a).cfg = s.cfg := rfl
@[simp] theorem State.withdrawWait_mem (a : Agent) : (s.withdrawWait a).mem = s.mem := rfl
@[simp] theorem State.withdrawWait_events (a : Agent) : (s.withdrawWait a).events = s.events := rfl
@[simp] theorem State.withdrawWait_rings (a : Agent) : (s.withdrawWait a).rings = s.rings := rfl
@[simp] theorem State.withdrawWait_vectors (a : Agent) : (s.withdrawWait a).vectors = s.vectors := rfl
@[simp] theorem State.withdrawWait_harts (a : Agent) : (s.withdrawWait a).harts = s.harts := rfl
@[simp] theorem State.withdrawWait_clu (a : Agent) : (s.withdrawWait a).clu = s.clu := rfl
@[simp] theorem State.withdrawWait_upd (a : Agent) : (s.withdrawWait a).upd = s.upd := rfl
@[simp] theorem State.withdrawWait_seq (a : Agent) : (s.withdrawWait a).seq = s.seq := rfl
@[simp] theorem State.withdrawWait_kv (a : Agent) : (s.withdrawWait a).kv = s.kv := rfl
@[simp] theorem State.withdrawWait_weave (a : Agent) : (s.withdrawWait a).weave = s.weave := rfl
@[simp] theorem State.withdrawWait_span (a : Agent) : (s.withdrawWait a).span = s.span := rfl
@[simp] theorem State.withdrawWait_flt (a : Agent) : (s.withdrawWait a).flt = s.flt := rfl
@[simp] theorem State.withdrawWait_health (a : Agent) : (s.withdrawWait a).health = s.health := rfl
@[simp] theorem State.withdrawWait_fh (a : Agent) : (s.withdrawWait a).fh = s.fh := rfl
@[simp] theorem State.withdrawWait_ctxRunning (a : Agent) : (s.withdrawWait a).ctxRunning = s.ctxRunning := rfl
@[simp] theorem State.withdrawWait_keelEvents (a : Agent) : (s.withdrawWait a).keelEvents = s.keelEvents := rfl
@[simp] theorem State.withdrawWait_meter (a : Agent) : (s.withdrawWait a).meter = s.meter := rfl
@[simp] theorem State.withdrawWait_cart (a : Agent) : (s.withdrawWait a).cart = s.cart := rfl
@[simp] theorem State.withdrawWait_sec (a : Agent) : (s.withdrawWait a).sec = s.sec := rfl
@[simp] theorem State.withdrawWait_pow (a : Agent) : (s.withdrawWait a).pow = s.pow := rfl
@[simp] theorem State.withdrawWait_chosor (a : Agent) : (s.withdrawWait a).chosor = s.chosor := rfl
@[simp] theorem State.withdrawWait_out (a : Agent) : (s.withdrawWait a).out = s.out := rfl
@[simp] theorem State.withdrawWait_freeCount (a : Agent) : (s.withdrawWait a).freeCount = s.freeCount := rfl
@[simp] theorem State.withdrawWait_pending (a : Agent) : (s.withdrawWait a).pending = s.pending := rfl
@[simp] theorem State.withdrawWait_rd (a : Agent) (reg : Reg) (copy : Nat) : (s.withdrawWait a).rd reg copy = s.rd reg copy := rfl

/-! ## setPort -/

@[simp] theorem State.setPort_regs (p : Nat) (x : TetherPort) : (s.setPort p x).regs = s.regs := rfl
@[simp] theorem State.setPort_cfg (p : Nat) (x : TetherPort) : (s.setPort p x).cfg = s.cfg := rfl
@[simp] theorem State.setPort_mem (p : Nat) (x : TetherPort) : (s.setPort p x).mem = s.mem := rfl
@[simp] theorem State.setPort_tly (p : Nat) (x : TetherPort) : (s.setPort p x).tly = s.tly := rfl
@[simp] theorem State.setPort_events (p : Nat) (x : TetherPort) : (s.setPort p x).events = s.events := rfl
@[simp] theorem State.setPort_rings (p : Nat) (x : TetherPort) : (s.setPort p x).rings = s.rings := rfl
@[simp] theorem State.setPort_vectors (p : Nat) (x : TetherPort) : (s.setPort p x).vectors = s.vectors := rfl
@[simp] theorem State.setPort_harts (p : Nat) (x : TetherPort) : (s.setPort p x).harts = s.harts := rfl
@[simp] theorem State.setPort_clu (p : Nat) (x : TetherPort) : (s.setPort p x).clu = s.clu := rfl
@[simp] theorem State.setPort_upd (p : Nat) (x : TetherPort) : (s.setPort p x).upd = s.upd := rfl
@[simp] theorem State.setPort_seq (p : Nat) (x : TetherPort) : (s.setPort p x).seq = s.seq := rfl
@[simp] theorem State.setPort_kv (p : Nat) (x : TetherPort) : (s.setPort p x).kv = s.kv := rfl
@[simp] theorem State.setPort_weave (p : Nat) (x : TetherPort) : (s.setPort p x).weave = s.weave := rfl
@[simp] theorem State.setPort_span (p : Nat) (x : TetherPort) : (s.setPort p x).span = s.span := rfl
@[simp] theorem State.setPort_flt (p : Nat) (x : TetherPort) : (s.setPort p x).flt = s.flt := rfl
@[simp] theorem State.setPort_health (p : Nat) (x : TetherPort) : (s.setPort p x).health = s.health := rfl
@[simp] theorem State.setPort_fh (p : Nat) (x : TetherPort) : (s.setPort p x).fh = s.fh := rfl
@[simp] theorem State.setPort_ctxRunning (p : Nat) (x : TetherPort) : (s.setPort p x).ctxRunning = s.ctxRunning := rfl
@[simp] theorem State.setPort_keelEvents (p : Nat) (x : TetherPort) : (s.setPort p x).keelEvents = s.keelEvents := rfl
@[simp] theorem State.setPort_meter (p : Nat) (x : TetherPort) : (s.setPort p x).meter = s.meter := rfl
@[simp] theorem State.setPort_cart (p : Nat) (x : TetherPort) : (s.setPort p x).cart = s.cart := rfl
@[simp] theorem State.setPort_pow (p : Nat) (x : TetherPort) : (s.setPort p x).pow = s.pow := rfl
@[simp] theorem State.setPort_chosor (p : Nat) (x : TetherPort) : (s.setPort p x).chosor = s.chosor := rfl
@[simp] theorem State.setPort_out (p : Nat) (x : TetherPort) : (s.setPort p x).out = s.out := rfl
@[simp] theorem State.setPort_freeCount (p : Nat) (x : TetherPort) : (s.setPort p x).freeCount = s.freeCount := rfl
@[simp] theorem State.setPort_pending (p : Nat) (x : TetherPort) : (s.setPort p x).pending = s.pending := rfl
@[simp] theorem State.setPort_rd (p : Nat) (x : TetherPort) (reg : Reg) (copy : Nat) : (s.setPort p x).rd reg copy = s.rd reg copy := rfl

/-! ## setSess -/

@[simp] theorem State.setSess_regs (n : Nat) (x : Session) : (s.setSess n x).regs = s.regs := rfl
@[simp] theorem State.setSess_cfg (n : Nat) (x : Session) : (s.setSess n x).cfg = s.cfg := rfl
@[simp] theorem State.setSess_mem (n : Nat) (x : Session) : (s.setSess n x).mem = s.mem := rfl
@[simp] theorem State.setSess_tly (n : Nat) (x : Session) : (s.setSess n x).tly = s.tly := rfl
@[simp] theorem State.setSess_events (n : Nat) (x : Session) : (s.setSess n x).events = s.events := rfl
@[simp] theorem State.setSess_rings (n : Nat) (x : Session) : (s.setSess n x).rings = s.rings := rfl
@[simp] theorem State.setSess_vectors (n : Nat) (x : Session) : (s.setSess n x).vectors = s.vectors := rfl
@[simp] theorem State.setSess_harts (n : Nat) (x : Session) : (s.setSess n x).harts = s.harts := rfl
@[simp] theorem State.setSess_clu (n : Nat) (x : Session) : (s.setSess n x).clu = s.clu := rfl
@[simp] theorem State.setSess_upd (n : Nat) (x : Session) : (s.setSess n x).upd = s.upd := rfl
@[simp] theorem State.setSess_seq (n : Nat) (x : Session) : (s.setSess n x).seq = s.seq := rfl
@[simp] theorem State.setSess_kv (n : Nat) (x : Session) : (s.setSess n x).kv = s.kv := rfl
@[simp] theorem State.setSess_weave (n : Nat) (x : Session) : (s.setSess n x).weave = s.weave := rfl
@[simp] theorem State.setSess_span (n : Nat) (x : Session) : (s.setSess n x).span = s.span := rfl
@[simp] theorem State.setSess_flt (n : Nat) (x : Session) : (s.setSess n x).flt = s.flt := rfl
@[simp] theorem State.setSess_health (n : Nat) (x : Session) : (s.setSess n x).health = s.health := rfl
@[simp] theorem State.setSess_fh (n : Nat) (x : Session) : (s.setSess n x).fh = s.fh := rfl
@[simp] theorem State.setSess_ctxRunning (n : Nat) (x : Session) : (s.setSess n x).ctxRunning = s.ctxRunning := rfl
@[simp] theorem State.setSess_keelEvents (n : Nat) (x : Session) : (s.setSess n x).keelEvents = s.keelEvents := rfl
@[simp] theorem State.setSess_meter (n : Nat) (x : Session) : (s.setSess n x).meter = s.meter := rfl
@[simp] theorem State.setSess_cart (n : Nat) (x : Session) : (s.setSess n x).cart = s.cart := rfl
@[simp] theorem State.setSess_pow (n : Nat) (x : Session) : (s.setSess n x).pow = s.pow := rfl
@[simp] theorem State.setSess_chosor (n : Nat) (x : Session) : (s.setSess n x).chosor = s.chosor := rfl
@[simp] theorem State.setSess_out (n : Nat) (x : Session) : (s.setSess n x).out = s.out := rfl
@[simp] theorem State.setSess_freeCount (n : Nat) (x : Session) : (s.setSess n x).freeCount = s.freeCount := rfl
@[simp] theorem State.setSess_pending (n : Nat) (x : Session) : (s.setSess n x).pending = s.pending := rfl
@[simp] theorem State.setSess_rd (n : Nat) (x : Session) (reg : Reg) (copy : Nat) : (s.setSess n x).rd reg copy = s.rd reg copy := rfl

/-! ## drawnMany -/

@[simp] theorem State.drawnMany_regs (n : Nat) : (s.drawnMany n).regs = s.regs := rfl
@[simp] theorem State.drawnMany_cfg (n : Nat) : (s.drawnMany n).cfg = s.cfg := rfl
@[simp] theorem State.drawnMany_mem (n : Nat) : (s.drawnMany n).mem = s.mem := rfl
@[simp] theorem State.drawnMany_tly (n : Nat) : (s.drawnMany n).tly = s.tly := rfl
@[simp] theorem State.drawnMany_events (n : Nat) : (s.drawnMany n).events = s.events := rfl
@[simp] theorem State.drawnMany_rings (n : Nat) : (s.drawnMany n).rings = s.rings := rfl
@[simp] theorem State.drawnMany_vectors (n : Nat) : (s.drawnMany n).vectors = s.vectors := rfl
@[simp] theorem State.drawnMany_harts (n : Nat) : (s.drawnMany n).harts = s.harts := rfl
@[simp] theorem State.drawnMany_clu (n : Nat) : (s.drawnMany n).clu = s.clu := rfl
@[simp] theorem State.drawnMany_upd (n : Nat) : (s.drawnMany n).upd = s.upd := rfl
@[simp] theorem State.drawnMany_seq (n : Nat) : (s.drawnMany n).seq = s.seq := rfl
@[simp] theorem State.drawnMany_kv (n : Nat) : (s.drawnMany n).kv = s.kv := rfl
@[simp] theorem State.drawnMany_weave (n : Nat) : (s.drawnMany n).weave = s.weave := rfl
@[simp] theorem State.drawnMany_span (n : Nat) : (s.drawnMany n).span = s.span := rfl
@[simp] theorem State.drawnMany_flt (n : Nat) : (s.drawnMany n).flt = s.flt := rfl
@[simp] theorem State.drawnMany_health (n : Nat) : (s.drawnMany n).health = s.health := rfl
@[simp] theorem State.drawnMany_fh (n : Nat) : (s.drawnMany n).fh = s.fh := rfl
@[simp] theorem State.drawnMany_ctxRunning (n : Nat) : (s.drawnMany n).ctxRunning = s.ctxRunning := rfl
@[simp] theorem State.drawnMany_keelEvents (n : Nat) : (s.drawnMany n).keelEvents = s.keelEvents := rfl
@[simp] theorem State.drawnMany_meter (n : Nat) : (s.drawnMany n).meter = s.meter := rfl
@[simp] theorem State.drawnMany_cart (n : Nat) : (s.drawnMany n).cart = s.cart := rfl
@[simp] theorem State.drawnMany_sec (n : Nat) : (s.drawnMany n).sec = s.sec := rfl
@[simp] theorem State.drawnMany_pow (n : Nat) : (s.drawnMany n).pow = s.pow := rfl
@[simp] theorem State.drawnMany_chosor (n : Nat) : (s.drawnMany n).chosor = s.chosor := rfl
@[simp] theorem State.drawnMany_out (n : Nat) : (s.drawnMany n).out = s.out := rfl
@[simp] theorem State.drawnMany_pending (n : Nat) : (s.drawnMany n).pending = s.pending := rfl
@[simp] theorem State.drawnMany_rd (n : Nat) (reg : Reg) (copy : Nat) : (s.drawnMany n).rd reg copy = s.rd reg copy := rfl

/-! ## setChain -/

@[simp] theorem State.setChain_regs (c : Chain) : (s.setChain c).regs = s.regs := rfl
@[simp] theorem State.setChain_cfg (c : Chain) : (s.setChain c).cfg = s.cfg := rfl
@[simp] theorem State.setChain_mem (c : Chain) : (s.setChain c).mem = s.mem := rfl
@[simp] theorem State.setChain_tly (c : Chain) : (s.setChain c).tly = s.tly := rfl
@[simp] theorem State.setChain_events (c : Chain) : (s.setChain c).events = s.events := rfl
@[simp] theorem State.setChain_rings (c : Chain) : (s.setChain c).rings = s.rings := rfl
@[simp] theorem State.setChain_vectors (c : Chain) : (s.setChain c).vectors = s.vectors := rfl
@[simp] theorem State.setChain_harts (c : Chain) : (s.setChain c).harts = s.harts := rfl
@[simp] theorem State.setChain_clu (c : Chain) : (s.setChain c).clu = s.clu := rfl
@[simp] theorem State.setChain_seq (c : Chain) : (s.setChain c).seq = s.seq := rfl
@[simp] theorem State.setChain_kv (c : Chain) : (s.setChain c).kv = s.kv := rfl
@[simp] theorem State.setChain_weave (c : Chain) : (s.setChain c).weave = s.weave := rfl
@[simp] theorem State.setChain_span (c : Chain) : (s.setChain c).span = s.span := rfl
@[simp] theorem State.setChain_flt (c : Chain) : (s.setChain c).flt = s.flt := rfl
@[simp] theorem State.setChain_health (c : Chain) : (s.setChain c).health = s.health := rfl
@[simp] theorem State.setChain_fh (c : Chain) : (s.setChain c).fh = s.fh := rfl
@[simp] theorem State.setChain_ctxRunning (c : Chain) : (s.setChain c).ctxRunning = s.ctxRunning := rfl
@[simp] theorem State.setChain_keelEvents (c : Chain) : (s.setChain c).keelEvents = s.keelEvents := rfl
@[simp] theorem State.setChain_meter (c : Chain) : (s.setChain c).meter = s.meter := rfl
@[simp] theorem State.setChain_cart (c : Chain) : (s.setChain c).cart = s.cart := rfl
@[simp] theorem State.setChain_sec (c : Chain) : (s.setChain c).sec = s.sec := rfl
@[simp] theorem State.setChain_pow (c : Chain) : (s.setChain c).pow = s.pow := rfl
@[simp] theorem State.setChain_chosor (c : Chain) : (s.setChain c).chosor = s.chosor := rfl
@[simp] theorem State.setChain_out (c : Chain) : (s.setChain c).out = s.out := rfl
@[simp] theorem State.setChain_freeCount (c : Chain) : (s.setChain c).freeCount = s.freeCount := rfl
@[simp] theorem State.setChain_pending (c : Chain) : (s.setChain c).pending = s.pending := rfl
@[simp] theorem State.setChain_rd (c : Chain) (reg : Reg) (copy : Nat) : (s.setChain c).rd reg copy = s.rd reg copy := rfl

/-! ## dropChain -/

@[simp] theorem State.dropChain_regs (id : Nat) : (s.dropChain id).regs = s.regs := rfl
@[simp] theorem State.dropChain_cfg (id : Nat) : (s.dropChain id).cfg = s.cfg := rfl
@[simp] theorem State.dropChain_mem (id : Nat) : (s.dropChain id).mem = s.mem := rfl
@[simp] theorem State.dropChain_tly (id : Nat) : (s.dropChain id).tly = s.tly := rfl
@[simp] theorem State.dropChain_events (id : Nat) : (s.dropChain id).events = s.events := rfl
@[simp] theorem State.dropChain_rings (id : Nat) : (s.dropChain id).rings = s.rings := rfl
@[simp] theorem State.dropChain_vectors (id : Nat) : (s.dropChain id).vectors = s.vectors := rfl
@[simp] theorem State.dropChain_harts (id : Nat) : (s.dropChain id).harts = s.harts := rfl
@[simp] theorem State.dropChain_clu (id : Nat) : (s.dropChain id).clu = s.clu := rfl
@[simp] theorem State.dropChain_seq (id : Nat) : (s.dropChain id).seq = s.seq := rfl
@[simp] theorem State.dropChain_kv (id : Nat) : (s.dropChain id).kv = s.kv := rfl
@[simp] theorem State.dropChain_weave (id : Nat) : (s.dropChain id).weave = s.weave := rfl
@[simp] theorem State.dropChain_span (id : Nat) : (s.dropChain id).span = s.span := rfl
@[simp] theorem State.dropChain_flt (id : Nat) : (s.dropChain id).flt = s.flt := rfl
@[simp] theorem State.dropChain_health (id : Nat) : (s.dropChain id).health = s.health := rfl
@[simp] theorem State.dropChain_fh (id : Nat) : (s.dropChain id).fh = s.fh := rfl
@[simp] theorem State.dropChain_ctxRunning (id : Nat) : (s.dropChain id).ctxRunning = s.ctxRunning := rfl
@[simp] theorem State.dropChain_keelEvents (id : Nat) : (s.dropChain id).keelEvents = s.keelEvents := rfl
@[simp] theorem State.dropChain_meter (id : Nat) : (s.dropChain id).meter = s.meter := rfl
@[simp] theorem State.dropChain_cart (id : Nat) : (s.dropChain id).cart = s.cart := rfl
@[simp] theorem State.dropChain_sec (id : Nat) : (s.dropChain id).sec = s.sec := rfl
@[simp] theorem State.dropChain_pow (id : Nat) : (s.dropChain id).pow = s.pow := rfl
@[simp] theorem State.dropChain_chosor (id : Nat) : (s.dropChain id).chosor = s.chosor := rfl
@[simp] theorem State.dropChain_out (id : Nat) : (s.dropChain id).out = s.out := rfl
@[simp] theorem State.dropChain_freeCount (id : Nat) : (s.dropChain id).freeCount = s.freeCount := rfl
@[simp] theorem State.dropChain_pending (id : Nat) : (s.dropChain id).pending = s.pending := rfl
@[simp] theorem State.dropChain_rd (id : Nat) (reg : Reg) (copy : Nat) : (s.dropChain id).rd reg copy = s.rd reg copy := rfl

/-! ## addFresh -/

@[simp] theorem State.addFresh_regs (far : Bool) (u : Nat) : (s.addFresh far u).regs = s.regs := rfl
@[simp] theorem State.addFresh_cfg (far : Bool) (u : Nat) : (s.addFresh far u).cfg = s.cfg := rfl
@[simp] theorem State.addFresh_tly (far : Bool) (u : Nat) : (s.addFresh far u).tly = s.tly := rfl
@[simp] theorem State.addFresh_events (far : Bool) (u : Nat) : (s.addFresh far u).events = s.events := rfl
@[simp] theorem State.addFresh_rings (far : Bool) (u : Nat) : (s.addFresh far u).rings = s.rings := rfl
@[simp] theorem State.addFresh_vectors (far : Bool) (u : Nat) : (s.addFresh far u).vectors = s.vectors := rfl
@[simp] theorem State.addFresh_harts (far : Bool) (u : Nat) : (s.addFresh far u).harts = s.harts := rfl
@[simp] theorem State.addFresh_clu (far : Bool) (u : Nat) : (s.addFresh far u).clu = s.clu := rfl
@[simp] theorem State.addFresh_upd (far : Bool) (u : Nat) : (s.addFresh far u).upd = s.upd := rfl
@[simp] theorem State.addFresh_seq (far : Bool) (u : Nat) : (s.addFresh far u).seq = s.seq := rfl
@[simp] theorem State.addFresh_kv (far : Bool) (u : Nat) : (s.addFresh far u).kv = s.kv := rfl
@[simp] theorem State.addFresh_weave (far : Bool) (u : Nat) : (s.addFresh far u).weave = s.weave := rfl
@[simp] theorem State.addFresh_span (far : Bool) (u : Nat) : (s.addFresh far u).span = s.span := rfl
@[simp] theorem State.addFresh_flt (far : Bool) (u : Nat) : (s.addFresh far u).flt = s.flt := rfl
@[simp] theorem State.addFresh_health (far : Bool) (u : Nat) : (s.addFresh far u).health = s.health := rfl
@[simp] theorem State.addFresh_fh (far : Bool) (u : Nat) : (s.addFresh far u).fh = s.fh := rfl
@[simp] theorem State.addFresh_ctxRunning (far : Bool) (u : Nat) : (s.addFresh far u).ctxRunning = s.ctxRunning := rfl
@[simp] theorem State.addFresh_keelEvents (far : Bool) (u : Nat) : (s.addFresh far u).keelEvents = s.keelEvents := rfl
@[simp] theorem State.addFresh_meter (far : Bool) (u : Nat) : (s.addFresh far u).meter = s.meter := rfl
@[simp] theorem State.addFresh_cart (far : Bool) (u : Nat) : (s.addFresh far u).cart = s.cart := rfl
@[simp] theorem State.addFresh_sec (far : Bool) (u : Nat) : (s.addFresh far u).sec = s.sec := rfl
@[simp] theorem State.addFresh_pow (far : Bool) (u : Nat) : (s.addFresh far u).pow = s.pow := rfl
@[simp] theorem State.addFresh_chosor (far : Bool) (u : Nat) : (s.addFresh far u).chosor = s.chosor := rfl
@[simp] theorem State.addFresh_out (far : Bool) (u : Nat) : (s.addFresh far u).out = s.out := rfl
@[simp] theorem State.addFresh_freeCount (far : Bool) (u : Nat) : (s.addFresh far u).freeCount = s.freeCount := rfl
@[simp] theorem State.addFresh_pending (far : Bool) (u : Nat) : (s.addFresh far u).pending = s.pending := rfl
@[simp] theorem State.addFresh_rd (far : Bool) (u : Nat) (reg : Reg) (copy : Nat) : (s.addFresh far u).rd reg copy = s.rd reg copy := rfl

/-! ## setFound -/

@[simp] theorem State.setFound_regs (p : Nat) (b : Bool) : (s.setFound p b).regs = s.regs := rfl
@[simp] theorem State.setFound_cfg (p : Nat) (b : Bool) : (s.setFound p b).cfg = s.cfg := rfl
@[simp] theorem State.setFound_tly (p : Nat) (b : Bool) : (s.setFound p b).tly = s.tly := rfl
@[simp] theorem State.setFound_events (p : Nat) (b : Bool) : (s.setFound p b).events = s.events := rfl
@[simp] theorem State.setFound_rings (p : Nat) (b : Bool) : (s.setFound p b).rings = s.rings := rfl
@[simp] theorem State.setFound_vectors (p : Nat) (b : Bool) : (s.setFound p b).vectors = s.vectors := rfl
@[simp] theorem State.setFound_harts (p : Nat) (b : Bool) : (s.setFound p b).harts = s.harts := rfl
@[simp] theorem State.setFound_clu (p : Nat) (b : Bool) : (s.setFound p b).clu = s.clu := rfl
@[simp] theorem State.setFound_upd (p : Nat) (b : Bool) : (s.setFound p b).upd = s.upd := rfl
@[simp] theorem State.setFound_seq (p : Nat) (b : Bool) : (s.setFound p b).seq = s.seq := rfl
@[simp] theorem State.setFound_kv (p : Nat) (b : Bool) : (s.setFound p b).kv = s.kv := rfl
@[simp] theorem State.setFound_weave (p : Nat) (b : Bool) : (s.setFound p b).weave = s.weave := rfl
@[simp] theorem State.setFound_span (p : Nat) (b : Bool) : (s.setFound p b).span = s.span := rfl
@[simp] theorem State.setFound_flt (p : Nat) (b : Bool) : (s.setFound p b).flt = s.flt := rfl
@[simp] theorem State.setFound_health (p : Nat) (b : Bool) : (s.setFound p b).health = s.health := rfl
@[simp] theorem State.setFound_fh (p : Nat) (b : Bool) : (s.setFound p b).fh = s.fh := rfl
@[simp] theorem State.setFound_ctxRunning (p : Nat) (b : Bool) : (s.setFound p b).ctxRunning = s.ctxRunning := rfl
@[simp] theorem State.setFound_keelEvents (p : Nat) (b : Bool) : (s.setFound p b).keelEvents = s.keelEvents := rfl
@[simp] theorem State.setFound_meter (p : Nat) (b : Bool) : (s.setFound p b).meter = s.meter := rfl
@[simp] theorem State.setFound_cart (p : Nat) (b : Bool) : (s.setFound p b).cart = s.cart := rfl
@[simp] theorem State.setFound_sec (p : Nat) (b : Bool) : (s.setFound p b).sec = s.sec := rfl
@[simp] theorem State.setFound_pow (p : Nat) (b : Bool) : (s.setFound p b).pow = s.pow := rfl
@[simp] theorem State.setFound_chosor (p : Nat) (b : Bool) : (s.setFound p b).chosor = s.chosor := rfl
@[simp] theorem State.setFound_out (p : Nat) (b : Bool) : (s.setFound p b).out = s.out := rfl
@[simp] theorem State.setFound_freeCount (p : Nat) (b : Bool) : (s.setFound p b).freeCount = s.freeCount := rfl
@[simp] theorem State.setFound_pending (p : Nat) (b : Bool) : (s.setFound p b).pending = s.pending := rfl
@[simp] theorem State.setFound_rd (p : Nat) (b : Bool) (reg : Reg) (copy : Nat) : (s.setFound p b).rd reg copy = s.rd reg copy := rfl

/-! ## setCxlLost -/

@[simp] theorem State.setCxlLost_regs (p : Nat) (b : Bool) : (s.setCxlLost p b).regs = s.regs := rfl
@[simp] theorem State.setCxlLost_cfg (p : Nat) (b : Bool) : (s.setCxlLost p b).cfg = s.cfg := rfl
@[simp] theorem State.setCxlLost_tly (p : Nat) (b : Bool) : (s.setCxlLost p b).tly = s.tly := rfl
@[simp] theorem State.setCxlLost_events (p : Nat) (b : Bool) : (s.setCxlLost p b).events = s.events := rfl
@[simp] theorem State.setCxlLost_rings (p : Nat) (b : Bool) : (s.setCxlLost p b).rings = s.rings := rfl
@[simp] theorem State.setCxlLost_vectors (p : Nat) (b : Bool) : (s.setCxlLost p b).vectors = s.vectors := rfl
@[simp] theorem State.setCxlLost_harts (p : Nat) (b : Bool) : (s.setCxlLost p b).harts = s.harts := rfl
@[simp] theorem State.setCxlLost_clu (p : Nat) (b : Bool) : (s.setCxlLost p b).clu = s.clu := rfl
@[simp] theorem State.setCxlLost_upd (p : Nat) (b : Bool) : (s.setCxlLost p b).upd = s.upd := rfl
@[simp] theorem State.setCxlLost_seq (p : Nat) (b : Bool) : (s.setCxlLost p b).seq = s.seq := rfl
@[simp] theorem State.setCxlLost_kv (p : Nat) (b : Bool) : (s.setCxlLost p b).kv = s.kv := rfl
@[simp] theorem State.setCxlLost_weave (p : Nat) (b : Bool) : (s.setCxlLost p b).weave = s.weave := rfl
@[simp] theorem State.setCxlLost_span (p : Nat) (b : Bool) : (s.setCxlLost p b).span = s.span := rfl
@[simp] theorem State.setCxlLost_flt (p : Nat) (b : Bool) : (s.setCxlLost p b).flt = s.flt := rfl
@[simp] theorem State.setCxlLost_health (p : Nat) (b : Bool) : (s.setCxlLost p b).health = s.health := rfl
@[simp] theorem State.setCxlLost_fh (p : Nat) (b : Bool) : (s.setCxlLost p b).fh = s.fh := rfl
@[simp] theorem State.setCxlLost_ctxRunning (p : Nat) (b : Bool) : (s.setCxlLost p b).ctxRunning = s.ctxRunning := rfl
@[simp] theorem State.setCxlLost_keelEvents (p : Nat) (b : Bool) : (s.setCxlLost p b).keelEvents = s.keelEvents := rfl
@[simp] theorem State.setCxlLost_meter (p : Nat) (b : Bool) : (s.setCxlLost p b).meter = s.meter := rfl
@[simp] theorem State.setCxlLost_cart (p : Nat) (b : Bool) : (s.setCxlLost p b).cart = s.cart := rfl
@[simp] theorem State.setCxlLost_sec (p : Nat) (b : Bool) : (s.setCxlLost p b).sec = s.sec := rfl
@[simp] theorem State.setCxlLost_pow (p : Nat) (b : Bool) : (s.setCxlLost p b).pow = s.pow := rfl
@[simp] theorem State.setCxlLost_chosor (p : Nat) (b : Bool) : (s.setCxlLost p b).chosor = s.chosor := rfl
@[simp] theorem State.setCxlLost_out (p : Nat) (b : Bool) : (s.setCxlLost p b).out = s.out := rfl
@[simp] theorem State.setCxlLost_freeCount (p : Nat) (b : Bool) : (s.setCxlLost p b).freeCount = s.freeCount := rfl
@[simp] theorem State.setCxlLost_pending (p : Nat) (b : Bool) : (s.setCxlLost p b).pending = s.pending := rfl
@[simp] theorem State.setCxlLost_rd (p : Nat) (b : Bool) (reg : Reg) (copy : Nat) : (s.setCxlLost p b).rd reg copy = s.rd reg copy := rfl

/-! ## setMember -/

@[simp] theorem State.setMember_cfg (m : Nat) (x : Option Member) : (s.setMember m x).cfg = s.cfg := rfl
@[simp] theorem State.setMember_mem (m : Nat) (x : Option Member) : (s.setMember m x).mem = s.mem := rfl
@[simp] theorem State.setMember_tly (m : Nat) (x : Option Member) : (s.setMember m x).tly = s.tly := rfl
@[simp] theorem State.setMember_events (m : Nat) (x : Option Member) : (s.setMember m x).events = s.events := rfl
@[simp] theorem State.setMember_rings (m : Nat) (x : Option Member) : (s.setMember m x).rings = s.rings := rfl
@[simp] theorem State.setMember_vectors (m : Nat) (x : Option Member) : (s.setMember m x).vectors = s.vectors := rfl
@[simp] theorem State.setMember_harts (m : Nat) (x : Option Member) : (s.setMember m x).harts = s.harts := rfl
@[simp] theorem State.setMember_clu (m : Nat) (x : Option Member) : (s.setMember m x).clu = s.clu := rfl
@[simp] theorem State.setMember_upd (m : Nat) (x : Option Member) : (s.setMember m x).upd = s.upd := rfl
@[simp] theorem State.setMember_seq (m : Nat) (x : Option Member) : (s.setMember m x).seq = s.seq := rfl
@[simp] theorem State.setMember_kv (m : Nat) (x : Option Member) : (s.setMember m x).kv = s.kv := rfl
@[simp] theorem State.setMember_weave (m : Nat) (x : Option Member) : (s.setMember m x).weave = s.weave := rfl
@[simp] theorem State.setMember_span (m : Nat) (x : Option Member) : (s.setMember m x).span = s.span := rfl
@[simp] theorem State.setMember_health (m : Nat) (x : Option Member) : (s.setMember m x).health = s.health := rfl
@[simp] theorem State.setMember_fh (m : Nat) (x : Option Member) : (s.setMember m x).fh = s.fh := rfl
@[simp] theorem State.setMember_ctxRunning (m : Nat) (x : Option Member) : (s.setMember m x).ctxRunning = s.ctxRunning := rfl
@[simp] theorem State.setMember_keelEvents (m : Nat) (x : Option Member) : (s.setMember m x).keelEvents = s.keelEvents := rfl
@[simp] theorem State.setMember_meter (m : Nat) (x : Option Member) : (s.setMember m x).meter = s.meter := rfl
@[simp] theorem State.setMember_cart (m : Nat) (x : Option Member) : (s.setMember m x).cart = s.cart := rfl
@[simp] theorem State.setMember_sec (m : Nat) (x : Option Member) : (s.setMember m x).sec = s.sec := rfl
@[simp] theorem State.setMember_pow (m : Nat) (x : Option Member) : (s.setMember m x).pow = s.pow := rfl
@[simp] theorem State.setMember_chosor (m : Nat) (x : Option Member) : (s.setMember m x).chosor = s.chosor := rfl
@[simp] theorem State.setMember_out (m : Nat) (x : Option Member) : (s.setMember m x).out = s.out := rfl
@[simp] theorem State.setMember_freeCount (m : Nat) (x : Option Member) : (s.setMember m x).freeCount = s.freeCount := rfl
@[simp] theorem State.setMember_pending (m : Nat) (x : Option Member) : (s.setMember m x).pending = s.pending := rfl

/-! ## setDirty -/

@[simp] theorem State.setDirty_regs (slot : Nat) (m : Sparse Bool) : (s.setDirty slot m).regs = s.regs := by unfold State.setDirty; split <;> rfl
@[simp] theorem State.setDirty_cfg (slot : Nat) (m : Sparse Bool) : (s.setDirty slot m).cfg = s.cfg := by unfold State.setDirty; split <;> rfl
@[simp] theorem State.setDirty_tly (slot : Nat) (m : Sparse Bool) : (s.setDirty slot m).tly = s.tly := by unfold State.setDirty; split <;> rfl
@[simp] theorem State.setDirty_events (slot : Nat) (m : Sparse Bool) : (s.setDirty slot m).events = s.events := by unfold State.setDirty; split <;> rfl
@[simp] theorem State.setDirty_rings (slot : Nat) (m : Sparse Bool) : (s.setDirty slot m).rings = s.rings := by unfold State.setDirty; split <;> rfl
@[simp] theorem State.setDirty_vectors (slot : Nat) (m : Sparse Bool) : (s.setDirty slot m).vectors = s.vectors := by unfold State.setDirty; split <;> rfl
@[simp] theorem State.setDirty_harts (slot : Nat) (m : Sparse Bool) : (s.setDirty slot m).harts = s.harts := by unfold State.setDirty; split <;> rfl
@[simp] theorem State.setDirty_clu (slot : Nat) (m : Sparse Bool) : (s.setDirty slot m).clu = s.clu := by unfold State.setDirty; split <;> rfl
@[simp] theorem State.setDirty_upd (slot : Nat) (m : Sparse Bool) : (s.setDirty slot m).upd = s.upd := by unfold State.setDirty; split <;> rfl
@[simp] theorem State.setDirty_seq (slot : Nat) (m : Sparse Bool) : (s.setDirty slot m).seq = s.seq := by unfold State.setDirty; split <;> rfl
@[simp] theorem State.setDirty_kv (slot : Nat) (m : Sparse Bool) : (s.setDirty slot m).kv = s.kv := by unfold State.setDirty; split <;> rfl
@[simp] theorem State.setDirty_weave (slot : Nat) (m : Sparse Bool) : (s.setDirty slot m).weave = s.weave := by unfold State.setDirty; split <;> rfl
@[simp] theorem State.setDirty_span (slot : Nat) (m : Sparse Bool) : (s.setDirty slot m).span = s.span := by unfold State.setDirty; split <;> rfl
@[simp] theorem State.setDirty_flt (slot : Nat) (m : Sparse Bool) : (s.setDirty slot m).flt = s.flt := by unfold State.setDirty; split <;> rfl
@[simp] theorem State.setDirty_health (slot : Nat) (m : Sparse Bool) : (s.setDirty slot m).health = s.health := by unfold State.setDirty; split <;> rfl
@[simp] theorem State.setDirty_fh (slot : Nat) (m : Sparse Bool) : (s.setDirty slot m).fh = s.fh := by unfold State.setDirty; split <;> rfl
@[simp] theorem State.setDirty_ctxRunning (slot : Nat) (m : Sparse Bool) : (s.setDirty slot m).ctxRunning = s.ctxRunning := by unfold State.setDirty; split <;> rfl
@[simp] theorem State.setDirty_keelEvents (slot : Nat) (m : Sparse Bool) : (s.setDirty slot m).keelEvents = s.keelEvents := by unfold State.setDirty; split <;> rfl
@[simp] theorem State.setDirty_meter (slot : Nat) (m : Sparse Bool) : (s.setDirty slot m).meter = s.meter := by unfold State.setDirty; split <;> rfl
@[simp] theorem State.setDirty_cart (slot : Nat) (m : Sparse Bool) : (s.setDirty slot m).cart = s.cart := by unfold State.setDirty; split <;> rfl
@[simp] theorem State.setDirty_sec (slot : Nat) (m : Sparse Bool) : (s.setDirty slot m).sec = s.sec := by unfold State.setDirty; split <;> rfl
@[simp] theorem State.setDirty_pow (slot : Nat) (m : Sparse Bool) : (s.setDirty slot m).pow = s.pow := by unfold State.setDirty; split <;> rfl
@[simp] theorem State.setDirty_chosor (slot : Nat) (m : Sparse Bool) : (s.setDirty slot m).chosor = s.chosor := by unfold State.setDirty; split <;> rfl
@[simp] theorem State.setDirty_out (slot : Nat) (m : Sparse Bool) : (s.setDirty slot m).out = s.out := by unfold State.setDirty; split <;> rfl
@[simp] theorem State.setDirty_freeCount (slot : Nat) (m : Sparse Bool) : (s.setDirty slot m).freeCount = s.freeCount := by unfold State.setDirty; split <;> rfl
@[simp] theorem State.setDirty_pending (slot : Nat) (m : Sparse Bool) : (s.setDirty slot m).pending = s.pending := by unfold State.setDirty; split <;> rfl
@[simp] theorem State.setDirty_rd (slot : Nat) (m : Sparse Bool) (reg : Reg) (copy : Nat) : (s.setDirty slot m).rd reg copy = s.rd reg copy := by unfold State.setDirty; split <;> rfl

/-! ## chosorTaken -/

@[simp] theorem State.chosorTaken_regs (isl lanes n : Nat) : (s.chosorTaken isl lanes n).regs = s.regs := rfl
@[simp] theorem State.chosorTaken_cfg (isl lanes n : Nat) : (s.chosorTaken isl lanes n).cfg = s.cfg := rfl
@[simp] theorem State.chosorTaken_mem (isl lanes n : Nat) : (s.chosorTaken isl lanes n).mem = s.mem := rfl
@[simp] theorem State.chosorTaken_tly (isl lanes n : Nat) : (s.chosorTaken isl lanes n).tly = s.tly := rfl
@[simp] theorem State.chosorTaken_events (isl lanes n : Nat) : (s.chosorTaken isl lanes n).events = s.events := rfl
@[simp] theorem State.chosorTaken_rings (isl lanes n : Nat) : (s.chosorTaken isl lanes n).rings = s.rings := rfl
@[simp] theorem State.chosorTaken_vectors (isl lanes n : Nat) : (s.chosorTaken isl lanes n).vectors = s.vectors := rfl
@[simp] theorem State.chosorTaken_harts (isl lanes n : Nat) : (s.chosorTaken isl lanes n).harts = s.harts := rfl
@[simp] theorem State.chosorTaken_clu (isl lanes n : Nat) : (s.chosorTaken isl lanes n).clu = s.clu := rfl
@[simp] theorem State.chosorTaken_upd (isl lanes n : Nat) : (s.chosorTaken isl lanes n).upd = s.upd := rfl
@[simp] theorem State.chosorTaken_seq (isl lanes n : Nat) : (s.chosorTaken isl lanes n).seq = s.seq := rfl
@[simp] theorem State.chosorTaken_kv (isl lanes n : Nat) : (s.chosorTaken isl lanes n).kv = s.kv := rfl
@[simp] theorem State.chosorTaken_weave (isl lanes n : Nat) : (s.chosorTaken isl lanes n).weave = s.weave := rfl
@[simp] theorem State.chosorTaken_span (isl lanes n : Nat) : (s.chosorTaken isl lanes n).span = s.span := rfl
@[simp] theorem State.chosorTaken_flt (isl lanes n : Nat) : (s.chosorTaken isl lanes n).flt = s.flt := rfl
@[simp] theorem State.chosorTaken_health (isl lanes n : Nat) : (s.chosorTaken isl lanes n).health = s.health := rfl
@[simp] theorem State.chosorTaken_fh (isl lanes n : Nat) : (s.chosorTaken isl lanes n).fh = s.fh := rfl
@[simp] theorem State.chosorTaken_ctxRunning (isl lanes n : Nat) : (s.chosorTaken isl lanes n).ctxRunning = s.ctxRunning := rfl
@[simp] theorem State.chosorTaken_keelEvents (isl lanes n : Nat) : (s.chosorTaken isl lanes n).keelEvents = s.keelEvents := rfl
@[simp] theorem State.chosorTaken_meter (isl lanes n : Nat) : (s.chosorTaken isl lanes n).meter = s.meter := rfl
@[simp] theorem State.chosorTaken_cart (isl lanes n : Nat) : (s.chosorTaken isl lanes n).cart = s.cart := rfl
@[simp] theorem State.chosorTaken_sec (isl lanes n : Nat) : (s.chosorTaken isl lanes n).sec = s.sec := rfl
@[simp] theorem State.chosorTaken_pow (isl lanes n : Nat) : (s.chosorTaken isl lanes n).pow = s.pow := rfl
@[simp] theorem State.chosorTaken_out (isl lanes n : Nat) : (s.chosorTaken isl lanes n).out = s.out := rfl
@[simp] theorem State.chosorTaken_pending (isl lanes n : Nat) : (s.chosorTaken isl lanes n).pending = s.pending := rfl
@[simp] theorem State.chosorTaken_rd (isl lanes n : Nat) (reg : Reg) (copy : Nat) : (s.chosorTaken isl lanes n).rd reg copy = s.rd reg copy := rfl

/-! ## dark -/

@[simp] theorem State.dark_regs : (s.dark).regs = s.regs := rfl
@[simp] theorem State.dark_cfg : (s.dark).cfg = s.cfg := rfl
@[simp] theorem State.dark_mem : (s.dark).mem = s.mem := rfl
@[simp] theorem State.dark_tly : (s.dark).tly = s.tly := rfl
@[simp] theorem State.dark_events : (s.dark).events = s.events := rfl
@[simp] theorem State.dark_rings : (s.dark).rings = s.rings := rfl
@[simp] theorem State.dark_vectors : (s.dark).vectors = s.vectors := rfl
@[simp] theorem State.dark_harts : (s.dark).harts = s.harts := rfl
@[simp] theorem State.dark_clu : (s.dark).clu = s.clu := rfl
@[simp] theorem State.dark_upd : (s.dark).upd = s.upd := rfl
@[simp] theorem State.dark_seq : (s.dark).seq = s.seq := rfl
@[simp] theorem State.dark_kv : (s.dark).kv = s.kv := rfl
@[simp] theorem State.dark_weave : (s.dark).weave = s.weave := rfl
@[simp] theorem State.dark_span : (s.dark).span = s.span := rfl
@[simp] theorem State.dark_flt : (s.dark).flt = s.flt := rfl
@[simp] theorem State.dark_health : (s.dark).health = s.health := rfl
@[simp] theorem State.dark_fh : (s.dark).fh = s.fh := rfl
@[simp] theorem State.dark_ctxRunning : (s.dark).ctxRunning = s.ctxRunning := rfl
@[simp] theorem State.dark_keelEvents : (s.dark).keelEvents = s.keelEvents := rfl
@[simp] theorem State.dark_cart : (s.dark).cart = s.cart := rfl
@[simp] theorem State.dark_sec : (s.dark).sec = s.sec := rfl
@[simp] theorem State.dark_pow : (s.dark).pow = s.pow := rfl
@[simp] theorem State.dark_chosor : (s.dark).chosor = s.chosor := rfl
@[simp] theorem State.dark_out : (s.dark).out = s.out := rfl
@[simp] theorem State.dark_freeCount : (s.dark).freeCount = s.freeCount := rfl
@[simp] theorem State.dark_pending : (s.dark).pending = s.pending := rfl
@[simp] theorem State.dark_rd (reg : Reg) (copy : Nat) : (s.dark).rd reg copy = s.rd reg copy := rfl

/-! ## Register fields -/

/-- Two keys are the same when they name the same field and the same copy. -/
theorem Reg.key_eq_iff (r q : Reg) (i j : Nat) : r.key i = q.key j ↔ r.ctorIdx = q.ctorIdx ∧ i % 2 ^ 20 = j % 2 ^ 20 := by
  unfold Reg.key
  have := Nat.mod_lt i (show 0 < 2 ^ 20 by decide)
  have := Nat.mod_lt j (show 0 < 2 ^ 20 by decide)
  constructor
  · intro h; omega
  · rintro ⟨a, b⟩; rw [a, b]

/-- The field written reads as the value cut to its width. -/
@[simp] theorem State.rd_wr_same (r : Reg) (i v : Nat) : (s.wr r i v).rd r i = v % 2 ^ r.info.width := sget_sput_same _ _ _ _

/-- A write leaves every field of another key alone. -/
theorem State.rd_wr_ne {r q : Reg} {i j : Nat} (v : Nat) (h : q.key j ≠ r.key i) : (s.wr r i v).rd q j = s.rd q j := sget_sput_ne _ _ _ _ h

/-- A write leaves every copy of another field alone. -/
theorem State.rd_wr_reg {r q : Reg} (i j v : Nat) (h : q.ctorIdx ≠ r.ctorIdx) : (s.wr r i v).rd q j = s.rd q j :=
  s.rd_wr_ne v (fun e => h ((Reg.key_eq_iff q r j i).1 e).1)

/-- A write leaves every other copy of its field alone. -/
theorem State.rd_wr_copy {r : Reg} {i j : Nat} (v : Nat) (h : j % 2 ^ 20 ≠ i % 2 ^ 20) : (s.wr r i v).rd r j = s.rd r j :=
  s.rd_wr_ne v (fun e => h ((Reg.key_eq_iff r r j i).1 e).2)

@[simp] theorem State.rd_bump_same (r : Reg) (i n : Nat) : (s.bump r i n).rd r i = (s.rd r i + n) % 2 ^ r.info.width := s.rd_wr_same r i _
theorem State.rd_bump_ne {r q : Reg} {i j : Nat} (n : Nat) (h : q.key j ≠ r.key i) : (s.bump r i n).rd q j = s.rd q j := s.rd_wr_ne _ h
theorem State.rd_bump_reg {r q : Reg} (i j n : Nat) (h : q.ctorIdx ≠ r.ctorIdx) : (s.bump r i n).rd q j = s.rd q j := s.rd_wr_reg i j _ h

@[simp] theorem State.bump_cfg (r : Reg) (i n : Nat) : (s.bump r i n).cfg = s.cfg := rfl
@[simp] theorem State.bump_mem (r : Reg) (i n : Nat) : (s.bump r i n).mem = s.mem := rfl
@[simp] theorem State.bump_tly (r : Reg) (i n : Nat) : (s.bump r i n).tly = s.tly := rfl
@[simp] theorem State.bump_events (r : Reg) (i n : Nat) : (s.bump r i n).events = s.events := rfl
@[simp] theorem State.bump_rings (r : Reg) (i n : Nat) : (s.bump r i n).rings = s.rings := rfl
@[simp] theorem State.bump_vectors (r : Reg) (i n : Nat) : (s.bump r i n).vectors = s.vectors := rfl
@[simp] theorem State.bump_harts (r : Reg) (i n : Nat) : (s.bump r i n).harts = s.harts := rfl
@[simp] theorem State.bump_clu (r : Reg) (i n : Nat) : (s.bump r i n).clu = s.clu := rfl
@[simp] theorem State.bump_upd (r : Reg) (i n : Nat) : (s.bump r i n).upd = s.upd := rfl
@[simp] theorem State.bump_seq (r : Reg) (i n : Nat) : (s.bump r i n).seq = s.seq := rfl
@[simp] theorem State.bump_kv (r : Reg) (i n : Nat) : (s.bump r i n).kv = s.kv := rfl
@[simp] theorem State.bump_weave (r : Reg) (i n : Nat) : (s.bump r i n).weave = s.weave := rfl
@[simp] theorem State.bump_span (r : Reg) (i n : Nat) : (s.bump r i n).span = s.span := rfl
@[simp] theorem State.bump_flt (r : Reg) (i n : Nat) : (s.bump r i n).flt = s.flt := rfl
@[simp] theorem State.bump_health (r : Reg) (i n : Nat) : (s.bump r i n).health = s.health := rfl
@[simp] theorem State.bump_fh (r : Reg) (i n : Nat) : (s.bump r i n).fh = s.fh := rfl
@[simp] theorem State.bump_ctxRunning (r : Reg) (i n : Nat) : (s.bump r i n).ctxRunning = s.ctxRunning := rfl
@[simp] theorem State.bump_keelEvents (r : Reg) (i n : Nat) : (s.bump r i n).keelEvents = s.keelEvents := rfl
@[simp] theorem State.bump_meter (r : Reg) (i n : Nat) : (s.bump r i n).meter = s.meter := rfl
@[simp] theorem State.bump_cart (r : Reg) (i n : Nat) : (s.bump r i n).cart = s.cart := rfl
@[simp] theorem State.bump_sec (r : Reg) (i n : Nat) : (s.bump r i n).sec = s.sec := rfl
@[simp] theorem State.bump_pow (r : Reg) (i n : Nat) : (s.bump r i n).pow = s.pow := rfl
@[simp] theorem State.bump_chosor (r : Reg) (i n : Nat) : (s.bump r i n).chosor = s.chosor := rfl
@[simp] theorem State.bump_out (r : Reg) (i n : Nat) : (s.bump r i n).out = s.out := rfl
@[simp] theorem State.bump_freeCount (r : Reg) (i n : Nat) : (s.bump r i n).freeCount = s.freeCount := rfl
@[simp] theorem State.bump_pending (r : Reg) (i n : Nat) : (s.bump r i n).pending = s.pending := rfl

/-! ## Two states -/

/-- Two states are equal when every field is. -/
theorem State.eq_of {s t : State} (h0 : s.regs = t.regs) (h1 : s.cfg = t.cfg) (h2 : s.mem = t.mem) (h3 : s.tly = t.tly) (h4 : s.events = t.events) (h5 : s.rings = t.rings) (h6 : s.vectors = t.vectors) (h7 : s.harts = t.harts) (h8 : s.clu = t.clu) (h9 : s.upd = t.upd) (h10 : s.seq = t.seq) (h11 : s.kv = t.kv) (h12 : s.weave = t.weave) (h13 : s.span = t.span) (h14 : s.flt = t.flt) (h15 : s.health = t.health) (h16 : s.fh = t.fh) (h17 : s.ctxRunning = t.ctxRunning) (h18 : s.keelEvents = t.keelEvents) (h19 : s.meter = t.meter) (h20 : s.cart = t.cart) (h21 : s.sec = t.sec) (h22 : s.pow = t.pow) (h23 : s.out = t.out) (h24 : s.freeCount = t.freeCount) (h25 : s.pending = t.pending) (h26 : s.chosor = t.chosor) : s = t := by
  cases s; cases t; simp_all

end Sys2Proof.Machine
end

