-- ==== Sys2Proof/Laws/Ops.lean ====
section
/-!
SUPPORT. What the shared operations do, each said once: raising and recording errors, runs of a change over a list, bytes of memory.
-/
namespace Sys2Proof.Machine
open Sys2Proof

/-! ## Bits -/

theorem bitAt_setBits_same (v r : Nat) : bitAt (setBits v r 1 1) r = true := by
  simp only [bitAt, setBits, beq_iff_eq]
  have h1 : v % 2 ^ r + 1 % 2 ^ 1 * 2 ^ r + v / 2 ^ (r + 1) * 2 ^ (r + 1) = v % 2 ^ r + 2 ^ r * (1 + v / 2 ^ (r + 1) * 2) := by
    rw [show (2 : Nat) ^ (r + 1) = 2 ^ r * 2 from rfl]
    generalize v / (2 ^ r * 2) = q
    generalize 2 ^ r = a
    have e : q * (a * 2) = a * (q * 2) := by rw [Nat.mul_comm a 2, ← Nat.mul_assoc, Nat.mul_comm]
    rw [Nat.mul_add, e]; simp; omega
  rw [h1, Nat.add_mul_div_left _ _ (Nat.two_pow_pos r), Nat.div_eq_of_lt (Nat.mod_lt _ (Nat.two_pow_pos r))]
  omega

/-! ## Runs over a list -/

/-- What every member of a run keeps, the run keeps. -/
theorem foldl_keeps {α β γ : Type} (g : α → γ) (f : α → β → α) (h : ∀ a b, g (f a b) = g a) (l : List β) (a : α) : g (l.foldl f a) = g a := by
  induction l generalizing a with
  | nil => rfl
  | cons b l ih => rw [List.foldl_cons, ih, h]

/-- What every member of a run makes true and keeps true is true after it. -/
theorem foldl_mem {α β : Type} (P : α → Prop) (f : α → β → α) (l : List β) (b : β) (hb : b ∈ l) (h1 : ∀ a, P (f a b)) (h2 : ∀ a c, P a → P (f a c))
    (a : α) : P (l.foldl f a) := by
  induction l generalizing a with
  | nil => cases hb
  | cons c l ih =>
    rw [List.foldl_cons]
    rcases List.mem_cons.1 hb with rfl | hb
    · have : ∀ (l : List β) (a : α), P a → P (l.foldl f a) := by
        intro l; induction l with
        | nil => exact fun _ h => h
        | cons c l ih => exact fun a h => ih _ (h2 a c h)
      exact this l _ (h1 a)
    · exact ih hb _

/-! ## Errors and events (R473, R375 to R377) -/

/-- An event touches the register fields, the event lists and the keel's events, and nothing else. -/
theorem State.raise_frame (s : State) (page : Nat) (st : Status) (ctx : Option Nat) (a b : Nat) :
    s.raise page st ctx a b = { s with
      regs := (s.raise page st ctx a b).regs, events := (s.raise page st ctx a b).events, keelEvents := (s.raise page st ctx a b).keelEvents } := by
  have h : ∀ (u : State) (k : Nat) (e : Event), u.pendEvent k e = { u with regs := (u.pendEvent k e).regs, events := (u.pendEvent k e).events } := by
    intro u k e
    unfold State.pendEvent
    simp only []
    split <;> (apply State.eq_of <;> simp)
  unfold State.raise
  simp only []
  split
  · apply State.eq_of <;> simp
  · split
    · apply State.eq_of <;> simp
    · split <;> (rw [h]; apply State.eq_of <;> simp)

theorem State.pendEvent_rd (s : State) (k : Nat) (e : Event) (r : Reg) (i : Nat) (h : r.ctorIdx ≠ Reg.ctxEvtlost.ctorIdx) :
    (s.pendEvent k e).rd r i = s.rd r i := by
  unfold State.pendEvent
  simp only []
  split
  · rw [State.rd_bump_reg _ _ _ _ h]; rfl
  · rfl

/-- Of the register fields an event changes EVT_PENDING and EVT_COUNT of its page, and CTX_EVTLOST. -/
theorem State.raise_rd (s : State) (page : Nat) (st : Status) (ctx : Option Nat) (a b : Nat) (r : Reg) (i : Nat)
    (h1 : r.key i ≠ Reg.evtPending.key page) (h2 : r.key i ≠ Reg.evtCount.key page) (h3 : r.ctorIdx ≠ Reg.ctxEvtlost.ctorIdx) :
    (s.raise page st ctx a b).rd r i = s.rd r i := by
  have base : ((s.wr .evtPending page (setBits (s.rd .evtPending page) (st.code / 256) 1 1)).bump .evtCount page 1).rd r i = s.rd r i := by
    rw [State.rd_bump_ne _ _ h2, State.rd_wr_ne _ _ h1]
  unfold State.raise
  simp only []
  split
  · exact base
  · split
    · exact base
    · split <;> (rw [State.pendEvent_rd _ _ _ _ _ h3]; exact base)

/-- A field of another register than those is unchanged by an event. -/
theorem State.raise_rd_reg (s : State) (page : Nat) (st : Status) (ctx : Option Nat) (a b : Nat) (r : Reg) (i : Nat)
    (h1 : r.ctorIdx ≠ Reg.evtPending.ctorIdx) (h2 : r.ctorIdx ≠ Reg.evtCount.ctorIdx) (h3 : r.ctorIdx ≠ Reg.ctxEvtlost.ctorIdx) :
    (s.raise page st ctx a b).rd r i = s.rd r i :=
  s.raise_rd page st ctx a b r i (fun e => h1 ((Reg.key_eq_iff _ _ _ _).1 e).1) (fun e => h2 ((Reg.key_eq_iff _ _ _ _).1 e).1) h3

/-- The summary bit of the status's range stands in EVT_PENDING. -/
theorem State.raise_eventAt (s : State) (page : Nat) (st : Status) (ctx : Option Nat) (a b : Nat) (h : st.code / 256 < 15) :
    eventAt (s.raise page st ctx a b) page st := by
  have base : bitAt (((s.wr .evtPending page (setBits (s.rd .evtPending page) (st.code / 256) 1 1)).bump .evtCount page 1).rd .evtPending page)
      (st.code / 256) = true := by
    rw [State.rd_bump_reg _ _ _ _ (by decide), State.rd_wr_same]
    have hw : Reg.evtPending.info.width = 15 := rfl
    rw [hw]
    have := bitAt_setBits_same (s.rd .evtPending page) (st.code / 256)
    simp only [bitAt, beq_iff_eq] at this ⊢
    generalize setBits (s.rd .evtPending page) (st.code / 256) 1 1 = x at this
    generalize st.code / 256 = k at this h
    have e : (2 : Nat) ^ 15 = 2 ^ k * (2 * 2 ^ (14 - k)) := by
      rw [← Nat.pow_succ', ← Nat.pow_add]; congr 1; omega
    rw [e, Nat.mod_mul_right_div_self]
    rw [Nat.mod_mul_right_mod]; exact this
  unfold eventAt State.raise
  simp only []
  split
  · exact base
  · split
    · exact base
    · split <;> (rw [State.pendEvent_rd _ _ _ _ _ (by decide)]; exact base)

end Sys2Proof.Machine
end

