-- ==== Sys2Proof/Laws/Memory.lean ====
section
/-!
SUPPORT. Laws of memory: what a byte reads after a write, and that every operation on memory and on the register store keeps its canonical form.
-/
namespace Sys2Proof.Machine
open Sys2Proof

theorem sget_writeBytes (m : Sparse Byte) (a : Nat) (bs : List Byte) (k : Nat) :
    sget 0#8 (writeBytes m a bs) k = if a ≤ k ∧ k < a + bs.length then bs.getD (k - a) 0#8 else sget 0#8 m k := by
  induction bs generalizing m a with
  | nil => rw [writeBytes, if_neg (fun h => absurd h.2 (by rw [List.length_nil]; omega))]
  | cons b t ih =>
    rw [writeBytes, ih, sget_sput]
    by_cases hk : k = a
    · subst hk
      rw [if_neg (by omega), if_pos rfl, if_pos (by simp)]
      simp
    · by_cases h : a + 1 ≤ k ∧ k < a + 1 + t.length
      · have e : k - a = (k - (a + 1)) + 1 := by omega
        rw [if_pos h, if_pos (by simp; omega), e, List.getD_cons_succ]
      · rw [if_neg h, if_neg hk, if_neg (by simp; omega)]

theorem readBytes_writeBytes (m : Sparse Byte) (a : Nat) (bs : List Byte) : readBytes (writeBytes m a bs) a bs.length = bs := by
  apply List.ext_getElem
  · simp [readBytes]
  · intro i h1 h2
    simp [readBytes, sget_writeBytes, h2]

theorem writeBytes_scanon (m : Sparse Byte) (a : Nat) (bs : List Byte) (h : scanon (fun _ => 0#8) m = true) :
    scanon (fun _ => 0#8) (writeBytes m a bs) = true := by
  induction bs generalizing m a with
  | nil => exact h
  | cons b t ih => exact ih _ _ (scanon_sput (fun _ => 0#8) m a b h)

theorem State.writeGranule_wf (s : State) (pa : Nat) (bs : List Byte) (h : s.mem.wf) : (s.writeGranule pa bs).1.mem.wf := by
  unfold State.writeGranule
  dsimp only
  split
  · exact h
  · split
    · exact ⟨writeBytes_scanon _ _ _ h.1, h.2⟩
    · split
      · exact h
      · exact ⟨writeBytes_scanon _ _ _ h.1, h.2⟩

theorem State.writeNear_wf (s : State) (pa : Nat) (bs : List Byte) (h : s.mem.wf) : (s.writeNear pa bs).1.mem.wf := by
  unfold State.writeNear
  generalize unitsOf 256 pa bs.length = l
  generalize hx : (s, Status.ok) = x
  have hw : x.1.mem.wf := by rw [← hx]; exact h
  clear hx h
  induction l generalizing x with
  | nil => exact hw
  | cons g t ih => exact ih _ (State.writeGranule_wf _ _ _ hw)

/-- Every write of memory by its physical address keeps the canonical form. -/
theorem State.memWrite_wf (s : State) (far : Bool) (pa : Nat) (bs : List Byte) (h : s.mem.wf) : (s.memWrite far pa bs).1.mem.wf := by
  unfold State.memWrite
  split
  · split
    · split
      · exact h
      · exact ⟨h.1, writeBytes_scanon _ _ _ h.2⟩
    · exact h
  · split
    · exact h
    · exact s.writeNear_wf pa bs h

/-- No channel of near memory is fenced, and no granule is poisoned. -/
def State.nearOpen (s : State) : Prop := (∀ c, s.rd .memState c ≠ 2) ∧ s.mem.poison = []

theorem State.nearOpen_bump {s : State} (h : s.nearOpen) (r : Reg) (i n : Nat) (hr : Reg.memState.ctorIdx ≠ r.ctorIdx) : (s.bump r i n).nearOpen :=
  ⟨fun c => by rw [s.rd_bump_reg i c n hr]; exact h.1 c, h.2⟩

theorem State.writeGranule_open {s : State} (h : s.nearOpen) (pa : Nat) (bs : List Byte) :
    (s.writeGranule pa bs).2 = .ok ∧ (s.writeGranule pa bs).1.nearOpen := by
  have hp : s.poisoned (pa / 256) = false := by rw [State.poisoned, h.2]; rfl
  unfold State.writeGranule
  dsimp only
  rw [if_neg (h.1 _), hp]
  split
  · refine ⟨rfl, State.nearOpen_bump ?_ _ _ _ (by decide)⟩
    exact ⟨h.1, by rw [h.2]; rfl⟩
  · refine ⟨rfl, State.nearOpen_bump (State.nearOpen_bump ?_ _ _ _ (by decide)) _ _ _ (by decide)⟩
    exact ⟨h.1, h.2⟩

/-- A write of near memory without a fenced channel or a poisoned granule is done. -/
theorem State.writeNear_open {s : State} (h : s.nearOpen) (pa : Nat) (bs : List Byte) :
    (s.writeNear pa bs).2 = .ok ∧ (s.writeNear pa bs).1.nearOpen := by
  unfold State.writeNear
  generalize unitsOf 256 pa bs.length = l
  generalize hx : (s, Status.ok) = x
  have hw : x.2 = .ok ∧ x.1.nearOpen := by rw [← hx]; exact ⟨rfl, h⟩
  clear hx h
  induction l generalizing x with
  | nil => exact hw
  | cons g t ih =>
    refine ih _ ⟨?_, (State.writeGranule_open hw.2 _ _).2⟩
    simp only [hw.1, if_true]
    exact (State.writeGranule_open hw.2 _ _).1

theorem State.memWrite_open {s : State} (h : s.nearOpen) (pa : Nat) (bs : List Byte) (hb : pa + bs.length ≤ nearTop) :
    (s.memWrite false pa bs).2 = .ok ∧ (s.memWrite false pa bs).1.nearOpen := by
  rw [State.memWrite, if_neg (by decide), if_neg (by omega)]
  exact State.writeNear_open h pa bs

theorem State.memRead_far_ok {s : State} {pa n : Nat} (h : s.farCheck pa n = .ok) :
    s.memRead true pa n = .ok (readBytes s.mem.far pa n) := by rw [State.memRead, if_pos rfl, h]; rfl

theorem State.writeGranule_rd (s : State) (pa : Nat) (bs : List Byte) {q : Reg} (h1 : q.ctorIdx ≠ Reg.memWrbytes.ctorIdx)
    (h2 : q.ctorIdx ≠ Reg.memRmw.ctorIdx) (j : Nat) : (s.writeGranule pa bs).1.rd q j = s.rd q j := by
  unfold State.writeGranule
  dsimp only
  split
  · rfl
  · split
    · exact State.rd_bump_reg _ _ _ _ h1
    · split
      · rfl
      · exact (State.rd_bump_reg _ _ _ _ h2).trans (State.rd_bump_reg _ _ _ _ h1)

/-- A write of near memory changes no register field but the counts of its channels. -/
theorem State.writeNear_rd (s : State) (pa : Nat) (bs : List Byte) {q : Reg} (h1 : q.ctorIdx ≠ Reg.memWrbytes.ctorIdx)
    (h2 : q.ctorIdx ≠ Reg.memRmw.ctorIdx) (j : Nat) : (s.writeNear pa bs).1.rd q j = s.rd q j := by
  unfold State.writeNear
  generalize unitsOf 256 pa bs.length = l
  generalize hx : (s, Status.ok) = x
  have hw : x.1.rd q j = s.rd q j := by rw [← hx]
  clear hx
  induction l generalizing x with
  | nil => exact hw
  | cons g t ih => exact ih _ ((State.writeGranule_rd _ _ _ h1 h2 j).trans hw)

/-- R198: a page of the CXL tier that reads is copied into near memory that takes every write. -/
theorem State.copyPage_near {s : State} {m : KvMove} (hs : pageFar m.src = true) (hd : pageFar m.dst = false)
    (h1 : s.farCheck (s.pageData m.src) 65536 = .ok) (h2 : s.farCheck (s.pageMeta m.src + 10) 2038 = .ok) (o : s.nearOpen)
    (b1 : s.rd .kvNearbase 0 + m.dst * 65536 + 65536 ≤ nearTop) (b2 : s.rd .kvMetabase 0 + m.dst * 2048 + 10 + 2038 ≤ nearTop) :
    (s.copyPage m).2 = .ok := by
  let u := (s.bump .cxlRdbytes (s.pageData m.src / 2 ^ 40) 65536).bump .cxlRdbytes ((s.pageMeta m.src + 10) / 2 ^ 40) 2038
  have ou : u.nearOpen := State.nearOpen_bump (State.nearOpen_bump o _ _ _ (by decide)) _ _ _ (by decide)
  have ru (r : Reg) (h : r.ctorIdx ≠ Reg.cxlRdbytes.ctorIdx) : u.rd r 0 = s.rd r 0 :=
    (State.rd_bump_reg _ _ _ _ h).trans (State.rd_bump_reg _ _ _ _ h)
  have du : u.pageData m.dst = s.rd .kvNearbase 0 + m.dst * 65536 := by
    rw [State.pageData, hd, if_neg (by decide), ru _ (by decide)]
  rw [State.copyPage, hs, hd]
  simp only [State.memRead_far_ok h1, State.memRead_far_ok h2, State.countRead, if_true]
  generalize hb : readBytes s.mem.far (s.pageData m.src) 65536 = b
  generalize hr : readBytes s.mem.far (s.pageMeta m.src + 10) 2038 = r
  have lb : b.length = 65536 := by rw [← hb]; simp [readBytes]
  have lr : r.length = 2038 := by rw [← hr]; simp [readBytes]
  have w1 := State.memWrite_open ou (u.pageData m.dst) b (by rw [lb, du]; exact b1)
  have r1 : (u.memWrite false (u.pageData m.dst) b).1.rd .kvMetabase 0 = s.rd .kvMetabase 0 := by
    rw [State.memWrite, if_neg (by decide), if_neg (by rw [lb, du]; omega)]
    exact (State.writeNear_rd _ _ _ (by decide) (by decide) 0).trans (ru _ (by decide))
  change (match u.memWrite false (u.pageData m.dst) b with | (s, .ok) => _ | r => r).2 = _
  generalize u.memWrite false (u.pageData m.dst) b = x at w1 r1
  obtain ⟨s1, e1⟩ := x
  obtain rfl : e1 = .ok := w1.1
  have d2 : s1.pageMeta m.dst = s.rd .kvMetabase 0 + m.dst * 2048 := by
    rw [State.pageMeta, hd, if_neg (by decide)]; exact congrArg (· + _) r1
  have w2 := State.memWrite_open w1.2 (s1.pageMeta m.dst + 10) r (by rw [lr, d2]; exact b2)
  change (match s1.memWrite false (s1.pageMeta m.dst + 10) r with | (s, .ok) => _ | r => r).2 = _
  generalize s1.memWrite false (s1.pageMeta m.dst + 10) r = y at w2
  obtain ⟨s2, e2⟩ := y
  obtain rfl : e2 = .ok := w2.1
  rfl

theorem State.clearNear_wf (s : State) (pa n : Nat) (h : s.mem.wf) : (s.clearNear pa n).mem.wf :=
  ⟨scanon_sclear _ _ _ _ h.1, h.2⟩

/-- The module's own writes of a page keep the canonical form. -/
theorem State.pageStore_wf (s : State) (p a : Nat) (bs : List Byte) (h : s.mem.wf) : (s.pageStore p a bs).mem.wf := s.memWrite_wf _ a bs h

theorem State.reset_mem_wf : State.reset.mem.wf := ⟨rfl, rfl⟩

/-! ## The register store -/

theorem copyOfKey_key (r : Reg) (i : Nat) : copyOfKey (r.key i) = i % 2 ^ 20 := by
  simp only [copyOfKey, Reg.key]; omega

theorem regOfKey_key (r : Reg) (i : Nat) : regOfKey (r.key i) = r := by
  have e : r.key i / 2 ^ 20 = r.ctorIdx := by simp only [Reg.key]; omega
  rw [regOfKey, e]
  cases r <;> rfl

theorem Reg.resetAt_mod (r : Reg) (i : Nat) : r.resetAt (i % 2 ^ 20) = r.resetAt i := by
  simp only [Reg.resetAt, Nat.mod_mod]

/-- A write of a register field keeps the canonical form of the store. -/
theorem State.wr_regsWf (s : State) (r : Reg) (i v : Nat) (h : s.regsWf) : (s.wr r i v).regsWf := by
  have e := scanon_sput (fun k => (regOfKey k).resetAt (copyOfKey k)) s.regs (r.key i) (v % 2 ^ r.info.width) h
  rwa [regOfKey_key, copyOfKey_key, Reg.resetAt_mod] at e

theorem State.putVals_regsWf (s : State) (vals : Sparse Nat) (h : s.regsWf) : (s.putVals vals).regsWf := by
  have g : ∀ (l m : Sparse Nat), scanon (fun k => (regOfKey k).resetAt (copyOfKey k)) m = true →
      scanon (fun k => (regOfKey k).resetAt (copyOfKey k))
        (l.foldl (fun m p => sput ((regOfKey p.1).resetAt (copyOfKey p.1)) m p.1 p.2) m) = true := by
    intro l
    induction l with
    | nil => exact fun m h => h
    | cons p t ih => exact fun m h => ih _ (scanon_sput (fun k => (regOfKey k).resetAt (copyOfKey k)) m p.1 p.2 h)
  exact g vals s.regs h

/-- Dropping fields keeps the canonical form of the store. -/
theorem State.dropRegs_regsWf (s : State) (lost : Reg → Nat → Bool) (h : s.regsWf) : (s.dropRegs lost).regsWf :=
  scanon_filter _ _ _ h

theorem State.reset_regsWf : State.reset.regsWf := rfl

end Sys2Proof.Machine
end

