-- ==== Sys2Proof/Laws/Meter.lean ====
section
/-!
SUPPORT. Lemmas about counter frames (R431).
-/
namespace Sys2Proof.Machine
open Sys2Proof

theorem crc32c_lt (b : List Byte) : crc32c b < 256 ^ 4 := by
  unfold crc32c
  have := ((b.foldl crcByte 0xFFFFFFFF#32) ^^^ 0xFFFFFFFF#32).isLt
  omega

/-- R431: the CRC of a frame whose first 136 bytes are the body. -/
theorem frame_crc (body : List Byte) (h : body.length = 136) :
    fieldAt (body ++ leBytes 4 (crc32c body) ++ zeros 4) 136 4 = crc32c ((body ++ leBytes 4 (crc32c body) ++ zeros 4).take 136) := by
  rw [List.append_assoc, fieldAt_append _ _ _ _ _ h (by simp), leNat_leBytes, Nat.mod_eq_of_lt (crc32c_lt body)]
  rw [List.take_append_of_le_length (by omega), List.take_of_length_le (by omega)]

/-- R431: a counter frame carries the CRC of its first 136 bytes. -/
theorem counterFrame_crc (s : State) (c f q : Nat) (x : MeterInstance) :
    fieldAt (s.counterFrame c f q x) 136 4 = crc32c ((s.counterFrame c f q x).take 136) := by
  unfold State.counterFrame
  exact frame_crc _ (by simp [List.length_flatten, Function.comp_def] <;> decide)

end Sys2Proof.Machine
end

