-- ==== Sys2Proof/Tests/Slice0.lean ====
section
/-!
SUPPORT. Tests: ill-formed commands are refused by the checks, small steps, and a witness for the hypotheses of every clause of every statement.
-/
namespace Sys2Proof.Tests
open Sys2Proof Sys2Proof.Machine
set_option Elab.async false

/-- Reset, with register fields written. -/
def after (l : List (Reg × Nat × Nat)) : State := l.foldl (fun s x => s.wr x.1 x.2.1 x.2.2) State.reset

/-- A DEFINED context 0 whose virtual ID 1 names physical tally 0, with one register field more. -/
def tallied (l : List (Reg × Nat × Nat)) : State :=
  { after ([(.ctxState, 0, 1)] ++ l) with mem := { State.reset.mem with near := [(0x200006, 0x10#8)] } }

/-- Nothing under way in the always-on domain. -/
def steady (s : State) : State := { s with pow := { s.pow with resetting := none } }

/-- A DEFINED context 0 with a 2 MiB page mapped READ and WRITE at DVA 0 to physical 0x4000000, and the arguments of an UNMAP of it. -/
def mappedCtx : State :=
  { after [(.ctxState, 0, 1), (.ctxTablesize, 0, 2), (.ctxL2free, 0, 447), (.ctxCmdarg, 0, 2 ^ 128)] with
    mem := { State.reset.mem with near := [(0, 0x01#8), (2, 0x24#8), (0x240000, 0x0F#8), (0x240003, 0x04#8)] } }

/-- A RESIDENT context 0, in slot 0, with a tile chosen on cluster 191. -/
def tileOn (td : List Byte) (st : Stage) : State :=
  { after [(.ctxState, 0, 2), (.ctxSlotvalid, 0, 1), (.ctxScrslice, 0, 1)] with
    clu := { State.reset.clu with clusters := [(191, { Cluster.idle with cur := some { Tile.start 0 0 0 td false with pred := true, stage := st } })] } }

/-- The tile of tileOn. -/
def theTile (td : List Byte) (st : Stage) : Tile := { Tile.start 0 0 0 td false with pred := true, stage := st }

/-- A descriptor of a kind, with every other field zero. -/
def tdOf (kind : Nat) : List Byte := leBytes 1 kind ++ zeros 191

/-- A vector program under way on cluster 191 for a live context with a tally at virtual ID 1, with a1 holding 1 and a2 holding n. -/
def vecOn (n : Nat) (c : Core → Core) : State :=
  { tileOn (tdOf 4) .under with
    mem := (tallied []).mem
    vectors := [(191, c { Core.idle with running := true, pc := 64, x := [(11, 1), (12, n)] })] }

/-- The memory and registers of a RESIDENT context 0 with ring 5, of a type, that holds one entry. -/
def ringOn (ty : Nat) (entry : List (Nat × Byte)) : State :=
  let s := after [(.ctxState, 0, 2), (.ctxSlotvalid, 0, 1), (.ctxTablesize, 0, 2), (.ctxLanesok, 0, 1), (.dbState, 5, 1), (.dbType, 5, ty), (.dbLog2, 5, 4), (.dbTail, 5, 1)]
  { s with mem := { mappedCtx.mem with near := [(0, 0x01#8), (2, 0x24#8), (0x240000, 0x1F#8), (0x240003, 0x04#8)] ++ entry.map (fun p => (0x4000000 + p.1, p.2)) } }

/-- The context of ringOn with a task that has ended its chain, in its slot of cluster 191. -/
def taskOn : State :=
  { ringOn 0 [] with clu := { State.reset.clu with
      clusters := [(191, { Cluster.idle with slots := [(0, { Slot.empty with task := some ⟨0, 5, 0, false, 0, 0, 64, 0, 0, true, false, none, 64, true⟩ })] })] } }

/-- An update descriptor of an operation, the last of its chain: 16 FP32 elements in regions of their own, no copies, no clipping. -/
def udOf (op : Nat) : List Byte :=
  leBytes 4 (op + 16) ++ leBytes 4 0x1F1F0000 ++ leBytes 4 16 ++ zeros 4 ++ leBytes 8 0 ++ leBytes 8 64 ++ leBytes 8 128 ++ leBytes 8 192
    ++ zeros 16 ++ leBytes 8 256 ++ zeros 16 ++ leBytes 4 0x3F800000 ++ zeros 100

/-- Chain 3 of context 0 with a descriptor of an operation. -/
def theChain (op : Nat) (f : UpdDesc → UpdDesc) : Chain := ⟨3, 0, 5, 0, false, 0, 0, 512, 0, .ok, some (f (UpdDesc.start 512 (udOf op)))⟩

/-- That chain under way for the context of ringOn. -/
def chainOn (op : Nat) (f : UpdDesc → UpdDesc) : State := { ringOn 1 [] with upd := ⟨[theChain op f], 4⟩ }

/-- A RESIDENT GENERATE context 0 that its module leads, with a submission ring 5 that holds an entry and a valid sampler-parameter entry,
and more register fields. -/
def seqOn (entry : List (Nat × Byte)) (l : List (Reg × Nat × Nat)) : State :=
  ([(.ctxClass, 0, 1), (.seqRole, 0, 1), (.seqMaxseq, 0, 4), (.seqMaxbatch, 0, 4), (.seqMaxtok, 0, 8), (.seqStopcnt, 0, 1), (.seqManbase, 0, 0x3000),
    (.smpParamcnt, 0, 1), (.smpKmax, 0, 8), (.smpParambase, 0, 0x1000)] ++ l : List (Reg × Nat × Nat)).foldl (fun s x => s.wr x.1 x.2.1 x.2.2)
    (ringOn 2 (entry ++ [(0x1006, 0x80#8), (0x1007, 0x3F#8), (0x1800, 7#8)]))

/-- A step of context 0, of one entry whose row is sampled, with a stage. -/
def stepOf (st : StepStage) : StepState := { StepState.fresh with stage := st, entries := [⟨0, 0, 1, 1, some 0⟩] }

/-- The context of seqOn with its step at a stage, and its sequence 0 in PREFILL. -/
def steppingAt (st : StepStage) (l : List (Reg × Nat × Nat)) : State :=
  let s := (seqOn [] l).setStep 0 (stepOf st)
  s.setSeq 0 { Seq.free 0 with state := 2, prompt := 1, maxgen := 1, record := 0x2000 }

/-- A SUBMIT entry: one prompt token, one token to generate, its record region at 0x2000. -/
def submitEntry : List (Nat × Byte) := [(0, 1#8), (4, 1#8), (8, 1#8), (33, 0x20#8)]

/-- A span in a state. -/
def spanAt (n st : Nat) : State := after [(.spnState, n, st)]

/-- A frame of a type and a payload, with frame counter 0. -/
def frameOf (ty : Nat) (p : List Byte) : List Byte := leBytes 1 ty ++ zeros 1 ++ leBytes 2 p.length ++ zeros 12 ++ p ++ zeros 16

/-- A well-formed hail. -/
def aHail : List Byte :=
  [0x4B#8, 0x48#8, 0x4C#8, 0x31#8] ++ leBytes 2 1 ++ zeros 154 ++ leBytes 1 4 ++ zeros 96 ++ zeros 3 ++ [1#8]

/-- A MEMBER of a flight, with more register fields. -/
def aMember (l : List (Reg × Nat × Nat)) : State := after ([(.fltState, 0, fltMember), (.fltMembervalid, 0, 1)] ++ l)

/-- The entry of epoch 1 of a kind and a body. -/
def entryOf (kind : Nat) (b : List Byte) : LedgerEntry := ⟨1, 1, kind, 0, b⟩

/-- A plan of context 0 whose header counts one entry, and which carries weights where asked. -/
def aPlan (weights : Bool) (l : List WvEntry) (next : Nat) : Plan :=
  ⟨0, 5, 0, false, 0, 0, 0x1000, zeros 7 ++ leBytes 1 (b2n weights) ++ leBytes 4 1 ++ zeros 52, 0, next, l, none⟩

/-- A live context 0 with a page mapped, a tally at virtual ID 1, the plan in place 15 of engine 3, and the first bytes of its entry. -/
def planOn (p : Plan) (entry : List (Nat × Byte)) : State :=
  { mappedCtx.setPlan 63 (some p) with
    mem := { mappedCtx.mem with near := [(0, 0x01#8), (2, 0x24#8), (0x200006, 0x10#8), (0x240000, 0x0F#8), (0x240003, 0x04#8)] ++ entry.map (fun q => (0x4001040 + q.1, q.2)) } }

/-- The 128 bytes of a weave entry whose first bytes are as listed. -/
def wdOf (entry : List (Nat × Byte)) : List Byte := (List.range 128).map (fun i => sget 0#8 entry i)

/-- The shape of one element of FP32 in WD_E0, WD_E1 and WD_E2, with a destination at 0x2000 and a source at 0x3000. -/
def oneElem (kind : Byte) : List (Nat × Byte) := [(0, kind), (12, 1#8), (16, 1#8), (18, 1#8), (21, 0x30#8), (29, 0x20#8)]

/-- Port 0 UP, session 5 in a state, and more register fields. -/
def portOn (st : Nat) (l : List (Reg × Nat × Nat)) : State := after ([(.tethPortstate0, 0, 2), (.tsState, 5, st)] ++ l)

/-- A tether frame of a type for session 5, with link number, acknowledgement and counter 0. -/
def tframeOf (ty : Nat) (p : List Byte) : List Byte := leBytes 1 ty ++ leBytes 1 5 ++ leBytes 2 p.length ++ zeros 20 ++ p ++ zeros (tfTail ty)

/-- A LINK frame that acknowledges nothing and returns 7 units. -/
def tlinkOf : List Byte :=
  let b := zeros 2 ++ leBytes 2 8 ++ zeros 20 ++ leBytes 4 0xFFFFFFFF ++ leBytes 4 7
  b ++ leBytes 4 (crc32c b)

/-- Session 0 OPEN, the security buffer present and all zero, and more register fields. -/
def secOn (l : List (Reg × Nat × Nat)) : State := after ([(.tsState, 0, 2), (.wvMstoresize, 0, 64)] ++ l)

/-- A calibrated cartridge in its socket. -/
def aCart : Cartridge := { Cartridge.absent with present := true, serial := 3, calibrations := 1, clock := 9000 }

def cartOn (c : Cartridge) (l : List (Reg × Nat × Nat)) : State := { after l with cart := c }

/-- A cartridge that holds a whole request of a kind, with a body from byte 36. -/
def asked (kind : Nat) (b : List Byte) : Cartridge := { aCart with held := [⟨[(0, leBytes 1 kind ++ zeros 35 ++ b)], 1⟩] }

/-- A stream of serial 7, boot 1, instance 2. -/
def aStream : MeterStream := ⟨7, 1, 2, 0, List.replicate 13 0, 0, false, false, false, 0⟩

/-- A counter frame of that stream, with flags, and 1 in every counter. -/
def aCounterFrame (boot flags : Nat) : List Byte :=
  (after [(.glbSerial, 0, 7), (.mtrBoot, 0, boot)]).counterFrame 0 flags 4 ⟨2, true, (List.range 13).map (fun i => (i, 1)), []⟩

theorem aCounterFrame_crc (b f : Nat) : fieldAt (aCounterFrame b f) 136 4 = crc32c ((aCounterFrame b f).take 136) := counterFrame_crc _ _ _ _ _

/-- Reset over, with every island running. -/
def allRunning : State := { State.reset with regs := (List.range 317).map (fun i => (Reg.islState.key i, 1)), pow := { PowerState.start with resetting := none } }

theorem allRunning_islands : (List.range islandCount).all (fun i => decide (allRunning.rd .islState i ≠ 0)) = true := by
  rw [List.all_eq_true]
  intro i hi
  have : allRunning.rd .islState i = 1 := sget_map_mem _ 1 (fun i => Reg.islState.key i) i _ hi
  simp [this]

theorem allRunning_p2 : allRunning.p2Conditions.all (fun q => q.1) = true := by
  have h := allRunning_islands
  have h0 : (allRunning.pow.resetting.isNone && allRunning.pow.warmWaits.isNone) = true := by decide
  simp only [State.p2Conditions, List.all_cons, List.all_nil, h, h0, Bool.and_true]
  decide +kernel

/-- Powered and with reset over, and more register fields. -/
def powered (l : List (Reg × Nat × Nat)) : State := steady (after l)

/-- Hart 0 runs at 64 with 7 in x5, for context 0 of mappedCtx; its page is mapped with an entry's low byte, and the bytes listed stand in it. -/
def hartOn (entry : Byte) (l : List (Nat × Byte)) : State :=
  { mappedCtx with
    regs := ([(.gqCtxvalid, 0, 1)] : List (Reg × Nat × Nat)).foldl (fun s x => s.wr x.1 x.2.1 x.2.2) mappedCtx |>.regs
    mem := { mappedCtx.mem with near := [(0, 0x01#8), (2, 0x24#8), (0x240000, entry)] ++ (if entry = 0x8F#8 then [] else [(0x240003, 0x04#8)]) ++ l.map (fun p => (0x4000000 + p.1, p.2)) }
    harts := [(0, { Core.idle with running := true, pc := 64, x := [(5, 7)] })] }

/-- Port 0 UP, session 5 OPEN, and context 0 of mappedCtx owned by it. -/
def bulkOn : State :=
  { portOn 2 [(.ctxState, 0, 1), (.ctxTablesize, 0, 2), (.ctxOwner, 0, 5)] with mem := mappedCtx.mem }

theorem test_ill_formed_refused_0 : ([.registerWrite (.session 64) false 0 0, .registerWrite (.hart 64) false 0 0, .registerWrite (.session 0) false 0 4294967296, .pageStatusRead (.session 0) 8192, .evtPendingClear (.session 0) 0 4294967296, .epochAdopt 317 none, .epochAdopt 0 (some 64), .taskEntryTake 65536 [], .taskPlace 64, .tileBoundary 192 [], .tallyTile 0 8, .kcDactcfg 0 32 0, .kcVdact 0 32 0 0 0, .kcVdact 0 0 0 32 0, .kcVdact 0 0 0 0 32, .kcTsignal (.vector 192) 0 0 0] : List Instr).all (fun i => !i.wf) = true := by decide

theorem test_ill_formed_refused_1 : ([.kcTsignal (.hart 64) 0 0 0, .kcTsignal (.vector 0) 32 0 0, .twaitWithdraw 64 0 0, .followerReport 0 16384 0 0, .samplerRow 6 0 0 [], .nop 4 0, .nop 0 16, .tallySignal 0 0 65536 0 false, .tallySignal 0 0 0 4294967296 false, .tallyWait 0 0 0 0 (.taskSlot 192 0), .tallyWait 0 0 0 0 (.taskSlot 0 8), .tallyWait 0 0 0 0 (.vector 192), .tallyWait 0 0 0 0 (.plan 4 0), .tallyWait 0 0 0 0 (.plan 0 16), .tallyWait 0 0 0 0 (.hart 64), .tallyWait 0 0 0 0 (.sampler 6)] : List Instr).all (fun i => !i.wf) = true := by decide

theorem test_ill_formed_refused_2 : ([.tallyWait 0 0 0 0 (.sequencer 64), .scrubPass 48 [], .cxlLinkDown 8, .spanLight 32, .spanFecLock 0 65536, .laneRemove 0 ⟨16, .lost⟩, .ledgerStoreAck 16384 0 0, .admissionRequest 32 [], .riskReport 0 8 0 0 none, .riskReport 0 0 0 8 none, .riskReport 0 0 0 0 (some 16384), .replayReport 0 3, .eventDeliver 65 ⟨false, []⟩, .tetherLight 2, .sessionGapTimeout 64, .tsEvtack (.session 0) 0 2048] : List Instr).all (fun i => !i.wf) = true := by decide

theorem test_ill_formed_refused_3 : ([.bridleViolation 0 9, .wake 7 0, .wake 0 32, .powerOn 65536 false, .gqStart (.session 0) 16 0, .entdaa 128, .setEndpointId 256, .getpldmcommands 64] : List Instr).all (fun i => !i.wf) = true := by decide

/-- R122, R211, R264: instruction words, written out bit by bit from the tables of the encodings. -/
theorem test_kc_words : [kcCommand (.vector 3) 9 0b00000000000000101000000001011011, kcCommand (.vector 3) 9 0b11111000100100101001000101011011,
    kcCommand (.vector 3) 9 0b11111000100100101010000101011011, kcCommand (.vector 3) 0 0b00000000000000000000111110101011,
    kcCommand (.vector 3) 0 0b00000000000000000001111110101011, kcCommand (.vector 3) 0 0b00000000000000000010111110101011,
    kcCommand (.vector 3) 0 0b00000000000000000011111110101011, kcCommand (.hart 9) 0 0b00000001001000001000000110001011,
    kcCommand (.hart 9) 0 0b00000001001000001001000110001011, kcCommand (.hart 9) 0 0b00000001001000001010000110001011,
    kcCommand (.hart 9) 0 0b00000000000000001011000110001011]
    = [some (.kcDactcfg 3 5 9), some (.kcVdact 3 2 5 9 31), some (.kcVdactg 3 2 5 9 31), some (.kcVrandb 3 31), some (.kcVrandf 3 31),
      some (.kcVrando 3 31), some (.kcVrandh 3 31), some (.kcTsignal (.hart 9) 3 1 18), some (.kcTwait (.hart 9) 3 1 18),
      some (.kcTtake (.hart 9) 3 1 18), some (.kcTread (.hart 9) 3 1)] := by decide

/-- R122, R211, R264: a use that the tables do not have is none: vd of KC.DACTCFG, bits [26:25], bits [31:15] of a random read, rs2 of KC.TREAD, bits
[31:25] of a tally instruction, and each opcode's other funct3. -/
theorem test_kc_illegal : [kcCommand (.vector 3) 9 0b00000000000000101000000011011011, kcCommand (.vector 3) 9 0b11111010100100101001000101011011,
    kcCommand (.vector 3) 9 0b00000000000000101011000001011011, kcCommand (.vector 3) 0 0b00000000000000001000111110101011,
    kcCommand (.vector 3) 0 0b00000000000000000100111110101011, kcCommand (.hart 9) 0 0b00000000001000001011000110001011,
    kcCommand (.hart 9) 0 0b00000011001000001000000110001011, kcCommand (.hart 9) 0 0b00000001001000001100000110001011].all (·.isNone) = true := by decide

/-- A page at page 4194305 of the CXL tier that is on its way to page 1 of near memory, for entry 3 of sequence 9. -/
def filling : State :=
  { after [(.cxlState, 7, 2), (.cxlCapacity, 7, 1), (.kvFarbase, 0, 7 * 2 ^ 40), (.kvFarmetabase, 0, 7 * 2 ^ 40 + 0x100000), (.kvMetabase, 0, 0x200000)] with
    kv := { State.reset.kv with moves := [⟨9, true, 3, 4194305, 1⟩] } }

theorem filling_open : ((filling.eccFound []).moveOver 9 3).nearOpen :=
  ⟨fun c => by
    show filling.rd .memState c ≠ 2
    have h : filling.rd .memState c = State.reset.rd .memState c := by
      show (after _).rd .memState c = _
      simp only [after, List.foldl_cons, List.foldl_nil]
      iterate 5 rw [State.rd_wr_reg _ _ _ _ (by decide)]
    rw [h]
    exact (by decide : State.reset.rd .memState 0 ≠ 2), rfl⟩

/-- The page can be copied. -/
theorem filling_copies : (((filling.eccFound []).moveOver 9 3).copyPage ⟨9, true, 3, 4194305, 1⟩).2 = .ok :=
  State.copyPage_near rfl rfl (by decide +kernel) (by decide +kernel) filling_open (by decide +kernel) (by decide +kernel)

/-- What a command leaves, where it answers a next state. -/
def ran (c : Instr) (s : State) : Option State :=
  match exec c s with
  | .next t => some t
  | _ => none

/-- R255: SIGNAL adds n. -/
theorem test_signal_adds : (ran (.tallySignal 0 0 1 3 false) (tallied [])).map (fun t => t.tallyVal 0) = some 3 := by decide +kernel

/-- R255: a sum above 0xFFFFFFFF fails and leaves the value. -/
theorem test_signal_overflow : (ran (.tallySignal 0 0 1 1 false) ((tallied []).setTallyVal 0 0xFFFFFFFF)).map
    (fun t => (t.tallyVal 0, t.cfg.answer.map (·.status))) = some (0xFFFFFFFF, some .tallyOverflow) := by decide +kernel

/-- R13, R472: EVT_MASK takes its 15 bits, and the reserved bits of the write are discarded. -/
theorem test_write_reserved_bits : (ran (.registerWrite (.session 0) false 0x014 0xFFFF) State.reset).map (fun t => t.rd .evtMask 0) = some 0x7FFF := by
  decide +kernel

/-- R468: an address outside the register space, and a slot that holds no page. -/
theorem test_read_outside : (ran (.lowWordRead (.session 0) 0x2000000) State.reset).map (·.cfg.answer) = some (some ⟨some (.session 0), .genAddrRange, 0⟩) := by
  decide +kernel

/-- R472: PAGE_LAYOUT is 1 on every page, and session 63 may read PAGE_ID. -/
theorem test_page_layout : (ran (.lowWordRead (.session 63) 0x103F000) State.reset).bind (fun t => t.cfg.answer.map (fun a => a.value / 2 ^ 20 % 16)) = some 1 := by
  decide +kernel

/-- R462: the read that returns DEFAULTED as 1 clears it. -/
theorem test_defaulted_cleared : (ran (.pageStatusRead (.session 0) 0x103F) State.reset).map (fun t => (t.cfg.answer.map (·.value % 2), t.rd .defaulted 0x103F)) =
    some (some 1, 0) := by decide +kernel

/-- R9: a field of two bytes has its low byte first. -/
theorem test_little_endian : leBytes 2 0x1234 = [0x34#8, 0x12#8] := by decide

/-- IEEE 754: 1.0 + 1.0 = 2.0 in FP32. -/
theorem test_f32_add : f32Add 0x3F800000 0x3F800000 = 0x40000000 := by decide +kernel

/-- The queue is first in, first out. -/
theorem test_step_front : (match step { State.reset with pending := [.devtimeWrap, .countingWindowStart] } with
    | .next t => t.pending
    | _ => []) = [.countingWindowStart] := by decide +kernel

theorem witness_StepTakesTheFront_front : ∃ (s : State) (c : Instr) (rest : List Instr), (s.pending = c :: rest) :=
  ⟨{ State.reset with pending := [.devtimeWrap] }, .devtimeWrap, [], by decide +kernel⟩

theorem witness_StepTakesTheFront_idle : ∃ (s : State), (s.pending = []) :=
  ⟨State.reset, by decide +kernel⟩

theorem witness_ResetLeaves_pages : ∃ (p : Nat), (p < 8192) ∧ (pageExists p = true) :=
  ⟨0x103F, by decide +kernel⟩

theorem witness_ReadsFollowRights_enumerate : ∃ (p : Nat) (o : Nat), (p < 8192) ∧ (pageExists p = true) ∧ ((o = 0x000 ∨ o = 0x004 ∨ o = 0x00C)) :=
  ⟨0x103F, 0x00C, by decide +kernel⟩

theorem witness_ReadsFollowRights_refused : ∃ (s : State) (rdr : Reader) (p : Nat) (o : Nat), (p < 8192) ∧ (o < 4096) ∧ (o % 4 = 0)
    ∧ (pageExists p = true) ∧ (s.mayRead rdr p o = false) :=
  ⟨State.reset, .hart 63, 0x103F, 0x008, by decide +kernel⟩

theorem witness_ReadsFollowRights_permitted : ∃ (s : State) (rdr : Reader) (p : Nat) (o : Nat), (s.readable rdr p o = true)
    ∧ (seesWhole rdr p o = true) ∧ ((low64 rdr.num p o).all (fun a => (sget none s.cfg.captures (captureKey rdr a)).isNone) = true) :=
  ⟨State.reset, .session 0, 0x103F, 0xFFC, by decide +kernel⟩

theorem witness_ReadsFollowRights_captured : ∃ (s : State) (rdr : Reader) (p : Nat) (o : Nat) (a : Nat) (w : Nat), (s.readable rdr p o = true)
    ∧ (seesWhole rdr p o = true) ∧ (low64 rdr.num p o = some a) ∧ (a % 4096 ≠ o) ∧ (sget none s.cfg.captures (captureKey rdr a) = some w) :=
  ⟨State.reset.setCapture (captureKey .keel 0x110) (some 5), .keel, 0, 0x114, 0x110, 5, by decide +kernel⟩

theorem witness_ReadsFollowRights_absent : ∃ (a : Nat), ((a % 4 ≠ 0 ∨ 8192 ≤ a / 4096 ∨ pageExists (a / 4096) = false)) :=
  ⟨0x2000000, by decide +kernel⟩

theorem witness_ErrorsFoundFirst_near : ∃ (pa : Nat), (pa < nearTop) :=
  ⟨0x5CFFFFFFFF, by decide +kernel⟩

theorem witness_ErrorsFoundFirst_bad : ∃ (pa : Nat) (n : Nat) (e : EccError), (pa < nearTop) ∧ (2 ≤ n) ∧ ((e = .symbols n ∨ e = .address)) :=
  ⟨0x5CFFFFFFFF, 3, .symbols 3, by decide +kernel⟩

theorem witness_ErrorsFoundFirst_cxl : ∃ (s : State) (pa : Nat), (s.cxlHolds pa 1 = true) ∧ (s.rd .cxlState (pa / 2 ^ 40) = 2) :=
  ⟨after [(.cxlState, 7, 2), (.cxlCapacity, 7, 1)], 7 * 2 ^ 40 + 2 ^ 21 - 1, by decide +kernel⟩

theorem witness_StepsKeepTheQueue_tail : ∃ (s : State) (t : State), (step s = .next t) :=
  ⟨State.reset, State.reset.tick, by rfl⟩

theorem witness_StepsKeepCanonicalForms_forms : ∃ (s : State) (t : State), (s.mem.wf) ∧ (s.regsWf) ∧ (step s = .next t) :=
  ⟨State.reset, State.reset.tick, by decide +kernel, by decide +kernel, by rfl⟩

theorem witness_RegisterWritesByAccessCode_word : ∃ (s : State) (rdr : Reader) (p : Nat) (o : Nat), (s.reaches rdr p o = true) ∧ (o ≠ 0x034)
    ∧ (writableParts rdr.num p o ≠ [])
    ∧ ((writableParts rdr.num p o).all (fun q => s.mayWriteField rdr q.reg q.idx && q.reg.info.access != .wo) = true) ∧ (s.sec.ownerClose = false) :=
  ⟨State.reset, .session 0, 0x1000, 0x010, by decide +kernel⟩

theorem witness_RegisterWritesByAccessCode_rw : ∃ (s : State) (rdr : Reader) (p : Nat) (o : Nat) (q : WordPart), (s.reaches rdr p o = true)
    ∧ (o ≠ 0x034) ∧ (writableParts rdr.num p o = [q]) ∧ (s.mayWriteField rdr q.reg q.idx = true) ∧ (q.reg.info.access = .rw)
    ∧ (s.sec.ownerClose = false) :=
  ⟨State.reset, .session 0, 0, 0x014, ⟨.evtMask, 0, 0, 0, 15⟩, by decide +kernel⟩

theorem witness_RegisterWritesByAccessCode_rws : ∃ (s : State) (rdr : Reader) (p : Nat) (o : Nat) (q : WordPart), (s.reaches rdr p o = true)
    ∧ (o ≠ 0x034) ∧ (writableParts rdr.num p o = [q]) ∧ (s.mayWriteField rdr q.reg q.idx = true) ∧ (q.reg.info.access = .rws) ∧ (q.reg ≠ .pwrWakemask)
    ∧ (s.sec.ownerClose = false) :=
  ⟨State.reset, .session 0, 0x428, 0x104, ⟨.fhLevelmin, 0, 0, 0, 3⟩, by decide +kernel⟩

theorem witness_RegisterWritesByAccessCode_w1c : ∃ (s : State) (rdr : Reader) (p : Nat) (o : Nat) (q : WordPart), (s.reaches rdr p o = true)
    ∧ (o ≠ 0x034) ∧ (writableParts rdr.num p o = [q]) ∧ (s.mayWriteField rdr q.reg q.idx = true) ∧ (q.reg.info.access = .w1c) ∧ (q.reg ≠ .errValid)
    ∧ (s.rd q.reg q.idx < 2 ^ q.reg.info.width) ∧ (s.sec.ownerClose = false) :=
  ⟨State.reset.raise0 0 .genConfig 7 7, .session 0, 0, 0x010, ⟨.evtPending, 0, 0, 0, 15⟩, by decide +kernel⟩

theorem witness_RegisterWritesByAccessCode_discarded : ∃ (s : State) (rdr : Reader) (p : Nat) (o : Nat), (s.reaches rdr p o = true) ∧ (rdr ≠ .keel)
    ∧ (writableParts rdr.num p o = []) ∧ (s.sec.ownerClose = false) :=
  ⟨State.reset, .session 0, 0x1000, 0x000, by decide +kernel⟩

theorem witness_RegisterWritesByAccessCode_refused : ∃ (s : State) (rdr : Reader) (p : Nat) (o : Nat), (s.reaches rdr p o = true) ∧ (o ≠ 0x034)
    ∧ (rdr ≠ .keel) ∧ (writableParts rdr.num p o ≠ []) ∧ ((writableParts rdr.num p o).all (fun q => !s.mayWriteField rdr q.reg q.idx) = true)
    ∧ (s.sec.ownerClose = false) :=
  ⟨State.reset, .session 5, 0, 0x014, by decide +kernel⟩

theorem witness_RegisterWritesByAccessCode_bridled : ∃ (s : State) (p : Nat) (o : Nat), (s.reaches .keel p o = true)
    ∧ ((writableParts 128 p o).all (fun q => !s.mayWriteField .keel q.reg q.idx) = true) ∧ (s.sec.ownerClose = false) :=
  ⟨State.reset, 0x438, 0x100, by decide +kernel⟩

theorem witness_RegisterWritesByAccessCode_absent : ∃ (s : State) (a : Nat), ((a % 4 ≠ 0 ∨ 8192 ≤ a / 4096 ∨ pageExists (a / 4096) = false))
    ∧ (s.sec.ownerClose = false) :=
  ⟨State.reset, 2, by decide +kernel⟩

theorem witness_RegisterWritesByAccessCode_bell : ∃ (s : State) (rdr : Reader) (r : Nat), (s.bellReader rdr = true) ∧ (r < 65536) :=
  ⟨State.reset, .session 1, 5, by decide +kernel⟩

theorem witness_RegisterWritesByAccessCode_command : ∃ (s : State), (s.sec.ownerClose = false) :=
  ⟨State.reset, by decide +kernel⟩

theorem witness_RegisterReadsAnswered_low : ∃ (s : State) (rdr : Reader) (p : Nat) (o : Nat) (a : Nat), (s.readable rdr p o = true)
    ∧ (seesWhole rdr p o = true) ∧ (low64 rdr.num p o = some a) ∧ (a % 4096 = o) :=
  ⟨State.reset, .session 0, 0x40A, 0x208, 0x408208, by decide +kernel⟩

theorem witness_RegisterReadsAnswered_high : ∃ (s : State) (rdr : Reader) (p : Nat) (o : Nat) (a : Nat) (w : Nat), (s.readable rdr p o = true)
    ∧ (seesWhole rdr p o = true) ∧ (low64 rdr.num p o = some a) ∧ (a % 4096 ≠ o) ∧ (sget none s.cfg.captures (captureKey rdr a) = some w) :=
  ⟨State.reset.setCapture (captureKey (.session 0) 0x408208) (some 5), .session 0, 0x40B, 0x20C, 0x408208, 5, by decide +kernel⟩

theorem witness_RegisterReadsAnswered_highNow : ∃ (s : State) (rdr : Reader) (p : Nat) (o : Nat) (a : Nat), (s.readable rdr p o = true)
    ∧ (seesWhole rdr p o = true) ∧ (low64 rdr.num p o = some a) ∧ (a % 4096 ≠ o) ∧ (sget none s.cfg.captures (captureKey rdr a) = none) :=
  ⟨State.reset, .session 0, 0, 0x114, 0x110, by decide +kernel⟩

theorem witness_RegisterReadsAnswered_plain : ∃ (s : State) (rdr : Reader) (p : Nat) (o : Nat), (s.readable rdr p o = true)
    ∧ (seesWhole rdr p o = true) ∧ (low64 rdr.num p o = none) ∧ (o ≠ 0x008) ∧ (¬(p = 8 ∧ o = 0x128)) :=
  ⟨State.reset, .keel, 0x40, 0x014, by decide +kernel⟩

theorem witness_RegisterReadsAnswered_pageStatus : ∃ (s : State) (rdr : Reader) (p : Nat), (s.readable rdr p 0x008 = true)
    ∧ (seesWhole rdr p 0x008 = true) :=
  ⟨State.reset, .session 0, 0x103F, by decide +kernel⟩

theorem witness_RegisterReadsAnswered_pageStatusView : ∃ (s : State) (h : Nat) (p : Nat), (s.readable (.hart h) p 0x008 = true) ∧ (p < 0x1000) :=
  ⟨after [(.gqCtxvalid, 0, 1)], 0, 0x402, by decide +kernel⟩

theorem witness_RegisterReadsAnswered_peak : ∃ (s : State) (rdr : Reader), (s.readable rdr 8 0x128 = true) :=
  ⟨after [(.pwrPeak, 0, 9)], .session 0, by decide +kernel⟩

theorem witness_HeaderClearsComplete_err : ∃ (s : State) (rdr : Reader) (p : Nat), (s.reaches rdr p 0x020 = true)
    ∧ (s.mayWriteField rdr .errValid p = true) :=
  ⟨State.reset.recordError 0x103F .genConfig 7, .session 0, 0x103F, by decide +kernel⟩

theorem witness_HeaderClearsComplete_pending : ∃ (s : State) (rdr : Reader) (p : Nat) (v : Nat), (s.reaches rdr p 0x010 = true)
    ∧ (s.mayWriteField rdr .evtPending p = true) ∧ (s.rd .evtPending p < 2 ^ 15) ∧ (v < 2 ^ 15) :=
  ⟨State.reset.raise0 0 .genConfig 7 7, .session 0, 0, 0x7FFF, by decide +kernel⟩

theorem witness_ConfigurationCommandsComplete_stage : ∃ (s : State) (rdr : Reader) (p : Nat), (s.reaches rdr p 0x034 = true)
    ∧ (s.mayWriteField rdr .stage p = true) :=
  ⟨State.reset, .session 0, 0x103F, by decide +kernel⟩

theorem witness_ConfigurationCommandsComplete_discard : ∃ (s : State) (rdr : Reader) (p : Nat), (s.reaches rdr p 0x034 = true)
    ∧ (s.mayWriteField rdr .discard p = true) :=
  ⟨{ State.reset with cfg := { State.reset.cfg with shadows := [(Reg.fhLevelmin.key 0, some 7)] } }, .session 0, 0x428, by decide +kernel⟩

theorem witness_ConfigurationCommandsComplete_clean : ∃ (s : State) (rdr : Reader) (p : Nat), (s.reaches rdr p 0x034 = true)
    ∧ (s.mayWriteField rdr .commit p = true) ∧ (s.dirtyOn p = []) ∧ (s.cfg.adopting = []) ∧ (s.flt.routes = []) :=
  ⟨State.reset, .session 0, 0x103F, by decide +kernel⟩

theorem witness_ConfigurationCommandsComplete_refused : ∃ (s : State) (rdr : Reader) (p : Nat) (st : Status), (s.reaches rdr p 0x034 = true)
    ∧ (s.mayWriteField rdr .commit p = true) ∧ ((s.reply rdr .ok 0).pageCheck ((s.reply rdr .ok 0).after (s.candidates p)) p (s.candidates p) = st)
    ∧ (st ≠ .ok) :=
  ⟨{ after [(.seqMaxbatch, 0, 4)] with cfg := { State.reset.cfg with shadows := [(Reg.seqMaxtok.key 0, some 2)] } }, .session 0, 0x400, .seqConfig, by decide +kernel⟩

theorem witness_ConfigurationCommandsComplete_commit : ∃ (s : State) (v : Nat), (s.isClaim 0 = false)
    ∧ (s.cfg.shadows = [(Reg.fhLevelmin.key 0, some v)]) ∧ (s.cfg.adopting = []) ∧ (v < 8) :=
  ⟨{ State.reset with cfg := { State.reset.cfg with shadows := [(Reg.fhLevelmin.key 0, some 7)] } }, 7, by decide +kernel⟩

theorem witness_ConfigurationCommandsComplete_commitStaged : ∃ (s : State) (v : Nat), (s.isClaim 0 = false)
    ∧ (s.cfg.shadows = [(Reg.fhLevelmin.key 0, some v)]) ∧ (s.cfg.staged = [(0x428, true)]) ∧ (s.cfg.adopting = []) ∧ (v < 8) :=
  ⟨{ State.reset with cfg := { State.reset.cfg with shadows := [(Reg.fhLevelmin.key 0, some 7)], staged := [(0x428, true)] } }, 7, by decide +kernel⟩

theorem witness_ConfigurationCommandsComplete_noneStaged : ∃ (s : State), (s.isClaim 0 = false) ∧ (s.cfg.staged = []) :=
  ⟨State.reset, by decide +kernel⟩

theorem witness_ConfigurationCommandsComplete_adopt : ∃ (s : State) (isl : Nat) (c : Nat) (v : Nat) (e : Nat), (c < 64) ∧ (v < 3) ∧ (e < 2 ^ 32)
    ∧ (s.cfg.adopting = [⟨e, ctxPage c, [(Reg.ctxOvfmode.key c, v)], [(isl, none)]⟩]) ∧ (s.mayAdopt isl none = true) :=
  ⟨{ State.reset with cfg := { State.reset.cfg with adopting := [⟨1, 0x103F, [(Reg.ctxOvfmode.key 63, 2)], [(191, none)]⟩] } }, 191, 63, 2, 1, by decide +kernel⟩

theorem witness_ConfigurationCommandsComplete_adoptOne : ∃ (s : State) (isl : Nat) (a : Adopting), (s.cfg.adopting = [a])
    ∧ (a.islands.filter (· ≠ (isl, none)) ≠ []) ∧ (s.mayAdopt isl none = true) :=
  ⟨{ State.reset with cfg := { State.reset.cfg with adopting := [⟨1, 0x103F, [(Reg.ctxOvfmode.key 63, 2)], [(190, none), (191, none)]⟩] } }, 191, ⟨1, 0x103F, [(Reg.ctxOvfmode.key 63, 2)], [(190, none), (191, none)]⟩, by decide +kernel⟩

theorem witness_ConfigurationCommandsComplete_adoptLater : ∃ (s : State) (isl : Nat) (ctx : Option Nat), (s.mayAdopt isl ctx = false) :=
  ⟨after [(.smpRun, 5, 1)], 308, none, by decide +kernel⟩

theorem witness_ClockCommandsComplete_frequency : ∃ (s : State) (isl : Nat) (freq : Nat) (volt : Nat), (variableIsland isl = true)
    ∧ (s.rd .islState isl = 1) ∧ (¬(isl < 192 ∧ s.pow.limited = true)) ∧ (freqWithin isl freq = freq) ∧ (volt < 2 ^ 12) :=
  ⟨State.reset.wr .islState 192 1, 192, 3000, 4095, by decide +kernel⟩

theorem witness_ClockCommandsComplete_wrap : ∃ (s : State), (s.now = 2 ^ 64 - 1) :=
  ⟨State.reset.wr .glbDevtime 0 (2 ^ 64 - 1), by decide +kernel⟩

theorem witness_ClockCommandsComplete_reference : ∃ (s : State), (s.flag .glbDevtimemon 0 = false) :=
  ⟨State.reset, by decide +kernel⟩

theorem witness_ClockCommandsComplete_held : ∃ (s : State) (isl : Nat), ((variableIsland isl = false ∨ s.rd .islState isl ≠ 1)) :=
  ⟨State.reset, 316, by decide +kernel⟩

theorem witness_GatingAndIslandResetsComplete_gate : ∃ (s : State) (isl : Nat), (s.flag .pwrGateen 0 = true) ∧ (s.rd .islState isl = 1)
    ∧ (s.islandIdle isl = true) :=
  ⟨State.reset.wr .islState 302 1, 302, by decide +kernel⟩

theorem witness_GatingAndIslandResetsComplete_ungate : ∃ (s : State) (isl : Nat), (s.rd .islState isl = 2) ∧ (isl < 317) :=
  ⟨State.reset.wr .islState 316 2, 316, by decide +kernel⟩

theorem witness_GatingAndIslandResetsComplete_watchdogEngine : ∃ (s : State) (isl : Nat), (((298 ≤ isl ∧ isl < 302) ∨ (303 ≤ isl ∧ isl < 309)))
    ∧ (s.pow.resetting = none) :=
  ⟨{ State.reset with pow := { PowerState.start with resetting := none } }, 308, by decide +kernel⟩

theorem witness_GatingAndIslandResetsComplete_watchdogCxl : ∃ (s : State) (p : Nat), (p < 8) ∧ (s.pow.resetting = none) :=
  ⟨{ State.reset with pow := { PowerState.start with resetting := none } }, 7, by decide +kernel⟩

theorem witness_GatingAndIslandResetsComplete_complete : ∃ (s : State) (isl : Nat), (resettable isl = true) ∧ (s.rd .islState isl = 0)
    ∧ (s.pow.resetting = none) :=
  ⟨{ State.reset with pow := { PowerState.start with resetting := none } }, 288, by decide +kernel⟩

theorem witness_SupplyEventsComplete_excursion : ∃ (s : State) (watts : Nat) (long : Bool), (s.rd .fuseCeiling 0 < watts)
    ∧ ((5500 < watts ∨ long = true)) :=
  ⟨State.reset.wr .islState 191 1, 5501, false, by decide +kernel⟩

theorem witness_SupplyEventsComplete_on : ∃ (s : State) (straps : Nat) (hot : Bool), (s.pow.on = false) ∧ (s.pow.heldOff = false)
    ∧ (¬(s.pow.tripped = true ∧ hot = true)) ∧ (straps < 2 ^ 16) :=
  ⟨{ State.reset with pow := { PowerState.start with on := false } }, 65535, true, by decide +kernel⟩

theorem witness_SupplyEventsComplete_short : ∃ (s : State) (watts : Nat), (s.rd .fuseCeiling 0 < watts) ∧ (watts ≤ 5500) :=
  ⟨State.reset.wr .fuseCeiling 0 5000, 5500, by decide +kernel⟩

theorem witness_SupplyEventsComplete_below : ∃ (s : State) (watts : Nat), (watts ≤ s.rd .fuseCeiling 0) :=
  ⟨State.reset, 0, by decide +kernel⟩

theorem witness_SupplyEventsComplete_held : ∃ (s : State) (hot : Bool), (s.pow.on = false) ∧ ((s.pow.heldOff = true ∨ (s.pow.tripped = true
    ∧ hot = true))) :=
  ⟨{ State.reset with pow := { PowerState.start with on := false, tripped := true } }, true, by decide +kernel⟩

theorem witness_ThermalEventsComplete_throttle : ∃ (s : State) (isl : Nat), (variableIsland isl = true) ∧ (s.rd .islState isl = 1)
    ∧ (s.rd .islFreq isl < 2 ^ 12) :=
  ⟨(State.reset.wr .islState 207 1).wr .islFreq 207 900, 207, by decide +kernel⟩

theorem witness_ThermalEventsComplete_fabric : ∃ (s : State) (d : Nat) (n : Nat), (d < 2) ∧ (n < 96) ∧ (s.rd .islState (96 * d + n) = 1)
    ∧ (s.rd .islFreq (96 * d + n) < 2 ^ 12) :=
  ⟨(State.reset.wr .islState 191 1).wr .islFreq 191 900, 1, 95, by decide +kernel⟩

theorem witness_ModuleWideResetsComplete_module : ∃ (s : State), (s.pow.resetting ≠ some .module) ∧ (s.pow.resetting ≠ some .powerOn) :=
  ⟨{ State.reset with pow := { PowerState.start with resetting := none } }, by decide +kernel⟩

theorem witness_ModuleWideResetsComplete_pin : ∃ (s : State) (low : Nat), (10000 ≤ low) ∧ (s.pow.on = true) ∧ (s.pow.heldOff = false)
    ∧ (s.rd .pwrState 0 = 0) ∧ (s.pow.resetting ≠ some .module) ∧ (s.pow.resetting ≠ some .powerOn) :=
  ⟨{ State.reset with pow := { PowerState.start with resetting := none } }, 10000, by decide +kernel⟩

theorem witness_ModuleWideResetsComplete_warm : ∃ (s : State), (s.pow.resetting = none) ∧ (s.pow.warmWaits = none) ∧ (s.flightWork = false) :=
  ⟨{ State.reset with pow := { PowerState.start with resetting := none } }, by decide +kernel⟩

theorem witness_ModuleWideResetsComplete_complete : ∃ (s : State), (s.pow.resetting = some .module) :=
  ⟨{ State.reset with pow := { PowerState.start with resetting := some .module } }, by decide +kernel⟩

theorem witness_ModuleWideResetsComplete_pinP2 : ∃ (s : State) (low : Nat), (10000 ≤ low) ∧ (s.pow.on = true) ∧ (s.pow.heldOff = false)
    ∧ (s.rd .pwrState 0 = 2) ∧ (bitAt (s.rd .pwrWakemask 0) 4 = true) :=
  ⟨steady (State.reset.wr .pwrState 0 2), 10000, by decide +kernel⟩

theorem witness_ModuleWideResetsComplete_pinShort : ∃ (low : Nat), (low < 1000) :=
  ⟨999, by decide +kernel⟩

theorem witness_ModuleWideResetsComplete_warmWaits : ∃ (s : State), (s.pow.resetting = none) ∧ (s.pow.warmWaits = none) ∧ (s.flightWork = true) :=
  ⟨steady (after [(.fltState, 0, fltMember), (.fltMembervalid, 0, 1), (.fhArm, 0, 1)]), by decide +kernel⟩

theorem witness_P2EntryAndWakeComplete_enter : ∃ (s : State), (s.p2Conditions.all (fun q => q.1) = true) :=
  ⟨allRunning, allRunning_p2⟩

theorem witness_P2EntryAndWakeComplete_reach : ∃ (s : State), (s.rd .pwrState 0 = 1) ∧ (s.pow.wakeHeld = none) :=
  ⟨State.reset.wr .pwrState 0 1, by decide +kernel⟩

theorem witness_P2EntryAndWakeComplete_wake : ∃ (s : State) (src : Nat) (idx : Nat), (1 ≤ src ∧ src ≤ 6) ∧ (idx < 64)
    ∧ (bitAt (s.rd .pwrWakemask 0) (src - 1) = true) ∧ (s.rd .pwrState 0 = 2) :=
  ⟨State.reset.wr .pwrState 0 2, 6, 63, by decide +kernel⟩

theorem witness_P2EntryAndWakeComplete_woken : ∃ (s : State), (s.rd .pwrState 0 = 3) ∧ (s.pow.deferred = []) ∧ (s.pow.doorbells = []) :=
  ⟨State.reset.wr .pwrState 0 3, by decide +kernel⟩

theorem witness_P2EntryAndWakeComplete_unmet : ∃ (s : State) (n : Nat) (st : Status), (firstUnmet 1 s.p2Conditions = some (n, st)) :=
  ⟨after [(.fltState, 0, 4)], 1, .pwrInFlight, by decide +kernel⟩

theorem witness_P2EntryAndWakeComplete_heldWake : ∃ (s : State) (src : Nat) (idx : Nat), (s.rd .pwrState 0 = 1) ∧ (s.pow.wakeHeld = some (src, idx))
    ∧ (src < 16) :=
  ⟨{ State.reset.wr .pwrState 0 1 with pow := { PowerState.start with wakeHeld := some (6, 1) } }, 6, 1, by decide +kernel⟩

theorem witness_P2EntryAndWakeComplete_rights : ∃ (rdr : Reader), (rdr ≠ .session 0) :=
  ⟨.hart 63, by decide +kernel⟩

theorem witness_KeelCommandsComplete_bridle : ∃ (kind : Nat), (kind < 16) :=
  ⟨3, by decide +kernel⟩

theorem witness_KeelCommandsComplete_kick : ∃ (v : Nat), (v % 2 = 1) :=
  ⟨1, by decide +kernel⟩

theorem witness_KeelCommandsComplete_expire : ∃ (s : State), (s.rd .keelState 0 = 2) ∧ (s.sec.kick + s.rd .keelWdperiod 0 * 1000000 ≤ s.now) :=
  ⟨(State.reset.wr .keelState 0 2).wr .glbDevtime 0 100000000, by decide +kernel⟩

theorem witness_KeelCommandsComplete_kickOther : ∃ (rdr : Reader), (rdr ≠ .keel) :=
  ⟨.session 0, by decide +kernel⟩

theorem witness_QuadCommandsComplete_start : ∃ (s : State) (rdr : Reader) (q : Nat) (v : Nat) (h : Nat), (q < 16) ∧ (s.mayQuad rdr q = true)
    ∧ (s.flag .gqCtxvalid q = true) ∧ (s.ctxLive (s.rd .gqCtx q) = true) ∧ (h < 4) ∧ (bitAt v h = true) ∧ (bitsAt (s.rd .gqHarts q) (2 * h) 2 = 0) :=
  ⟨((State.reset.wr .gqCtxvalid 15 1).wr .ctxState 0 1), .session 0, 15, 8, 3, by decide +kernel⟩

theorem witness_QuadCommandsComplete_stop : ∃ (s : State) (rdr : Reader) (q : Nat) (v : Nat) (h : Nat), (q < 16) ∧ (s.mayQuad rdr q = true) ∧ (h < 4)
    ∧ (bitAt v h = true) :=
  ⟨State.reset, .session 0, 15, 8, 3, by decide +kernel⟩

theorem witness_QuadCommandsComplete_state : ∃ (s : State) (rdr : Reader) (q : Nat) (v : Nat), (q < 16) ∧ (s.mayQuad rdr q = true) ∧ (v % 16 ≠ 0)
    ∧ ((s.flag .gqCtxvalid q && s.ctxLive (s.rd .gqCtx q)) = false) :=
  ⟨State.reset, .session 0, 15, 15, by decide +kernel⟩

theorem witness_QuadCommandsComplete_rights : ∃ (s : State) (rdr : Reader) (q : Nat), (q < 16) ∧ (s.mayQuad rdr q = false) :=
  ⟨State.reset, .session 63, 15, by decide +kernel⟩

theorem witness_TallyOperations_signal : ∃ (s : State) (isl : Nat) (ctx : Nat) (vid : Nat) (n : Nat) (e : Nat) (foreign : Bool),
    ((s.tallyEntry (bankOfIsland isl) ctx vid).toOption = some e) ∧ (0 < n) ∧ ((foreign = true → bitAt e 21 = true))
    ∧ (s.tallyVal (bitsAt e 0 20) + n ≤ 0xFFFFFFFF) :=
  ⟨tallied [], 191, 0, 1, 0xFFFFFFFF, 0x100000, false, by decide +kernel⟩

theorem witness_TallyOperations_overflow : ∃ (s : State) (isl : Nat) (ctx : Nat) (vid : Nat) (n : Nat) (e : Nat) (foreign : Bool),
    ((s.tallyEntry (bankOfIsland isl) ctx vid).toOption = some e) ∧ (0 < n) ∧ ((foreign = true → bitAt e 21 = true))
    ∧ (0xFFFFFFFF < s.tallyVal (bitsAt e 0 20) + n) :=
  ⟨tallied [], 191, 0, 1, 0x100000000, 0x100000, false, by decide +kernel⟩

theorem witness_TallyOperations_wait : ∃ (s : State) (isl : Nat) (ctx : Nat) (vid : Nat) (n : Nat) (e : Nat),
    ((s.tallyEntry (bankOfIsland isl) ctx vid).toOption = some e) ∧ (s.tallyQueue (bitsAt e 0 20) = []) ∧ (n ≤ s.tallyVal (bitsAt e 0 20)) :=
  ⟨(tallied []).setTallyVal 0 5, 191, 0, 1, 5, 0x100000, by decide +kernel⟩

theorem witness_TallyOperations_blocks : ∃ (s : State) (isl : Nat) (ctx : Nat) (vid : Nat) (n : Nat) (e : Nat),
    ((s.tallyEntry (bankOfIsland isl) ctx vid).toOption = some e) ∧ (0 < n)
    ∧ ((s.tallyQueue (bitsAt e 0 20) ≠ [] ∨ s.tallyVal (bitsAt e 0 20) < n)) :=
  ⟨(tallied []).setTallyVal 0 4, 191, 0, 1, 5, 0x100000, by decide +kernel⟩

theorem witness_TallyOperations_take : ∃ (s : State) (isl : Nat) (ctx : Nat) (vid : Nat) (n : Nat) (e : Nat),
    ((s.tallyEntry (bankOfIsland isl) ctx vid).toOption = some e) ∧ (n ≤ s.tallyVal (bitsAt e 0 20)) :=
  ⟨(tallied []).setTallyVal 0 5, 191, 0, 1, 5, 0x100000, by decide +kernel⟩

theorem witness_TallyOperations_underflow : ∃ (s : State) (isl : Nat) (ctx : Nat) (vid : Nat) (n : Nat) (e : Nat),
    ((s.tallyEntry (bankOfIsland isl) ctx vid).toOption = some e) ∧ (s.tallyVal (bitsAt e 0 20) < n) :=
  ⟨(tallied []).setTallyVal 0 5, 191, 0, 1, 6, 0x100000, by decide +kernel⟩

theorem witness_TallyOperations_set : ∃ (s : State) (e : Nat), (s.tlyGate (.session 0) true = .ok)
    ∧ ((s.tallyEntry 0 (s.rd .tlyCmdctx 0) (s.rd .tlyCmdvid 0)).toOption = some e) :=
  ⟨tallied [(.tlyCmdvid, 0, 1), (.tlyCmdarg, 0, 7)], 0x100000, by decide +kernel⟩

theorem witness_TallyOperations_read : ∃ (s : State) (isl : Nat) (ctx : Nat) (vid : Nat) (e : Nat),
    ((s.tallyEntry (bankOfIsland isl) ctx vid).toOption = some e) :=
  ⟨(tallied []).setTallyVal 0 5, 191, 0, 1, 0x100000, by decide +kernel⟩

theorem witness_TallyOperations_zeroSignal : ∃ (s : State) (isl : Nat) (ctx : Nat) (vid : Nat) (e : Nat),
    ((s.tallyEntry (bankOfIsland isl) ctx vid).toOption = some e) :=
  ⟨tallied [], 191, 0, 1, 0x100000, by decide +kernel⟩

theorem witness_TallyOperations_zeroTake : ∃ (s : State) (isl : Nat) (ctx : Nat) (vid : Nat) (e : Nat),
    ((s.tallyEntry (bankOfIsland isl) ctx vid).toOption = some e) :=
  ⟨tallied [], 191, 0, 1, 0x100000, by decide +kernel⟩

theorem witness_TallyOperations_zeroWait : ∃ (s : State) (isl : Nat) (ctx : Nat) (vid : Nat) (e : Nat),
    ((s.tallyEntry (bankOfIsland isl) ctx vid).toOption = some e) :=
  ⟨tallied [], 191, 0, 1, 0x100000, by decide +kernel⟩

theorem witness_TallyOperations_unmapped : ∃ (s : State) (isl : Nat) (ctx : Nat) (vid : Nat) (st : Status),
    (s.tallyEntry (bankOfIsland isl) ctx vid = .error st) :=
  ⟨State.reset, 191, 0, 0, .tallyUnmapped, rfl⟩

theorem witness_TallyOperations_foreign : ∃ (s : State) (isl : Nat) (ctx : Nat) (vid : Nat) (n : Nat) (e : Nat),
    ((s.tallyEntry (bankOfIsland isl) ctx vid).toOption = some e) ∧ (0 < n) ∧ (bitAt e 21 = false) :=
  ⟨tallied [], 191, 0, 1, 1, 0x100000, by decide +kernel⟩

theorem witness_TallyCommandsComplete_signal : ∃ (s : State) (rdr : Reader) (e : Nat), (s.tlyGate rdr false = .ok)
    ∧ ((s.tallyEntry 0 (s.rd .tlyCmdctx rdr.num) (s.rd .tlyCmdvid rdr.num)).toOption = some e) ∧ (0 < s.rd .tlyCmdarg rdr.num)
    ∧ (s.tallyVal (bitsAt e 0 20) + s.rd .tlyCmdarg rdr.num ≤ 0xFFFFFFFF) :=
  ⟨tallied [(.tlyCmdvid, 0, 1), (.tlyCmdarg, 0, 7)], .session 0, 0x100000, by decide +kernel⟩

theorem witness_TallyCommandsComplete_read : ∃ (s : State) (rdr : Reader) (e : Nat), (s.tlyGate rdr false = .ok)
    ∧ ((s.tallyEntry 0 (s.rd .tlyCmdctx rdr.num) (s.rd .tlyCmdvid rdr.num)).toOption = some e) ∧ (s.tallyVal (bitsAt e 0 20) < 2 ^ 32) :=
  ⟨(tallied [(.tlyCmdvid, 0, 1)]).setTallyVal 0 0xFFFFFFFF, .session 0, 0x100000, by decide +kernel⟩

theorem witness_TallyCommandsComplete_map : ∃ (s : State) (rdr : Reader) (b : Nat), (s.tlyGate rdr false = .ok)
    ∧ (s.tlyMapCheck (s.rd .tlyCmdctx rdr.num) (s.rd .tlyCmdvid rdr.num) (s.rd .tlyCmdarg rdr.num) (s.rd .tlyCmdbank rdr.num) = .ok)
    ∧ (b = s.mapBank (s.rd .tlyCmdbank rdr.num)) ∧ (s.rd .tlyFree b ≤ 2 ^ 18) :=
  ⟨after [(.ctxState, 0, 1), (.tlyCmdvid, 0, 65535), (.tlyCmdarg, 0, 1), (.tlyCmdbank, 0, 3)], .session 0, 3, by decide +kernel⟩

theorem witness_TallyCommandsComplete_unmap : ∃ (s : State) (rdr : Reader) (e : Nat), (s.tlyGate rdr false = .ok) ∧ (s.rd .tlyCmdarg rdr.num = 1)
    ∧ ((s.ttEntry (s.rd .tlyCmdctx rdr.num) (s.rd .tlyCmdvid rdr.num)).toOption = some e) ∧ (s.rd .tlyCmdvid rdr.num < 65536)
    ∧ (s.tallyQueue (bitsAt e 0 20) = []) :=
  ⟨(tallied [(.tlyCmdvid, 0, 1), (.tlyCmdarg, 0, 1)]).setTallyVal 0 9, .session 0, 0x100000, by decide +kernel⟩

theorem witness_TallyCommandsComplete_retry : ∃ (s : State) (a : Agent) (r : RetryWait) (e : Nat), (s.tly.retry = [r]) ∧ (r.agent = a)
    ∧ (r.since + 1000000 ≤ s.now) ∧ ((s.tallyEntry r.bank r.ctx r.vid).toOption = some e) ∧ (s.tallyQueue (bitsAt e 0 20) = []) ∧ (0 < r.n)
    ∧ (r.n ≤ s.tallyVal (bitsAt e 0 20)) :=
  ⟨{ (tallied [(.glbDevtime, 0, 1000000)]).setTallyVal 0 5 with tly := { ((tallied []).setTallyVal 0 5).tly with retry := [⟨.sampler 5, 0, 0, 1, 5, 0⟩] } }, .sampler 5, ⟨.sampler 5, 0, 0, 1, 5, 0⟩, 0x100000, by decide +kernel⟩

theorem witness_TallyCommandsComplete_early : ∃ (s : State) (r : RetryWait), (s.tly.retry = [r]) ∧ (s.now < r.since + 1000000) :=
  ⟨{ tallied [(.glbDevtime, 0, 999999)] with tly := { (tallied []).tly with retry := [⟨.sampler 5, 0, 0, 1, 5, 0⟩] } }, ⟨.sampler 5, 0, 0, 1, 5, 0⟩, by decide +kernel⟩

theorem witness_TallyCommandsComplete_gated : ∃ (s : State) (rdr : Reader) (st : Status), (s.tlyGate rdr false = st) ∧ (st ≠ .ok) :=
  ⟨State.reset, .session 63, .sesRights, by decide +kernel⟩

theorem witness_TallyCommandsComplete_gatedSet : ∃ (s : State) (rdr : Reader) (st : Status), (s.tlyGate rdr true = st) ∧ (st ≠ .ok) :=
  ⟨State.reset, .hart 63, .sesRights, by decide +kernel⟩

theorem witness_TallyCommandsComplete_mapRefused : ∃ (s : State) (rdr : Reader) (st : Status), (s.tlyGate rdr false = .ok)
    ∧ (s.tlyMapCheck (s.rd .tlyCmdctx rdr.num) (s.rd .tlyCmdvid rdr.num) (s.rd .tlyCmdarg rdr.num) (s.rd .tlyCmdbank rdr.num) = st) ∧ (st ≠ .ok) :=
  ⟨after [(.ctxState, 0, 1)], .session 0, .tallyCmd, by decide +kernel⟩

theorem witness_TallyCommandsComplete_unmapRefused : ∃ (s : State) (rdr : Reader) (st : Status), (s.tlyGate rdr false = .ok)
    ∧ (s.tlyUnmapCheck (s.rd .tlyCmdctx rdr.num) (s.rd .tlyCmdvid rdr.num) (s.rd .tlyCmdarg rdr.num) = st) ∧ (st ≠ .ok) :=
  ⟨after [(.ctxState, 0, 1), (.tlyCmdarg, 0, 1), (.tlyCmdvid, 0, 65535)], .session 0, .tallyUnmapped, by decide +kernel⟩

theorem witness_TasksAndTilesStart_take : ∃ (s : State) (ring : Nat) (ecc : List (Nat × EccError)) (e : WorkEntry), (s.ringPending ring 0 = true)
    ∧ (s.rd .ctxState (s.rd .dbCtx ring) = 2) ∧ (sget 0 s.ctxRunning (s.rd .dbCtx ring) ≠ 4) ∧ (s.serves (s.rd .dbCtx ring) = true)
    ∧ (s.stopped (s.rd .dbCtx ring) = false) ∧ (((s.eccFound ecc).takeWork ring).2 = some e) ∧ (e.kind = 1) ∧ (e.ptr % 64 = 0) :=
  ⟨ringOn 0 [(0, 1#8), (8, 0x40#8)], 5, [], ⟨1, false, 0, 0x40, 0, 0⟩, by decide +kernel⟩

theorem witness_TasksAndTilesStart_place : ∃ (s : State) (c : Nat) (n : Nat) (x : Waiting), (sget [] s.clu.waiting c = [x]) ∧ (s.stopped c = false)
    ∧ (sget 0 s.ctxRunning c ≠ 4) ∧ (s.flag .ctxLanesok c = true) ∧ (s.effClusters c ≠ 0) ∧ (s.placeFor c = some n) :=
  ⟨{ after [(.ctxState, 0, 2), (.ctxSlotvalid, 0, 1), (.ctxMask, 0, 2 ^ 191), (.ctxLanesok, 0, 1)] with clu := { State.reset.clu with waiting := [(0, [⟨5, ⟨0, 5, 0, false, 0, 0, 64, 0, 0, false, false, none, 64, false⟩⟩])] } }, 0, 191, ⟨5, ⟨0, 5, 0, false, 0, 0, 64, 0, 0, false, false, none, 64, false⟩⟩, by decide +kernel⟩

theorem witness_TasksAndTilesStart_boundary : ∃ (s : State) (n : Nat) (k : Nat) (ecc : List (Nat × EccError)) (tk : Task) (td : List Byte),
    (s.overlay (islCluster n) = []) ∧ (s.atBoundary n = true) ∧ (k < 8) ∧ (((s.eccFound ecc).slot n k).task = some tk) ∧ ((∀ j < 8, j ≠ k →
    ((s.eccFound ecc).slot n j).task = none)) ∧ (tk.ended = false ∧ ((s.eccFound ecc).slot n k).tally = none ∧ ((s.eccFound ecc).slot n k).queue = [])
    ∧ ((s.eccFound ecc).stopped tk.ctx = false) ∧ (((s.eccFound ecc).tdAt tk.ctx tk.next).toOption = some td)
    ∧ ((s.eccFound ecc).mustWait n k tk.ctx td = false) ∧ (tdDefer td = false) :=
  ⟨{ ringOn 0 [(64, 6#8)] with clu := { State.reset.clu with clusters := [(191, { Cluster.idle with slots := [(0, { Slot.empty with task := some ⟨0, 5, 0, false, 0, 0, 64, 0, 0, false, false, none, 64, false⟩ })] })] } }, 191, 0, [], ⟨0, 5, 0, false, 0, 0, 64, 0, 0, false, false, none, 64, false⟩, leBytes 1 6 ++ zeros 191, by decide +kernel⟩

theorem witness_TasksAndTilesStart_deferred : ∃ (s : State) (n : Nat) (k : Nat) (ecc : List (Nat × EccError)) (tk : Task) (d : Nat) (q : List Nat),
    (s.overlay (islCluster n) = []) ∧ (s.atBoundary n = true) ∧ (k < 8) ∧ ((s.slot n k).task = some tk) ∧ ((∀ j < 8, j ≠ k →
    (s.slot n j).task = none)) ∧ (tk.ended = true ∧ tk.lastDone = false ∧ (s.slot n k).tally = none) ∧ ((s.eccFound ecc).clu = s.clu)
    ∧ ((s.slot n k).queue = d :: q) ∧ ((s.eccFound ecc).stopped tk.ctx = false) ∧ ((s.eccFound ecc).queueWaits n k tk.ctx d = false) :=
  ⟨{ ringOn 0 [(64, 6#8)] with clu := { State.reset.clu with clusters := [(191, { Cluster.idle with slots := [(0, { Slot.empty with queue := [64], task := some ⟨0, 5, 0, false, 0, 0, 64, 0, 0, true, false, none, 64, true⟩ })] })] } }, 191, 0, [], ⟨0, 5, 0, false, 0, 0, 64, 0, 0, true, false, none, 64, true⟩, 64, [], by decide +kernel⟩

theorem witness_TasksAndTilesStart_enqueued : ∃ (s : State) (n : Nat) (k : Nat) (ecc : List (Nat × EccError)) (tk : Task) (td : List Byte),
    (s.overlay (islCluster n) = []) ∧ (s.atBoundary n = true) ∧ (k < 8) ∧ (((s.eccFound ecc).slot n k).task = some tk) ∧ ((∀ j < 8, j ≠ k →
    ((s.eccFound ecc).slot n j).task = none)) ∧ (tk.ended = false ∧ ((s.eccFound ecc).slot n k).tally = none ∧ ((s.eccFound ecc).slot n k).queue = [])
    ∧ ((s.eccFound ecc).stopped tk.ctx = false) ∧ (((s.eccFound ecc).tdAt tk.ctx tk.next).toOption = some td) ∧ (tdDefer td = true)
    ∧ ((s.eccFound ecc).deferCheck tk.ctx td = .ok) :=
  ⟨{ ringOn 0 [(64, 0#8), (65, 0x40#8)] with clu := { State.reset.clu with clusters := [(191, { Cluster.idle with slots := [(0, { Slot.empty with task := some ⟨0, 5, 0, false, 0, 0, 64, 0, 0, false, false, none, 64, false⟩ })] })] } }, 191, 0, [], ⟨0, 5, 0, false, 0, 0, 64, 0, 0, false, false, none, 64, false⟩, leBytes 2 0x4000 ++ zeros 190, by decide +kernel⟩

theorem witness_TilesRun_matmul : ∃ (s : State) (n : Nat) (x : Tile), (s.overlay (islCluster n) = []) ∧ (s.chosenTile n 0 = some x) ∧ (x.pred = true)
    ∧ (metaOk x.td (s.slot n x.slot).scratch = true) ∧ (tdDrains x.td = false) :=
  ⟨tileOn (tdOf 0) .chosen, 191, theTile (tdOf 0) .chosen, by decide +kernel⟩

theorem witness_TilesRun_matmulUnpredicated : ∃ (s : State) (n : Nat) (x : Tile) (ecc : List (Nat × EccError)), (s.overlay (islCluster n) = [])
    ∧ (s.chosenTile n 0 = some x) ∧ (x.pred = false) ∧ (tdPreden x.td = false) ∧ (metaOk x.td ((s.eccFound ecc).slot n x.slot).scratch = true)
    ∧ (tdDrains x.td = false) :=
  ⟨{ tileOn (tdOf 0) .chosen with clu := { State.reset.clu with clusters := [(191, { Cluster.idle with cur := some (Tile.start 0 0 0 (tdOf 0) false) })] } }, 191, Tile.start 0 0 0 (tdOf 0) false, [], by decide +kernel⟩

theorem witness_TilesRun_matmulDrains : ∃ (s : State) (n : Nat) (x : Tile), (s.overlay (islCluster n) = []) ∧ (s.chosenTile n 0 = some x)
    ∧ (x.pred = true) ∧ (metaOk x.td (s.slot n x.slot).scratch = true) ∧ (tdDrains x.td = true) :=
  ⟨tileOn (zeros 56 ++ [0x20#8] ++ zeros 135) .chosen, 191, theTile (zeros 56 ++ [0x20#8] ++ zeros 135) .chosen, by decide +kernel⟩

theorem witness_TilesRun_matmulBadMeta : ∃ (s : State) (n : Nat) (x : Tile), (s.overlay (islCluster n) = []) ∧ (s.chosenTile n 0 = some x)
    ∧ (x.pred = true) ∧ (x.status = .ok) ∧ (metaOk x.td (s.slot n x.slot).scratch = false) :=
  ⟨tileOn (leBytes 2 0x100 ++ zeros 6 ++ leBytes 2 16 ++ leBytes 2 16 ++ leBytes 2 32 ++ zeros 178) .chosen, 191, theTile (leBytes 2 0x100 ++ zeros 6 ++ leBytes 2 16 ++ leBytes 2 16 ++ leBytes 2 32 ++ zeros 178) .chosen, by decide +kernel⟩

theorem witness_TilesRun_matmulStopped : ∃ (s : State) (n : Nat) (x : Tile), (s.overlay (islCluster n) = []) ∧ (s.chosenTile n 0 = some x)
    ∧ (x.pred = true) ∧ (x.status = .ok) ∧ (metaOk x.td (s.slot n x.slot).scratch = true) ∧ ((s.cluster n).residues = []) :=
  ⟨tileOn (tdOf 0) .chosen, 191, theTile (tdOf 0) .chosen, by decide +kernel⟩

theorem witness_TilesRun_matmulSkipped : ∃ (s : State) (n : Nat) (x : Tile) (b : List Byte) (ecc : List (Nat × EccError)),
    (s.overlay (islCluster n) = []) ∧ (s.chosenTile n 0 = some x) ∧ (x.pred = false) ∧ (tdPreden x.td = true)
    ∧ (((s.eccFound ecc).dvaRead x.ctx (tdAux x.td + 4 * tdExpert x.td) 4).toOption = some b) ∧ (min (leNat b) (tdCap x.td) ≤ tdRowbase x.td) :=
  ⟨{ tileOn (leBytes 2 0x1000 ++ zeros 190) .chosen with mem := (ringOn 0 []).mem, clu := { State.reset.clu with clusters := [(191, { Cluster.idle with cur := some (Tile.start 0 0 0 (leBytes 2 0x1000 ++ zeros 190) false) })] } }, 191, Tile.start 0 0 0 (leBytes 2 0x1000 ++ zeros 190) false, zeros 4, [], by decide +kernel⟩

theorem witness_TilesRun_attn : ∃ (s : State) (n : Nat) (x : Tile) (a : Acc) (ecc : List (Nat × EccError)), (s.overlay (islCluster n) = [])
    ∧ (s.chosenTile n 1 = some x)
    ∧ ((s.eccFound ecc).cowBusy ((s.eccFound ecc).rd .seqLayers x.ctx) (tileHead x.td ((s.eccFound ecc).slot n x.slot).scratch) ((s.eccFound ecc).rd .kvTokpage x.ctx) = false)
    ∧ (((s.eccFound ecc).attnRun n x).2.acc = some a) :=
  ⟨tileOn (tdOf 1) .chosen, 191, theTile (tdOf 1) .chosen, ⟨0, 0, 0, 0, [], false⟩, [], by decide +kernel⟩

theorem witness_TilesRun_attnFails : ∃ (s : State) (n : Nat) (x : Tile) (ecc : List (Nat × EccError)), (s.overlay (islCluster n) = [])
    ∧ (s.chosenTile n 1 = some x)
    ∧ ((s.eccFound ecc).cowBusy ((s.eccFound ecc).rd .seqLayers x.ctx) (tileHead x.td ((s.eccFound ecc).slot n x.slot).scratch) ((s.eccFound ecc).rd .kvTokpage x.ctx) = false)
    ∧ (((s.eccFound ecc).attnRun n x).2.acc = none) :=
  ⟨{ tileOn (tdOf 1) .chosen with clu := { State.reset.clu with clusters := [(191, { Cluster.idle with cur := some (theTile (tdOf 1) .chosen), slots := [(0, { Slot.empty with scratch := [(12, 1#8), (17, 1#8)] })] })] } }, 191, theTile (tdOf 1) .chosen, [], by decide +kernel⟩

theorem witness_TilesRun_attnNothing : ∃ (s : State) (n : Nat) (x : Tile) (ecc : List (Nat × EccError)), (s.overlay (islCluster n) = [])
    ∧ (s.chosenTile n 1 = some x) ∧ ((s.eccFound ecc).clu = s.clu) ∧ ((tileHead x.td (s.slot n x.slot).scratch).append = false)
    ∧ ((tileHead x.td (s.slot n x.slot).scratch).pos + (tileHead x.td (s.slot n x.slot).scratch).tokens = 0) ∧ (tdMaskblk x.td = 0) :=
  ⟨tileOn (tdOf 1) .chosen, 191, theTile (tdOf 1) .chosen, [], by decide +kernel⟩

theorem witness_TilesRun_copyIn : ∃ (s : State) (n : Nat) (x : Tile) (ecc : List (Nat × EccError)), (s.chosenTile n 2 = some x)
    ∧ ((copyRows x.td).all (fun r => ((s.eccFound ecc).dvaRead x.ctx r.1 (tdK x.td)).toOption.isSome) = true) :=
  ⟨{ tileOn (leBytes 1 2 ++ zeros 7 ++ leBytes 2 1 ++ zeros 2 ++ leBytes 2 16 ++ zeros 178) .chosen with mem := (ringOn 0 []).mem }, 191, theTile (leBytes 1 2 ++ zeros 7 ++ leBytes 2 1 ++ zeros 2 ++ leBytes 2 16 ++ zeros 178) .chosen, [], by decide +kernel⟩

theorem witness_TilesRun_copyOut : ∃ (s : State) (n : Nat) (x : Tile), (s.chosenTile n 3 = some x) :=
  ⟨tileOn (tdOf 3) .chosen, 191, theTile (tdOf 3) .chosen, by decide +kernel⟩

theorem witness_TilesRun_copyOutRow : ∃ (s : State) (n : Nat) (x : Tile) (p : Place) (ecc : List (Nat × EccError)), (s.chosenTile n 3 = some x)
    ∧ (tdM x.td = 1) ∧ (0 < tdK x.td) ∧ (((s.eccFound ecc).translate x.ctx (tdOut x.td) .write false).toOption = some p) ∧ (p.target = 0)
    ∧ (tdK x.td ≤ p.room) ∧ ((s.eccFound ecc).nearWritable p.pa (tdK x.td) = true) :=
  ⟨{ tileOn (leBytes 1 3 ++ zeros 7 ++ leBytes 2 1 ++ zeros 2 ++ leBytes 2 16 ++ zeros 178) .chosen with mem := mappedCtx.mem }, 191, theTile (leBytes 1 3 ++ zeros 7 ++ leBytes 2 1 ++ zeros 2 ++ leBytes 2 16 ++ zeros 178) .chosen, ⟨0, 0x4000000, 0x200000⟩, [], by decide +kernel⟩

theorem witness_TilesRun_fence : ∃ (s : State) (n : Nat) (x : Tile), (s.chosenTile n 6 = some x) ∧ ((s.cluster n).draining = false) :=
  ⟨tileOn (tdOf 6) .chosen, 191, theTile (tdOf 6) .chosen, by decide +kernel⟩

theorem witness_TilesRun_vector : ∃ (s : State) (n : Nat) (x : Tile) (p : Place) (e : CoreEffect) (ecc : List (Nat × EccError)),
    ((s.eccFound ecc).chosenTile n 4 = some x) ∧ (((s.eccFound ecc).translate x.ctx (tdAux x.td) .read false).toOption = some p) ∧ (e.loads = []
    ∧ e.stores = [] ∧ e.bad = false) ∧ (e.cycles ≤ 262144) :=
  ⟨{ tileOn (tdOf 4) .chosen with mem := (ringOn 0 []).mem }, 191, theTile (tdOf 4) .chosen, ⟨0, 0x4000000, 0x200000⟩, ⟨68, [], [], [], 0, 0, 32, 1, 4, [], [], false⟩, [], by decide +kernel⟩

theorem witness_TilesRun_vectorStarts : ∃ (s : State) (n : Nat) (x : Tile) (p : Place) (ecc : List (Nat × EccError)),
    ((s.eccFound ecc).chosenTile n 4 = some x) ∧ (((s.eccFound ecc).translate x.ctx (tdAux x.td) .read false).toOption = some p) :=
  ⟨{ tileOn (tdOf 4) .chosen with mem := (ringOn 0 []).mem }, 191, theTile (tdOf 4) .chosen, ⟨0, 0x4000000, 0x200000⟩, [], by decide +kernel⟩

theorem witness_TilesRun_vectorLoads : ∃ (s : State) (n : Nat) (x : Tile) (e : CoreEffect) (ecc : List (Nat × EccError)),
    ((s.eccFound ecc).vecTile n = some x) ∧ (((s.eccFound ecc).core (.vector n)).waitRd = none)
    ∧ (((s.eccFound ecc).core (.vector n)).cycles + e.cycles ≤ 262144) ∧ (e.bad = false) ∧ (((s.eccFound ecc).vecLoads n x e.loads).2 = .ok)
    ∧ ((((s.eccFound ecc).vecLoads n x e.loads).1.vecStores n x e.stores).2 = .ok) :=
  ⟨tileOn (tdOf 4) .under, 191, theTile (tdOf 4) .under, ⟨68, [], [], [], 0, 0, 32, 1, 4, [(2 ^ 63 + 8, 8)], [(2 ^ 63 + 16, zeros 16)], false⟩, [], by decide +kernel⟩

theorem witness_TilesRun_vectorStore : ∃ (s : State) (n : Nat) (a : Nat) (bs : List Byte) (x : Tile) (e : CoreEffect) (ecc : List (Nat × EccError)),
    ((s.eccFound ecc).vecTile n = some x) ∧ (((s.eccFound ecc).core (.vector n)).waitRd = none)
    ∧ (((s.eccFound ecc).core (.vector n)).cycles + e.cycles ≤ 262144) ∧ (e.bad = false) ∧ (e.loads = []) ∧ (e.stores = [(2 ^ 63 + a, bs)])
    ∧ (0 < bs.length) ∧ ((2 ^ 63 + a) % bs.length = 0) ∧ (a + bs.length ≤ (s.eccFound ecc).scrSlice x.ctx) :=
  ⟨tileOn (tdOf 4) .under, 191, 16, zeros 16, theTile (tdOf 4) .under, ⟨68, [], [], [], 0, 0, 32, 1, 4, [], [(2 ^ 63 + 16, zeros 16)], false⟩, [], by decide +kernel⟩

theorem witness_TilesRun_vectorBad : ∃ (s : State) (n : Nat) (x : Tile) (e : CoreEffect) (ecc : List (Nat × EccError)),
    ((s.eccFound ecc).vecTile n = some x) ∧ (((s.eccFound ecc).core (.vector n)).waitRd = none)
    ∧ (((s.eccFound ecc).core (.vector n)).cycles + e.cycles ≤ 262144) ∧ (e.loads = []) ∧ (e.stores = []) ∧ (e.bad = true) ∧ (x.status = .ok) :=
  ⟨tileOn (tdOf 4) .under, 191, theTile (tdOf 4) .under, ⟨68, [], [], [], 0, 0, 32, 1, 4, [], [], true⟩, [], by decide +kernel⟩

theorem witness_TilesRun_tally : ∃ (s : State) (n : Nat) (k : Nat) (e : Nat) (x : Tile), ((s.slot n k).tally = some x) ∧ (x.stage = .chosen)
    ∧ (s.rd .ctxState x.ctx = 2) ∧ ((x.fences && (s.cluster n).draining) = false) ∧ (tdTallyOp x.td = 1)
    ∧ ((s.tallyEntry (bankOfIsland n) x.ctx (tdTallyId x.td)).toOption = some e) ∧ (0 < tdTallyN x.td)
    ∧ (s.tallyVal (bitsAt e 0 20) + tdTallyN x.td ≤ 0xFFFFFFFF) :=
  ⟨{ after [(.ctxState, 0, 2)] with mem := (tallied []).mem, tly := (State.reset.setTallyVal 0 0).tly, clu := { State.reset.clu with clusters := [(191, { Cluster.idle with slots := [(7, { Slot.empty with tally := some (Tile.start 7 0 0 (leBytes 1 5 ++ zeros 59 ++ leBytes 4 0x01FF0001 ++ zeros 128) false) })] })] } }, 191, 7, 0x100000, Tile.start 7 0 0 (leBytes 1 5 ++ zeros 59 ++ leBytes 4 0x01FF0001 ++ zeros 128) false, by decide +kernel⟩

theorem witness_TilesRun_tallyTake : ∃ (s : State) (n : Nat) (k : Nat) (e : Nat) (x : Tile), ((s.slot n k).tally = some x) ∧ (x.stage = .chosen)
    ∧ (s.rd .ctxState x.ctx = 2) ∧ ((x.fences && (s.cluster n).draining) = false) ∧ (tdTallyOp x.td = 3)
    ∧ ((s.tallyEntry (bankOfIsland n) x.ctx (tdTallyId x.td)).toOption = some e) ∧ (tdTallyN x.td ≤ s.tallyVal (bitsAt e 0 20)) :=
  ⟨{ after [(.ctxState, 0, 2)] with mem := (tallied []).mem, tly := (State.reset.setTallyVal 0 255).tly, clu := { State.reset.clu with clusters := [(191, { Cluster.idle with slots := [(7, { Slot.empty with tally := some (Tile.start 7 0 0 (leBytes 1 5 ++ zeros 59 ++ leBytes 4 0x03FF0001 ++ zeros 128) false) })] })] } }, 191, 7, 0x100000, Tile.start 7 0 0 (leBytes 1 5 ++ zeros 59 ++ leBytes 4 0x03FF0001 ++ zeros 128) false, by decide +kernel⟩

theorem witness_TilesRun_tallyWait : ∃ (s : State) (n : Nat) (k : Nat) (e : Nat) (x : Tile), ((s.slot n k).tally = some x) ∧ (x.stage = .chosen)
    ∧ (s.rd .ctxState x.ctx = 2) ∧ ((x.fences && (s.cluster n).draining) = false) ∧ (tdTallyOp x.td = 2)
    ∧ ((s.tallyEntry (bankOfIsland n) x.ctx (tdTallyId x.td)).toOption = some e) ∧ (s.tallyQueue (bitsAt e 0 20) = [])
    ∧ (tdTallyN x.td ≤ s.tallyVal (bitsAt e 0 20)) :=
  ⟨{ after [(.ctxState, 0, 2)] with mem := (tallied []).mem, tly := (State.reset.setTallyVal 0 255).tly, clu := { State.reset.clu with clusters := [(191, { Cluster.idle with slots := [(7, { Slot.empty with tally := some (Tile.start 7 0 0 (leBytes 1 5 ++ zeros 59 ++ leBytes 4 0x02FF0001 ++ zeros 128) false) })] })] } }, 191, 7, 0x100000, Tile.start 7 0 0 (leBytes 1 5 ++ zeros 59 ++ leBytes 4 0x02FF0001 ++ zeros 128) false, by decide +kernel⟩

theorem witness_TilesRun_tallyBlocks : ∃ (s : State) (n : Nat) (k : Nat) (e : Nat) (x : Tile), ((s.slot n k).tally = some x) ∧ (x.stage = .chosen)
    ∧ (s.rd .ctxState x.ctx = 2) ∧ ((x.fences && (s.cluster n).draining) = false) ∧ (tdTallyOp x.td = 2)
    ∧ ((s.tallyEntry (bankOfIsland n) x.ctx (tdTallyId x.td)).toOption = some e) ∧ (s.tallyVal (bitsAt e 0 20) < tdTallyN x.td) :=
  ⟨{ after [(.ctxState, 0, 2)] with mem := (tallied []).mem, tly := (State.reset.setTallyVal 0 254).tly, clu := { State.reset.clu with clusters := [(191, { Cluster.idle with slots := [(7, { Slot.empty with tally := some (Tile.start 7 0 0 (leBytes 1 5 ++ zeros 59 ++ leBytes 4 0x02FF0001 ++ zeros 128) false) })] })] } }, 191, 7, 0x100000, Tile.start 7 0 0 (leBytes 1 5 ++ zeros 59 ++ leBytes 4 0x02FF0001 ++ zeros 128) false, by decide +kernel⟩

theorem witness_TilesEnd_drain : ∃ (s : State) (n : Nat) (x : Tile) (a : Acc) (ecc : List (Nat × EccError)), (s.overlay (islCluster n) = [])
    ∧ ((s.cluster n).tiles = [x]) ∧ (x.stage = .draining) ∧ (x.acc = some a) ∧ (s.rd .ctxState x.ctx = 2)
    ∧ ((tdRoute x.td && tdKind x.td = 0) = false) ∧ ((s.eccFound ecc).clu = s.clu) :=
  ⟨{ after [(.ctxState, 0, 2)] with clu := { State.reset.clu with clusters := [(191, { Cluster.idle with tiles := [{ Tile.start 0 0 0 (tdOf 0) false with stage := .draining, acc := some ⟨0, 0, 0, 0, [], false⟩ }] })] } }, 191, { Tile.start 0 0 0 (tdOf 0) false with stage := .draining, acc := some ⟨0, 0, 0, 0, [], false⟩ }, ⟨0, 0, 0, 0, [], false⟩, [], by decide +kernel⟩

theorem witness_TilesEnd_drainRoute : ∃ (s : State) (n : Nat) (x : Tile) (a : Acc) (ecc : List (Nat × EccError)), (s.overlay (islCluster n) = [])
    ∧ ((s.cluster n).tiles = [x]) ∧ (x.stage = .draining) ∧ (x.acc = some a) ∧ (s.rd .ctxState x.ctx = 2) ∧ ((tdRoute x.td && tdKind x.td = 0) = true)
    ∧ ((s.eccFound ecc).clu = s.clu) :=
  ⟨{ after [(.ctxState, 0, 2)] with clu := { State.reset.clu with clusters := [(191, { Cluster.idle with tiles := [{ Tile.start 0 0 0 (leBytes 2 0x0800 ++ zeros 190) false with stage := .draining, acc := some ⟨0, 0, 0, 0, [], false⟩ }] })] } }, 191, { Tile.start 0 0 0 (leBytes 2 0x0800 ++ zeros 190) false with stage := .draining, acc := some ⟨0, 0, 0, 0, [], false⟩ }, ⟨0, 0, 0, 0, [], false⟩, [], by decide +kernel⟩

theorem witness_TilesEnd_complete : ∃ (s : State) (n : Nat) (x : Tile) (ecc : List (Nat × EccError)), (((s.eccFound ecc).cluster n).cur = some x)
    ∧ (x.stage = .ready) ∧ (((s.eccFound ecc).cluster n).tiles = []) :=
  ⟨tileOn (tdOf 6) .ready, 191, theTile (tdOf 6) .ready, [], by decide +kernel⟩

theorem witness_TilesEnd_record : ∃ (s : State) (n : Nat) (x : Tile) (tk : Task) (ecc : List (Nat × EccError)),
    (((s.eccFound ecc).cluster n).cur = some x) ∧ (x.stage = .ready) ∧ (((s.eccFound ecc).cluster n).tiles = [])
    ∧ (((s.eccFound ecc).slot n x.slot).task = some tk) ∧ (tk.ended = false) ∧ (x.status = .ok) ∧ (tdTallyOp x.td ≠ 1)
    ∧ (((s.eccFound ecc).dvaWrite x.ctx (x.dva + 176) (doneRecord x)).2 = .ok) :=
  ⟨{ ringOn 0 [] with clu := { State.reset.clu with clusters := [(191, { Cluster.idle with cur := some (theTile (tdOf 6) .ready), slots := [(0, { Slot.empty with task := some ⟨0, 5, 0, false, 0, 0, 0, 0, 0, false, false, none, 0, false⟩ })] })] } }, 191, theTile (tdOf 6) .ready, ⟨0, 5, 0, false, 0, 0, 0, 0, 0, false, false, none, 0, false⟩, [], by decide +kernel⟩

theorem witness_TilesEnd_released : ∃ (s : State) (n : Nat) (x : Tile) (tk : Task) (ecc : List (Nat × EccError)),
    (((s.eccFound ecc).cluster n).cur = some x) ∧ (x.stage = .ready) ∧ (((s.eccFound ecc).cluster n).tiles = [])
    ∧ (((s.eccFound ecc).slot n x.slot).task = some tk) ∧ (tk.ended = true) ∧ (((s.eccFound ecc).slot n x.slot).queue = [])
    ∧ (((s.eccFound ecc).slot n x.slot).tally = none) ∧ (((s.eccFound ecc).slot n x.slot).held = [] ∧ ((s.eccFound ecc).slot n x.slot).band = none) :=
  ⟨{ ringOn 0 [] with clu := { State.reset.clu with clusters := [(191, { Cluster.idle with cur := some (theTile (tdOf 6) .ready), slots := [(0, { Slot.empty with task := some ⟨0, 5, 0, false, 0, 0, 0, 0, 0, true, false, none, 0, true⟩ })] })] } }, 191, theTile (tdOf 6) .ready, ⟨0, 5, 0, false, 0, 0, 0, 0, 0, true, false, none, 0, true⟩, [], by decide +kernel⟩

theorem witness_TilesEnd_tallyTile : ∃ (s : State) (n : Nat) (k : Nat) (x : Tile) (ecc : List (Nat × EccError)),
    (((s.eccFound ecc).slot n k).tally = some x) ∧ (x.stage = .ready) ∧ (x.slot = k) :=
  ⟨{ after [(.ctxState, 0, 2)] with clu := { State.reset.clu with clusters := [(191, { Cluster.idle with slots := [(7, { Slot.empty with tally := some { Tile.start 7 0 0 (tdOf 5) false with stage := .ready } })] })] } }, 191, 7, { Tile.start 7 0 0 (tdOf 5) false with stage := .ready }, [], by decide +kernel⟩

theorem witness_TilesEnd_ecall : ∃ (s : State) (n : Nat) (x : Tile), (s.vecTile n = some x) ∧ ((s.core (.vector n)).waitRd = none)
    ∧ ((s.core (.vector n)).cycles ≤ 262144) ∧ ((s.core (.vector n)).readX 10 = 0) :=
  ⟨tileOn (tdOf 4) .under, 191, theTile (tdOf 4) .under, by decide +kernel⟩

theorem witness_TilesEnd_ecallFault : ∃ (s : State) (n : Nat) (x : Tile), (s.vecTile n = some x) ∧ ((s.core (.vector n)).waitRd = none)
    ∧ ((s.core (.vector n)).cycles ≤ 262144) ∧ ((s.core (.vector n)).readX 10 ≠ 0) ∧ (x.status = .ok) :=
  ⟨{ tileOn (tdOf 4) .under with vectors := [(191, { Core.idle with running := true, x := [(10, 2)] })] }, 191, theTile (tdOf 4) .under, by decide +kernel⟩

theorem witness_TilesEnd_illegal : ∃ (s : State) (n : Nat) (w : Nat) (x : Tile), (s.vecTile n = some x) ∧ ((s.core (.vector n)).waitRd = none)
    ∧ ((s.core (.vector n)).cycles ≤ 262144) ∧ ((kcCommand (.vector n) 0 w).isSome = false) ∧ (x.status = .ok) :=
  ⟨tileOn (tdOf 4) .under, 191, 0xFFFFFFFF, theTile (tdOf 4) .under, by decide +kernel⟩

theorem witness_TilesEnd_timeout : ∃ (s : State) (n : Nat) (x : Tile), (s.vecTile n = some x) ∧ (x.status = .ok)
    ∧ (262144 < (s.core (.vector n)).cycles + s.heldCycles (.vector n)) :=
  ⟨{ tileOn (tdOf 4) .under with vectors := [(191, { Core.idle with running := true, cycles := 262145 })] }, 191, theTile (tdOf 4) .under, by decide +kernel⟩

theorem witness_TilesEnd_notYet : ∃ (s : State) (n : Nat), ((s.core (.vector n)).cycles + s.heldCycles (.vector n) ≤ 262144) :=
  ⟨tileOn (tdOf 4) .under, 191, by decide +kernel⟩

theorem witness_TilesEnd_fenceReq : ∃ (s : State) (n : Nat) (v : Nat), (n < 192) ∧ (v % 2 = 1) ∧ (s.flag .cluFenced n = false) :=
  ⟨State.reset, 191, 1, by decide +kernel⟩

theorem witness_TilesEnd_fenceNone : ∃ (s : State) (n : Nat) (v : Nat), ((v % 2 = 0 ∨ s.flag .cluFenced n = true)) :=
  ⟨State.reset, 191, 2, by decide +kernel⟩

theorem witness_TilesEnd_fenceOther : ∃ (rdr : Reader), (rdr ≠ .session 0) :=
  ⟨.session 1, by decide +kernel⟩

theorem witness_VectorInstructionsComplete_dactcfg : ∃ (s : State) (n : Nat) (rs1 : Nat) (cyc : Nat) (x : Tile) (b : List Byte),
    (s.vecTile n = some x) ∧ ((s.core (.vector n)).waitRd = none) ∧ ((s.core (.vector n)).sew = 32)
    ∧ ((s.vecRead n x ((s.core (.vector n)).readX rs1) 16).2.toOption = some b) ∧ (ddOk (leNat b) = true)
    ∧ ((s.core (.vector n)).cycles + cyc ≤ 262144) :=
  ⟨(fun s => s.modSlot 191 0 (fun x => { x with scratch := [(0, 1#8), (14, 0x80#8), (15, 0x3F#8)] })) (vecOn (2 ^ 63) id), 191, 12, 262144, theTile (tdOf 4) .under, [1#8] ++ zeros 13 ++ [0x80#8, 0x3F#8], by decide +kernel⟩

theorem witness_VectorInstructionsComplete_vdact : ∃ (s : State) (n : Nat) (vd : Nat) (rs1 : Nat) (vs2 : Nat) (rs2 : Nat) (d : Nat) (x : Tile) (ys : List Nat),
    (s.vecTile n = some x) ∧ ((s.core (.vector n)).waitRd = none) ∧ ((s.core (.vector n)).dact = some d)
    ∧ (groupOk (s.core (.vector n)) [vd, vs2] = true) ∧ (actGated (ddAct d) = false)
    ∧ ((s.keptItems n x d ((s.core (.vector n)).readX rs1) (((List.range ((s.core (.vector n)).vl - (s.core (.vector n)).vstart)).map (· + (s.core (.vector n)).vstart)).map (· + (s.core (.vector n)).readX rs2))).2.toOption = some ys)
    ∧ ((s.core (.vector n)).cycles + dactCycles d ((s.core (.vector n)).vl - (s.core (.vector n)).vstart) ≤ 262144) :=
  ⟨vecOn (2 ^ 63) (fun c => { c with dact := some 1, vl := 8, vstart := 7, v := [(8, 7)] }), 191, 31, 12, 8, 0, 1, theTile (tdOf 4) .under, [0], by decide +kernel⟩

theorem witness_VectorInstructionsComplete_vdactg : ∃ (s : State) (n : Nat) (vd : Nat) (rs1 : Nat) (vs2 : Nat) (rs2 : Nat) (d : Nat) (x : Tile) (ys : List Nat),
    (s.vecTile n = some x) ∧ ((s.core (.vector n)).waitRd = none) ∧ ((s.core (.vector n)).dact = some d)
    ∧ (groupOk (s.core (.vector n)) [vd, vs2] = true) ∧ (vd + 2 * (s.core (.vector n)).lmul ≤ 32) ∧ (actGated (ddAct d) = true)
    ∧ ((s.keptItems n x d ((s.core (.vector n)).readX rs1) ((((List.range ((s.core (.vector n)).vl - (s.core (.vector n)).vstart)).map (· + (s.core (.vector n)).vstart)).map (fun e => [2 * ((s.core (.vector n)).readX rs2 + e), 2 * ((s.core (.vector n)).readX rs2 + e) + 1])).flatten)).2.toOption = some ys)
    ∧ ((s.core (.vector n)).cycles + dactCycles d ((s.core (.vector n)).vl - (s.core (.vector n)).vstart) ≤ 262144) :=
  ⟨vecOn (2 ^ 63) (fun c => { c with dact := some (11 + 64 * 2 ^ 32 + 0x3F800000 * 2 ^ 96), vl := 1, v := [(8, 7)] }), 191, 30, 12, 8, 0, (11 + 64 * 2 ^ 32 + 0x3F800000 * 2 ^ 96), theTile (tdOf 4) .under, [0, 0], by decide +kernel⟩

theorem witness_VectorInstructionsComplete_vrandb : ∃ (s : State) (n : Nat) (vd : Nat) (x : Tile), (s.vecTile n = some x)
    ∧ ((s.core (.vector n)).waitRd = none) ∧ ((s.core (.vector n)).sew = 32) ∧ ((s.core (.vector n)).lmul ≠ 0 ∧ vd % (s.core (.vector n)).lmul = 0)
    ∧ ((s.core (.vector n)).cycles + ceilDiv ((s.core (.vector n)).vl - (s.core (.vector n)).vstart) 256 ≤ 262144) :=
  ⟨vecOn 0 (fun c => { c with sew := 32, vl := 256, vstart := 254 }), 191, 31, theTile (tdOf 4) .under, by decide +kernel⟩

theorem witness_VectorInstructionsComplete_vrandf : ∃ (s : State) (n : Nat) (vd : Nat) (x : Tile), (s.vecTile n = some x)
    ∧ ((s.core (.vector n)).waitRd = none) ∧ ((s.core (.vector n)).sew = 32) ∧ ((s.core (.vector n)).lmul ≠ 0 ∧ vd % (s.core (.vector n)).lmul = 0)
    ∧ ((s.core (.vector n)).cycles + ceilDiv ((s.core (.vector n)).vl - (s.core (.vector n)).vstart) 256 ≤ 262144) :=
  ⟨vecOn 0 (fun c => { c with sew := 32, vl := 256, vstart := 254 }), 191, 31, theTile (tdOf 4) .under, by decide +kernel⟩

theorem witness_VectorInstructionsComplete_vrando : ∃ (s : State) (n : Nat) (vd : Nat) (x : Tile), (s.vecTile n = some x)
    ∧ ((s.core (.vector n)).waitRd = none) ∧ ((s.core (.vector n)).sew = 32) ∧ ((s.core (.vector n)).lmul ≠ 0 ∧ vd % (s.core (.vector n)).lmul = 0)
    ∧ ((s.core (.vector n)).cycles + ceilDiv ((s.core (.vector n)).vl - (s.core (.vector n)).vstart) 256 ≤ 262144) :=
  ⟨vecOn 0 (fun c => { c with sew := 32, vl := 256, vstart := 254 }), 191, 31, theTile (tdOf 4) .under, by decide +kernel⟩

theorem witness_VectorInstructionsComplete_vrandh : ∃ (s : State) (n : Nat) (vd : Nat) (x : Tile), (s.vecTile n = some x)
    ∧ ((s.core (.vector n)).waitRd = none) ∧ ((s.core (.vector n)).sew = 16) ∧ ((s.core (.vector n)).lmul ≠ 0 ∧ vd % (s.core (.vector n)).lmul = 0)
    ∧ ((s.core (.vector n)).cycles + ceilDiv ((s.core (.vector n)).vl - (s.core (.vector n)).vstart) 256 ≤ 262144) :=
  ⟨vecOn 0 (fun c => { c with sew := 16, vl := 512, vstart := 509 }), 191, 31, theTile (tdOf 4) .under, by decide +kernel⟩

theorem witness_VectorInstructionsComplete_dactcfg_bad : ∃ (s : State) (n : Nat) (rs1 : Nat) (x : Tile) (b : List Byte), (s.vecTile n = some x)
    ∧ ((s.core (.vector n)).waitRd = none) ∧ ((s.core (.vector n)).sew = 32)
    ∧ ((s.vecRead n x ((s.core (.vector n)).readX rs1) 16).2.toOption = some b) ∧ (ddOk (leNat b) = false) :=
  ⟨vecOn (2 ^ 63) id, 191, 12, theTile (tdOf 4) .under, zeros 16, by decide +kernel⟩

theorem witness_VectorInstructionsComplete_dactcfg_unread : ∃ (s : State) (n : Nat) (rs1 : Nat) (x : Tile) (e : Status), (s.vecTile n = some x)
    ∧ ((s.core (.vector n)).waitRd = none) ∧ ((s.core (.vector n)).sew = 32) ∧ ((s.vecRead n x ((s.core (.vector n)).readX rs1) 16).2.toOption = none)
    ∧ (statusOf (s.vecRead n x ((s.core (.vector n)).readX rs1) 16).2 = e) :=
  ⟨vecOn (2 ^ 63 + 1) id, 191, 12, theTile (tdOf 4) .under, .cluVecFault, by decide +kernel⟩

theorem witness_VectorInstructionsComplete_vdact_unkept : ∃ (s : State) (n : Nat) (vd : Nat) (vs2 : Nat) (x : Tile), (s.vecTile n = some x)
    ∧ ((s.core (.vector n)).waitRd = none) ∧ ((s.core (.vector n)).dact = none) ∧ (groupOk (s.core (.vector n)) [vd, vs2] = true) :=
  ⟨vecOn 0 id, 191, 31, 8, theTile (tdOf 4) .under, by decide +kernel⟩

theorem witness_VectorInstructionsComplete_vdactg_unkept : ∃ (s : State) (n : Nat) (vd : Nat) (vs2 : Nat) (x : Tile), (s.vecTile n = some x)
    ∧ ((s.core (.vector n)).waitRd = none) ∧ ((s.core (.vector n)).dact = none) ∧ (groupOk (s.core (.vector n)) [vd, vs2] = true) :=
  ⟨vecOn 0 id, 191, 31, 8, theTile (tdOf 4) .under, by decide +kernel⟩

theorem witness_VectorInstructionsComplete_vdact_groups : ∃ (s : State) (n : Nat) (vd : Nat) (vs2 : Nat) (x : Tile), (s.vecTile n = some x)
    ∧ ((s.core (.vector n)).waitRd = none) ∧ (groupOk (s.core (.vector n)) [vd, vs2] = false) :=
  ⟨vecOn 0 (fun c => { c with lmul := 2 }), 191, 31, 8, theTile (tdOf 4) .under, by decide +kernel⟩

theorem witness_VectorInstructionsComplete_vdactg_groups : ∃ (s : State) (n : Nat) (vd : Nat) (vs2 : Nat) (x : Tile), (s.vecTile n = some x)
    ∧ ((s.core (.vector n)).waitRd = none) ∧ (groupOk (s.core (.vector n)) [vd, vs2] = false) :=
  ⟨vecOn 0 (fun c => { c with lmul := 2 }), 191, 31, 8, theTile (tdOf 4) .under, by decide +kernel⟩

theorem witness_VectorInstructionsComplete_vdact_gated : ∃ (s : State) (n : Nat) (vd : Nat) (vs2 : Nat) (d : Nat) (x : Tile), (s.vecTile n = some x)
    ∧ ((s.core (.vector n)).waitRd = none) ∧ ((s.core (.vector n)).dact = some d) ∧ (groupOk (s.core (.vector n)) [vd, vs2] = true)
    ∧ (actGated (ddAct d) = true) :=
  ⟨vecOn 0 (fun c => { c with dact := some 11 }), 191, 31, 8, 11, theTile (tdOf 4) .under, by decide +kernel⟩

theorem witness_VectorInstructionsComplete_vdactg_plain : ∃ (s : State) (n : Nat) (vd : Nat) (vs2 : Nat) (d : Nat) (x : Tile), (s.vecTile n = some x)
    ∧ ((s.core (.vector n)).waitRd = none) ∧ ((s.core (.vector n)).dact = some d) ∧ (groupOk (s.core (.vector n)) [vd, vs2] = true)
    ∧ (vd + 2 * (s.core (.vector n)).lmul ≤ 32) ∧ (actGated (ddAct d) = false) :=
  ⟨vecOn 0 (fun c => { c with dact := some 1 }), 191, 30, 8, 1, theTile (tdOf 4) .under, by decide +kernel⟩

theorem witness_VectorInstructionsComplete_vdactg_pair : ∃ (s : State) (n : Nat) (vd : Nat) (d : Nat) (x : Tile), (s.vecTile n = some x)
    ∧ ((s.core (.vector n)).waitRd = none) ∧ ((s.core (.vector n)).dact = some d) ∧ (32 < vd + 2 * (s.core (.vector n)).lmul) :=
  ⟨vecOn 0 (fun c => { c with dact := some 11 }), 191, 31, 11, theTile (tdOf 4) .under, by decide +kernel⟩

theorem witness_VectorInstructionsComplete_vrandb_illegal : ∃ (s : State) (n : Nat) (vd : Nat) (x : Tile), (s.vecTile n = some x)
    ∧ ((s.core (.vector n)).waitRd = none) ∧ (((s.core (.vector n)).sew ≠ 32 ∨ (s.core (.vector n)).lmul = 0 ∨ vd % (s.core (.vector n)).lmul ≠ 0)) :=
  ⟨vecOn 0 (fun c => { c with sew := 32, lmul := 2 }), 191, 31, theTile (tdOf 4) .under, by decide +kernel⟩

theorem witness_VectorInstructionsComplete_vrandf_illegal : ∃ (s : State) (n : Nat) (vd : Nat) (x : Tile), (s.vecTile n = some x)
    ∧ ((s.core (.vector n)).waitRd = none) ∧ (((s.core (.vector n)).sew ≠ 32 ∨ (s.core (.vector n)).lmul = 0 ∨ vd % (s.core (.vector n)).lmul ≠ 0)) :=
  ⟨vecOn 0 (fun c => { c with sew := 32, lmul := 2 }), 191, 31, theTile (tdOf 4) .under, by decide +kernel⟩

theorem witness_VectorInstructionsComplete_vrando_illegal : ∃ (s : State) (n : Nat) (vd : Nat) (x : Tile), (s.vecTile n = some x)
    ∧ ((s.core (.vector n)).waitRd = none) ∧ (((s.core (.vector n)).sew ≠ 32 ∨ (s.core (.vector n)).lmul = 0 ∨ vd % (s.core (.vector n)).lmul ≠ 0)) :=
  ⟨vecOn 0 (fun c => { c with sew := 32, lmul := 2 }), 191, 31, theTile (tdOf 4) .under, by decide +kernel⟩

theorem witness_VectorInstructionsComplete_vrandh_illegal : ∃ (s : State) (n : Nat) (vd : Nat) (x : Tile), (s.vecTile n = some x)
    ∧ ((s.core (.vector n)).waitRd = none) ∧ (((s.core (.vector n)).sew ≠ 16 ∨ (s.core (.vector n)).lmul = 0 ∨ vd % (s.core (.vector n)).lmul ≠ 0)) :=
  ⟨vecOn 0 (fun c => { c with sew := 16, lmul := 2 }), 191, 31, theTile (tdOf 4) .under, by decide +kernel⟩

theorem witness_TallyInstructionsComplete_signal : ∃ (s : State) (k : CoreId) (rs1 : Nat) (rs2 : Nat) (ctx : Nat) (e : Nat), (s.coreCtx k = some ctx)
    ∧ ((s.core k).waitRd = none) ∧ ((s.tallyEntry (coreBank k) ctx ((s.core k).readX rs1 % 65536)).toOption = some e) ∧ (s.signalHeld k = false)
    ∧ (s.mayRun k 1 = true) ∧ (0 < ((s.core k).readX rs2 % 2 ^ 32)) ∧ (s.tallyVal (bitsAt e 0 20) + ((s.core k).readX rs2 % 2 ^ 32) ≤ 0xFFFFFFFF) :=
  ⟨vecOn 5 id, .vector 191, 11, 12, 0, 0x100000, by decide +kernel⟩

theorem witness_TallyInstructionsComplete_wait : ∃ (s : State) (k : CoreId) (rs1 : Nat) (rs2 : Nat) (ctx : Nat) (e : Nat), (s.coreCtx k = some ctx)
    ∧ ((s.core k).waitRd = none) ∧ ((s.tallyEntry (coreBank k) ctx ((s.core k).readX rs1 % 65536)).toOption = some e) ∧ (s.mayRun k 1 = true)
    ∧ (s.tallyQueue (bitsAt e 0 20) = []) ∧ (((s.core k).readX rs2 % 2 ^ 32) ≤ s.tallyVal (bitsAt e 0 20)) :=
  ⟨(vecOn 5 id).setTallyVal 0 5, .vector 191, 11, 12, 0, 0x100000, by decide +kernel⟩

theorem witness_TallyInstructionsComplete_held : ∃ (s : State) (k : CoreId) (rs1 : Nat) (rs2 : Nat) (ctx : Nat) (e : Nat), (s.coreCtx k = some ctx)
    ∧ ((s.core k).waitRd = none) ∧ ((s.tallyEntry (coreBank k) ctx ((s.core k).readX rs1 % 65536)).toOption = some e) ∧ (s.mayRun k 0 = true)
    ∧ (0 < ((s.core k).readX rs2 % 2 ^ 32)) ∧ ((s.tallyQueue (bitsAt e 0 20) ≠ [] ∨ s.tallyVal (bitsAt e 0 20) < ((s.core k).readX rs2 % 2 ^ 32))) :=
  ⟨(vecOn 5 id).setTallyVal 0 4, .vector 191, 11, 12, 0, 0x100000, by decide +kernel⟩

theorem witness_TallyInstructionsComplete_take : ∃ (s : State) (k : CoreId) (rs1 : Nat) (rs2 : Nat) (ctx : Nat) (e : Nat), (s.coreCtx k = some ctx)
    ∧ ((s.core k).waitRd = none) ∧ ((s.tallyEntry (coreBank k) ctx ((s.core k).readX rs1 % 65536)).toOption = some e) ∧ (s.mayRun k 1 = true)
    ∧ (((s.core k).readX rs2 % 2 ^ 32) ≤ s.tallyVal (bitsAt e 0 20)) :=
  ⟨(vecOn 5 id).setTallyVal 0 5, .vector 191, 11, 12, 0, 0x100000, by decide +kernel⟩

theorem witness_TallyInstructionsComplete_read : ∃ (s : State) (k : CoreId) (rs1 : Nat) (ctx : Nat) (e : Nat), (s.coreCtx k = some ctx)
    ∧ ((s.core k).waitRd = none) ∧ ((s.tallyEntry (coreBank k) ctx ((s.core k).readX rs1 % 65536)).toOption = some e) ∧ (s.mayRun k 1 = true) :=
  ⟨(vecOn 5 id).setTallyVal 0 0xFFFFFFFF, .vector 191, 11, 0, 0x100000, by decide +kernel⟩

theorem witness_TallyInstructionsComplete_withdraw : ∃ (s : State) (h : Nat) (handler : Nat), ((s.core (.hart h)).running = true)
    ∧ ((s.core (.hart h)).waitRd.isSome = true) ∧ (handler < 2 ^ 64) :=
  ⟨{ State.reset with harts := [(63, { Core.idle with running := true, waitRd := some 10 })], tly := { State.reset.tly with queues := [(0, [⟨.hart 63, 5⟩])] } }, 63, 2 ^ 64 - 4, by decide +kernel⟩

theorem witness_TallyInstructionsComplete_signal_untranslated : ∃ (s : State) (k : CoreId) (rs1 : Nat) (ctx : Nat) (st : Status),
    (s.coreCtx k = some ctx) ∧ ((s.core k).waitRd = none) ∧ ((s.tallyEntry (coreBank k) ctx ((s.core k).readX rs1 % 65536)).toOption = none)
    ∧ (statusOf (s.tallyEntry (coreBank k) ctx ((s.core k).readX rs1 % 65536)) = st) ∧ (s.mayRun k 1 = true) ∧ (s.signalHeld k = false) :=
  ⟨vecOn 5 (fun c => { c with x := [(11, 0)] }), .vector 191, 11, 0, .tallyUnmapped, by decide +kernel⟩

theorem witness_TallyInstructionsComplete_wait_untranslated : ∃ (s : State) (k : CoreId) (rs1 : Nat) (ctx : Nat) (st : Status),
    (s.coreCtx k = some ctx) ∧ ((s.core k).waitRd = none) ∧ ((s.tallyEntry (coreBank k) ctx ((s.core k).readX rs1 % 65536)).toOption = none)
    ∧ (statusOf (s.tallyEntry (coreBank k) ctx ((s.core k).readX rs1 % 65536)) = st) ∧ (s.mayRun k 1 = true) :=
  ⟨vecOn 5 (fun c => { c with x := [(11, 0)] }), .vector 191, 11, 0, .tallyUnmapped, by decide +kernel⟩

theorem witness_TallyInstructionsComplete_take_untranslated : ∃ (s : State) (k : CoreId) (rs1 : Nat) (ctx : Nat) (st : Status),
    (s.coreCtx k = some ctx) ∧ ((s.core k).waitRd = none) ∧ ((s.tallyEntry (coreBank k) ctx ((s.core k).readX rs1 % 65536)).toOption = none)
    ∧ (statusOf (s.tallyEntry (coreBank k) ctx ((s.core k).readX rs1 % 65536)) = st) ∧ (s.mayRun k 1 = true) :=
  ⟨vecOn 5 (fun c => { c with x := [(11, 0)] }), .vector 191, 11, 0, .tallyUnmapped, by decide +kernel⟩

theorem witness_TallyInstructionsComplete_read_untranslated : ∃ (s : State) (k : CoreId) (rs1 : Nat) (ctx : Nat) (st : Status),
    (s.coreCtx k = some ctx) ∧ ((s.core k).waitRd = none) ∧ ((s.tallyEntry (coreBank k) ctx ((s.core k).readX rs1 % 65536)).toOption = none)
    ∧ (statusOf (s.tallyEntry (coreBank k) ctx ((s.core k).readX rs1 % 65536)) = st) ∧ (s.mayRun k 1 = true) :=
  ⟨vecOn 5 (fun c => { c with x := [(11, 0)] }), .vector 191, 11, 0, .tallyUnmapped, by decide +kernel⟩

theorem witness_TallyInstructionsComplete_take_short : ∃ (s : State) (k : CoreId) (rs1 : Nat) (rs2 : Nat) (ctx : Nat) (e : Nat),
    (s.coreCtx k = some ctx) ∧ ((s.core k).waitRd = none) ∧ ((s.tallyEntry (coreBank k) ctx ((s.core k).readX rs1 % 65536)).toOption = some e)
    ∧ (s.mayRun k 1 = true) ∧ (s.tallyVal (bitsAt e 0 20) < ((s.core k).readX rs2 % 2 ^ 32)) :=
  ⟨(vecOn 5 id).setTallyVal 0 4, .vector 191, 11, 12, 0, 0x100000, by decide +kernel⟩

theorem witness_TallyInstructionsComplete_signal_over : ∃ (s : State) (k : CoreId) (rs1 : Nat) (rs2 : Nat) (ctx : Nat) (e : Nat),
    (s.coreCtx k = some ctx) ∧ ((s.core k).waitRd = none) ∧ ((s.tallyEntry (coreBank k) ctx ((s.core k).readX rs1 % 65536)).toOption = some e)
    ∧ (s.signalHeld k = false) ∧ (s.mayRun k 1 = true) ∧ (0xFFFFFFFF < s.tallyVal (bitsAt e 0 20) + ((s.core k).readX rs2 % 2 ^ 32))
    ∧ (0 < ((s.core k).readX rs2 % 2 ^ 32)) :=
  ⟨(vecOn 5 id).setTallyVal 0 0xFFFFFFFF, .vector 191, 11, 12, 0, 0x100000, by decide +kernel⟩

theorem witness_TallyInstructionsComplete_signal_waits : ∃ (s : State) (n : Nat), ((s.cluster n).draining = true) ∧ (s.mayRun (.vector n) 0 = true) :=
  ⟨(vecOn 5 id).setCluster 191 { (vecOn 5 id).cluster 191 with tiles := [theTile (tdOf 0) .draining] }, 191, by decide +kernel⟩

theorem witness_ContextStatesComplete_create : ∃ (s : State) (c : Nat), (c < 64) ∧ (s.ctxBusy c = false) ∧ (s.createCheck c (s.createArgs c) = .ok) :=
  ⟨after [(.ctxCmdarg, 63, 63 + 64 + 4 * 2 ^ 128)], 63, by decide +kernel⟩

theorem witness_ContextStatesComplete_resident : ∃ (s : State) (rdr : Reader) (c : Nat), (c < 64) ∧ (s.ctxMay rdr c .owner = true)
    ∧ (s.ctxBusy c = false) ∧ (s.residentCheck c = .ok) :=
  ⟨after [(.ctxState, 63, 1), (.ctxScrslice, 63, 128), (.ctxAccslice, 63, 128)], .session 0, 63, by decide +kernel⟩

theorem witness_ContextStatesComplete_release : ∃ (s : State) (rdr : Reader) (c : Nat), (c < 64) ∧ (s.ctxMay rdr c .owner = true)
    ∧ (s.ctxBusy c = false) ∧ (s.rd .ctxState c = 2) :=
  ⟨after [(.ctxState, 63, 2)], .session 0, 63, by decide +kernel⟩

theorem witness_ContextStatesComplete_released : ∃ (s : State) (c : Nat), (sget 0 s.ctxRunning c = 4) ∧ (s.hasTask c = false) :=
  ⟨{ after [(.ctxState, 63, 2)] with ctxRunning := [(63, 4)] }, 63, by decide +kernel⟩

theorem witness_ContextStatesComplete_class : ∃ (s : State) (c : Nat), (c < 64) ∧ (s.flag .ctxClasspend c = true) ∧ (s.turnReady c = true) :=
  ⟨after [(.ctxState, 63, 1), (.ctxClasspend, 63, 1)], 63, by decide +kernel⟩

theorem witness_ContextStatesComplete_reset : ∃ (s : State) (rdr : Reader) (c : Nat), (c < 64) ∧ (s.ctxMay rdr c .owner = true)
    ∧ ((s.rd .ctxState c = 1 ∨ s.rd .ctxState c = 2)) ∧ (s.armedWorker c = false) :=
  ⟨after [(.ctxState, 63, 2)], .session 0, 63, by decide +kernel⟩

theorem witness_ContextStatesComplete_complete : ∃ (s : State) (c : Nat), (c < 64) ∧ (s.rd .ctxState c = 3) :=
  ⟨{ after [(.ctxState, 63, 3), (.ctxOwner, 63, 5)] with ctxRunning := [(63, 2)] }, 63, by decide +kernel⟩

theorem witness_ContextStatesComplete_create_refused : ∃ (s : State) (c : Nat), (c < 64) ∧ (s.ctxBusy c = false)
    ∧ (s.createCheck c (s.createArgs c) ≠ .ok) :=
  ⟨after [(.ctxState, 63, 1)], 63, by decide +kernel⟩

theorem witness_ContextStatesComplete_resident_refused : ∃ (s : State) (rdr : Reader) (c : Nat), (c < 64) ∧ (s.ctxMay rdr c .owner = true)
    ∧ (s.ctxBusy c = false) ∧ (s.residentCheck c ≠ .ok) :=
  ⟨after [(.ctxState, 63, 2)], .session 0, 63, by decide +kernel⟩

theorem witness_ContextStatesComplete_release_refused : ∃ (s : State) (rdr : Reader) (c : Nat), (c < 64) ∧ (s.ctxMay rdr c .owner = true)
    ∧ (s.ctxBusy c = false) ∧ (s.rd .ctxState c ≠ 2) :=
  ⟨after [(.ctxState, 63, 1)], .session 0, 63, by decide +kernel⟩

theorem witness_ContextStatesComplete_unfinished : ∃ (s : State) (c : Nat), (s.hasTask c = true) :=
  ⟨taskOn, 0, by decide +kernel⟩

theorem witness_ContextStatesComplete_turn : ∃ (s : State) (c : Nat), (s.turnReady c = false) :=
  ⟨taskOn, 0, by decide +kernel⟩

theorem witness_ContextStatesComplete_reset_empty : ∃ (s : State) (rdr : Reader) (c : Nat), (c < 64) ∧ (s.ctxMay rdr c .owner = true)
    ∧ (s.rd .ctxState c = 0) :=
  ⟨State.reset, .session 0, 63, by decide +kernel⟩

theorem witness_ContextStatesComplete_reset_again : ∃ (s : State) (rdr : Reader) (c : Nat), (c < 64) ∧ (s.ctxMay rdr c .owner = true)
    ∧ (s.rd .ctxState c = 3) :=
  ⟨after [(.ctxState, 63, 3)], .session 0, 63, by decide +kernel⟩

theorem witness_ContextStatesComplete_reset_armed : ∃ (s : State) (rdr : Reader) (c : Nat), (c < 64) ∧ (s.ctxMay rdr c .owner = true)
    ∧ ((s.rd .ctxState c = 1 ∨ s.rd .ctxState c = 2)) ∧ (s.armedWorker c = true) :=
  ⟨aMember [(.ctxState, 63, 2), (.fhArm, 0, 1), (.fhArmctx, 0, 63)], .session 0, 63, by decide +kernel⟩

theorem witness_ContextStatesComplete_rights_session0 : ∃ (rdr : Reader) (c : Nat), (c < 64) ∧ (rdr ≠ .session 0) :=
  ⟨.session 1, 63, by decide +kernel⟩

theorem witness_ContextStatesComplete_rights_owner : ∃ (s : State) (rdr : Reader) (c : Nat), (c < 64) ∧ (s.ctxMay rdr c .owner = false) :=
  ⟨after [(.ctxOwner, 63, 2)], .session 1, 63, by decide +kernel⟩

theorem witness_ContextStatesComplete_busy : ∃ (s : State) (c : Nat), (c < 64) ∧ (s.ctxBusy c = true) :=
  ⟨{ State.reset with ctxRunning := [(63, 4)] }, 63, by decide +kernel⟩

theorem witness_MappingsAndRingsComplete_map : ∃ (s : State) (c : Nat) (ecc : List (Nat × EccError)), (c < 64) ∧ ((s.eccFound ecc).ctxBusy c = false)
    ∧ ((s.eccFound ecc).ctxLive c = true) ∧ ((s.eccFound ecc).mapCheck c ((s.eccFound ecc).mapArgs c) = .ok)
    ∧ (((s.eccFound ecc).eachPage (fun s k => if ((s.eccFound ecc).mapArgs c).large then s.mapLarge c (((s.eccFound ecc).mapArgs c).dva + k * ((s.eccFound ecc).mapArgs c).size) (((s.eccFound ecc).mapArgs c).entry k) else s.mapSmall c (((s.eccFound ecc).mapArgs c).dva + k * ((s.eccFound ecc).mapArgs c).size) (((s.eccFound ecc).mapArgs c).entry k)) (List.range ((s.eccFound ecc).mapArgs c).pages)).2 = .ok) :=
  ⟨after [(.ctxState, 63, 1), (.ctxTablesize, 63, 2), (.ctxL2free, 63, 448), (.ctxCmdarg, 63, (2 ^ 48 - 2 ^ 21) + (0x4000000 * 2 ^ 64) + ((1 + 2 ^ 21 + 2 ^ 22) * 2 ^ 128))], 63, [], by decide +kernel⟩

theorem witness_MappingsAndRingsComplete_unmap : ∃ (s : State) (c : Nat) (ecc : List (Nat × EccError)), (c < 64)
    ∧ ((s.eccFound ecc).ctxBusy c = false) ∧ ((s.eccFound ecc).ctxLive c = true) ∧ ((s.eccFound ecc).unmapCheck c ((s.eccFound ecc).mapArgs c) = .ok)
    ∧ (((s.eccFound ecc).eachPage (fun s k => s.unmapPage c (((s.eccFound ecc).mapArgs c).dva + k * ((s.eccFound ecc).mapArgs c).size) ((s.eccFound ecc).mapArgs c).large) (List.range ((s.eccFound ecc).mapArgs c).pages)).2 = .ok) :=
  ⟨mappedCtx, 0, [], by decide +kernel⟩

theorem witness_MappingsAndRingsComplete_unmapped : ∃ (s : State) (c : Nat), (c < 64) ∧ (sget 0 s.ctxRunning c = 6) :=
  ⟨{ State.reset with ctxRunning := [(63, 6)] }, 63, by decide +kernel⟩

theorem witness_MappingsAndRingsComplete_ringCreate : ∃ (s : State) (rdr : Reader) (c : Nat) (ecc : List (Nat × EccError)), (c < 64)
    ∧ ((s.eccFound ecc).ctxMay rdr c .gondola = true) ∧ ((s.eccFound ecc).ctxBusy c = false)
    ∧ ((s.eccFound ecc).ringCheck c ((s.eccFound ecc).ringArgs c) = .ok) :=
  ⟨(fun s => s.wr .ctxCmdarg 0 (65535 + 3 * 2 ^ 16 + 4 * 2 ^ 18)) mappedCtx, .session 0, 0, [], by decide +kernel⟩

theorem witness_MappingsAndRingsComplete_ringDestroy : ∃ (s : State) (rdr : Reader) (c : Nat), (c < 64) ∧ (s.ctxMay rdr c .gondola = true)
    ∧ (s.ctxBusy c = false) ∧ (s.destroyCheck c = .ok) :=
  ⟨after [(.ctxState, 63, 1), (.ctxCmdarg, 63, 65535), (.dbState, 65535, 1), (.dbType, 65535, 2), (.dbCtx, 65535, 63)], .session 0, 63, by decide +kernel⟩

theorem witness_MappingsAndRingsComplete_farPage : ∃ (s : State) (p : Nat) (l : List Nat), (s.kv.farDue = p :: l) ∧ (s.pageLost p = false) :=
  ⟨{ State.reset with kv := { State.reset.kv with farDue := [5] } }, 5, [], by decide +kernel⟩

theorem witness_MappingsAndRingsComplete_map_undone : ∃ (s : State) (c : Nat) (ecc : List (Nat × EccError)), (c < 64)
    ∧ ((s.eccFound ecc).ctxBusy c = false) ∧ ((s.eccFound ecc).ctxLive c = true) ∧ ((s.eccFound ecc).mapCheck c ((s.eccFound ecc).mapArgs c) = .ok)
    ∧ (((s.eccFound ecc).eachPage (fun s k => if ((s.eccFound ecc).mapArgs c).large then s.mapLarge c (((s.eccFound ecc).mapArgs c).dva + k * ((s.eccFound ecc).mapArgs c).size) (((s.eccFound ecc).mapArgs c).entry k) else s.mapSmall c (((s.eccFound ecc).mapArgs c).dva + k * ((s.eccFound ecc).mapArgs c).size) (((s.eccFound ecc).mapArgs c).entry k)) (List.range ((s.eccFound ecc).mapArgs c).pages)).2 ≠ .ok) :=
  ⟨(fun s => s.wr .memState (s.channelOf (8 * 262143)) 2) (after [(.ctxState, 63, 1), (.ctxTablesize, 63, 2), (.ctxL2free, 63, 448), (.ctxCmdarg, 63, (2 ^ 48 - 2 ^ 21) + (0x4000000 * 2 ^ 64) + ((1 + 2 ^ 21 + 2 ^ 22) * 2 ^ 128))]), 63, [], by decide +kernel⟩

theorem witness_MappingsAndRingsComplete_map_refused : ∃ (s : State) (c : Nat) (ecc : List (Nat × EccError)), (c < 64)
    ∧ ((s.eccFound ecc).ctxBusy c = false) ∧ ((s.eccFound ecc).ctxLive c = true) ∧ ((s.eccFound ecc).mapCheck c ((s.eccFound ecc).mapArgs c) ≠ .ok) :=
  ⟨after [(.ctxState, 63, 1)], 63, [], by decide +kernel⟩

theorem witness_MappingsAndRingsComplete_unmap_refused : ∃ (s : State) (c : Nat) (ecc : List (Nat × EccError)), (c < 64)
    ∧ ((s.eccFound ecc).ctxBusy c = false) ∧ ((s.eccFound ecc).ctxLive c = true)
    ∧ ((s.eccFound ecc).unmapCheck c ((s.eccFound ecc).mapArgs c) ≠ .ok) :=
  ⟨after [(.ctxState, 63, 1)], 63, [], by decide +kernel⟩

theorem witness_MappingsAndRingsComplete_empty : ∃ (s : State) (c : Nat) (ecc : List (Nat × EccError)), (c < 64)
    ∧ ((s.eccFound ecc).ctxBusy c = false) ∧ ((s.eccFound ecc).ctxLive c = false) :=
  ⟨State.reset, 63, [], by decide +kernel⟩

theorem witness_MappingsAndRingsComplete_session0 : ∃ (rdr : Reader) (c : Nat), (c < 64) ∧ (rdr ≠ .session 0) :=
  ⟨.session 1, 63, by decide +kernel⟩

theorem witness_MappingsAndRingsComplete_ringCreate_refused : ∃ (s : State) (rdr : Reader) (c : Nat) (ecc : List (Nat × EccError)), (c < 64)
    ∧ ((s.eccFound ecc).ctxMay rdr c .gondola = true) ∧ ((s.eccFound ecc).ctxBusy c = false)
    ∧ ((s.eccFound ecc).ringCheck c ((s.eccFound ecc).ringArgs c) ≠ .ok) :=
  ⟨mappedCtx, .session 0, 0, [], by decide +kernel⟩

theorem witness_MappingsAndRingsComplete_ringDestroy_refused : ∃ (s : State) (rdr : Reader) (c : Nat), (c < 64) ∧ (s.ctxMay rdr c .gondola = true)
    ∧ (s.ctxBusy c = false) ∧ (s.destroyCheck c ≠ .ok) :=
  ⟨ringOn 0 [], .session 0, 0, by decide +kernel⟩

theorem witness_MappingsAndRingsComplete_lostFarPage : ∃ (s : State) (p : Nat) (l : List Nat), (s.kv.farDue = p :: l) ∧ (s.pageLost p = true) :=
  ⟨{ State.reset with kv := { State.reset.kv with farDue := [5], lost := [(5, true)] } }, 5, [], by decide +kernel⟩

theorem witness_DoorbellsComplete_tail : ∃ (s : State) (rdr : Reader) (r : Nat) (v : Nat), (r < 65536) ∧ (s.rd .dbState r ≠ 0) ∧ (s.rd .dbType r ≠ 3)
    ∧ (s.mayWriteCtx rdr (s.rd .dbCtx r) = true) ∧ (s.ctxLive (s.rd .dbCtx r) = true) ∧ (s.rd .pwrState 0 = 0) ∧ (v < 2 ^ 32)
    ∧ ((v + 2 ^ 32 - s.rd .dbHead r) % 2 ^ 32 ≤ s.ringSize r) :=
  ⟨after [(.ctxState, 63, 1), (.dbState, 65535, 1), (.dbLog2, 65535, 4), (.dbCtx, 65535, 63)], .session 0, 65535, 16, by decide +kernel⟩

theorem witness_DoorbellsComplete_overrun : ∃ (s : State) (rdr : Reader) (r : Nat) (v : Nat), (r < 65536) ∧ (s.rd .dbState r ≠ 0)
    ∧ (s.rd .dbType r ≠ 3) ∧ (s.mayWriteCtx rdr (s.rd .dbCtx r) = true) ∧ (s.ctxLive (s.rd .dbCtx r) = true) ∧ (s.rd .pwrState 0 = 0) ∧ (v < 2 ^ 32)
    ∧ (s.ringSize r < (v + 2 ^ 32 - s.rd .dbHead r) % 2 ^ 32) :=
  ⟨after [(.ctxState, 63, 1), (.dbState, 65535, 1), (.dbLog2, 65535, 4), (.dbCtx, 65535, 63)], .session 0, 65535, 17, by decide +kernel⟩

theorem witness_DoorbellsComplete_head : ∃ (s : State) (rdr : Reader) (r : Nat) (v : Nat), (r < 65536) ∧ (s.rd .dbState r ≠ 0) ∧ (s.rd .dbType r = 3)
    ∧ (s.mayWriteCtx rdr (s.rd .dbCtx r) = true) ∧ (s.ctxLive (s.rd .dbCtx r) = true) ∧ (s.rd .pwrState 0 = 0) ∧ (v < 2 ^ 32)
    ∧ ((s.rd .dbTail r + 2 ^ 32 - v) % 2 ^ 32 ≤ s.ringSize r) :=
  ⟨after [(.ctxState, 63, 1), (.dbState, 65535, 1), (.dbType, 65535, 3), (.dbTail, 65535, 16), (.dbLog2, 65535, 4), (.dbCtx, 65535, 63)], .session 0, 65535, 16, by decide +kernel⟩

theorem witness_DoorbellsComplete_resume : ∃ (s : State) (rdr : Reader) (r : Nat) (ecc : List (Nat × EccError)), (r < 65536)
    ∧ ((s.eccFound ecc).rd .dbState r = 2) ∧ ((s.eccFound ecc).mayWriteCtx rdr ((s.eccFound ecc).rd .dbCtx r) = true)
    ∧ ((s.eccFound ecc).ctxLive ((s.eccFound ecc).rd .dbCtx r) = true) ∧ ((s.eccFound ecc).rd .pwrState 0 = 0) :=
  ⟨after [(.ctxState, 63, 1), (.dbState, 65535, 2), (.dbCtx, 65535, 63)], .session 0, 65535, [], by decide +kernel⟩

theorem witness_DoorbellsComplete_discarded : ∃ (s : State) (rdr : Reader) (r : Nat), (r < 65536) ∧ (s.rd .dbState r ≠ 0)
    ∧ (s.mayWriteCtx rdr (s.rd .dbCtx r) = true) ∧ (s.ctxLive (s.rd .dbCtx r) = false) :=
  ⟨after [(.ctxState, 63, 3), (.dbState, 65535, 1), (.dbCtx, 65535, 63)], .session 0, 65535, by decide +kernel⟩

theorem witness_DoorbellsComplete_head_overrun : ∃ (s : State) (rdr : Reader) (r : Nat) (v : Nat), (r < 65536) ∧ (s.rd .dbState r ≠ 0)
    ∧ (s.rd .dbType r = 3) ∧ (s.mayWriteCtx rdr (s.rd .dbCtx r) = true) ∧ (s.ctxLive (s.rd .dbCtx r) = true) ∧ (s.rd .pwrState 0 = 0) ∧ (v < 2 ^ 32)
    ∧ (s.ringSize r < (s.rd .dbTail r + 2 ^ 32 - v) % 2 ^ 32) :=
  ⟨after [(.ctxState, 63, 1), (.dbState, 65535, 1), (.dbType, 65535, 3), (.dbTail, 65535, 16), (.dbLog2, 65535, 4), (.dbCtx, 65535, 63)], .session 0, 65535, 17, by decide +kernel⟩

theorem witness_DoorbellsComplete_tail_readonly : ∃ (s : State) (rdr : Reader) (r : Nat), (r < 65536) ∧ (s.rd .dbState r ≠ 0) ∧ (s.rd .dbType r = 3)
    ∧ (s.mayWriteCtx rdr (s.rd .dbCtx r) = true) ∧ (s.ctxLive (s.rd .dbCtx r) = true) ∧ (s.rd .pwrState 0 = 0) :=
  ⟨after [(.ctxState, 63, 1), (.dbState, 65535, 1), (.dbType, 65535, 3), (.dbCtx, 65535, 63)], .session 0, 65535, by decide +kernel⟩

theorem witness_DoorbellsComplete_head_readonly : ∃ (s : State) (rdr : Reader) (r : Nat), (r < 65536) ∧ (s.rd .dbState r ≠ 0) ∧ (s.rd .dbType r ≠ 3)
    ∧ (s.mayWriteCtx rdr (s.rd .dbCtx r) = true) ∧ (s.ctxLive (s.rd .dbCtx r) = true) ∧ (s.rd .pwrState 0 = 0) :=
  ⟨after [(.ctxState, 63, 1), (.dbState, 65535, 1), (.dbCtx, 65535, 63)], .session 0, 65535, by decide +kernel⟩

theorem witness_DoorbellsComplete_resume_empty : ∃ (s : State) (rdr : Reader) (r : Nat) (ecc : List (Nat × EccError)), (r < 65536)
    ∧ ((s.eccFound ecc).rd .dbState r = 2) ∧ ((s.eccFound ecc).mayWriteCtx rdr ((s.eccFound ecc).rd .dbCtx r) = true)
    ∧ ((s.eccFound ecc).ctxLive ((s.eccFound ecc).rd .dbCtx r) = true) ∧ ((s.eccFound ecc).rd .pwrState 0 = 0)
    ∧ (((s.eccFound ecc).ring r).held = []) :=
  ⟨after [(.ctxState, 63, 1), (.dbState, 65535, 2), (.dbCtx, 65535, 63)], .session 0, 65535, [], by decide +kernel⟩

theorem witness_DoorbellsComplete_resume_active : ∃ (s : State) (rdr : Reader) (r : Nat) (ecc : List (Nat × EccError)), (r < 65536)
    ∧ ((s.eccFound ecc).rd .dbState r = 1) ∧ ((s.eccFound ecc).mayWriteCtx rdr ((s.eccFound ecc).rd .dbCtx r) = true)
    ∧ ((s.eccFound ecc).ctxLive ((s.eccFound ecc).rd .dbCtx r) = true) ∧ ((s.eccFound ecc).rd .pwrState 0 = 0) :=
  ⟨after [(.ctxState, 63, 1), (.dbState, 65535, 1), (.dbCtx, 65535, 63)], .session 0, 65535, [], by decide +kernel⟩

theorem witness_DoorbellsComplete_rights : ∃ (s : State) (rdr : Reader) (r : Nat), (r < 65536) ∧ (s.rd .dbState r ≠ 0)
    ∧ (s.mayWriteCtx rdr (s.rd .dbCtx r) = false) :=
  ⟨after [(.ctxState, 63, 1), (.dbState, 65535, 1), (.dbCtx, 65535, 63)], .session 1, 65535, by decide +kernel⟩

theorem witness_DoorbellsComplete_free : ∃ (s : State) (r : Nat), (r < 65536) ∧ (s.rd .dbState r = 0) :=
  ⟨State.reset, 65535, by decide +kernel⟩

theorem witness_DoorbellsComplete_p2_tail : ∃ (s : State) (rdr : Reader) (r : Nat), (r < 65536) ∧ (s.rd .dbState r ≠ 0)
    ∧ (s.mayWriteCtx rdr (s.rd .dbCtx r) = true) ∧ (s.ctxLive (s.rd .dbCtx r) = true) ∧ (s.rd .pwrState 0 ≠ 0) :=
  ⟨after [(.ctxState, 63, 1), (.dbState, 65535, 1), (.dbCtx, 65535, 63), (.pwrState, 0, 2)], .session 0, 65535, by decide +kernel⟩

theorem witness_DoorbellsComplete_p2_head : ∃ (s : State) (rdr : Reader) (r : Nat), (r < 65536) ∧ (s.rd .dbState r ≠ 0)
    ∧ (s.mayWriteCtx rdr (s.rd .dbCtx r) = true) ∧ (s.ctxLive (s.rd .dbCtx r) = true) ∧ (s.rd .pwrState 0 ≠ 0) :=
  ⟨after [(.ctxState, 63, 1), (.dbState, 65535, 1), (.dbCtx, 65535, 63), (.pwrState, 0, 2)], .session 0, 65535, by decide +kernel⟩

theorem witness_EventsDelivered_session : ∃ (s : State) (k : Nat) (ecc : List (Nat × EccError)) (e : Event) (l : List Event),
    ((s.eccFound ecc).evDests k = (true, false)) ∧ (((s.eccFound ecc).evList k).items = e :: l) ∧ (e.atSession = false ∧ e.atRing = false)
    ∧ ((s.eccFound ecc).evRoom k false = true) ∧ (1000000 ≤ (s.eccFound ecc).evTokens k) :=
  ⟨{ after [(.tsState, 0, 2)] with events := [(64, ⟨[⟨.genConfig, 0, none, 1, 0, 0, 0, 0, false, false, false⟩], true, 1000000, 0⟩)] }, 64, [], ⟨.genConfig, 0, none, 1, 0, 0, 0, 0, false, false, false⟩, [], by decide +kernel⟩

theorem witness_EventsDelivered_ring : ∃ (s : State) (k : Nat) (ecc : List (Nat × EccError)) (e : Event) (l : List Event),
    ((s.eccFound ecc).evDests k = (false, true)) ∧ (((s.eccFound ecc).evList k).items = e :: l) ∧ (e.atSession = false ∧ e.atRing = false)
    ∧ ((s.eccFound ecc).evRoom k true = true) ∧ (1000000 ≤ (s.eccFound ecc).evTokens k) :=
  ⟨{ (fun s : State => (s.wr .ctxEvtdest 0 1).wr .ctxEvtring 0 5) (((ringOn 3 []).wr .tsState 0 2).wr .ctxEvtburst 0 1) with events := [(0, ⟨[⟨.genConfig, 0, none, 1, 0, 0, 0, 0, false, false, false⟩], true, 1000000, 0⟩)] }, 0, [], ⟨.genConfig, 0, none, 1, 0, 0, 0, 0, false, false, false⟩, [], by decide +kernel⟩

theorem witness_EventsDelivered_bothSession : ∃ (s : State) (k : Nat) (ecc : List (Nat × EccError)) (e : Event) (l : List Event),
    ((s.eccFound ecc).evDests k = (true, true)) ∧ (((s.eccFound ecc).evList k).items = e :: l) ∧ (e.atSession = false ∧ e.atRing = false)
    ∧ ((s.eccFound ecc).evRoom k false = true) ∧ (1000000 ≤ (s.eccFound ecc).evTokens k) :=
  ⟨{ (fun s : State => (s.wr .ctxEvtdest 0 2).wr .ctxEvtring 0 5) (((ringOn 3 []).wr .tsState 0 2).wr .ctxEvtburst 0 1) with events := [(0, ⟨[⟨.genConfig, 0, none, 1, 0, 0, 0, 0, false, false, false⟩], true, 1000000, 0⟩)] }, 0, [], ⟨.genConfig, 0, none, 1, 0, 0, 0, 0, false, false, false⟩, [], by decide +kernel⟩

theorem witness_EventsDelivered_bothRing : ∃ (s : State) (k : Nat) (ecc : List (Nat × EccError)) (e : Event) (l : List Event),
    ((s.eccFound ecc).evDests k = (true, true)) ∧ (((s.eccFound ecc).evList k).items = e :: l) ∧ (e.atSession = false ∧ e.atRing = false)
    ∧ ((s.eccFound ecc).evRoom k true = true) ∧ (1000000 ≤ (s.eccFound ecc).evTokens k) :=
  ⟨{ (fun s : State => (s.wr .ctxEvtdest 0 2).wr .ctxEvtring 0 5) (((ringOn 3 []).wr .tsState 0 2).wr .ctxEvtburst 0 1) with events := [(0, ⟨[⟨.genConfig, 0, none, 1, 0, 0, 0, 0, false, false, false⟩], true, 1000000, 0⟩)] }, 0, [], ⟨.genConfig, 0, none, 1, 0, 0, 0, 0, false, false, false⟩, [], by decide +kernel⟩

theorem witness_EventsDelivered_secondSession : ∃ (s : State) (k : Nat) (ecc : List (Nat × EccError)) (e : Event) (l : List Event),
    ((s.eccFound ecc).evDests k = (true, true)) ∧ (((s.eccFound ecc).evList k).items = e :: l) ∧ (e.atSession = false ∧ e.atRing = true)
    ∧ ((s.eccFound ecc).evRoom k false = true) :=
  ⟨{ (fun s : State => (s.wr .ctxEvtdest 0 2).wr .ctxEvtring 0 5) (((ringOn 3 []).wr .tsState 0 2).wr .ctxEvtburst 0 1) with events := [(0, ⟨[⟨.genConfig, 0, none, 1, 0, 0, 0, 0, false, true, false⟩], true, 1000000, 0⟩)] }, 0, [], ⟨.genConfig, 0, none, 1, 0, 0, 0, 0, false, true, false⟩, [], by decide +kernel⟩

theorem witness_EventsDelivered_secondRing : ∃ (s : State) (k : Nat) (ecc : List (Nat × EccError)) (e : Event) (l : List Event),
    ((s.eccFound ecc).evDests k = (true, true)) ∧ (((s.eccFound ecc).evList k).items = e :: l) ∧ (e.atSession = true ∧ e.atRing = false)
    ∧ ((s.eccFound ecc).evRoom k true = true) :=
  ⟨{ (fun s : State => (s.wr .ctxEvtdest 0 2).wr .ctxEvtring 0 5) (((ringOn 3 []).wr .tsState 0 2).wr .ctxEvtburst 0 1) with events := [(0, ⟨[⟨.genConfig, 0, none, 1, 0, 0, 0, 0, true, false, false⟩], true, 1000000, 0⟩)] }, 0, [], ⟨.genConfig, 0, none, 1, 0, 0, 0, 0, true, false, false⟩, [], by decide +kernel⟩

theorem witness_EventsDelivered_waits : ∃ (s : State) (k : Nat) (op : Bool) (ecc : List (Nat × EccError)),
    (((s.eccFound ecc).evList k).items.all (fun e => if op then e.atRing else e.atSession) = true ∨ (s.eccFound ecc).evRoom k op = false ∨ (if op then ((s.eccFound ecc).evDests k).2 else ((s.eccFound ecc).evDests k).1) = false ∨ (((s.eccFound ecc).evList k).items.all (fun e => !e.atSession && !e.atRing) = true
    ∧ (s.eccFound ecc).evTokens k < 1000000)) :=
  ⟨State.reset, 63, true, [], by decide +kernel⟩

theorem witness_UpdateDescriptorsStart_take : ∃ (s : State) (ring : Nat) (ecc : List (Nat × EccError)) (e : WorkEntry), (s.ringPending ring 1 = true)
    ∧ (s.serves (s.rd .dbCtx ring) = true) ∧ (s.fhHolds (s.rd .dbCtx ring) = false)
    ∧ (((s.dvaRead (s.rd .dbCtx ring) (s.entryDva ring (s.rd .dbHead ring)) 1).toOption.map (fun b => leNat b % 16)) ≠ some 2)
    ∧ (((s.eccFound ecc).takeWork ring).2 = some e) ∧ (e.kind = 1 ∧ e.ptr % 64 = 0)
    ∧ (((s.eccFound ecc).takeWork ring).1.isLearn (s.rd .dbCtx ring) = true) :=
  ⟨ringOn 1 [(0, 1#8), (8, 0x40#8)], 5, [], ⟨1, false, 0, 0x40, 0, 0⟩, by decide +kernel⟩

theorem witness_UpdateDescriptorsStart_norm : ∃ (s : State) (id : Nat) (ecc : List (Nat × EccError)) (c : Chain) (d : UpdDesc),
    (s.overlay islHub = []) ∧ ((s.eccFound ecc).descFor id 0 = some (c, d)) ∧ ((s.eccFound ecc).fenceHeld id d.ud = false)
    ∧ ((s.eccFound ecc).udCheck c.ctx d.ud = .ok) :=
  ⟨chainOn 0 (fun d => d), 3, [], theChain 0 (fun d => d), UpdDesc.start 512 (udOf 0), by decide +kernel⟩

theorem witness_UpdateDescriptorsStart_adamw : ∃ (s : State) (id : Nat) (ecc : List (Nat × EccError)) (c : Chain) (d : UpdDesc) (q : Nat),
    (s.overlay islHub = []) ∧ ((s.eccFound ecc).descFor id 1 = some (c, d)) ∧ ((s.eccFound ecc).fenceHeld id d.ud = false)
    ∧ ((s.eccFound ecc).udCheck c.ctx d.ud = .ok) ∧ ((s.eccFound ecc).flag .lrnStepskip c.ctx = false)
    ∧ (((s.eccFound ecc).normFor c.ctx d.ud).2.toOption = some q) :=
  ⟨chainOn 1 (fun d => d), 3, [], theChain 1 (fun d => d), UpdDesc.start 512 (udOf 1), 0, by decide +kernel⟩

theorem witness_UpdateDescriptorsStart_lion : ∃ (s : State) (id : Nat) (ecc : List (Nat × EccError)) (c : Chain) (d : UpdDesc) (q : Nat),
    (s.overlay islHub = []) ∧ ((s.eccFound ecc).descFor id 2 = some (c, d)) ∧ ((s.eccFound ecc).fenceHeld id d.ud = false)
    ∧ ((s.eccFound ecc).udCheck c.ctx d.ud = .ok) ∧ ((s.eccFound ecc).flag .lrnStepskip c.ctx = false)
    ∧ (((s.eccFound ecc).normFor c.ctx d.ud).2.toOption = some q) :=
  ⟨chainOn 2 (fun d => d), 3, [], theChain 2 (fun d => d), UpdDesc.start 512 (udOf 2), 0, by decide +kernel⟩

theorem witness_UpdateDescriptorsStart_sgdm : ∃ (s : State) (id : Nat) (ecc : List (Nat × EccError)) (c : Chain) (d : UpdDesc) (q : Nat),
    (s.overlay islHub = []) ∧ ((s.eccFound ecc).descFor id 3 = some (c, d)) ∧ ((s.eccFound ecc).fenceHeld id d.ud = false)
    ∧ ((s.eccFound ecc).udCheck c.ctx d.ud = .ok) ∧ ((s.eccFound ecc).flag .lrnStepskip c.ctx = false)
    ∧ (((s.eccFound ecc).normFor c.ctx d.ud).2.toOption = some q) :=
  ⟨chainOn 3 (fun d => d), 3, [], theChain 3 (fun d => d), UpdDesc.start 512 (udOf 3), 0, by decide +kernel⟩

theorem witness_UpdateDescriptorsStart_convert : ∃ (s : State) (id : Nat) (ecc : List (Nat × EccError)) (c : Chain) (d : UpdDesc),
    (s.overlay islHub = []) ∧ ((s.eccFound ecc).descFor id 4 = some (c, d)) ∧ ((s.eccFound ecc).fenceHeld id d.ud = false)
    ∧ ((s.eccFound ecc).udCheck c.ctx d.ud = .ok) :=
  ⟨chainOn 4 (fun d => d), 3, [], theChain 4 (fun d => d), UpdDesc.start 512 (udOf 4), by decide +kernel⟩

theorem witness_UpdateDescriptorsStart_take_reserved : ∃ (s : State) (ring : Nat) (ecc : List (Nat × EccError)) (e : WorkEntry),
    (s.ringPending ring 1 = true) ∧ (s.serves (s.rd .dbCtx ring) = true) ∧ (s.fhHolds (s.rd .dbCtx ring) = false)
    ∧ (((s.dvaRead (s.rd .dbCtx ring) (s.entryDva ring (s.rd .dbHead ring)) 1).toOption.map (fun b => leNat b % 16)) ≠ some 2)
    ∧ (((s.eccFound ecc).takeWork ring).2 = some e) ∧ (e.kind ≠ 1) :=
  ⟨ringOn 1 [(0, 3#8), (8, 0x40#8)], 5, [], ⟨3, false, 0, 0x40, 0, 0⟩, by decide +kernel⟩

theorem witness_UpdateDescriptorsStart_take_class : ∃ (s : State) (ring : Nat) (ecc : List (Nat × EccError)) (e : WorkEntry),
    (s.ringPending ring 1 = true) ∧ (s.serves (s.rd .dbCtx ring) = true) ∧ (s.fhHolds (s.rd .dbCtx ring) = false)
    ∧ (((s.dvaRead (s.rd .dbCtx ring) (s.entryDva ring (s.rd .dbHead ring)) 1).toOption.map (fun b => leNat b % 16)) ≠ some 2)
    ∧ (((s.eccFound ecc).takeWork ring).2 = some e) ∧ (e.kind = 1) ∧ (((s.eccFound ecc).takeWork ring).1.isLearn (s.rd .dbCtx ring) = false) :=
  ⟨(ringOn 1 [(0, 1#8), (8, 0x40#8)]).wr .ctxClass 0 1, 5, [], ⟨1, false, 0, 0x40, 0, 0⟩, by decide +kernel⟩

theorem witness_UpdateDescriptorsStart_take_align : ∃ (s : State) (ring : Nat) (ecc : List (Nat × EccError)) (e : WorkEntry),
    (s.ringPending ring 1 = true) ∧ (s.serves (s.rd .dbCtx ring) = true) ∧ (s.fhHolds (s.rd .dbCtx ring) = false)
    ∧ (((s.dvaRead (s.rd .dbCtx ring) (s.entryDva ring (s.rd .dbHead ring)) 1).toOption.map (fun b => leNat b % 16)) ≠ some 2)
    ∧ (((s.eccFound ecc).takeWork ring).2 = some e) ∧ (e.kind = 1) ∧ (((s.eccFound ecc).takeWork ring).1.isLearn (s.rd .dbCtx ring) = true)
    ∧ (e.ptr % 64 ≠ 0) :=
  ⟨ringOn 1 [(0, 1#8), (8, 0x41#8)], 5, [], ⟨1, false, 0, 0x41, 0, 0⟩, by decide +kernel⟩

theorem witness_UpdateDescriptorsStart_unchecked : ∃ (s : State) (i : Instr) (id : Nat) (op : Nat) (ecc : List (Nat × EccError)) (c : Chain) (d : UpdDesc),
    ((i, op) ∈ [(Instr.norm id ecc, 0), (.adamw id ecc, 1), (.lion id ecc, 2), (.sgdm id ecc, 3), (.convert id ecc, 4)]) ∧ (s.overlay islHub = [])
    ∧ ((s.eccFound ecc).descFor id op = some (c, d)) ∧ ((s.eccFound ecc).fenceHeld id d.ud = false) ∧ ((s.eccFound ecc).udCheck c.ctx d.ud ≠ .ok) :=
  ⟨chainOn 0 (fun d => { d with ud := (udOf 0).take 8 ++ zeros 4 ++ (udOf 0).drop 12 }), .norm 3 [], 3, 0, [], theChain 0 (fun d => { d with ud := (udOf 0).take 8 ++ zeros 4 ++ (udOf 0).drop 12 }), { UpdDesc.start 512 (udOf 0) with ud := (udOf 0).take 8 ++ zeros 4 ++ (udOf 0).drop 12 }, by decide +kernel⟩

theorem witness_UpdateDescriptorsStart_skipped : ∃ (s : State) (i : Instr) (id : Nat) (op : Nat) (ecc : List (Nat × EccError)) (c : Chain) (d : UpdDesc),
    ((i, op) ∈ [(Instr.adamw id ecc, 1), (.lion id ecc, 2), (.sgdm id ecc, 3)]) ∧ (s.overlay islHub = []) ∧ ((s.eccFound ecc).descFor id op = some (c,
    d)) ∧ ((s.eccFound ecc).fenceHeld id d.ud = false) ∧ ((s.eccFound ecc).udCheck c.ctx d.ud = .ok)
    ∧ ((s.eccFound ecc).flag .lrnStepskip c.ctx = true) :=
  ⟨(chainOn 3 (fun d => d)).wr .lrnStepskip 0 1, .sgdm 3 [], 3, 3, [], theChain 3 (fun d => d), UpdDesc.start 512 (udOf 3), by decide +kernel⟩

theorem witness_UpdateDescriptorsStart_unread : ∃ (s : State) (i : Instr) (id : Nat) (op : Nat) (ecc : List (Nat × EccError)) (c : Chain) (d : UpdDesc) (st : Status),
    ((i, op) ∈ [(Instr.adamw id ecc, 1), (.lion id ecc, 2), (.sgdm id ecc, 3)]) ∧ (s.overlay islHub = []) ∧ ((s.eccFound ecc).descFor id op = some (c,
    d)) ∧ ((s.eccFound ecc).fenceHeld id d.ud = false) ∧ ((s.eccFound ecc).udCheck c.ctx d.ud = .ok)
    ∧ ((s.eccFound ecc).flag .lrnStepskip c.ctx = false) ∧ (((s.eccFound ecc).normFor c.ctx d.ud).2.toOption = none)
    ∧ (statusOf ((s.eccFound ecc).normFor c.ctx d.ud).2 = st) :=
  ⟨(fun s => { s with mem := { s.mem with poison := [(0x40001, true)] } }) (chainOn 1 (fun d => { d with ud := (udOf 1).take 92 ++ leBytes 4 0x3F800000 ++ (udOf 1).drop 96 })), .adamw 3 [], 3, 1, [], theChain 1 (fun d => { d with ud := (udOf 1).take 92 ++ leBytes 4 0x3F800000 ++ (udOf 1).drop 96 }), { UpdDesc.start 512 (udOf 1) with ud := (udOf 1).take 92 ++ leBytes 4 0x3F800000 ++ (udOf 1).drop 96 }, .memUncorrectable, by decide +kernel⟩

theorem witness_UpdateDescriptorsStart_fenced : ∃ (s : State) (i : Instr) (id : Nat) (op : Nat) (ecc : List (Nat × EccError)) (c : Chain) (d : UpdDesc),
    ((i, op) ∈ [(Instr.norm id ecc, 0), (.adamw id ecc, 1), (.lion id ecc, 2), (.sgdm id ecc, 3), (.convert id ecc, 4)]) ∧ (s.overlay islHub = [])
    ∧ ((s.eccFound ecc).descFor id op = some (c, d)) ∧ ((s.eccFound ecc).fenceHeld id d.ud = true) :=
  ⟨{ chainOn 4 (fun d => { d with ud := leBytes 4 (4 + 16 + 32) ++ (udOf 4).drop 4 }) with upd := ⟨[{ theChain 4 (fun d => { d with out := [(0, [])] }) with id := 2 }, theChain 4 (fun d => { d with ud := leBytes 4 (4 + 16 + 32) ++ (udOf 4).drop 4 })], 4⟩ }, .convert 3 [], 3, 4, [], theChain 4 (fun d => { d with ud := leBytes 4 (4 + 16 + 32) ++ (udOf 4).drop 4 }), { UpdDesc.start 512 (udOf 4) with ud := leBytes 4 (4 + 16 + 32) ++ (udOf 4).drop 4 }, by decide +kernel⟩

theorem witness_UpdateDescriptorsEnd_chunk : ∃ (s : State) (id : Nat) (ecc : List (Nat × EccError)) (c : Chain) (d : UpdDesc) (ch : Nat) (n : Nat) (gs : List Nat),
    (s.chain id = some c) ∧ (c.desc = some d) ∧ (d.started = true ∧ d.ready = false) ∧ (udOp d.ud = 0) ∧ (d.chunk * 4096 < udCount d.ud)
    ∧ (s.ctxLive c.ctx = true) ∧ (ch = (s.eccFound ecc).unitAt c.ctx (udGrad d.ud + d.chunk * 4096 * fmtBits (udGfmt d.ud) / 8))
    ∧ (n = min 4096 (udCount d.ud - d.chunk * 4096))
    ∧ ((((s.eccFound ecc).unitRuns c.ctx ch n { d with chunk := d.chunk + 1 }).1.regRead c.ctx (regGrad d.ud) (d.chunk * 4096) n).2.toOption = some gs) :=
  ⟨chainOn 0 (fun d => { d with started := true }), 3, [], theChain 0 (fun d => { d with started := true }), { UpdDesc.start 512 (udOf 0) with started := true }, 16, 16, List.replicate 16 0, by decide +kernel⟩

theorem witness_UpdateDescriptorsEnd_complete : ∃ (s : State) (id : Nat) (c : Chain) (d : UpdDesc), (s.chain id = some c) ∧ (c.desc = some d)
    ∧ (d.ended = true) ∧ (s.ctxLive c.ctx = true) ∧ (updCompletes d.status = true)
    ∧ (((d.units.foldl (fun s ch => s.wr .updRun ch 0) s).writeResults c.ctx d).2 = .ok)
    ∧ ((((d.units.foldl (fun s ch => s.wr .updRun ch 0) s).writeResults c.ctx d).1.writeDesc c.ctx { d with status := if d.status = .ok ∧ d.nonfin ≠ 0 then .lrnUpdNonfinite else d.status }).2 = .ok) :=
  ⟨chainOn 1 (fun d => { d with started := true, chunk := 1, units := [7], out := [(64, leBytes 4 9)] }), 3, theChain 1 (fun d => { d with started := true, chunk := 1, units := [7], out := [(64, leBytes 4 9)] }), (fun d : UpdDesc => { d with started := true, chunk := 1, units := [7], out := [(64, leBytes 4 9)] }) (UpdDesc.start 512 (udOf 1)), by decide +kernel⟩

theorem witness_UpdateDescriptorsEnd_close : ∃ (s : State) (id : Nat) (ecc : List (Nat × EccError)) (c : Chain) (d : UpdDesc) (b : List Byte) (f : Bool),
    (s.overlay islHub = []) ∧ (s.descFor id 5 = some (c, d)) ∧ ((s.secureDue c.ctx = none ∨ s.fh.captured = s.secureDue c.ctx))
    ∧ (s.fenceHeld id d.ud = false) ∧ (s.udCheck c.ctx d.ud = .ok) ∧ (((s.eccFound ecc).readDva c.ctx (udNorm d.ud) 16).2.toOption = some b)
    ∧ (f = bitAt (fieldAt b 4 4) 0) :=
  ⟨chainOn 5 (fun d => d), 3, [], theChain 5 (fun d => d), UpdDesc.start 512 (udOf 5), zeros 16, false, by decide +kernel⟩

theorem witness_UpdateDescriptorsEnd_lsinit : ∃ (s : State) (rdr : Reader) (ctx : Nat) (v : Nat), (ctx < 64) ∧ (s.mayWriteCtx rdr ctx = true)
    ∧ (v % 2 = 1) :=
  ⟨after [(.ctxState, 63, 1), (.lrnLsen, 63, 1)], .session 0, 63, 1, by decide +kernel⟩

theorem witness_UpdateDescriptorsEnd_nfset : ∃ (s : State) (rdr : Reader) (ctx : Nat) (v : Nat), (ctx < 64) ∧ (s.mayWriteCtx rdr ctx = true)
    ∧ (v % 2 = 1) :=
  ⟨after [(.ctxState, 63, 1)], .session 0, 63, 1, by decide +kernel⟩

theorem witness_UpdateDescriptorsEnd_chunk_unread : ∃ (s : State) (id : Nat) (ecc : List (Nat × EccError)) (c : Chain) (d : UpdDesc) (ch : Nat) (n : Nat) (st : Status),
    (s.chain id = some c) ∧ (c.desc = some d) ∧ (d.started = true ∧ d.ready = false) ∧ (udOp d.ud = 0) ∧ (d.chunk * 4096 < udCount d.ud)
    ∧ (s.ctxLive c.ctx = true) ∧ (ch = (s.eccFound ecc).unitAt c.ctx (udGrad d.ud + d.chunk * 4096 * fmtBits (udGfmt d.ud) / 8))
    ∧ (n = min 4096 (udCount d.ud - d.chunk * 4096))
    ∧ ((((s.eccFound ecc).unitRuns c.ctx ch n { d with chunk := d.chunk + 1 }).1.regRead c.ctx (regGrad d.ud) (d.chunk * 4096) n).2.toOption = none)
    ∧ (statusOf (((s.eccFound ecc).unitRuns c.ctx ch n { d with chunk := d.chunk + 1 }).1.regRead c.ctx (regGrad d.ud) (d.chunk * 4096) n).2 = st) :=
  ⟨(fun s => { s with mem := { s.mem with poison := [(0x40000, true)] } }) (chainOn 0 (fun d => { d with started := true })), 3, [], theChain 0 (fun d => { d with started := true }), { UpdDesc.start 512 (udOf 0) with started := true }, 16, 16, .memUncorrectable, by decide +kernel⟩

theorem witness_UpdateDescriptorsEnd_chunk_update : ∃ (s : State) (id : Nat) (ecc : List (Nat × EccError)) (c : Chain) (d : UpdDesc) (ch : Nat) (n : Nat),
    (s.chain id = some c) ∧ (c.desc = some d) ∧ (d.started = true ∧ d.ready = false) ∧ (udOp d.ud ≠ 0 ∧ udOp d.ud ≠ 5)
    ∧ (d.chunk * 4096 < udCount d.ud) ∧ (s.ctxLive c.ctx = true) ∧ (ch = (s.eccFound ecc).unitAt c.ctx (udMaster d.ud + 4 * (d.chunk * 4096)))
    ∧ (n = min 4096 (udCount d.ud - d.chunk * 4096)) :=
  ⟨chainOn 1 (fun d => { d with started := true }), 3, [], theChain 1 (fun d => { d with started := true }), { UpdDesc.start 512 (udOf 1) with started := true }, 16, 16, by decide +kernel⟩

theorem witness_UpdateDescriptorsEnd_last : ∃ (s : State) (id : Nat) (c : Chain) (d : UpdDesc), (s.chain id = some c) ∧ (c.desc = some d)
    ∧ (d.ended = true) ∧ (s.ctxLive c.ctx = true) ∧ (updCompletes d.status = true)
    ∧ (((d.units.foldl (fun s ch => s.wr .updRun ch 0) s).writeResults c.ctx d).2 = .ok)
    ∧ ((((d.units.foldl (fun s ch => s.wr .updRun ch 0) s).writeResults c.ctx d).1.writeDesc c.ctx { d with status := if d.status = .ok ∧ d.nonfin ≠ 0 then .lrnUpdNonfinite else d.status }).2 = .ok)
    ∧ (udLast d.ud = true ∧ udTallyEn d.ud = false) ∧ (c.complete = false) :=
  ⟨chainOn 1 (fun d => { d with started := true, chunk := 1, units := [7], out := [(64, leBytes 4 9)] }), 3, theChain 1 (fun d => { d with started := true, chunk := 1, units := [7], out := [(64, leBytes 4 9)] }), (fun d : UpdDesc => { d with started := true, chunk := 1, units := [7], out := [(64, leBytes 4 9)] }) (UpdDesc.start 512 (udOf 1)), by decide +kernel⟩

theorem witness_UpdateDescriptorsEnd_failed : ∃ (s : State) (id : Nat) (c : Chain) (d : UpdDesc), (s.chain id = some c) ∧ (c.desc = some d)
    ∧ (d.ended = true) ∧ (s.ctxLive c.ctx = true) ∧ (updCompletes d.status = false) :=
  ⟨chainOn 1 (fun d => d.fail .lrnUpdAlign), 3, theChain 1 (fun d => d.fail .lrnUpdAlign), (UpdDesc.start 512 (udOf 1)).fail .lrnUpdAlign, by decide +kernel⟩

theorem witness_UpdateDescriptorsEnd_unwritten : ∃ (s : State) (id : Nat) (c : Chain) (d : UpdDesc), (s.chain id = some c) ∧ (c.desc = some d)
    ∧ (d.ended = true) ∧ (s.ctxLive c.ctx = true) ∧ (updCompletes d.status = true)
    ∧ (((d.units.foldl (fun s ch => s.wr .updRun ch 0) s).writeResults c.ctx d).2 ≠ .ok) :=
  ⟨chainOn 1 (fun d => { d with started := true, chunk := 1, units := [7], out := [(0x200000, leBytes 4 9)] }), 3, theChain 1 (fun d => { d with started := true, chunk := 1, units := [7], out := [(0x200000, leBytes 4 9)] }), (fun d : UpdDesc => { d with started := true, chunk := 1, units := [7], out := [(0x200000, leBytes 4 9)] }) (UpdDesc.start 512 (udOf 1)), by decide +kernel⟩

theorem witness_UpdateDescriptorsEnd_unended : ∃ (s : State) (id : Nat) (c : Chain) (d : UpdDesc), (s.chain id = some c) ∧ (c.desc = some d)
    ∧ (d.ended = false) :=
  ⟨chainOn 1 (fun d => d), 3, theChain 1 (fun d => d), UpdDesc.start 512 (udOf 1), by decide +kernel⟩

theorem witness_UpdateDescriptorsEnd_close_unread : ∃ (s : State) (id : Nat) (ecc : List (Nat × EccError)) (c : Chain) (d : UpdDesc) (st : Status),
    (s.overlay islHub = []) ∧ (s.descFor id 5 = some (c, d)) ∧ ((s.secureDue c.ctx = none ∨ s.fh.captured = s.secureDue c.ctx))
    ∧ (s.fenceHeld id d.ud = false) ∧ (s.udCheck c.ctx d.ud = .ok) ∧ (((s.eccFound ecc).readDva c.ctx (udNorm d.ud) 16).2.toOption = none)
    ∧ (statusOf ((s.eccFound ecc).readDva c.ctx (udNorm d.ud) 16).2 = st) :=
  ⟨(fun s => { s with mem := { s.mem with poison := [(0x40001, true)] } }) (chainOn 5 (fun d => d)), 3, [], theChain 5 (fun d => d), UpdDesc.start 512 (udOf 5), .memUncorrectable, by decide +kernel⟩

theorem witness_UpdateDescriptorsEnd_close_waits : ∃ (s : State) (id : Nat) (k : Nat) (c : Chain) (d : UpdDesc), (s.overlay islHub = [])
    ∧ (s.descFor id 5 = some (c, d)) ∧ (s.secureDue c.ctx = some k) ∧ (s.fh.captured ≠ some k) :=
  ⟨([(.fhArm, 0, 1), (.fhState, 0, 1), (.fhInterval, 0, 1), (.fhRunstep, 0, 9)] : List (Reg × Nat × Nat)).foldl (fun s x => s.wr x.1 x.2.1 x.2.2) (chainOn 5 (fun d => d)), 3, 9, theChain 5 (fun d => d), UpdDesc.start 512 (udOf 5), by decide +kernel⟩

theorem witness_UpdateDescriptorsEnd_close_unchecked : ∃ (s : State) (id : Nat) (c : Chain) (d : UpdDesc), (s.overlay islHub = [])
    ∧ (s.descFor id 5 = some (c, d)) ∧ ((s.secureDue c.ctx = none ∨ s.fh.captured = s.secureDue c.ctx)) ∧ (s.fenceHeld id d.ud = false)
    ∧ (s.udCheck c.ctx d.ud ≠ .ok) :=
  ⟨chainOn 5 (fun d => { d with ud := (udOf 5).take 64 ++ [1#8] ++ (udOf 5).drop 65 }), 3, theChain 5 (fun d => { d with ud := (udOf 5).take 64 ++ [1#8] ++ (udOf 5).drop 65 }), { UpdDesc.start 512 (udOf 5) with ud := (udOf 5).take 64 ++ [1#8] ++ (udOf 5).drop 65 }, by decide +kernel⟩

theorem witness_UpdateDescriptorsEnd_lrnLsinit_zero : ∃ (s : State) (rdr : Reader) (ctx : Nat) (v : Nat), (ctx < 64) ∧ (s.mayWriteCtx rdr ctx = true)
    ∧ (v % 2 = 0) :=
  ⟨after [(.ctxState, 63, 1)], .session 0, 63, 2, by decide +kernel⟩

theorem witness_UpdateDescriptorsEnd_lrnNfset_zero : ∃ (s : State) (rdr : Reader) (ctx : Nat) (v : Nat), (ctx < 64) ∧ (s.mayWriteCtx rdr ctx = true)
    ∧ (v % 2 = 0) :=
  ⟨after [(.ctxState, 63, 1)], .session 0, 63, 2, by decide +kernel⟩

theorem witness_UpdateDescriptorsEnd_rights : ∃ (s : State) (rdr : Reader) (ctx : Nat), (ctx < 64) ∧ (s.mayWriteCtx rdr ctx = false) :=
  ⟨after [(.ctxState, 63, 1)], .session 1, 63, by decide +kernel⟩

theorem witness_SubmissionsAndCommandsRead_submit : ∃ (s : State) (u : State) (ring : Nat) (c : Nat) (i : Nat) (ecc : List (Nat × EccError)) (b : List Byte),
    ((s.takeSubmit ring (fun k => k = 1)).2 = some (c, b))
    ∧ (u = ((s.takeSubmit ring (fun k => k = 1)).1.eccFound ecc).setStep c { ((s.takeSubmit ring (fun k => k = 1)).1.eccFound ecc).step_ c with due := true })
    ∧ ((u.submitCheck c b).toOption = some i) ∧ ((u.writeHeader i (u.submitSeq c i b)).2 = .ok) :=
  ⟨seqOn submitEntry [], ((seqOn submitEntry []).takeSubmit 5 (fun k => k = 1)).1.setStep 0 { ((seqOn submitEntry []).takeSubmit 5 (fun k => k = 1)).1.step_ 0 with due := true }, 5, 0, 0, [], [1#8, 0#8, 0#8, 0#8, 1#8, 0#8, 0#8, 0#8, 1#8] ++ zeros 24 ++ [0x20#8] ++ zeros 30, by decide +kernel⟩

theorem witness_SubmissionsAndCommandsRead_cancel : ∃ (s : State) (ring : Nat) (c : Nat) (i : Nat) (ecc : List (Nat × EccError)) (b : List Byte),
    (((s.eccFound ecc).takeSubmit ring (fun k => k = 2)).2 = some (c, b)) ∧ (((s.eccFound ecc).takeSubmit ring (fun k => k = 2)).1.seqLead c = true)
    ∧ (((s.eccFound ecc).takeSubmit ring (fun k => k = 2)).1.seqOf (fieldAt b 4 4) = some i)
    ∧ ((((s.eccFound ecc).takeSubmit ring (fun k => k = 2)).1.seqAt i).ctx = c
    ∧ (((s.eccFound ecc).takeSubmit ring (fun k => k = 2)).1.seqAt i).state ≤ 4) :=
  ⟨(seqOn [(0, 2#8)] []).setSeq 0 { Seq.free 0 with state := 3 }, 5, 0, 0, [], [2#8] ++ zeros 63, by decide +kernel⟩

theorem witness_SubmissionsAndCommandsRead_pause : ∃ (s : State) (ring : Nat) (c : Nat) (ecc : List (Nat × EccError)) (b : List Byte),
    (((s.eccFound ecc).takeSubmit ring (fun k => k = 3)).2 = some (c, b))
    ∧ (((s.eccFound ecc).takeSubmit ring (fun k => k = 3)).1.seqLead c = true) :=
  ⟨seqOn [(0, 3#8)] [], 5, 0, [], [3#8] ++ zeros 63, by decide +kernel⟩

theorem witness_SubmissionsAndCommandsRead_resume : ∃ (s : State) (ring : Nat) (c : Nat) (ecc : List (Nat × EccError)) (b : List Byte),
    (((s.eccFound ecc).takeSubmit ring (fun k => k = 4)).2 = some (c, b))
    ∧ (((s.eccFound ecc).takeSubmit ring (fun k => k = 4)).1.seqLead c = true) :=
  ⟨seqOn [(0, 4#8)] [], 5, 0, [], [4#8] ++ zeros 63, by decide +kernel⟩

theorem witness_SubmissionsAndCommandsRead_release : ∃ (s : State) (ring : Nat) (c : Nat) (ecc : List (Nat × EccError)) (b : List Byte),
    (((s.eccFound ecc).takeSubmit ring (fun k => k = 5)).2 = some (c, b))
    ∧ (((s.eccFound ecc).takeSubmit ring (fun k => k = 5)).1.seqLead c = true) :=
  ⟨seqOn [(0, 5#8)] [], 5, 0, [], [5#8] ++ zeros 63, by decide +kernel⟩

theorem witness_SubmissionsAndCommandsRead_stopset : ∃ (s : State) (ring : Nat) (c : Nat) (ecc : List (Nat × EccError)) (b : List Byte),
    (((s.eccFound ecc).takeSubmit ring (fun k => k = 6)).2 = some (c, b))
    ∧ (((s.eccFound ecc).takeSubmit ring (fun k => k = 6)).1.seqLead c = true) :=
  ⟨seqOn [(0, 6#8)] [], 5, 0, [], [6#8] ++ zeros 63, by decide +kernel⟩

theorem witness_SubmissionsAndCommandsRead_reserved : ∃ (s : State) (ring : Nat) (c : Nat) (ecc : List (Nat × EccError)) (b : List Byte),
    (((s.eccFound ecc).takeSubmit ring (fun k => k = 0 || decide (7 ≤ k))).2 = some (c, b)) :=
  ⟨seqOn [(0, 7#8)] [], 5, 0, [], [7#8] ++ zeros 63, by decide +kernel⟩

theorem witness_SubmissionsAndCommandsRead_submit_refused : ∃ (s : State) (u : State) (ring : Nat) (c : Nat) (ecc : List (Nat × EccError)) (b : List Byte) (st : Status),
    ((s.takeSubmit ring (fun k => k = 1)).2 = some (c, b))
    ∧ (u = ((s.takeSubmit ring (fun k => k = 1)).1.eccFound ecc).setStep c { ((s.takeSubmit ring (fun k => k = 1)).1.eccFound ecc).step_ c with due := true })
    ∧ ((u.submitCheck c b).toOption = none) ∧ (statusOf (u.submitCheck c b) = st) :=
  ⟨seqOn submitEntry [(.seqMaxseq, 0, 0)], ((seqOn submitEntry [(.seqMaxseq, 0, 0)]).takeSubmit 5 (fun k => k = 1)).1.setStep 0 { ((seqOn submitEntry [(.seqMaxseq, 0, 0)]).takeSubmit 5 (fun k => k = 1)).1.step_ 0 with due := true }, 5, 0, [], [1#8, 0#8, 0#8, 0#8, 1#8, 0#8, 0#8, 0#8, 1#8] ++ zeros 24 ++ [0x20#8] ++ zeros 30, .seqCtxLimit, by decide +kernel⟩

theorem witness_SubmissionsAndCommandsRead_submit_unwritten : ∃ (s : State) (u : State) (ring : Nat) (c : Nat) (i : Nat) (ecc : List (Nat × EccError)) (b : List Byte),
    ((s.takeSubmit ring (fun k => k = 1)).2 = some (c, b))
    ∧ (u = ((s.takeSubmit ring (fun k => k = 1)).1.eccFound ecc).setStep c { ((s.takeSubmit ring (fun k => k = 1)).1.eccFound ecc).step_ c with due := true })
    ∧ ((u.submitCheck c b).toOption = some i) ∧ ((u.writeHeader i (u.submitSeq c i b)).2 ≠ .ok) :=
  ⟨(fun s => { s with mem := { s.mem with poison := [(0x40020, true)] } }) (seqOn submitEntry []), (fun s => ((s).takeSubmit 5 (fun k => k = 1)).1.setStep 0 { ((s).takeSubmit 5 (fun k => k = 1)).1.step_ 0 with due := true }) ((fun s => { s with mem := { s.mem with poison := [(0x40020, true)] } }) (seqOn submitEntry [])), 5, 0, 0, [], [1#8, 0#8, 0#8, 0#8, 1#8, 0#8, 0#8, 0#8, 1#8] ++ zeros 24 ++ [0x20#8] ++ zeros 30, by decide +kernel⟩

theorem witness_SubmissionsAndCommandsRead_cancel_stale : ∃ (s : State) (ring : Nat) (c : Nat) (ecc : List (Nat × EccError)) (b : List Byte),
    (((s.eccFound ecc).takeSubmit ring (fun k => k = 2)).2 = some (c, b)) ∧ (((s.eccFound ecc).takeSubmit ring (fun k => k = 2)).1.seqLead c = true)
    ∧ (((s.eccFound ecc).takeSubmit ring (fun k => k = 2)).1.seqOf (fieldAt b 4 4) = none) :=
  ⟨seqOn [(0, 2#8)] [], 5, 0, [], [2#8] ++ zeros 63, by decide +kernel⟩

theorem witness_SubmissionsAndCommandsRead_not_led : ∃ (s : State) (i : Instr) (ring : Nat) (c : Nat) (k : Nat) (ecc : List (Nat × EccError)) (b : List Byte),
    ((i,
    k) ∈ [(Instr.cancel ⟨ring, ecc⟩, 2), (.pause ⟨ring, ecc⟩, 3), (.resume ⟨ring, ecc⟩, 4), (.release ⟨ring, ecc⟩, 5), (.loadStopset ⟨ring, ecc⟩, 6)])
    ∧ (((s.eccFound ecc).takeSubmit ring (fun j => j = k)).2 = some (c, b))
    ∧ (((s.eccFound ecc).takeSubmit ring (fun j => j = k)).1.seqLead c = false) :=
  ⟨seqOn [(0, 3#8)] [(.seqRole, 0, 2)], .pause ⟨5, []⟩, 5, 0, 3, [], [3#8] ++ zeros 63, by decide +kernel⟩

theorem witness_SubmissionsAndCommandsRead_untaken : ∃ (s : State) (i : Instr) (ring : Nat) (k : Nat) (ecc : List (Nat × EccError)), ((i,
    k) ∈ [(Instr.cancel ⟨ring, ecc⟩, 2), (.pause ⟨ring, ecc⟩, 3), (.resume ⟨ring, ecc⟩, 4), (.release ⟨ring, ecc⟩, 5), (.loadStopset ⟨ring, ecc⟩, 6)])
    ∧ (((s.eccFound ecc).takeSubmit ring (fun j => j = k)).2 = none) :=
  ⟨seqOn [(0, 3#8)] [], .cancel ⟨5, []⟩, 5, 2, [], by decide +kernel⟩

theorem witness_StepsComplete_tallyDone : ∃ (s : State) (c : Nat), ((s.step_ c).stage = .running) ∧ ((s.waitDone (.sequencer c)).isSome = true)
    ∧ ((s.step_ c).rows ≠ 0) ∧ ((List.range 6).all (fun k => s.flag .smpFenced k) = false) :=
  ⟨(steppingAt .running []).finishWait (.sequencer 0) .ok, 0, by decide +kernel⟩

theorem witness_StepsComplete_boundary : ∃ (s : State) (c : Nat) (ecc : List (Nat × EccError)), ((s.eccFound ecc).seqLead c = true)
    ∧ (((s.eccFound ecc).step_ c).stage = .sampling) ∧ (((s.eccFound ecc).step_ c).rows ≤ ((s.eccFound ecc).step_ c).results.length)
    ∧ ((s.eccFound ecc).allReported c = true) :=
  ⟨(seqOn [] []).setStep 0 { StepState.fresh with stage := .sampling }, 0, [], by decide +kernel⟩

theorem witness_StepsComplete_idle : ∃ (s : State) (c : Nat) (ecc : List (Nat × EccError)), ((s.eccFound ecc).seqLead c = true)
    ∧ (((s.eccFound ecc).step_ c).stage = .idle) ∧ ((s.eccFound ecc).idleDue c = true) ∧ ((s.eccFound ecc).allReported c = true) :=
  ⟨(seqOn [] []).setStep 0 { StepState.fresh with due := true }, 0, [], by decide +kernel⟩

theorem witness_StepsComplete_held : ∃ (s : State) (c : Nat) (ecc : List (Nat × EccError)),
    ((((s.eccFound ecc).retryRecords c).step_ c).stage = .held) ∧ (((s.eccFound ecc).retryRecords c).recordsHeld c = false)
    ∧ ((((s.eccFound ecc).retryRecords c).step_ c).mirrorWait = false) :=
  ⟨steppingAt .held [], 0, [], by decide +kernel⟩

theorem witness_StepsComplete_report : ∃ (s : State) (c : Nat) (member : Nat), (s.seqLead c = true) ∧ ((s.groupMembers c).contains member = true) :=
  ⟨seqOn [] [(.seqGroupsize, 0, 1), (.seqGrouplist, 0, 0x1800)], 0, 7, by decide +kernel⟩

theorem witness_StepsComplete_silent : ∃ (s : State) (c : Nat) (m : Nat), (s.seqLead c = true) ∧ ((s.step_ c).stage = .sampling)
    ∧ ((s.step_ c).tallyAt + 20000000 ≤ s.now) ∧ (s.groupMembers c = [m]) ∧ ((s.step_ c).reports.any (·.member = m) = false) :=
  ⟨steppingAt .sampling [(.seqGroupsize, 0, 1), (.seqGrouplist, 0, 0x1800), (.glbDevtime, 0, 20000000), (.fltState, 0, fltMember)], 0, 7, by decide +kernel⟩

theorem witness_StepsComplete_mirror : ∃ (s : State) (c : Nat) (ecc : List (Nat × EccError)), (((s.eccFound ecc).step_ c).mirrorWait = true) :=
  ⟨(seqOn [] []).setStep 0 { StepState.fresh with mirror := [(7, zeros 64, none)], mirrorWait := true }, 0, [], by decide +kernel⟩

theorem witness_StepsComplete_list : ∃ (s : State) (c : Nat) (e : Nat), ((s.step_ c).listDue = true) ∧ (s.rd .kvListtally c ≠ 0)
    ∧ ((s.tallyEntry (bankOfIsland islSequencer) c (s.rd .kvListtally c)).toOption = some e) ∧ (s.tallyVal (bitsAt e 0 20) + 1 ≤ 0xFFFFFFFF) :=
  ⟨(tallied [(.kvListtally, 0, 1)]).setStep 0 { StepState.fresh with listDue := true }, 0, 0x100000, by decide +kernel⟩

theorem witness_StepsComplete_noUnit : ∃ (s : State) (c : Nat), ((s.step_ c).stage = .running) ∧ ((s.waitDone (.sequencer c)).isSome = true)
    ∧ ((s.step_ c).rows ≠ 0) ∧ ((List.range 6).all (fun k => s.flag .smpFenced k) = true) :=
  ⟨(steppingAt .running [(.smpFenced, 0, 1), (.smpFenced, 1, 1), (.smpFenced, 2, 1), (.smpFenced, 3, 1), (.smpFenced, 4, 1), (.smpFenced, 5, 1)]).finishWait (.sequencer 0) .ok, 0, by decide +kernel⟩

theorem witness_StepsComplete_noRows : ∃ (s : State) (c : Nat), ((s.step_ c).stage = .running) ∧ ((s.waitDone (.sequencer c)).isSome = true)
    ∧ ((s.step_ c).rows = 0) :=
  ⟨((steppingAt .running []).setStep 0 { StepState.fresh with stage := .running }).finishWait (.sequencer 0) .ok, 0, by decide +kernel⟩

theorem witness_StepsComplete_notDone : ∃ (s : State) (c : Nat), (((s.step_ c).stage ≠ .running ∨ s.waitDone (.sequencer c) = none)) :=
  ⟨steppingAt .running [], 0, by decide +kernel⟩

theorem witness_StepsComplete_follower : ∃ (s : State) (c : Nat) (ecc : List (Nat × EccError)), ((s.eccFound ecc).ctxLive c = true)
    ∧ ((s.eccFound ecc).rd .seqRole c = 2) ∧ ((((s.eccFound ecc).step_ c).stage = .idle ∨ (((s.eccFound ecc).step_ c).stage = .sampling
    ∧ ((s.eccFound ecc).step_ c).rows ≤ ((s.eccFound ecc).step_ c).results.length))) :=
  ⟨seqOn [] [(.seqRole, 0, 2)], 0, [], by decide +kernel⟩

theorem witness_StepsComplete_notEnded : ∃ (s : State) (c : Nat) (ecc : List (Nat × EccError)), ((s.eccFound ecc).rd .seqRole c ≠ 2)
    ∧ ((((s.eccFound ecc).step_ c).stage ≠ .sampling ∨ ((s.eccFound ecc).step_ c).results.length < ((s.eccFound ecc).step_ c).rows ∨ (s.eccFound ecc).seqLead c = false ∨ (s.eccFound ecc).allReported c = false)) :=
  ⟨steppingAt .sampling [], 0, [], by decide +kernel⟩

theorem witness_StepsComplete_idleReport : ∃ (s : State) (c : Nat) (ecc : List (Nat × EccError)), ((s.eccFound ecc).seqLead c = false)
    ∧ ((s.eccFound ecc).ctxLive c = true) ∧ (((s.eccFound ecc).step_ c).stage = .idle) :=
  ⟨seqOn [] [(.seqRole, 0, 2)], 0, [], by decide +kernel⟩

theorem witness_StepsComplete_idleNotDue : ∃ (s : State) (c : Nat) (ecc : List (Nat × EccError)), ((s.eccFound ecc).seqLead c = true)
    ∧ ((((s.eccFound ecc).step_ c).stage ≠ .idle ∨ (s.eccFound ecc).idleDue c = false ∨ (s.eccFound ecc).allReported c = false)) :=
  ⟨seqOn [] [], 0, [], by decide +kernel⟩

theorem witness_StepsComplete_stillHeld : ∃ (s : State) (c : Nat) (ecc : List (Nat × EccError)),
    ((((s.eccFound ecc).retryRecords c).step_ c).stage = .held)
    ∧ ((((s.eccFound ecc).retryRecords c).recordsHeld c = true ∨ (((s.eccFound ecc).retryRecords c).step_ c).mirrorWait = true)) :=
  ⟨(steppingAt .held []).setStep 0 { stepOf .held with mirrorWait := true }, 0, [], by decide +kernel⟩

theorem witness_StepsComplete_inTime : ∃ (s : State) (c : Nat), (s.now < (s.step_ c).tallyAt + 20000000) :=
  ⟨{ steppingAt .sampling [] with seq := { (steppingAt .sampling []).seq with ctxs := [(0, { stepOf .sampling with tallyAt := 1 })] } }, 0, by decide +kernel⟩

theorem witness_StepsComplete_mirror_running : ∃ (s : State) (c : Nat) (ecc : List (Nat × EccError)), (((s.eccFound ecc).step_ c).mirrorWait = true)
    ∧ (((s.eccFound ecc).step_ c).stage ≠ .held) :=
  ⟨(seqOn [] []).setStep 0 { StepState.fresh with mirror := [(7, zeros 64, none)], mirrorWait := true }, 0, [], by decide +kernel⟩

theorem witness_StepsComplete_listNone : ∃ (s : State) (c : Nat), ((s.step_ c).listDue = false) :=
  ⟨State.reset, 63, by decide +kernel⟩

theorem witness_StepsComplete_notMember : ∃ (s : State) (c : Nat) (member : Nat),
    ((s.seqLead c = false ∨ (s.groupMembers c).contains member = false)) :=
  ⟨seqOn [] [], 0, 7, by decide +kernel⟩

theorem witness_KeyValueCommandsComplete_pfxrel : ∃ (s : State) (rdr : Reader) (c : Nat) (v : Nat) (k : Nat) (ecc : List (Nat × EccError)),
    ((s.eccFound ecc).mayWriteCtx rdr c = true) ∧ ((s.eccFound ecc).pfxLive c v = some k) :=
  ⟨(after [(.ctxState, 63, 1), (.kvPfxlive, 63, 1), (.kvPfxstatus, 63, 9)]).setPfx 63 1023 ⟨2, true, 0, 5⟩, .session 0, 63, 3071, 1023, [], by decide +kernel⟩

theorem witness_KeyValueCommandsComplete_spill : ∃ (s : State) (idx : Nat) (entry : Nat) (m : KvMove) (ecc : List (Nat × EccError)),
    ((s.eccFound ecc).kv.moves.find? (fun m => m.idx = idx ∧ m.entry = entry ∧ m.fill = false) = some m)
    ∧ ((((s.eccFound ecc).moveOver idx entry).copyPage m).2 = .ok) :=
  ⟨{ after [(.cxlState, 7, 2), (.cxlCapacity, 7, 1), (.kvFarbase, 0, 7 * 2 ^ 40), (.kvFarmetabase, 0, 7 * 2 ^ 40 + 0x100000), (.kvMetabase, 0, 0x200000)] with kv := { State.reset.kv with moves := [⟨9, false, 3, 1, 4194305⟩] } }, 9, 3, ⟨9, false, 3, 1, 4194305⟩, [], by decide +kernel⟩

theorem witness_KeyValueCommandsComplete_fill : ∃ (s : State) (idx : Nat) (entry : Nat) (m : KvMove) (ecc : List (Nat × EccError)),
    ((s.eccFound ecc).kv.moves.find? (fun m => m.idx = idx ∧ m.entry = entry ∧ m.fill = true) = some m)
    ∧ ((((s.eccFound ecc).moveOver idx entry).copyPage m).2 = .ok) :=
  ⟨filling, 9, 3, ⟨9, true, 3, 4194305, 1⟩, [], by decide +kernel, filling_copies⟩

theorem witness_KeyValueCommandsComplete_pfxrel_alone : ∃ (s : State) (rdr : Reader) (c : Nat) (v : Nat) (k : Nat) (ecc : List (Nat × EccError)),
    ((s.eccFound ecc).mayWriteCtx rdr c = true) ∧ ((s.eccFound ecc).pfxLive c v = some k) ∧ ((s.eccFound ecc).seqLead c = false) :=
  ⟨(after [(.ctxState, 63, 1), (.kvPfxlive, 63, 1), (.kvPfxstatus, 63, 9)]).setPfx 63 1023 ⟨2, true, 0, 5⟩, .session 0, 63, 3071, 1023, [], by decide +kernel⟩

theorem witness_KeyValueCommandsComplete_pfxrel_stale : ∃ (s : State) (rdr : Reader) (c : Nat) (v : Nat) (ecc : List (Nat × EccError)),
    ((s.eccFound ecc).mayWriteCtx rdr c = true) ∧ ((s.eccFound ecc).pfxLive c v = none) :=
  ⟨(after [(.ctxState, 63, 1), (.kvPfxlive, 63, 1), (.kvPfxstatus, 63, 9)]).setPfx 63 1023 ⟨2, true, 0, 5⟩, .session 0, 63, 2047, [], by decide +kernel⟩

theorem witness_KeyValueCommandsComplete_pfxrel_rights : ∃ (s : State) (rdr : Reader) (c : Nat) (ecc : List (Nat × EccError)),
    ((s.eccFound ecc).mayWriteCtx rdr c = false) :=
  ⟨(after [(.ctxState, 63, 1), (.kvPfxlive, 63, 1), (.kvPfxstatus, 63, 9)]).setPfx 63 1023 ⟨2, true, 0, 5⟩, .session 1, 63, [], by decide +kernel⟩

theorem witness_KeyValueCommandsComplete_spill_stays : ∃ (s : State) (idx : Nat) (entry : Nat) (m : KvMove) (ecc : List (Nat × EccError)),
    ((s.eccFound ecc).kv.moves.find? (fun m => m.idx = idx ∧ m.entry = entry ∧ m.fill = false) = some m)
    ∧ ((((s.eccFound ecc).moveOver idx entry).copyPage m).2 ≠ .ok) ∧ ((((s.eccFound ecc).moveOver idx entry).copyPage m).1.pageGone m.src = false) :=
  ⟨{ after [(.kvFarbase, 0, 7 * 2 ^ 40), (.kvFarmetabase, 0, 7 * 2 ^ 40 + 0x100000), (.kvMetabase, 0, 0x200000)] with kv := { State.reset.kv with moves := [⟨9, false, 3, 1, 4194305⟩] } }, 9, 3, ⟨9, false, 3, 1, 4194305⟩, [], by decide +kernel⟩

theorem witness_KeyValueCommandsComplete_spill_lost : ∃ (s : State) (idx : Nat) (entry : Nat) (m : KvMove) (ecc : List (Nat × EccError)),
    ((s.eccFound ecc).kv.moves.find? (fun m => m.idx = idx ∧ m.entry = entry ∧ m.fill = false) = some m)
    ∧ ((((s.eccFound ecc).moveOver idx entry).copyPage m).2 ≠ .ok) ∧ ((((s.eccFound ecc).moveOver idx entry).copyPage m).1.pageGone m.src = true) :=
  ⟨{ after [(.cxlState, 7, 2), (.cxlCapacity, 7, 1), (.kvFarbase, 0, 7 * 2 ^ 40), (.kvFarmetabase, 0, 7 * 2 ^ 40 + 0x100000), (.kvMetabase, 0, 0x200000)] with kv := { State.reset.kv with moves := [⟨9, false, 3, 1, 4194305⟩] }, mem := { State.reset.mem with poison := [(256, true)] } }, 9, 3, ⟨9, false, 3, 1, 4194305⟩, [], by decide +kernel⟩

theorem witness_KeyValueCommandsComplete_spill_none : ∃ (s : State) (idx : Nat) (entry : Nat) (ecc : List (Nat × EccError)),
    ((s.eccFound ecc).kv.moves.find? (fun m => m.idx = idx ∧ m.entry = entry ∧ m.fill = false) = none) :=
  ⟨State.reset, 9, 3, [], by decide +kernel⟩

theorem witness_KeyValueCommandsComplete_fill_stays : ∃ (s : State) (idx : Nat) (entry : Nat) (m : KvMove) (ecc : List (Nat × EccError)),
    ((s.eccFound ecc).kv.moves.find? (fun m => m.idx = idx ∧ m.entry = entry ∧ m.fill = true) = some m)
    ∧ ((((s.eccFound ecc).moveOver idx entry).copyPage m).2 ≠ .ok) ∧ ((((s.eccFound ecc).moveOver idx entry).copyPage m).1.pageGone m.src = false) :=
  ⟨{ after [(.cxlState, 7, 2), (.cxlCapacity, 7, 1), (.kvFarbase, 0, 7 * 2 ^ 40), (.kvFarmetabase, 0, 7 * 2 ^ 40 + 0x100000), (.kvMetabase, 0, 0x200000), (.kvNearbase, 0, 0x5D00000000)] with kv := { State.reset.kv with moves := [⟨9, true, 3, 4194305, 1⟩] } }, 9, 3, ⟨9, true, 3, 4194305, 1⟩, [], by decide +kernel⟩

theorem witness_KeyValueCommandsComplete_fill_lost : ∃ (s : State) (idx : Nat) (entry : Nat) (m : KvMove) (ecc : List (Nat × EccError)),
    ((s.eccFound ecc).kv.moves.find? (fun m => m.idx = idx ∧ m.entry = entry ∧ m.fill = true) = some m)
    ∧ ((((s.eccFound ecc).moveOver idx entry).copyPage m).2 ≠ .ok) ∧ ((((s.eccFound ecc).moveOver idx entry).copyPage m).1.pageGone m.src = true) :=
  ⟨{ after [(.kvFarbase, 0, 7 * 2 ^ 40), (.kvFarmetabase, 0, 7 * 2 ^ 40 + 0x100000), (.kvMetabase, 0, 0x200000)] with kv := { State.reset.kv with moves := [⟨9, true, 3, 4194305, 1⟩] } }, 9, 3, ⟨9, true, 3, 4194305, 1⟩, [], by decide +kernel⟩

theorem witness_KeyValueCommandsComplete_fill_none : ∃ (s : State) (idx : Nat) (entry : Nat) (ecc : List (Nat × EccError)),
    ((s.eccFound ecc).kv.moves.find? (fun m => m.idx = idx ∧ m.entry = entry ∧ m.fill = true) = none) :=
  ⟨State.reset, 9, 3, [], by decide +kernel⟩

theorem witness_SamplersComplete_row : ∃ (s : State) (u : Nat) (c : Nat) (row : Nat) (e : StepEntry) (ecc : List (Nat × EccError)),
    ((s.step_ c).rowEntry row = some e) ∧ (s.unitFree u c = true) ∧ ((s.step_ c).stage = .sampling) ∧ ((s.step_ c).results.any (·.row = row) = false)
    ∧ ((s.step_ c).passes.any (·.row = row) = false) ∧ (s.rd .ctxState c = 2) ∧ ((s.rowRun ecc u c row e.idx).1.rd .seqRole c ≠ 2)
    ∧ ((s.rowRun ecc u c row e.idx).1.rd .seqGroupsize c = 0) :=
  ⟨steppingAt .sampling [], 5, 0, 0, ⟨0, 0, 1, 1, some 0⟩, [], by decide +kernel⟩

theorem witness_SamplersComplete_merge : ∃ (s : State) (c : Nat) (u : Nat), ((s.step_ c).mergeUnit = some u) ∧ (s.messagesIn u c = true)
    ∧ ((s.step_ c).rows ≤ (s.step_ c).passes.length) ∧ ((s.step_ c).stage = .sampling) :=
  ⟨((seqOn [] []).setStep 0 { StepState.fresh with stage := .sampling, mergeUnit := some 5 }).finishWait (.sampler 5) .ok, 0, 5, by decide +kernel⟩

theorem witness_SamplersComplete_fence : ∃ (s : State) (u : Nat) (v : Nat), (u < 6) ∧ (v % 2 = 1) ∧ (s.flag .smpFenced u = false) :=
  ⟨State.reset, 5, 1, by decide +kernel⟩

theorem witness_SamplersComplete_lead : ∃ (s : State) (u : Nat) (c : Nat) (row : Nat) (e : StepEntry) (ecc : List (Nat × EccError)),
    ((s.step_ c).rowEntry row = some e) ∧ (s.unitFree u c = true) ∧ ((s.step_ c).stage = .sampling) ∧ ((s.step_ c).results.any (·.row = row) = false)
    ∧ ((s.step_ c).passes.any (·.row = row) = false) ∧ (s.rd .ctxState c = 2) ∧ ((s.rowRun ecc u c row e.idx).1.rd .seqRole c ≠ 2)
    ∧ (0 < (s.rowRun ecc u c row e.idx).1.rd .seqGroupsize c) ∧ (((s.rowRun ecc u c row e.idx).1.step_ c).mergeUnit = none) :=
  ⟨steppingAt .sampling [(.seqGroupsize, 0, 1), (.seqGrouplist, 0, 0x1800)], 5, 0, 0, ⟨0, 0, 1, 1, some 0⟩, [], by decide +kernel⟩

theorem witness_SamplersComplete_leadMore : ∃ (s : State) (u : Nat) (c : Nat) (row : Nat) (e : StepEntry) (ecc : List (Nat × EccError)) (w : Nat),
    ((s.step_ c).rowEntry row = some e) ∧ (s.unitFree u c = true) ∧ ((s.step_ c).stage = .sampling) ∧ ((s.step_ c).results.any (·.row = row) = false)
    ∧ ((s.step_ c).passes.any (·.row = row) = false) ∧ (s.rd .ctxState c = 2) ∧ ((s.rowRun ecc u c row e.idx).1.rd .seqRole c ≠ 2)
    ∧ (0 < (s.rowRun ecc u c row e.idx).1.rd .seqGroupsize c) ∧ (((s.rowRun ecc u c row e.idx).1.step_ c).mergeUnit = some w) :=
  ⟨(steppingAt .sampling [(.seqGroupsize, 0, 1), (.seqGrouplist, 0, 0x1800)]).setStep 0 { stepOf .sampling with mergeUnit := some 4 }, 5, 0, 0, ⟨0, 0, 1, 1, some 0⟩, [], 4, by decide +kernel⟩

theorem witness_SamplersComplete_follower : ∃ (s : State) (u : Nat) (c : Nat) (row : Nat) (e : StepEntry) (ecc : List (Nat × EccError)),
    ((s.step_ c).rowEntry row = some e) ∧ (s.unitFree u c = true) ∧ ((s.step_ c).stage = .sampling) ∧ ((s.step_ c).results.any (·.row = row) = false)
    ∧ ((s.step_ c).passes.any (·.row = row) = false) ∧ (s.rd .ctxState c = 2) ∧ ((s.rowRun ecc u c row e.idx).1.rd .seqRole c = 2) :=
  ⟨steppingAt .sampling [(.seqRole, 0, 2), (.smpTpindex, 0, 1), (.seqGroupsize, 0, 1)], 5, 0, 0, ⟨0, 0, 1, 1, some 0⟩, [], by decide +kernel⟩

theorem witness_SamplersComplete_untaken : ∃ (s : State) (u : Nat) (c : Nat) (row : Nat),
    (((s.step_ c).rowEntry row = none ∨ s.unitFree u c = false ∨ (s.step_ c).stage ≠ .sampling ∨ (s.step_ c).results.any (·.row = row) = true ∨ (s.step_ c).passes.any (·.row = row) = true ∨ s.rd .ctxState c ≠ 2)) :=
  ⟨steppingAt .sampling [(.smpFenced, 5, 1)], 5, 0, 0, by decide +kernel⟩

theorem witness_SamplersComplete_waits : ∃ (s : State) (c : Nat),
    (((s.step_ c).mergeUnit = none ∨ (s.step_ c).passes.length < (s.step_ c).rows ∨ (s.step_ c).stage ≠ .sampling)) :=
  ⟨steppingAt .sampling [], 0, by decide +kernel⟩

theorem witness_SamplersComplete_messages : ∃ (s : State) (c : Nat) (u : Nat), ((s.step_ c).mergeUnit = some u) ∧ (s.messagesIn u c = false) :=
  ⟨(seqOn [] []).setStep 0 { StepState.fresh with stage := .sampling, mergeUnit := some 5 }, 0, 5, by decide +kernel⟩

theorem witness_SamplersComplete_fenced : ∃ (s : State) (u : Nat) (v : Nat), (u < 6) ∧ ((v % 2 = 0 ∨ s.flag .smpFenced u = true)) :=
  ⟨after [(.smpFenced, 5, 1)], 5, 1, by decide +kernel⟩

theorem witness_SamplersComplete_rights : ∃ (rdr : Reader) (u : Nat), (u < 6) ∧ (rdr ≠ .session 0) :=
  ⟨.session 1, 5, by decide +kernel⟩

theorem witness_NearMemoryCommandsComplete_scrub : ∃ (s : State) (ch : Nat), (sget false s.mem.scrubbing ch = true) ∧ (s.rd .memState ch = 1)
    ∧ (s.mem.poison = []) :=
  ⟨{ after [(.memState, 47, 1)] with mem := { State.reset.mem with scrubbing := [(47, true)], scrubDue := [(47, 2)] } }, 47, by decide +kernel⟩

theorem witness_NearMemoryCommandsComplete_window : ∃ (s : State), (s.mem.window + s.windowLength ≤ s.now) :=
  ⟨after [(.glbDevtime, 0, 12 * 3600000000000), (.memPoisoned, 47, 3)], by decide +kernel⟩

theorem witness_NearMemoryCommandsComplete_retire : ∃ (s : State) (frame : Nat) (r : Nat) (ecc : List (Nat × EccError)),
    ((s.eccFound ecc).mem.copying.find? (fun p => p.1 = frame) = some (frame, r))
    ∧ ((s.eccFound ecc).mem.redirect.any (fun p => p.1 = frame) = false) :=
  ⟨{ State.reset with mem := { State.reset.mem with copying := [(190463, 190464)], frameCe := [(190463, 64)] } }, 190463, 190464, [], by decide +kernel⟩

theorem witness_NearMemoryCommandsComplete_fence : ∃ (s : State) (ch : Nat) (v : Nat), (ch < 48) ∧ (v % 2 = 1) ∧ (s.rd .memState ch ≠ 2) :=
  ⟨State.reset, 47, 1, by decide +kernel⟩

theorem witness_NearMemoryCommandsComplete_retrained : ∃ (ch : Nat), (ch < 48) :=
  ⟨47, by decide +kernel⟩

theorem witness_NearMemoryCommandsComplete_untrained : ∃ (s : State) (ch : Nat), (ch < 48) ∧ (s.rd .memState ch = 1) :=
  ⟨after [(.memState, 47, 1)], 47, by decide +kernel⟩

theorem witness_NearMemoryCommandsComplete_scrubFinds : ∃ (s : State) (ch : Nat), (sget false s.mem.scrubbing ch = true) ∧ (s.rd .memState ch = 1) :=
  ⟨{ after [(.memState, 47, 1)] with mem := { State.reset.mem with scrubbing := [(47, true)], scrubDue := [(47, 2)] } }, 47, by decide +kernel⟩

theorem witness_NearMemoryCommandsComplete_noScrub : ∃ (s : State) (ch : Nat), ((sget false s.mem.scrubbing ch = false ∨ s.rd .memState ch ≠ 1)) :=
  ⟨State.reset, 47, by decide +kernel⟩

theorem witness_NearMemoryCommandsComplete_windowRuns : ∃ (s : State), (s.now < s.mem.window + s.windowLength) :=
  ⟨State.reset, by decide +kernel⟩

theorem witness_NearMemoryCommandsComplete_again : ∃ (s : State) (frame : Nat) (r : Nat) (ecc : List (Nat × EccError)),
    ((s.eccFound ecc).mem.copying.find? (fun p => p.1 = frame) = some (frame, r))
    ∧ ((s.eccFound ecc).mem.redirect.any (fun p => p.1 = frame) = true) :=
  ⟨{ State.reset with mem := { State.reset.mem with copying := [(190463, 190465)], redirect := [(190463, 190464)] } }, 190463, 190465, [], by decide +kernel⟩

theorem witness_NearMemoryCommandsComplete_notCopied : ∃ (s : State) (frame : Nat) (ecc : List (Nat × EccError)),
    ((s.eccFound ecc).mem.copying.find? (fun p => p.1 = frame) = none) :=
  ⟨State.reset, 9, [], by decide +kernel⟩

theorem witness_NearMemoryCommandsComplete_fenced : ∃ (s : State) (ch : Nat) (v : Nat), (ch < 48) ∧ ((v % 2 = 0 ∨ s.rd .memState ch = 2)) :=
  ⟨after [(.memState, 47, 2)], 47, 1, by decide +kernel⟩

theorem witness_NearMemoryCommandsComplete_rights : ∃ (rdr : Reader), (rdr ≠ .session 0) :=
  ⟨.session 1, by decide +kernel⟩

theorem witness_NearMemoryCommandsComplete_unused : ∃ (s : State) (ch : Nat), (ch < 48) ∧ (s.rd .memState ch ≠ 1) :=
  ⟨State.reset, 47, by decide +kernel⟩

theorem witness_CxlPortsComplete_up : ∃ (s : State) (port : Nat) (d : CxlDevice), (port < 8) ∧ (s.rd .cxlState port ≠ 2)
    ∧ (sget false s.mem.cxlLost port = false) ∧ (d.type3 = true) ∧ ((s.flag .cxlIde port = false ∨ s.sec.entropyBad = false)) :=
  ⟨State.reset, 7, ⟨true, 16, 3, 600000⟩, by decide +kernel⟩

theorem witness_CxlPortsComplete_found : ∃ (s : State) (port : Nat) (d : CxlDevice), (port < 8) ∧ (s.rd .cxlState port ≠ 2)
    ∧ (sget false s.mem.cxlLost port = true) ∧ (d.type3 = true) ∧ ((s.flag .cxlIde port = false ∨ s.sec.entropyBad = false)) :=
  ⟨(after [(.cxlState, 7, 3)]).setCxlLost 7 true, 7, ⟨true, 16, 3, 600000⟩, by decide +kernel⟩

theorem witness_CxlPortsComplete_down : ∃ (s : State) (port : Nat), (port < 8) ∧ (s.rd .cxlState port = 2) :=
  ⟨after [(.cxlState, 7, 2), (.kvFarpages, 0, 3), (.kvFarbase, 0, 7 * 2 ^ 40)], 7, by decide +kernel⟩

theorem witness_CxlPortsComplete_enable : ∃ (s : State) (port : Nat) (v : Nat), (port < 8) ∧ (v % 2 = 1) ∧ (sget false s.mem.found port = true) :=
  ⟨{ after [(.cxlState, 7, 3)] with mem := { State.reset.mem with found := [(7, true)] } }, 7, 1, by decide +kernel⟩

theorem witness_CxlPortsComplete_degrade : ∃ (s : State) (port : Nat), (port < 8) ∧ (s.rd .cxlState port = 2) :=
  ⟨after [(.cxlState, 7, 2)], 7, by decide +kernel⟩

theorem witness_CxlPortsComplete_keyless : ∃ (s : State) (port : Nat) (d : CxlDevice), (port < 8) ∧ (s.rd .cxlState port ≠ 2) ∧ (d.type3 = true)
    ∧ (s.flag .cxlIde port = true ∧ s.sec.entropyBad = true) :=
  ⟨{ after [(.cxlIde, 7, 1)] with sec := { State.reset.sec with entropyBad := true } }, 7, ⟨true, 16, 3, 600000⟩, by decide +kernel⟩

theorem witness_CxlPortsComplete_other : ∃ (s : State) (port : Nat) (d : CxlDevice), (port < 8) ∧ (s.rd .cxlState port ≠ 2) ∧ (d.type3 = false) :=
  ⟨State.reset, 7, ⟨false, 16, 3, 600000⟩, by decide +kernel⟩

theorem witness_CxlPortsComplete_empty : ∃ (s : State) (port : Nat), (port < 8) ∧ (s.rd .cxlState port ≠ 2) :=
  ⟨State.reset, 7, by decide +kernel⟩

theorem witness_CxlPortsComplete_isUp : ∃ (s : State) (port : Nat), (port < 8) ∧ (s.rd .cxlState port = 2) :=
  ⟨after [(.cxlState, 7, 2)], 7, by decide +kernel⟩

theorem witness_CxlPortsComplete_isDown : ∃ (s : State) (port : Nat), (port < 8) ∧ (s.rd .cxlState port ≠ 2) :=
  ⟨State.reset, 7, by decide +kernel⟩

theorem witness_CxlPortsComplete_noEnable : ∃ (s : State) (port : Nat) (v : Nat), (port < 8) ∧ ((v % 2 = 0 ∨ sget false s.mem.found port = false)) :=
  ⟨State.reset, 7, 1, by decide +kernel⟩

theorem witness_CxlPortsComplete_rights : ∃ (rdr : Reader), (rdr ≠ .session 0) :=
  ⟨.session 1, by decide +kernel⟩

theorem witness_SpanTrainingComplete_light : ∃ (s : State) (n : Nat), (n < 32) ∧ (s.rd .spnState n = 0) :=
  ⟨State.reset, 31, by decide +kernel⟩

theorem witness_SpanTrainingComplete_lock : ∃ (s : State) (n : Nat) (lanes : Nat), (n < 32) ∧ (s.rd .spnState n = 1) ∧ (0 < lanes % 2 ^ 16) :=
  ⟨spanAt 31 1, 31, 0x8001, by decide +kernel⟩

theorem witness_SpanTrainingComplete_dark : ∃ (s : State) (n : Nat), (n < 32) ∧ (s.rd .spnState n ≠ 6 ∧ s.rd .spnState n ≠ 7) :=
  ⟨spanAt 31 3, 31, by decide +kernel⟩

theorem witness_SpanTrainingComplete_lane : ∃ (s : State) (n : Nat) (f : FaultyLane), (n < 32) ∧ (bitAt (s.rd .spnLanes n) (f.lane % 16) = true)
    ∧ (s.laneFaulty n f.fault = true) ∧ (setBits (s.rd .spnLanes n) (f.lane % 16) 1 0 ≠ 0) ∧ (s.rd .spnState n = 3) :=
  ⟨after [(.spnState, 31, 3), (.spnLanes, 31, 0x8001), (.spnLanethresh, 31, 9)], 31, ⟨15, .corrected 10⟩, by decide +kernel⟩

theorem witness_SpanTrainingComplete_retrained : ∃ (s : State) (n : Nat), (n < 32) ∧ (s.rd .spnState n = 4) :=
  ⟨spanAt 31 4, 31, by decide +kernel⟩

theorem witness_SpanTrainingComplete_silent : ∃ (s : State) (n : Nat), (n < 32) ∧ (s.rd .spnState n = 3) ∧ (s.flag .spnSilent n = false)
    ∧ ((s.link n).lastRx + 1000000 ≤ s.now) :=
  ⟨after [(.spnState, 31, 3), (.glbDevtime, 0, 1000000)], 31, by decide +kernel⟩

theorem witness_SpanTrainingComplete_relock : ∃ (s : State) (n : Nat), (n < 32) ∧ (s.rd .spnState n = 1) :=
  ⟨after [(.spnState, 31, 1), (.spnLanes, 31, 0x8001), (.spnWidth, 31, 2)], 31, by decide +kernel⟩

theorem witness_SpanTrainingComplete_fence : ∃ (n : Nat) (v : Nat), (n < 32) ∧ (v % 2 = 1) :=
  ⟨31, 1, by decide +kernel⟩

theorem witness_SpanTrainingComplete_lit : ∃ (s : State) (n : Nat), (s.rd .spnState n ≠ 0) :=
  ⟨spanAt 31 3, 31, by decide +kernel⟩

theorem witness_SpanTrainingComplete_unlocked : ∃ (s : State) (n : Nat) (lanes : Nat), ((s.rd .spnState n ≠ 1 ∨ lanes % 2 ^ 16 = 0)) :=
  ⟨spanAt 31 1, 31, 0x10000, by decide +kernel⟩

theorem witness_SpanTrainingComplete_stays : ∃ (s : State) (n : Nat), ((s.rd .spnState n = 6 ∨ s.rd .spnState n = 7)) :=
  ⟨spanAt 31 6, 31, by decide +kernel⟩

theorem witness_SpanTrainingComplete_lastLane : ∃ (s : State) (n : Nat) (f : FaultyLane), (n < 32) ∧ (bitAt (s.rd .spnLanes n) (f.lane % 16) = true)
    ∧ (s.laneFaulty n f.fault = true) ∧ (setBits (s.rd .spnLanes n) (f.lane % 16) 1 0 = 0) :=
  ⟨after [(.spnState, 31, 3), (.spnLanes, 31, 0x8000), (.spnUncorrthresh, 31, 9)], 31, ⟨15, .uncorrectable 9⟩, by decide +kernel⟩

theorem witness_SpanTrainingComplete_sound : ∃ (s : State) (n : Nat) (f : FaultyLane),
    ((bitAt (s.rd .spnLanes n) (f.lane % 16) = false ∨ s.laneFaulty n f.fault = false)) :=
  ⟨after [(.spnState, 31, 3), (.spnLanes, 31, 0x8000), (.spnUncorrthresh, 31, 9)], 31, ⟨15, .uncorrectable 8⟩, by decide +kernel⟩

theorem witness_SpanTrainingComplete_noRetrain : ∃ (s : State) (n : Nat), (s.rd .spnState n ≠ 4) :=
  ⟨spanAt 31 3, 31, by decide +kernel⟩

theorem witness_SpanTrainingComplete_heard : ∃ (s : State) (n : Nat),
    ((s.rd .spnState n ≠ 3 ∨ s.flag .spnSilent n = true ∨ s.now < (s.link n).lastRx + 1000000)) :=
  ⟨spanAt 31 3, 31, by decide +kernel⟩

theorem witness_SpanTrainingComplete_relocked : ∃ (s : State) (n : Nat), (s.rd .spnState n ≠ 1) :=
  ⟨spanAt 31 3, 31, by decide +kernel⟩

theorem witness_SpanTrainingComplete_noFence : ∃ (n : Nat) (v : Nat), (n < 32) ∧ (v % 2 = 0) :=
  ⟨31, 2, by decide +kernel⟩

theorem witness_SpanTrainingComplete_rights : ∃ (rdr : Reader), (rdr ≠ .session 0) :=
  ⟨.session 1, by decide +kernel⟩

theorem witness_HailsAndHeartbeatsComplete_retry : ∃ (s : State) (n : Nat), (n < 32) ∧ (s.rd .spnState n = 5) ∧ (s.sec.entropyBad = false)
    ∧ ((s.link n).hail ≠ []) :=
  ⟨(spanAt 31 5).setLink 31 { SpanLink.dark with hail := aHail }, 31, by decide +kernel⟩

theorem witness_HailsAndHeartbeatsComplete_hail : ∃ (s : State) (n : Nat) (b : List Byte), (n < 32) ∧ ((s.rd .spnState n = 2 ∨ s.rd .spnState n = 5))
    ∧ (frameFormed b 6 = true) ∧ (hailFormed ((b.drop 16).take (b.length - 32)) = true) :=
  ⟨(spanAt 31 2).setLink 31 { SpanLink.dark with hail := aHail }, 31, frameOf 6 aHail, by decide +kernel⟩

theorem witness_HailsAndHeartbeatsComplete_proof : ∃ (s : State) (n : Nat) (b : List Byte), (n < 32) ∧ ((s.rd .spnState n = 2 ∨ s.rd .spnState n = 5))
    ∧ ((s.link n).hail ≠ [] ∧ (s.link n).peerHail ≠ []) ∧ (frameFormed b 7 = true) :=
  ⟨(spanAt 31 5).setLink 31 { SpanLink.dark with hail := aHail, peerHail := aHail }, 31, frameOf 7 (zeros 64), by decide +kernel⟩

theorem witness_HailsAndHeartbeatsComplete_beat : ∃ (s : State) (n : Nat), (n < 32) ∧ (s.rd .spnState n = 3) ∧ ((s.link n).queue = [])
    ∧ (1 ≤ (s.link n).credit 0) ∧ ((s.link n).replayBytes + 64 ≤ 2 ^ 20 ∧ (s.link n).tx.count < 2 ^ 40) :=
  ⟨spanAt 31 3, 31, by decide +kernel⟩

theorem witness_HailsAndHeartbeatsComplete_replay : ∃ (s : State) (n : Nat), (n < 32) ∧ (s.rd .spnState n = 3) ∧ ((s.link n).sent ≠ [])
    ∧ ((s.link n).lastAck + 100000 ≤ s.now) :=
  ⟨(after [(.spnState, 31, 3), (.glbDevtime, 0, 100000)]).setLink 31 { SpanLink.dark with sent := [⟨0, ⟨5, 0, 1, 0, 0, [], false, none, none, 0, []⟩, zeros 32⟩] }, 31, by decide +kernel⟩

theorem witness_HailsAndHeartbeatsComplete_rollover : ∃ (s : State) (n : Nat), (n < 32) ∧ (s.rd .spnState n = 3) ∧ (2 ^ 40 ≤ (s.link n).tx.count)
    ∧ (1 ≤ (s.link n).credit 0) ∧ ((s.link n).replayBytes + 32 ≤ 2 ^ 20) ∧ ((s.link n).queue = []) :=
  ⟨(spanAt 31 3).setLink 31 { SpanLink.dark with tx := ⟨0, 0, false, 2 ^ 40⟩ }, 31, by decide +kernel⟩

theorem witness_HailsAndHeartbeatsComplete_dropped : ∃ (s : State) (k : StuckFrame), (s.span.stuck = [k]) ∧ (k.since + 20000000 ≤ s.now)
    ∧ (k.frame.transit = true ∧ k.frame.ty = 4) :=
  ⟨{ after [(.glbDevtime, 0, 20000000)] with span := { State.reset.span with stuck := [⟨⟨4, 1, 1, 2, 3, [], true, none, none, 31, []⟩, 0⟩] } }, ⟨⟨4, 1, 1, 2, 3, [], true, none, none, 31, []⟩, 0⟩, by decide +kernel⟩

theorem witness_HailsAndHeartbeatsComplete_failed : ∃ (s : State) (k : StuckFrame), (s.span.stuck = [k]) ∧ (k.since + 20000000 ≤ s.now)
    ∧ (k.frame.transit = false) :=
  ⟨{ after [(.glbDevtime, 0, 20000000)] with span := { State.reset.span with stuck := [⟨⟨1, 2, 8, 2, 3, [], false, some 0, some (0, 0, 0), 0, []⟩, 0⟩] } }, ⟨⟨1, 2, 8, 2, 3, [], false, some 0, some (0, 0, 0), 0, []⟩, 0⟩, by decide +kernel⟩

theorem witness_HailsAndHeartbeatsComplete_retryFresh : ∃ (s : State) (n : Nat), (n < 32) ∧ (s.rd .spnState n = 5) ∧ (s.sec.entropyBad = false)
    ∧ ((s.link n).hail = []) :=
  ⟨spanAt 31 5, 31, by decide +kernel⟩

theorem witness_HailsAndHeartbeatsComplete_noRetry : ∃ (s : State) (n : Nat), ((s.rd .spnState n ≠ 5 ∨ s.sec.entropyBad = true)) :=
  ⟨spanAt 31 2, 31, by decide +kernel⟩

theorem witness_HailsAndHeartbeatsComplete_hailFormat : ∃ (s : State) (n : Nat) (b : List Byte), (n < 32)
    ∧ ((s.rd .spnState n = 2 ∨ s.rd .spnState n = 5)) ∧ ((frameFormed b 6 = false ∨ hailFormed ((b.drop 16).take (b.length - 32)) = false)) :=
  ⟨spanAt 31 5, 31, frameOf 6 [], by decide +kernel⟩

theorem witness_HailsAndHeartbeatsComplete_hailUp : ∃ (s : State) (n : Nat) (b : List Byte), (n < 32) ∧ (s.rd .spnState n = 3)
    ∧ (frameFormed b 6 = true) ∧ (hailFormed ((b.drop 16).take (b.length - 32)) = true)
    ∧ ((hlKey ((b.drop 16).take (b.length - 32)) ≠ hlKey (s.link n).peerHail ∨ hlNonce ((b.drop 16).take (b.length - 32)) ≠ hlNonce (s.link n).peerHail)) :=
  ⟨spanAt 31 3, 31, frameOf 6 aHail, by decide +kernel⟩

theorem witness_HailsAndHeartbeatsComplete_hailIgnored : ∃ (s : State) (n : Nat),
    ((s.rd .spnState n = 0 ∨ s.rd .spnState n = 1 ∨ s.rd .spnState n = 4 ∨ s.rd .spnState n = 6 ∨ s.rd .spnState n = 7)) :=
  ⟨spanAt 31 6, 31, by decide +kernel⟩

theorem witness_HailsAndHeartbeatsComplete_hailBad : ∃ (s : State) (n : Nat), (n < 32) ∧ ((s.rd .spnState n = 2 ∨ s.rd .spnState n = 5))
    ∧ ((s.link n).hail ≠ [] ∧ (s.link n).peerHail ≠ []) :=
  ⟨(spanAt 31 5).setLink 31 { SpanLink.dark with hail := aHail, peerHail := aHail }, 31, by decide +kernel⟩

theorem witness_HailsAndHeartbeatsComplete_proofFormat : ∃ (s : State) (n : Nat) (b : List Byte), (n < 32)
    ∧ ((s.rd .spnState n = 2 ∨ s.rd .spnState n = 5)) ∧ ((s.link n).hail ≠ [] ∧ (s.link n).peerHail ≠ []) ∧ (frameFormed b 7 = false) :=
  ⟨(spanAt 31 2).setLink 31 { SpanLink.dark with hail := aHail, peerHail := aHail }, 31, frameOf 6 [], by decide +kernel⟩

theorem witness_HailsAndHeartbeatsComplete_proofEarly : ∃ (s : State) (n : Nat), (((s.link n).hail = [] ∨ (s.link n).peerHail = [])) :=
  ⟨spanAt 31 2, 31, by decide +kernel⟩

theorem witness_HailsAndHeartbeatsComplete_noBeat : ∃ (s : State) (n : Nat), (s.rd .spnState n ≠ 3) :=
  ⟨spanAt 31 2, 31, by decide +kernel⟩

theorem witness_HailsAndHeartbeatsComplete_beatQueued : ∃ (s : State) (n : Nat), (n < 32) ∧ (s.rd .spnState n = 3) :=
  ⟨spanAt 31 3, 31, by decide +kernel⟩

theorem witness_HailsAndHeartbeatsComplete_acknowledged : ∃ (s : State) (n : Nat),
    ((s.rd .spnState n ≠ 3 ∨ (s.link n).sent = [] ∨ s.now < (s.link n).lastAck + 100000)) :=
  ⟨spanAt 31 3, 31, by decide +kernel⟩

theorem witness_HailsAndHeartbeatsComplete_rolled : ∃ (s : State) (n : Nat), (n < 32) ∧ (s.rd .spnState n = 3) ∧ (2 ^ 40 ≤ (s.link n).tx.count)
    ∧ (1 ≤ (s.link n).credit 0) ∧ ((s.link n).replayBytes + 32 ≤ 2 ^ 20) :=
  ⟨(spanAt 31 3).setLink 31 { SpanLink.dark with tx := ⟨0, 0, false, 2 ^ 40⟩ }, 31, by decide +kernel⟩

theorem witness_HailsAndHeartbeatsComplete_notRolled : ∃ (s : State) (n : Nat),
    ((s.rd .spnState n ≠ 3 ∨ (s.link n).tx.count < 2 ^ 40 ∨ (s.link n).credit 0 = 0 ∨ 2 ^ 20 < (s.link n).replayBytes + 32)) :=
  ⟨spanAt 31 3, 31, by decide +kernel⟩

theorem witness_HailsAndHeartbeatsComplete_told : ∃ (s : State) (k : StuckFrame), (s.span.stuck = [k]) ∧ (k.since + 20000000 ≤ s.now)
    ∧ (k.frame.transit = true ∧ k.frame.ty ≠ 4) :=
  ⟨{ after [(.glbDevtime, 0, 20000000)] with span := { State.reset.span with stuck := [⟨⟨1, 2, 1, 2, 3, [], true, none, none, 31, zeros 16⟩, 0⟩] } }, ⟨⟨1, 2, 1, 2, 3, [], true, none, none, 31, zeros 16⟩, 0⟩, by decide +kernel⟩

theorem witness_HailsAndHeartbeatsComplete_notLate : ∃ (s : State), (s.span.stuck.all (fun k => decide (s.now < k.since + 20000000)) = true) :=
  ⟨{ State.reset with span := { State.reset.span with stuck := [⟨⟨1, 2, 1, 2, 3, [], true, none, none, 31, zeros 16⟩, 0⟩] } }, by decide +kernel⟩

theorem witness_HailsAndHeartbeatsComplete_hailUpBad : ∃ (s : State) (n : Nat) (b : List Byte), (n < 32) ∧ (s.rd .spnState n = 3)
    ∧ (frameFormed b 6 = false)
    ∧ ((hlKey ((b.drop 16).take (b.length - 32)) ≠ hlKey (s.link n).peerHail ∨ hlNonce ((b.drop 16).take (b.length - 32)) ≠ hlNonce (s.link n).peerHail)) :=
  ⟨spanAt 31 3, 31, frameOf 7 aHail, by decide +kernel⟩

theorem witness_FramesReceived_beat : ∃ (s : State) (n : Nat) (b : List Byte), (s.inOrder n 5 b = true) :=
  ⟨spanAt 31 3, 31, frameOf 5 (zeros 32), by decide +kernel⟩

theorem witness_FramesReceived_key : ∃ (s : State) (n : Nat) (b : List Byte), (s.inOrder n 9 b = true) :=
  ⟨spanAt 31 3, 31, frameOf 9 [], by decide +kernel⟩

theorem witness_FramesReceived_data : ∃ (s : State) (n : Nat) (b : List Byte), (s.inOrder n 1 b = true) ∧ (s.forMe b = true) ∧ (s.isMember = true
    ∧ s.memberLost (fSrc b) = false) :=
  ⟨after [(.spnState, 31, 3), (.fltState, 0, fltMember), (.fltMembervalid, 0, 1)], 31, frameOf 1 (zeros 32), by decide +kernel⟩

theorem witness_FramesReceived_signal : ∃ (s : State) (n : Nat) (b : List Byte), (s.inOrder n 2 b = true) ∧ (s.forMe b = true) ∧ (s.isMember = true
    ∧ s.memberLost (fSrc b) = false) :=
  ⟨after [(.spnState, 31, 3), (.fltState, 0, fltMember), (.fltMembervalid, 0, 1)], 31, frameOf 2 (zeros 32), by decide +kernel⟩

theorem witness_FramesReceived_confirm : ∃ (s : State) (n : Nat) (b : List Byte), (s.inOrder n 3 b = true) ∧ (s.forMe b = true) ∧ (s.isMember = true
    ∧ s.memberLost (fSrc b) = false) :=
  ⟨after [(.spnState, 31, 3), (.fltState, 0, fltMember), (.fltMembervalid, 0, 1)], 31, frameOf 3 (zeros 34), by decide +kernel⟩

theorem witness_FramesReceived_notice : ∃ (s : State) (n : Nat) (b : List Byte), (s.inOrder n 4 b = true) ∧ (s.forMe b = true) :=
  ⟨after [(.spnState, 31, 3), (.fltMembervalid, 0, 1)], 31, frameOf 4 (zeros 20), by decide +kernel⟩

theorem witness_FramesReceived_ledger : ∃ (s : State) (n : Nat) (b : List Byte), (s.inOrder n 8 b = true) ∧ (s.forMe b = true)
    ∧ (s.rd .spnPeerstate n = fltMember) ∧ (s.memberLost (fSrc b) = false) :=
  ⟨after [(.spnState, 31, 3), (.spnPeerstate, 31, fltMember), (.fltMembervalid, 0, 1)], 31, frameOf 8 [], by decide +kernel⟩

theorem witness_FramesReceived_link : ∃ (s : State) (n : Nat) (b : List Byte), (n < 32) ∧ (s.rd .spnState n = 3) ∧ (frameFormed b 0 = true)
    ∧ ((s.link n).queue = [] ∧ s.span.stuck = []) :=
  ⟨spanAt 31 3, 31, frameOf 0 (zeros 12), by decide +kernel⟩

theorem witness_FramesReceived_uncorrectable : ∃ (s : State) (i : Instr) (n : Nat) (ty : Nat) (b : List Byte) (m : Option LedgerMsg), ((ty,
    i) ∈ [(1, Instr.spanDataFrame n b true []), (2, .spanSignalFrame n b true), (3, .spanConfirmFrame n b true), (4, .spanNoticeFrame n b true), (5, .spanHeartbeatFrame n b true), (8, .spanLedgerFrame n b true m), (9, .spanKeyUpdateFrame n b true)])
    ∧ (n < 32) ∧ (s.rd .spnState n = 3) :=
  ⟨spanAt 31 3, .spanSignalFrame 31 [] true, 31, 2, [], none, by decide +kernel⟩

theorem witness_FramesReceived_outOfOrder : ∃ (s : State) (i : Instr) (n : Nat) (ty : Nat) (b : List Byte) (m : Option LedgerMsg), ((ty,
    i) ∈ [(1, Instr.spanDataFrame n b false []), (2, .spanSignalFrame n b false), (3, .spanConfirmFrame n b false), (4, .spanNoticeFrame n b false), (5, .spanHeartbeatFrame n b false), (8, .spanLedgerFrame n b false m), (9, .spanKeyUpdateFrame n b false)])
    ∧ (n < 32) ∧ (s.rd .spnState n = 3) ∧ (s.inOrder n ty b = false) :=
  ⟨spanAt 31 3, .spanSignalFrame 31 [] false, 31, 2, [], none, by decide +kernel⟩

theorem witness_FramesReceived_notUp : ∃ (s : State) (i : Instr) (n : Nat) (ty : Nat) (b : List Byte) (bad : Bool) (m : Option LedgerMsg), ((ty,
    i) ∈ [(1, Instr.spanDataFrame n b bad []), (2, .spanSignalFrame n b bad), (3, .spanConfirmFrame n b bad), (4, .spanNoticeFrame n b bad), (5, .spanHeartbeatFrame n b bad), (8, .spanLedgerFrame n b bad m), (9, .spanKeyUpdateFrame n b bad), (0, .spanLinkFrame n b bad)])
    ∧ (n < 32) ∧ (s.rd .spnState n ≠ 3) :=
  ⟨spanAt 31 4, .spanLinkFrame 31 [] true, 31, 0, [], true, none, by decide +kernel⟩

theorem witness_FramesReceived_forwarded : ∃ (s : State) (i : Instr) (n : Nat) (ty : Nat) (b : List Byte), ((ty,
    i) ∈ [(1, Instr.spanDataFrame n b false []), (2, .spanSignalFrame n b false), (3, .spanConfirmFrame n b false), (4, .spanNoticeFrame n b false)])
    ∧ (s.inOrder n ty b = true) ∧ (s.forMe b = false) :=
  ⟨spanAt 31 3, .spanNoticeFrame 31 (frameOf 4 (zeros 20)) false, 31, 4, frameOf 4 (zeros 20), by decide +kernel⟩

theorem witness_FramesReceived_stranger : ∃ (s : State) (i : Instr) (n : Nat) (ty : Nat) (b : List Byte), ((ty,
    i) ∈ [(1, Instr.spanDataFrame n b false []), (2, .spanSignalFrame n b false), (3, .spanConfirmFrame n b false)]) ∧ (s.inOrder n ty b = true)
    ∧ (s.forMe b = true) ∧ ((s.isMember = false ∨ s.memberLost (fSrc b) = true)) :=
  ⟨after [(.spnState, 31, 3), (.fltMembervalid, 0, 1)], .spanSignalFrame 31 (frameOf 2 (zeros 32)) false, 31, 2, frameOf 2 (zeros 32), by decide +kernel⟩

theorem witness_FramesReceived_neighbour : ∃ (s : State) (n : Nat) (b : List Byte), (s.inOrder n 8 b = true) ∧ (s.rd .spnPeerstate n ≠ fltMember) :=
  ⟨after [(.spnState, 31, 3)], 31, frameOf 8 [], by decide +kernel⟩

theorem witness_FramesReceived_transit : ∃ (s : State) (n : Nat) (b : List Byte), (s.inOrder n 8 b = true) ∧ (s.rd .spnPeerstate n = fltMember)
    ∧ (s.flag .fltMembervalid 0 = true) ∧ (s.forMe b = false) :=
  ⟨after [(.spnState, 31, 3), (.spnPeerstate, 31, fltMember), (.fltMembervalid, 0, 1), (.fltMember, 0, 5)], 31, frameOf 8 [], by decide +kernel⟩

theorem witness_FramesReceived_linkFault : ∃ (s : State) (n : Nat) (b : List Byte), (n < 32) ∧ (s.rd .spnState n = 3) ∧ (frameFormed b 0 = false) :=
  ⟨spanAt 31 3, 31, [], by decide +kernel⟩

theorem witness_FramesReceived_linkBad : ∃ (s : State) (n : Nat), (n < 32) ∧ (s.rd .spnState n = 3) :=
  ⟨spanAt 31 3, 31, by decide +kernel⟩

theorem witness_FlightCommandsComplete_rights : ∃ (i : Instr) (rdr : Reader), (rdr ≠ .session 0)
    ∧ (i ∈ [Instr.fltFound rdr, Instr.fltPermit rdr, Instr.fltRevoke rdr, Instr.fltAccept rdr, Instr.fltBarrier rdr, Instr.fltLeave rdr, Instr.fltRoute rdr]) :=
  ⟨.fltRoute (.session 3), .session 3, by decide +kernel⟩

theorem witness_FlightCommandsComplete_busy : ∃ (s : State) (i : Instr), (s.flt.command.isSome = true)
    ∧ (i ∈ [Instr.fltFound (.session 0), Instr.fltPermit (.session 0), Instr.fltRevoke (.session 0), Instr.fltAccept (.session 0), Instr.fltBarrier (.session 0), Instr.fltLeave (.session 0), Instr.fltRoute (.session 0)]) :=
  ⟨(fun s : State => { s with flt := { s.flt with command := some (5, []) } }) (aMember []), .fltLeave (.session 0), by decide +kernel⟩

theorem witness_FlightCommandsComplete_alone : ∃ (s : State) (i : Instr), (s.flt.command = none) ∧ (s.isMember = false)
    ∧ (i ∈ [Instr.fltPermit (.session 0), Instr.fltRevoke (.session 0), Instr.fltAccept (.session 0), Instr.fltBarrier (.session 0), Instr.fltLeave (.session 0)]) :=
  ⟨State.reset, .fltBarrier (.session 0), by decide +kernel⟩

theorem witness_FlightCommandsComplete_member : ∃ (s : State) (i : Instr) (kind : Nat) (n : Nat), ((i, kind,
    n) ∈ [(Instr.fltPermit (.session 0), 2, 50), (Instr.fltRevoke (.session 0), 3, 48), (Instr.fltBarrier (.session 0), 9, 8)])
    ∧ (s.flt.command = none) ∧ (s.isMember = true) ∧ (s.flag .fltIslead 0 = false) :=
  ⟨aMember [], .fltBarrier (.session 0), 9, 8, by decide +kernel⟩

theorem witness_FlightCommandsComplete_lead : ∃ (s : State) (i : Instr) (kind : Nat) (n : Nat), ((i, kind,
    n) ∈ [(Instr.fltPermit (.session 0), 2, 50), (Instr.fltRevoke (.session 0), 3, 48), (Instr.fltBarrier (.session 0), 9, 8)])
    ∧ (s.flt.command = none) ∧ (s.isMember = true) ∧ (s.flag .fltIslead 0 = true) :=
  ⟨aMember [(.fltIslead, 0, 1)], .fltRevoke (.session 0), 3, 48, by decide +kernel⟩

theorem witness_FlightCommandsComplete_accept : ∃ (s : State) (n : Nat), (s.flt.command = none) ∧ (s.isMember = true)
    ∧ (n = fieldAt (s.cmdBody 1) 0 1) ∧ (1 ≤ n ∧ n ≤ 4) :=
  ⟨aMember [(.fltCmdbody, 0, 4)], 4, by decide +kernel⟩

theorem witness_FlightCommandsComplete_acceptNone : ∃ (s : State) (n : Nat), (s.flt.command = none) ∧ (n = fieldAt (s.cmdBody 1) 0 1)
    ∧ (n = 0 ∨ 4 < n) :=
  ⟨aMember [(.fltCmdbody, 0, 5)], 5, by decide +kernel⟩

theorem witness_FlightCommandsComplete_leave : ∃ (s : State), (s.flt.command = none) ∧ (s.isMember = true) :=
  ⟨aMember [], by decide +kernel⟩

theorem witness_FlightCommandsComplete_route : ∃ (s : State) (first : Nat) (n : Nat), (s.flt.command = none) ∧ (first = fieldAt (s.cmdBody 512) 0 2)
    ∧ (n = fieldAt (s.cmdBody 512) 2 2) ∧ (1 ≤ n ∧ n ≤ 127 ∧ first + n ≤ 16384) ∧ (s.rd .fltRegion 0 ≠ 0) :=
  ⟨after [(.fltRegion, 0, 2 ^ 26), (.fltCmdbody, 0, 16383 + 2 ^ 16)], 16383, 1, by decide +kernel⟩

theorem witness_FlightCommandsComplete_routeOff : ∃ (s : State) (first : Nat) (n : Nat), (s.flt.command = none)
    ∧ (first = fieldAt (s.cmdBody 512) 0 2) ∧ (n = fieldAt (s.cmdBody 512) 2 2) ∧ (n = 0 ∨ 127 < n ∨ 16384 < first + n) :=
  ⟨after [(.fltCmdbody, 0, 16383 + 2 ^ 17)], 16383, 2, by decide +kernel⟩

theorem witness_FlightCommandsComplete_routeBare : ∃ (s : State) (first : Nat) (n : Nat), (s.flt.command = none)
    ∧ (first = fieldAt (s.cmdBody 512) 0 2) ∧ (n = fieldAt (s.cmdBody 512) 2 2) ∧ (1 ≤ n ∧ n ≤ 127 ∧ first + n ≤ 16384) ∧ (s.rd .fltRegion 0 = 0) :=
  ⟨after [(.fltCmdbody, 0, 16383 + 2 ^ 16)], 16383, 1, by decide +kernel⟩

theorem witness_FlightCommandsComplete_found : ∃ (s : State) (n : Nat), (s.flt.command = none) ∧ (s.rd .fltState 0 = 0) ∧ (s.rd .fltId 0 ≠ 0
    ∧ s.rd .fltRegion 0 ≠ 0) ∧ (n = fieldAt (s.cmdBody 512) 9 1) ∧ (1 ≤ n ∧ n ≤ 4) ∧ (fieldAt (s.cmdBody (64 + 48 * n)) 0 8 = s.rd .fltId 0)
    ∧ ((fieldAt (s.cmdBody (64 + 48 * n)) 8 1 = 5 ∨ fieldAt (s.cmdBody (64 + 48 * n)) 8 1 = 7)) ∧ (fieldAt (s.cmdBody (64 + 48 * n)) 10 2 = 0) :=
  ⟨after [(.fltId, 0, 7), (.fltRegion, 0, 2 ^ 26), (.fltCmdbody, 0, 7 + 5 * 2 ^ 64 + 2 ^ 72)], 1, by decide +kernel⟩

theorem witness_FlightCommandsComplete_founded : ∃ (s : State), (s.flt.command = none) ∧ (s.rd .fltState 0 ≠ 0) :=
  ⟨aMember [], by decide +kernel⟩

theorem witness_FlightCommandsComplete_foundBare : ∃ (s : State), (s.flt.command = none) ∧ (s.rd .fltState 0 = 0)
    ∧ (s.rd .fltId 0 = 0 ∨ s.rd .fltRegion 0 = 0) :=
  ⟨after [(.fltId, 0, 7)], by decide +kernel⟩

theorem witness_FlightCommandsComplete_foundOff : ∃ (s : State) (n : Nat), (s.flt.command = none) ∧ (s.rd .fltState 0 = 0) ∧ (s.rd .fltId 0 ≠ 0
    ∧ s.rd .fltRegion 0 ≠ 0) ∧ (n = fieldAt (s.cmdBody 512) 9 1)
    ∧ (n = 0 ∨ 4 < n ∨ fieldAt (s.cmdBody 512) 0 8 ≠ s.rd .fltId 0 ∨ (fieldAt (s.cmdBody 512) 8 1 ≠ 5
    ∧ fieldAt (s.cmdBody 512) 8 1 ≠ 7) ∨ fieldAt (s.cmdBody 512) 10 2 ≠ 0) :=
  ⟨after [(.fltId, 0, 7), (.fltRegion, 0, 2 ^ 26), (.fltCmdbody, 0, 7 + 6 * 2 ^ 64 + 2 ^ 72)], 1, by decide +kernel⟩

theorem witness_LedgerEntriesApplied_found : ∃ (s : State) (e : LedgerEntry), (s.nextCommitted e 1 = true) :=
  ⟨aMember [], entryOf 1 (zeros 112), by decide +kernel⟩

theorem witness_LedgerEntriesApplied_permit : ∃ (s : State) (e : LedgerEntry), (s.nextCommitted e 2 = true) :=
  ⟨aMember [], entryOf 2 (zeros 50), by decide +kernel⟩

theorem witness_LedgerEntriesApplied_revoke : ∃ (s : State) (e : LedgerEntry), (s.nextCommitted e 3 = true) :=
  ⟨aMember [], entryOf 3 (zeros 48), by decide +kernel⟩

theorem witness_LedgerEntriesApplied_admit : ∃ (s : State) (e : LedgerEntry), (s.nextCommitted e 4 = true) :=
  ⟨aMember [], entryOf 4 (zeros 100), by decide +kernel⟩

theorem witness_LedgerEntriesApplied_leave : ∃ (s : State) (e : LedgerEntry) (x : Member), (s.nextCommitted e 5 = true)
    ∧ (s.member (fieldAt e.body 0 2 % 2 ^ 14) = some x) :=
  ⟨(aMember []).setMember 9 (some ⟨3, 1, 2, 3, 4⟩), entryOf 5 (leBytes 2 9), ⟨3, 1, 2, 3, 4⟩, by decide +kernel⟩

theorem witness_LedgerEntriesApplied_fence : ∃ (s : State) (e : LedgerEntry) (x : Member), (s.nextCommitted e 6 = true)
    ∧ (s.member (fieldAt e.body 0 2 % 2 ^ 14) = some x) ∧ (s.namesMe (fieldAt e.body 0 2 % 2 ^ 14) = false) :=
  ⟨(aMember []).setMember 9 (some ⟨3, 1, 2, 3, 4⟩), entryOf 6 (leBytes 2 9), ⟨3, 1, 2, 3, 4⟩, by decide +kernel⟩

theorem witness_LedgerEntriesApplied_fenced : ∃ (s : State) (e : LedgerEntry), (s.nextCommitted e 6 = true)
    ∧ (s.namesMe (fieldAt e.body 0 2 % 2 ^ 14) = true) ∧ (s.pow.warmWaits = none) :=
  ⟨aMember [], entryOf 6 (leBytes 2 0), by decide +kernel⟩

theorem witness_LedgerEntriesApplied_accept : ∃ (s : State) (e : LedgerEntry), (s.nextCommitted e 7 = true) :=
  ⟨aMember [], entryOf 7 (leBytes 1 1 ++ zeros 63), by decide +kernel⟩

theorem witness_LedgerEntriesApplied_stewards : ∃ (s : State) (e : LedgerEntry), (s.nextCommitted e 8 = true) :=
  ⟨aMember [], entryOf 8 (leBytes 1 3 ++ zeros 1 ++ leBytes 2 4 ++ leBytes 2 0 ++ leBytes 2 7), by decide +kernel⟩

theorem witness_LedgerEntriesApplied_barrier : ∃ (s : State) (e : LedgerEntry), (s.nextCommitted e 9 = true) :=
  ⟨aMember [], entryOf 9 (zeros 8), by decide +kernel⟩

theorem witness_LedgerEntriesApplied_schedule : ∃ (s : State) (e : LedgerEntry), (s.nextCommitted e 10 = true) ∧ (fieldAt e.body 0 1 = 1) :=
  ⟨aMember [], entryOf 10 (scheduleBody 4 8 100), by decide +kernel⟩

theorem witness_LedgerEntriesApplied_point : ∃ (s : State) (e : LedgerEntry), (s.nextCommitted e 10 = true) ∧ (fieldAt e.body 0 1 = 2)
    ∧ (s.flt.recovery = none) :=
  ⟨aMember [], entryOf 10 (pointBody 100), by decide +kernel⟩

theorem witness_LedgerEntriesApplied_pointLate : ∃ (s : State) (e : LedgerEntry), (s.nextCommitted e 10 = true) ∧ (fieldAt e.body 0 1 = 2)
    ∧ (s.flt.recovery.isSome = true) :=
  ⟨(fun s : State => { s with flt := { s.flt with recovery := some (9, false, 0) } }) (aMember []), entryOf 10 (pointBody 100), by decide +kernel⟩

theorem witness_LedgerEntriesApplied_pair : ∃ (s : State) (e : LedgerEntry) (m : Nat) (ps : List Nat), (s.nextCommitted e 10 = true)
    ∧ (fieldAt e.body 0 1 = 3) ∧ (m = fieldAt e.body 2 2 % 2 ^ 14)
    ∧ (ps = (optMember (fieldAt e.body 4 2)).toList ++ (optMember (fieldAt e.body 6 2)).toList) :=
  ⟨aMember [], entryOf 10 (pairBody 0 [3, 5] true none), 0, [3, 5], by decide +kernel⟩

theorem witness_LedgerEntriesApplied_heir : ∃ (s : State) (e : LedgerEntry), (s.nextCommitted e 11 = true) ∧ (s.isMember = true)
    ∧ (rpHeir e.body = some s.me) ∧ (rpLost e.body ≠ s.me) ∧ (rpMirror e.body = none) ∧ (rpReason e.body ≠ Status.unhiddenLoss.code % 256)
    ∧ (rpPoint e.body ≠ noPoint) :=
  ⟨aMember [], entryOf 11 (replanBody 9 (some 0) 1 100 none), by decide +kernel⟩

theorem witness_LedgerEntriesApplied_restore : ∃ (s : State) (e : LedgerEntry), (s.nextCommitted e 11 = true) ∧ (s.isMember = true)
    ∧ (s.isWorker = true) ∧ (rpHeir e.body ≠ some s.me ∨ rpLost e.body = s.me) ∧ (rpMirror e.body = none)
    ∧ (rpReason e.body ≠ Status.unhiddenLoss.code % 256) ∧ (rpPoint e.body ≠ noPoint) :=
  ⟨aMember [(.fhArm, 0, 1)], entryOf 11 (replanBody 9 (some 4) 1 100 none), by decide +kernel⟩

theorem witness_LedgerEntriesApplied_stepFault : ∃ (s : State) (e : LedgerEntry), (s.nextCommitted e 11 = true)
    ∧ (rpHeir e.body = some (rpLost e.body)) ∧ (rpMirror e.body = none) ∧ (rpReason e.body ≠ Status.unhiddenLoss.code % 256)
    ∧ (rpPoint e.body = noPoint) :=
  ⟨aMember [(.fhArm, 0, 1)], entryOf 11 (replanBody 9 (some 9) 1 noPoint none), by decide +kernel⟩

theorem witness_LedgerEntriesApplied_unhidden : ∃ (s : State) (e : LedgerEntry), (s.nextCommitted e 11 = true) ∧ (rpMirror e.body = none)
    ∧ (rpReason e.body = Status.unhiddenLoss.code % 256) :=
  ⟨aMember [(.fhArm, 0, 1)], entryOf 11 (replanBody 9 none (Status.unhiddenLoss.code % 256) noPoint none), by decide +kernel⟩

theorem witness_LedgerEntriesApplied_lead : ∃ (s : State) (e : LedgerEntry), (s.nextCommitted e 12 = true) :=
  ⟨aMember [], entryOf 12 (leBytes 2 9), by decide +kernel⟩

theorem witness_LedgerEntriesApplied_otherKind : ∃ (e : LedgerEntry) (i : Instr) (k : Nat) (sub : Nat), ((i, k,
    sub) ∈ [(Instr.ledgerFound e, 1, 0), (Instr.ledgerPermit e, 2, 0), (Instr.ledgerRevoke e, 3, 0), (Instr.ledgerAdmit e, 4, 0), (Instr.ledgerLeave e, 5, 0), (Instr.ledgerFence e, 6, 0), (Instr.ledgerAccept e, 7, 0), (Instr.ledgerStewards e, 8, 0), (Instr.ledgerBarrier e, 9, 0), (Instr.secureSchedule e, 10, 1), (Instr.securePoint e, 10, 2), (Instr.securePair e, 10, 3), (Instr.ledgerReplan e, 11, 0), (Instr.ledgerLead e, 12, 0)])
    ∧ (e.kind ≠ k ∨ (k = 10 ∧ fieldAt e.body 0 1 ≠ sub)) :=
  ⟨entryOf 10 (pointBody 100), .securePair (entryOf 10 (pointBody 100)), 10, 3, by decide +kernel⟩

theorem witness_LedgerEntriesApplied_notNext : ∃ (s : State) (e : LedgerEntry) (i : Instr) (k : Nat) (sub : Nat), ((i, k,
    sub) ∈ [(Instr.ledgerFound e, 1, 0), (Instr.ledgerPermit e, 2, 0), (Instr.ledgerRevoke e, 3, 0), (Instr.ledgerAdmit e, 4, 0), (Instr.ledgerLeave e, 5, 0), (Instr.ledgerFence e, 6, 0), (Instr.ledgerAccept e, 7, 0), (Instr.ledgerStewards e, 8, 0), (Instr.ledgerBarrier e, 9, 0), (Instr.secureSchedule e, 10, 1), (Instr.securePoint e, 10, 2), (Instr.securePair e, 10, 3), (Instr.ledgerReplan e, 11, 0), (Instr.ledgerLead e, 12, 0)])
    ∧ (s.inLedger = false ∨ e.epoch ≤ s.rd .fltEpoch 0) :=
  ⟨aMember [(.fltEpoch, 0, 1)], entryOf 2 [], .ledgerPermit (entryOf 2 []), 2, 0, by decide +kernel⟩

theorem witness_LedgerEntriesApplied_early : ∃ (s : State) (e : LedgerEntry) (i : Instr) (k : Nat) (sub : Nat), ((i, k,
    sub) ∈ [(Instr.ledgerFound e, 1, 0), (Instr.ledgerPermit e, 2, 0), (Instr.ledgerRevoke e, 3, 0), (Instr.ledgerAdmit e, 4, 0), (Instr.ledgerLeave e, 5, 0), (Instr.ledgerFence e, 6, 0), (Instr.ledgerAccept e, 7, 0), (Instr.ledgerStewards e, 8, 0), (Instr.ledgerBarrier e, 9, 0), (Instr.secureSchedule e, 10, 1), (Instr.securePoint e, 10, 2), (Instr.securePair e, 10, 3), (Instr.ledgerReplan e, 11, 0), (Instr.ledgerLead e, 12, 0)])
    ∧ (e.kind = k) ∧ ((k = 10 → fieldAt e.body 0 1 = sub)) ∧ (s.inLedger = true) ∧ (s.rd .fltEpoch 0 + 1 < e.epoch) ∧ (s.flt.held.length < 64) :=
  ⟨aMember [], ⟨2, 1, 2, 0, []⟩, .ledgerPermit ⟨2, 1, 2, 0, []⟩, 2, 0, by decide +kernel⟩

theorem witness_LedgerEntriesApplied_tooEarly : ∃ (s : State) (e : LedgerEntry) (i : Instr) (k : Nat) (sub : Nat), ((i, k,
    sub) ∈ [(Instr.ledgerFound e, 1, 0), (Instr.ledgerPermit e, 2, 0), (Instr.ledgerRevoke e, 3, 0), (Instr.ledgerAdmit e, 4, 0), (Instr.ledgerLeave e, 5, 0), (Instr.ledgerFence e, 6, 0), (Instr.ledgerAccept e, 7, 0), (Instr.ledgerStewards e, 8, 0), (Instr.ledgerBarrier e, 9, 0), (Instr.secureSchedule e, 10, 1), (Instr.securePoint e, 10, 2), (Instr.securePair e, 10, 3), (Instr.ledgerReplan e, 11, 0), (Instr.ledgerLead e, 12, 0)])
    ∧ (e.kind = k) ∧ ((k = 10 → fieldAt e.body 0 1 = sub)) ∧ (s.inLedger = true) ∧ (s.rd .fltEpoch 0 + 1 < e.epoch) ∧ (64 ≤ s.flt.held.length)
    ∧ (s.flt.held.any (fun x => x.epoch = e.epoch) = false) :=
  ⟨(fun s : State => { s with flt := { s.flt with held := (List.range 64).map (fun i => ⟨i + 3, 1, 2, 0, []⟩) } }) (aMember []), ⟨2, 1, 2, 0, []⟩, .ledgerPermit ⟨2, 1, 2, 0, []⟩, 2, 0, by decide +kernel⟩

theorem witness_LedgerAgreementComplete_lead : ∃ (s : State) (p : Proposal), (s.flag .fltIslead 0 = true) ∧ (s.proposalRefused p.kind p.body = false)
    ∧ (p.kind ≠ 6 ∧ p.kind ≠ 10) ∧ (s.flt.stored = [] ∧ s.flt.acks = [])
    ∧ (2 * (s.flt.stewards.filter (fun m => m = s.me)).length ≤ s.flt.stewards.length) :=
  ⟨(fun s : State => { s with flt := { s.flt with stewards := [0, 4, 7] } }) (aMember [(.fltIslead, 0, 1)]), ⟨3, 2, zeros 50⟩, by decide +kernel⟩

theorem witness_LedgerAgreementComplete_append : ∃ (s : State) (p : Proposal), (s.flag .fltIslead 0 = true)
    ∧ (s.proposalRefused p.kind p.body = false) ∧ ((p.kind = 6 → s.memberIds.contains (fieldAt p.body 0 2 % 2 ^ 14) = true)) ∧ (¬(p.kind = 10
    ∧ fieldAt p.body 0 1 = 1 ∧ fieldAt p.body 1 1 = 0)) :=
  ⟨aMember [(.fltIslead, 0, 1)], ⟨3, 10, pointBody 5⟩, by decide +kernel⟩

theorem witness_LedgerAgreementComplete_refused : ∃ (s : State) (p : Proposal), (s.flag .fltIslead 0 = true)
    ∧ (s.proposalRefused p.kind p.body = true) :=
  ⟨aMember [(.fltIslead, 0, 1)], ⟨3, 13, []⟩, by decide +kernel⟩

theorem witness_LedgerAgreementComplete_gone : ∃ (s : State) (p : Proposal), (s.flag .fltIslead 0 = true) ∧ (p.kind = 6)
    ∧ (s.memberIds.contains (fieldAt p.body 0 2 % 2 ^ 14) = false) :=
  ⟨aMember [(.fltIslead, 0, 1)], ⟨3, 6, fenceBody 9 0⟩, by decide +kernel⟩

theorem witness_LedgerAgreementComplete_setk : ∃ (s : State) (p : Proposal), (s.flag .fltIslead 0 = true) ∧ (p.kind = 10 ∧ fieldAt p.body 0 1 = 1
    ∧ fieldAt p.body 1 1 = 0) :=
  ⟨aMember [(.fltIslead, 0, 1)], ⟨3, 10, scheduleBody 0 8 0⟩, by decide +kernel⟩

theorem witness_LedgerAgreementComplete_noLead : ∃ (s : State), (s.flag .fltIslead 0 = false) :=
  ⟨aMember [], by decide +kernel⟩

theorem witness_LedgerAgreementComplete_oldest : ∃ (s : State) (q : Proposal) (l : List Proposal), (s.flag .fltIslead 0 = true)
    ∧ (s.flt.inbox = q :: l) ∧ (s.proposalRefused q.kind q.body = true) :=
  ⟨(fun s => { s with flt := { s.flt with inbox := [⟨3, 13, []⟩] } }) (aMember [(.fltIslead, 0, 1)]), ⟨3, 13, []⟩, [], by decide +kernel⟩

theorem witness_LedgerAgreementComplete_oldestIn : ∃ (s : State) (q : Proposal) (l : List Proposal), (s.flag .fltIslead 0 = true)
    ∧ (s.flt.inbox = q :: l) ∧ (s.proposalRefused q.kind q.body = false) ∧ (q.kind ≠ 6 ∧ q.kind ≠ 10) :=
  ⟨(fun s => { s with flt := { s.flt with inbox := [⟨3, 2, zeros 50⟩] } }) (aMember [(.fltIslead, 0, 1)]), ⟨3, 2, zeros 50⟩, [], by decide +kernel⟩

theorem witness_LedgerAgreementComplete_passed : ∃ (s : State) (q : Proposal) (l : List Proposal), (s.flag .fltIslead 0 = false)
    ∧ (s.flt.inbox = q :: l) :=
  ⟨(fun s => { s with flt := { s.flt with inbox := [⟨3, 2, zeros 50⟩] } }) (aMember []), ⟨3, 2, zeros 50⟩, [], by decide +kernel⟩

theorem witness_LedgerAgreementComplete_none : ∃ (s : State), (s.flt.inbox = []) :=
  ⟨aMember [], by decide +kernel⟩

theorem witness_LedgerAgreementComplete_store : ∃ (s : State) (e : LedgerEntry), (s.flag .fltIssteward 0 = true) ∧ (s.rd .fltTerm 0 ≤ e.term)
    ∧ (s.rd .fltEpoch 0 < e.epoch) :=
  ⟨aMember [(.fltIssteward, 0, 1)], entryOf 2 (zeros 50), by decide +kernel⟩

theorem witness_LedgerAgreementComplete_storeNot : ∃ (s : State) (e : LedgerEntry),
    (s.flag .fltIssteward 0 = false ∨ e.term < s.rd .fltTerm 0 ∨ e.epoch ≤ s.rd .fltEpoch 0) :=
  ⟨aMember [], entryOf 2 [], by decide +kernel⟩

theorem witness_LedgerAgreementComplete_commit : ∃ (s : State) (m : Nat) (e : LedgerEntry), (s.flag .fltIslead 0 = true) ∧ (s.flt.stored = [e])
    ∧ (e.epoch = s.rd .fltEpoch 0 + 1 ∧ e.term = s.rd .fltTerm 0) ∧ (s.flt.acks.contains (e.epoch, m) = false)
    ∧ (s.majority (((s.flt.acks ++ [(e.epoch, m)]).filter (fun a => a.1 = e.epoch)).map (·.2)) = true) :=
  ⟨(fun s => { s with flt := { s.flt with stored := [⟨1, 0, 2, 0, zeros 50⟩], acks := [(1, 0)] } }) ((fun s : State => { s with flt := { s.flt with stewards := [0, 4, 7] } }) (aMember [(.fltIslead, 0, 1)])), 4, ⟨1, 0, 2, 0, zeros 50⟩, by decide +kernel⟩

theorem witness_LedgerAgreementComplete_ack : ∃ (s : State) (m : Nat) (epoch : Nat), (s.flag .fltIslead 0 = true) ∧ (s.flt.acks.contains (epoch,
    m) = false)
    ∧ (s.flt.stored.any (fun x => s.rd .fltEpoch 0 < x.epoch && x.term = s.rd .fltTerm 0 && s.majority (((s.flt.acks ++ [(epoch, m)]).filter (fun a => a.1 = x.epoch)).map (·.2))) = false) :=
  ⟨(fun s : State => { s with flt := { s.flt with stewards := [0, 4, 7] } }) (aMember [(.fltIslead, 0, 1)]), 4, 1, by decide +kernel⟩

theorem witness_LedgerAgreementComplete_ackNot : ∃ (s : State) (m : Nat) (epoch : Nat) (term : Nat),
    (s.flag .fltIslead 0 = false ∨ term ≠ s.rd .fltTerm 0 ∨ s.flt.acks.contains (epoch, m) = true) :=
  ⟨aMember [], 4, 1, 1, by decide +kernel⟩

theorem witness_LedgerAgreementComplete_gap : ∃ (s : State) (at_ : Nat) (m : Nat), (s.flt.gapAt = some at_) ∧ (at_ + 5000000 ≤ s.now)
    ∧ (s.parent = some m) :=
  ⟨(fun s : State => { s with flt := { s.flt with gapAt := some 0, members := [(0, some ⟨3, 0, 0, 0, 0⟩), (9, some ⟨3, 0, 0, 0, 0⟩)] } }) (aMember [(.glbDevtime, 0, 5000000), (.fltLead, 0, 9)]), 0, 9, by decide +kernel⟩

theorem witness_LedgerAgreementComplete_gapAcross : ∃ (s : State) (at_ : Nat) (n : Nat), (s.flt.gapAt = some at_) ∧ (at_ + 5000000 ≤ s.now)
    ∧ (s.parent = none) ∧ ((List.range 32).find? (fun n => s.rd .spnState n = spUp && s.rd .spnPeerstate n = fltMember) = some n) :=
  ⟨(fun s : State => { s with flt := { s.flt with gapAt := some 0 } }) (after [(.fltState, 0, 1), (.glbDevtime, 0, 5000000), (.spnState, 31, spUp), (.spnPeerstate, 31, fltMember)]), 0, 31, by decide +kernel⟩

theorem witness_LedgerAgreementComplete_gapNone : ∃ (s : State) (at_ : Nat), (s.flt.gapAt = some at_) ∧ (at_ + 5000000 ≤ s.now) ∧ (s.parent = none)
    ∧ ((List.range 32).find? (fun n => s.rd .spnState n = spUp && s.rd .spnPeerstate n = fltMember) = none) :=
  ⟨(fun s : State => { s with flt := { s.flt with gapAt := some 0 } }) (after [(.fltState, 0, 1), (.glbDevtime, 0, 5000000)]), 0, by decide +kernel⟩

theorem witness_LedgerAgreementComplete_gapNot : ∃ (s : State), ((∀ a ∈ s.flt.gapAt, s.now < a + 5000000)) :=
  ⟨(fun s : State => { s with flt := { s.flt with gapAt := some 0 } }) (aMember [(.glbDevtime, 0, 4999999)]), by decide +kernel⟩

theorem witness_LedgerAgreementComplete_snapshot : ∃ (s : State) (epoch : Nat), (s.inLedger = true) ∧ (s.rd .fltEpoch 0 < epoch ∧ epoch < 2 ^ 64)
    ∧ (s.flt.held = []) :=
  ⟨aMember [], 2 ^ 64 - 1, by decide +kernel⟩

theorem witness_LedgerAgreementComplete_snapshotNot : ∃ (s : State) (epoch : Nat), (s.inLedger = false ∨ epoch ≤ s.rd .fltEpoch 0) :=
  ⟨aMember [(.fltEpoch, 0, 4)], 4, by decide +kernel⟩

theorem witness_LedgerAgreementComplete_beat : ∃ (s : State), (s.flag .fltIslead 0 = true) :=
  ⟨aMember [(.fltIslead, 0, 1)], by decide +kernel⟩

theorem witness_LedgerAgreementComplete_beatNot : ∃ (s : State), (s.flag .fltIslead 0 = false) :=
  ⟨aMember [], by decide +kernel⟩

theorem witness_LedgerAgreementComplete_alive : ∃ (s : State) (term : Nat) (c : Nat), (s.inLedger = true) ∧ (s.rd .fltTerm 0 ≤ term)
    ∧ (s.rd .fltEpoch 0 ≤ c) :=
  ⟨aMember [], 3, 1, by decide +kernel⟩

theorem witness_LedgerAgreementComplete_aliveAhead : ∃ (s : State) (term : Nat) (c : Nat), (s.inLedger = true) ∧ (s.rd .fltTerm 0 ≤ term)
    ∧ (c < s.rd .fltEpoch 0) ∧ (s.pow.warmWaits = none) :=
  ⟨aMember [(.fltEpoch, 0, 4)], 3, 3, by decide +kernel⟩

theorem witness_LedgerAgreementComplete_aliveNot : ∃ (s : State) (term : Nat), (s.inLedger = false ∨ term < s.rd .fltTerm 0) :=
  ⟨aMember [(.fltTerm, 0, 4)], 3, by decide +kernel⟩

theorem witness_LedgerAgreementComplete_stand : ∃ (s : State), (s.flag .fltIssteward 0 = true) ∧ (s.flag .fltIslead 0 = false)
    ∧ (s.flt.heard + 10000000 + s.me % 8 * 1250000 ≤ s.now) ∧ (2 * (s.flt.stewards.filter (fun m => m = s.me)).length ≤ s.flt.stewards.length) :=
  ⟨(fun s : State => { s with flt := { s.flt with stewards := [0, 4, 7] } }) (aMember [(.fltIssteward, 0, 1), (.glbDevtime, 0, 10000000)]), by decide +kernel⟩

theorem witness_LedgerAgreementComplete_standAlone : ∃ (s : State), (s.isMember = true) ∧ (s.flag .fltMembervalid 0 = true)
    ∧ (s.flag .fltIssteward 0 = true) ∧ (s.flag .fltIslead 0 = false) ∧ (s.flt.heard + 10000000 + s.me % 8 * 1250000 ≤ s.now)
    ∧ (s.flt.stewards = [s.me]) ∧ (s.flt.stored = []) ∧ (s.rd .fltEpoch 0 + 1 < 2 ^ 64 ∧ (s.rd .fltTerm 0 + 1) < 2 ^ 32) :=
  ⟨(fun s : State => { s with flt := { s.flt with stewards := [0] } }) (aMember [(.fltIssteward, 0, 1), (.glbDevtime, 0, 10000000)]), by decide +kernel⟩

theorem witness_LedgerAgreementComplete_standNot : ∃ (s : State),
    (s.flag .fltIssteward 0 = false ∨ s.flag .fltIslead 0 = true ∨ s.now < s.flt.heard + 10000000 + s.me % 8 * 1250000) :=
  ⟨aMember [], by decide +kernel⟩

theorem witness_LedgerAgreementComplete_vote : ∃ (s : State) (term : Nat) (lt : Nat) (le : Nat), (s.flag .fltIssteward 0 = true)
    ∧ (s.flt.votedTerm < term) ∧ (s.rd .fltTerm 0 ≤ term) ∧ (s.flt.lastTerm < lt ∨ (s.flt.lastTerm = lt ∧ s.lastEpoch ≤ le)) :=
  ⟨aMember [(.fltIssteward, 0, 1)], 1, 0, 0, by decide +kernel⟩

theorem witness_LedgerAgreementComplete_voteOlder : ∃ (s : State) (term : Nat) (lt : Nat) (le : Nat), (s.flag .fltIssteward 0 = true)
    ∧ (s.flt.votedTerm < term) ∧ (s.rd .fltTerm 0 ≤ term) ∧ (¬(s.flt.lastTerm < lt ∨ (s.flt.lastTerm = lt ∧ s.lastEpoch ≤ le))) :=
  ⟨aMember [(.fltIssteward, 0, 1), (.fltEpoch, 0, 5)], 1, 0, 4, by decide +kernel⟩

theorem witness_LedgerAgreementComplete_voteNot : ∃ (s : State) (term : Nat),
    (s.flag .fltIssteward 0 = false ∨ term ≤ s.flt.votedTerm ∨ term < s.rd .fltTerm 0) :=
  ⟨aMember [], 1, by decide +kernel⟩

theorem witness_LedgerAgreementComplete_grant : ∃ (s : State) (m : Nat) (term : Nat), (s.flt.standing = some term) ∧ (s.flt.votes.contains m = false)
    ∧ (s.majority (s.flt.votes ++ [m]) = false) :=
  ⟨(fun s : State => { s with flt := { s.flt with stewards := [0, 4, 7, 8], standing := some 3, votes := [0] } }) (aMember []), 4, 3, by decide +kernel⟩

theorem witness_LedgerAgreementComplete_elected : ∃ (s : State) (m : Nat) (term : Nat), (s.flt.standing = some term)
    ∧ (s.flt.votes.contains m = false) ∧ (s.majority (s.flt.votes ++ [m]) = true) ∧ (s.flt.stored = [])
    ∧ (2 * (s.flt.stewards.filter (fun m => m = s.me)).length ≤ s.flt.stewards.length) :=
  ⟨(fun s : State => { s with flt := { s.flt with stewards := [0, 4, 7], standing := some 3, votes := [0] } }) (aMember []), 4, 3, by decide +kernel⟩

theorem witness_LedgerAgreementComplete_grantNot : ∃ (s : State) (m : Nat) (term : Nat),
    (s.flt.standing ≠ some term ∨ s.flt.votes.contains m = true) :=
  ⟨aMember [], 4, 3, by decide +kernel⟩

theorem witness_LedgerAgreementComplete_quorum : ∃ (s : State), (s.isMember = true) ∧ (s.flt.quorumTold = false)
    ∧ (s.flt.heard + 100000000 ≤ s.now) :=
  ⟨aMember [(.glbDevtime, 0, 100000000)], by decide +kernel⟩

theorem witness_LedgerAgreementComplete_quorumNot : ∃ (s : State), (s.isMember = false ∨ s.flt.quorumTold = true ∨ s.now < s.flt.heard + 100000000) :=
  ⟨aMember [(.glbDevtime, 0, 99999999)], by decide +kernel⟩

theorem witness_LedgerAgreementComplete_ahead : ∃ (s : State) (epoch : Nat), (s.flag .fltIslead 0 = true) ∧ (s.flt.barrier < epoch) :=
  ⟨aMember [(.fltIslead, 0, 1)], 1, by decide +kernel⟩

theorem witness_LedgerAgreementComplete_behind : ∃ (s : State) (epoch : Nat), (s.flag .fltIslead 0 = false ∨ epoch ≤ s.flt.barrier) :=
  ⟨aMember [(.fltIslead, 0, 1)], 0, by decide +kernel⟩

theorem witness_LedgerAgreementComplete_hail : ∃ (s : State) (h : List Byte), (s.flag .fltIslead 0 = true) ∧ (s.admissionCheck h = .ok) :=
  ⟨(fun s : State => { s with flt := { s.flt with permits := [(0, none)], accepted := [0] } }) (aMember [(.fltIslead, 0, 1)]), aHail.set 20 1#8, by decide +kernel⟩

theorem witness_LedgerAgreementComplete_hailRefused : ∃ (s : State) (h : List Byte), (s.flag .fltIslead 0 = true) ∧ (s.admissionCheck h ≠ .ok) :=
  ⟨aMember [(.fltIslead, 0, 1)], aHail, by decide +kernel⟩

theorem witness_LedgerAgreementComplete_hailNot : ∃ (s : State), (s.flag .fltIslead 0 = false) :=
  ⟨aMember [], by decide +kernel⟩

theorem witness_LedgerAgreementComplete_again : ∃ (s : State), (s.rd .fltState 0 = 2) ∧ (s.rd .fltRegion 0 ≠ 0) :=
  ⟨after [(.fltState, 0, 2), (.fltRegion, 0, 2 ^ 26)], by decide +kernel⟩

theorem witness_LedgerAgreementComplete_againBare : ∃ (s : State), (s.rd .fltState 0 = 2) ∧ (s.rd .fltRegion 0 = 0) :=
  ⟨after [(.fltState, 0, 2)], by decide +kernel⟩

theorem witness_LedgerAgreementComplete_againNot : ∃ (s : State), (s.rd .fltState 0 ≠ 2) :=
  ⟨aMember [], by decide +kernel⟩

theorem witness_HealthAndSilenceComplete_health : ∃ (s : State) (x : HealthSample) (L : List Nat) (lev : Nat) (cur : Nat),
    (L = (List.range 9).map (fun i => (s.measured x).inputLevel x (i + 1)))
    ∧ (lev = (if ((((s.measured x).sixWakes L).remember L).levelSeven) then 7 else min 6 (L.foldl max 0))) ∧ (s.rd .fhLevel 0 = cur ∧ cur ≤ 7) :=
  ⟨after [(.fhLevel, 0, 3), (.fhLevelmin, 0, 7)], ⟨[], [], 20, 9, 20, false, 48000, 100⟩, [0, 0, 0, 0, 0, 0, 0, 0, 7], 7, 3, by decide +kernel⟩

theorem witness_HealthAndSilenceComplete_risk : ∃ (s : State) (m : Nat), (s.flag .fltIslead 0 = true) ∧ (s.memberIds.contains m = true) :=
  ⟨(aMember [(.fltIslead, 0, 1)]).setMember 9 (some ⟨3, 1, 2, 3, 4⟩), 9, by decide +kernel⟩

theorem witness_HealthAndSilenceComplete_riskNot : ∃ (s : State) (m : Nat), (s.flag .fltIslead 0 = false ∨ s.memberIds.contains m = false) :=
  ⟨aMember [(.fltIslead, 0, 1)], 9, by decide +kernel⟩

theorem witness_HealthAndSilenceComplete_silence : ∃ (s : State) (n : Nat), (n < 32) ∧ (s.rd .spnState n = spUp) ∧ (s.flag .spnPeervalid n = true)
    ∧ ((s.link n).lastRx + 20000000 ≤ s.now) ∧ (s.isMember = true) ∧ (s.flag .fltIslead 0 = false) :=
  ⟨(after ([(.spnState, 31, 3), (.spnPeervalid, 31, 1), (.spnPeer, 31, 9), (.glbDevtime, 0, 20000000)] ++ [(.fltState, 0, fltMember), (.fltMembervalid, 0, 1)])), 31, by decide +kernel⟩

theorem witness_HealthAndSilenceComplete_silenceLead : ∃ (s : State) (n : Nat), (n < 32) ∧ (s.rd .spnState n = spUp) ∧ (s.flag .spnPeervalid n = true)
    ∧ ((s.link n).lastRx + 20000000 ≤ s.now) ∧ (s.isMember = true) ∧ (s.flag .fltIslead 0 = true)
    ∧ (s.flt.silent.any (fun p => p.1 = s.rd .spnPeer n) = false) :=
  ⟨(after ([(.spnState, 31, 3), (.spnPeervalid, 31, 1), (.spnPeer, 31, 9), (.glbDevtime, 0, 20000000)] ++ [(.fltState, 0, fltMember), (.fltMembervalid, 0, 1)] ++ [(.fltIslead, 0, 1)])), 31, by decide +kernel⟩

theorem witness_HealthAndSilenceComplete_silenceKnown : ∃ (s : State) (n : Nat), (s.isMember = false ∨ (s.flag .fltIslead 0 = true
    ∧ s.flt.silent.any (fun p => p.1 = s.rd .spnPeer n) = true)) :=
  ⟨(after ([(.spnState, 31, 3), (.spnPeervalid, 31, 1), (.spnPeer, 31, 9), (.glbDevtime, 0, 20000000)] ++ [])), 31, by decide +kernel⟩

theorem witness_HealthAndSilenceComplete_silenceNot : ∃ (s : State) (n : Nat),
    (32 ≤ n ∨ s.rd .spnState n ≠ spUp ∨ s.flag .spnPeervalid n = false ∨ s.now < (s.link n).lastRx + 20000000) :=
  ⟨aMember [(.spnState, 31, 3), (.spnPeervalid, 31, 1), (.glbDevtime, 0, 19999999)], 31, by decide +kernel⟩

theorem witness_HealthAndSilenceComplete_probe : ∃ (s : State) (m : Nat), (s.flag .fltIslead 0 = true) ∧ (s.memberIds.contains m = true)
    ∧ (s.flt.silent.any (fun p => p.1 = m) = false) :=
  ⟨(aMember [(.fltIslead, 0, 1)]).setMember 9 (some ⟨3, 1, 2, 3, 4⟩), 9, by decide +kernel⟩

theorem witness_HealthAndSilenceComplete_probeNot : ∃ (s : State) (m : Nat),
    (s.flag .fltIslead 0 = false ∨ s.memberIds.contains m = false ∨ s.flt.silent.any (fun p => p.1 = m) = true) :=
  ⟨aMember [], 9, by decide +kernel⟩

theorem witness_HealthAndSilenceComplete_timeout : ∃ (s : State) (m : Nat) (at_ : Nat) (b : Bool), (s.flt.silent.find? (fun p => p.1 = m) = some (m,
    at_, b)) ∧ (s.flag .fltIslead 0 = true) ∧ (at_ + 2000000 ≤ s.now) :=
  ⟨(fun s : State => { s with flt := { s.flt with silent := [(9, 0, true)] } }) (aMember [(.fltIslead, 0, 1), (.glbDevtime, 0, 2000000)]), 9, 0, true, by decide +kernel⟩

theorem witness_HealthAndSilenceComplete_timeoutNot : ∃ (s : State) (m : Nat),
    (s.flag .fltIslead 0 = false ∨ (∀ q ∈ s.flt.silent.find? (fun p => p.1 = m), s.now < q.2.1 + 2000000)) :=
  ⟨(fun s : State => { s with flt := { s.flt with silent := [(9, 0, true)] } }) (aMember [(.fltIslead, 0, 1), (.glbDevtime, 0, 1999999)]), 9, by decide +kernel⟩

theorem witness_HealthAndSilenceComplete_isolated : ∃ (s : State), ((∀ n < 32, s.rd .spnState n ≠ spUp ∨ (s.link n).lastRx + 20000000 ≤ s.now))
    ∧ ((∀ p < 2, (sget TetherPort.dark s.sec.ports p).lastRx + 20000000 ≤ s.now)) :=
  ⟨after [(.spnState, 31, 3), (.glbDevtime, 0, 20000000)], by decide +kernel⟩

theorem witness_HealthAndSilenceComplete_heard : ∃ (s : State), ((∃ n < 32, s.rd .spnState n = spUp
    ∧ s.now < (s.link n).lastRx + 20000000) ∨ (∃ p < 2, s.now < (sget TetherPort.dark s.sec.ports p).lastRx + 20000000)) :=
  ⟨after [(.spnState, 31, 3), (.glbDevtime, 0, 19999999)], .inl ⟨31, by decide +kernel⟩⟩

theorem witness_SecuringAndRecoveryComplete_capture : ∃ (s : State) (r : Nat), (s.secureDue s.armed = some r) ∧ (s.fh.captured ≠ some r)
    ∧ (s.closeHeld = true) ∧ (s.fh.copying = none) :=
  ⟨([(.fhArm, 0, 1), (.fhState, 0, 1), (.fhInterval, 0, 1), (.fhStagesize, 0, 1), (.fhSlotsize, 0, 1)] : List (Reg × Nat × Nat)).foldl (fun s x => s.wr x.1 x.2.1 x.2.2) (chainOn 5 (fun d => d)), 0, by decide +kernel⟩

theorem witness_SecuringAndRecoveryComplete_waits : ∃ (s : State) (r : Nat) (k : Capture), (s.secureDue s.armed = some r) ∧ (s.fh.captured ≠ some r)
    ∧ (s.closeHeld = true) ∧ (s.fh.copying = some k) :=
  ⟨(fun s : State => { s with fh := { s.fh with copying := some ⟨1, 0, [], true, [3], []⟩ } }) (([(.fhArm, 0, 1), (.fhState, 0, 1), (.fhInterval, 0, 1)] : List (Reg × Nat × Nat)).foldl (fun s x => s.wr x.1 x.2.1 x.2.2) (chainOn 5 (fun d => d))), 0, ⟨1, 0, [], true, [3], []⟩, by decide +kernel⟩

theorem witness_SecuringAndRecoveryComplete_captureNot : ∃ (s : State),
    (s.secureDue s.armed = none ∨ s.fh.captured = s.secureDue s.armed ∨ s.closeHeld = false) :=
  ⟨State.reset, by decide +kernel⟩

theorem witness_SecuringAndRecoveryComplete_copy : ∃ (s : State) (k : Capture), (s.fh.copying = some k) ∧ (k.begun = false) ∧ (s.partners ≠ []) :=
  ⟨(fun s : State => { s with fh := { s.fh with copying := some ⟨1, 0, [], false, [], []⟩ } }) (aMember [(.fhPartnera, 0, 9), (.fhPartnerav, 0, 1)]), ⟨1, 0, [], false, [], []⟩, by decide +kernel⟩

theorem witness_SecuringAndRecoveryComplete_copyNot : ∃ (s : State), ((∀ k ∈ s.fh.copying, k.begun = true ∨ s.partners = [])) :=
  ⟨(fun s : State => { s with fh := { s.fh with copying := some ⟨1, 0, [], false, [], []⟩ } }) State.reset, by decide +kernel⟩

theorem witness_SecuringAndRecoveryComplete_copied : ∃ (s : State) (k : Capture), (s.fh.copying = some k) ∧ (k.begun = true ∧ k.blocksTo = []
    ∧ k.headTo = []) :=
  ⟨{ State.reset with fh := { State.reset.fh with copying := some ⟨1, 0, [], true, [], []⟩ } }, ⟨1, 0, [], true, [], []⟩, by decide +kernel⟩

theorem witness_SecuringAndRecoveryComplete_copiedNot : ∃ (s : State), ((∀ k ∈ s.fh.copying, ¬(k.begun = true ∧ k.blocksTo = [] ∧ k.headTo = []))) :=
  ⟨{ State.reset with fh := { State.reset.fh with copying := some ⟨1, 0, [], true, [], [4]⟩ } }, by decide +kernel⟩

theorem witness_SecuringAndRecoveryComplete_done : ∃ (s : State) (m : Nat), (s.flag .fltIslead 0 = true) ∧ (s.memberIds.contains m = true)
    ∧ (s.flt.recovery = none) :=
  ⟨(aMember [(.fltIslead, 0, 1)]).setMember 9 (some ⟨3, 1, 2, 3, 4⟩), 9, by decide +kernel⟩

theorem witness_SecuringAndRecoveryComplete_doneNot : ∃ (s : State) (m : Nat),
    (s.flag .fltIslead 0 = false ∨ s.memberIds.contains m = false ∨ s.flt.recovery.isSome = true) :=
  ⟨aMember [], 9, by decide +kernel⟩

theorem witness_SecuringAndRecoveryComplete_rewound : ∃ (s : State), (s.sweep.rewoundReady = true) :=
  ⟨{ after [(.fhState, 0, 3)] with fh := { State.reset.fh with rewinding := true } }, by decide +kernel⟩

theorem witness_SecuringAndRecoveryComplete_rewoundNot : ∃ (s : State), (s.sweep.rewoundReady = false) :=
  ⟨State.reset, by decide +kernel⟩

theorem witness_SecuringAndRecoveryComplete_heard : ∃ (s : State) (m : Nat), (s.flag .fltIslead 0 = true) ∧ (s.flt.recovery.isSome = true)
    ∧ (s.flt.rewound.contains m = false) :=
  ⟨(fun s : State => { s with flt := { s.flt with recovery := some (9, false, 0) } }) (aMember [(.fltIslead, 0, 1)]), 4, by decide +kernel⟩

theorem witness_SecuringAndRecoveryComplete_heardNot : ∃ (s : State) (m : Nat),
    (s.flag .fltIslead 0 = false ∨ s.flt.recovery = none ∨ s.flt.rewound.contains m = true) :=
  ⟨aMember [], 4, by decide +kernel⟩

theorem witness_SecuringAndRecoveryComplete_late : ∃ (s : State) (m : Nat) (at_ : Nat) (b : Bool), (s.flt.recovery = some (m, b, at_))
    ∧ (s.flag .fltIslead 0 = true) ∧ (at_ + 100000000 ≤ s.now) ∧ (s.underWay 11 0 = false) :=
  ⟨(fun s : State => { s with flt := { s.flt with recovery := some (9, false, 0), reports := [(4, some ⟨1, 0, 0, none⟩)] } }) ((aMember [(.fltIslead, 0, 1), (.glbDevtime, 0, 100000000)]).setMember 4 (some ⟨3, 1, 2, 3, 4⟩)), 9, 0, false, by decide +kernel⟩

theorem witness_SecuringAndRecoveryComplete_lateNot : ∃ (s : State), ((∀ r ∈ s.flt.recovery,
    s.flag .fltIslead 0 = false ∨ s.now < r.2.2 + 100000000 ∨ s.underWay 11 0 = true)) :=
  ⟨(fun s : State => { s with flt := { s.flt with recovery := some (9, false, 0) } }) (aMember [(.fltIslead, 0, 1), (.glbDevtime, 0, 99999999)]), by decide +kernel⟩

theorem witness_SecuringAndRecoveryComplete_restore : ∃ (s : State) (p : Nat) (lost : Nat) (hdr : List Byte) (blocks : List (Nat × List Byte)) (l : List (Nat × List Byte)),
    (s.sweep.fh.replan = some (p, lost, false)) ∧ (¬(s.sweep.fh.rewinding = true ∧ s.sweep.fh.swept = false))
    ∧ ((∀ b ∈ (s.sweep.stageRead (s.sweep.rd .fhStagebase 0) 0 4096).toOption, fieldAt b 8 8 ≠ p ∨ b.take 4 ≠ [0x4B#8, 0x42#8, 0x4C#8, 0x31#8]))
    ∧ (fieldAt hdr 8 8 = p) ∧ (s.sweep.restoreSource s.sweep.regions p false blocks = some l) :=
  ⟨{ State.reset with fh := { State.reset.fh with replan := some (100, 9, false), rewinding := true } }, 100, 9, zeros 8 ++ leBytes 8 100, [], [], by decide +kernel⟩

theorem witness_SecuringAndRecoveryComplete_restoreOwn : ∃ (s : State) (p : Nat) (lost : Nat) (blocks : List (Nat × List Byte)) (l : List (Nat × List Byte)),
    (s.sweep.fh.replan = some (p, lost, false)) ∧ (¬(s.sweep.fh.rewinding = true ∧ s.sweep.fh.swept = false))
    ∧ (fieldAt ((s.sweep.stageRead (s.sweep.rd .fhStagebase 0) 0 4096).toOption.getD []) 8 8 = p
    ∧ ((s.sweep.stageRead (s.sweep.rd .fhStagebase 0) 0 4096).toOption.getD []).take 4 = [0x4B#8, 0x42#8, 0x4C#8, 0x31#8])
    ∧ (s.sweep.restoreSource s.sweep.regions p false blocks = some l) :=
  ⟨{ State.reset with mem := { State.reset.mem with near := [(0, 0x4B#8), (1, 0x42#8), (2, 0x4C#8), (3, 0x31#8), (8, 100#8)] }, fh := { State.reset.fh with replan := some (100, 9, false), rewinding := true } }, 100, 9, [], [], by decide +kernel⟩

theorem witness_SecuringAndRecoveryComplete_heir : ∃ (s : State) (p : Nat) (lost : Nat) (hdr : List Byte) (blocks : List (Nat × List Byte)) (l : List (Nat × List Byte)),
    (s.sweep.fh.replan = some (p, lost, true)) ∧ (¬(s.sweep.fh.rewinding = true ∧ s.sweep.fh.swept = false)) ∧ (fieldAt hdr 8 8 = p)
    ∧ ((hdr.drop 80).take 48 = (match s.sweep.regionBytes with | .ok b => shaBytes b | .error _ => []))
    ∧ (s.sweep.restoreSource s.sweep.regions p true blocks = some l) :=
  ⟨{ after [(.fhRegioncnt, 0, 1), (.fhRegions, 0, 4096)] with fh := { State.reset.fh with replan := some (100, 9, true), rewinding := true } }, 100, 9, zeros 8 ++ leBytes 8 100, [], [], by decide +kernel⟩

theorem witness_SecuringAndRecoveryComplete_heirLayout : ∃ (s : State) (p : Nat) (lost : Nat) (hdr : List Byte), (s.sweep.fh.replan = some (p, lost,
    true)) ∧ (¬(s.sweep.fh.rewinding = true ∧ s.sweep.fh.swept = false)) ∧ (fieldAt hdr 8 8 = p)
    ∧ ((hdr.drop 80).take 48 ≠ (match s.sweep.regionBytes with | .ok b => shaBytes b | .error _ => [])) :=
  ⟨{ after [(.fhRegioncnt, 0, 1), (.fhRegions, 0, 4096)] with fh := { State.reset.fh with replan := some (100, 9, true), rewinding := true } }, 100, 9, zeros 8 ++ leBytes 8 100 ++ zeros 80, by decide +kernel⟩

theorem witness_SecuringAndRecoveryComplete_restoreWaits : ∃ (s : State), (s.sweep.fh.replan = none ∨ (s.sweep.fh.rewinding = true
    ∧ s.sweep.fh.swept = false)) :=
  ⟨State.reset, by decide +kernel⟩

theorem witness_SecuringAndRecoveryComplete_restoreOther : ∃ (s : State) (p : Nat) (lost : Nat) (heir : Bool) (hdr : List Byte),
    (s.sweep.fh.replan = some (p, lost, heir)) ∧ ((∀ b ∈ (s.sweep.stageRead (s.sweep.rd .fhStagebase 0) 0 4096).toOption,
    fieldAt b 8 8 ≠ p ∨ b.take 4 ≠ [0x4B#8, 0x42#8, 0x4C#8, 0x31#8]) ∨ heir = true) ∧ (fieldAt hdr 8 8 ≠ p) :=
  ⟨{ after [(.fhRegioncnt, 0, 1), (.fhRegions, 0, 4096)] with fh := { State.reset.fh with replan := some (100, 9, true), rewinding := true } }, 100, 9, true, zeros 16, by decide +kernel⟩

theorem witness_SecuringAndRecoveryComplete_restoreLacks : ∃ (s : State) (p : Nat) (lost : Nat) (blocks : List (Nat × List Byte)),
    (s.sweep.fh.replan = some (p, lost, false)) ∧ (s.sweep.restoreSource s.sweep.regions p false blocks = none) :=
  ⟨{ mappedCtx with regs := (mappedCtx.wr .fhRegioncnt 0 1).regs, fh := { mappedCtx.fh with replan := some (100, 9, false) }, mem := { mappedCtx.mem with near := mappedCtx.mem.near ++ [(0x4000008, 1#8)], dirty0 := [(0, true)] } }, 100, 9, [], by decide +kernel⟩

theorem witness_SecuringAndRecoveryComplete_replay : ∃ (s : State) (m : Nat), (s.flag .fltIslead 0 = true) ∧ (s.memberIds.contains m = true)
    ∧ (s.workers.all (fun w => w = m || s.flt.replays.any (fun r => r.1 = w)) = false) :=
  ⟨(fun s : State => { s with flt := { s.flt with reports := [(4, some ⟨1, 0, 0, none⟩)] } }) (((aMember [(.fltIslead, 0, 1)]).setMember 4 (some ⟨3, 1, 2, 3, 4⟩)).setMember 9 (some ⟨3, 1, 2, 3, 4⟩)), 9, by decide +kernel⟩

theorem witness_SecuringAndRecoveryComplete_matched : ∃ (s : State) (m : Nat) (result : Nat), (s.flag .fltIslead 0 = true)
    ∧ (s.memberIds.contains m = true) ∧ (s.workers.all (fun w => w = m || s.flt.replays.any (fun r => r.1 = w)) = true)
    ∧ (({ s with flt := { s.flt with replays := s.flt.replays.filter (fun r => r.1 ≠ m) ++ [(m, result)] } } : State).flt.replays.any (fun r => r.2 = 2) = false)
    ∧ (({ s with flt := { s.flt with replays := s.flt.replays.filter (fun r => r.1 ≠ m) ++ [(m, result)] } } : State).flt.replays.any (fun r => r.2 = 1) = true)
    ∧ (s.underWay 9 0 = false) :=
  ⟨(fun s : State => { s with flt := { s.flt with reports := [(4, some ⟨1, 0, 0, none⟩)] } }) (((aMember [(.fltIslead, 0, 1)]).setMember 4 (some ⟨3, 1, 2, 3, 4⟩)).setMember 9 (some ⟨3, 1, 2, 3, 4⟩)), 4, 1, by decide +kernel⟩

theorem witness_SecuringAndRecoveryComplete_unmatched : ∃ (s : State) (m : Nat) (result : Nat), (s.flag .fltIslead 0 = true)
    ∧ (s.memberIds.contains m = true) ∧ (s.workers.all (fun w => w = m || s.flt.replays.any (fun r => r.1 = w)) = true)
    ∧ (({ s with flt := { s.flt with replays := s.flt.replays.filter (fun r => r.1 ≠ m) ++ [(m, result)] } } : State).flt.replays.any (fun r => r.2 = 2) = false)
    ∧ (({ s with flt := { s.flt with replays := s.flt.replays.filter (fun r => r.1 ≠ m) ++ [(m, result)] } } : State).flt.replays.any (fun r => r.2 = 1) = false ∨ s.underWay 9 0 = true) :=
  ⟨(fun s : State => { s with flt := { s.flt with reports := [(4, some ⟨1, 0, 0, none⟩)] } }) (((aMember [(.fltIslead, 0, 1)]).setMember 4 (some ⟨3, 1, 2, 3, 4⟩)).setMember 9 (some ⟨3, 1, 2, 3, 4⟩)), 4, 0, by decide +kernel⟩

theorem witness_SecuringAndRecoveryComplete_mismatch : ∃ (s : State) (m : Nat) (result : Nat), (s.flag .fltIslead 0 = true)
    ∧ (s.memberIds.contains m = true) ∧ (s.workers.all (fun w => w = m || s.flt.replays.any (fun r => r.1 = w)) = true)
    ∧ (({ s with flt := { s.flt with replays := s.flt.replays.filter (fun r => r.1 ≠ m) ++ [(m, result)] } } : State).flt.replays.any (fun r => r.2 = 2) = true)
    ∧ (s.flt.mismatch = 0) ∧ (s.rd .fhPrevpoint 0 ≠ 2 ^ 64 - 1) :=
  ⟨(fun s : State => { s with flt := { s.flt with reports := [(4, some ⟨1, 0, 0, none⟩)] } }) (((aMember [(.fltIslead, 0, 1), (.fhPrevpoint, 0, 5)]).setMember 4 (some ⟨3, 1, 2, 3, 4⟩)).setMember 9 (some ⟨3, 1, 2, 3, 4⟩)), 4, 2, by decide +kernel⟩

theorem witness_SecuringAndRecoveryComplete_mismatchAgain : ∃ (s : State) (m : Nat) (result : Nat), (s.flag .fltIslead 0 = true)
    ∧ (s.memberIds.contains m = true) ∧ (s.workers.all (fun w => w = m || s.flt.replays.any (fun r => r.1 = w)) = true)
    ∧ (({ s with flt := { s.flt with replays := s.flt.replays.filter (fun r => r.1 ≠ m) ++ [(m, result)] } } : State).flt.replays.any (fun r => r.2 = 2) = true)
    ∧ (s.flt.mismatch ≠ 0 ∨ s.rd .fhPrevpoint 0 = 2 ^ 64 - 1) :=
  ⟨(fun s : State => { s with flt := { s.flt with reports := [(4, some ⟨1, 0, 0, none⟩)], mismatch := 1 } }) (((aMember [(.fltIslead, 0, 1)]).setMember 4 (some ⟨3, 1, 2, 3, 4⟩)).setMember 9 (some ⟨3, 1, 2, 3, 4⟩)), 4, 2, by decide +kernel⟩

theorem witness_SecuringAndRecoveryComplete_replayNot : ∃ (s : State) (m : Nat), (s.flag .fltIslead 0 = false ∨ s.memberIds.contains m = false) :=
  ⟨aMember [], 4, by decide +kernel⟩

theorem witness_SecuringAndRecoveryComplete_rights : ∃ (i : Instr) (rdr : Reader), (rdr ≠ .session 0)
    ∧ (i ∈ [Instr.fhSetk rdr, Instr.fhDeclareFault rdr, Instr.fhResume rdr, Instr.fhReleaseWard rdr]) :=
  ⟨.fhResume (.session 3), .session 3, by decide +kernel⟩

theorem witness_SecuringAndRecoveryComplete_setk : ∃ (s : State), (s.isMember = true) :=
  ⟨aMember [], by decide +kernel⟩

theorem witness_SecuringAndRecoveryComplete_declare : ∃ (s : State), (s.isMember = true) ∧ (s.fh.declared = false) :=
  ⟨aMember [], by decide +kernel⟩

theorem witness_SecuringAndRecoveryComplete_declared : ∃ (s : State), (s.isMember = true) ∧ (s.fh.declared = true) :=
  ⟨(fun s : State => { s with fh := { s.fh with declared := true } }) (aMember []), by decide +kernel⟩

theorem witness_SecuringAndRecoveryComplete_alone : ∃ (s : State) (i : Instr), (i ∈ [Instr.fhSetk (.session 0), Instr.fhDeclareFault (.session 0)])
    ∧ (s.isMember = false) :=
  ⟨State.reset, .fhSetk (.session 0), by decide +kernel⟩

theorem witness_SecuringAndRecoveryComplete_resume : ∃ (s : State), (s.rd .fhState 0 = 6) :=
  ⟨after [(.fhState, 0, 6)], by decide +kernel⟩

theorem witness_SecuringAndRecoveryComplete_resumeNot : ∃ (s : State), (s.rd .fhState 0 ≠ 6) :=
  ⟨State.reset, by decide +kernel⟩

theorem witness_SecuringAndRecoveryComplete_ward : ∃ (s : State) (k : Nat) (n : Nat), (s.fh.window = some (k, n)) :=
  ⟨{ after [(.fhWard0v, 0, 1)] with fh := { State.reset.fh with window := some (1, 2 ^ 21) } }, 1, 2 ^ 21, by decide +kernel⟩

theorem witness_SecuringAndRecoveryComplete_wardNone : ∃ (s : State), (s.fh.window = none) :=
  ⟨State.reset, by decide +kernel⟩

theorem witness_WeavePlansComplete_start : ∃ (s : State) (ecc : List (Nat × EccError)) (ring : Nat) (i : Nat) (b : List Byte) (hdr : List Byte) (w : WorkEntry),
    (((s.eccFound ecc).dvaRead ((s.eccFound ecc).rd .dbCtx ring) ((s.eccFound ecc).entryDva ring ((s.eccFound ecc).rd .dbHead ring)) 64).toOption = some b)
    ∧ (fieldAt b 0 1 % 16 = 2) ∧ (((s.eccFound ecc).dvaRead ((s.eccFound ecc).rd .dbCtx ring) (fieldAt b 8 8) 64).toOption = some hdr)
    ∧ ((s.eccFound ecc).planCheck ((s.eccFound ecc).rd .dbCtx ring) (fieldAt b 8 8) (.ok hdr) = .ok)
    ∧ ((s.eccFound ecc).freePlace (wpEngine hdr) = some i) ∧ ((s.eccFound ecc).ringPending ring 1 = true ∧ (s.eccFound ecc).ringHasPlan ring = false)
    ∧ ((s.eccFound ecc).weaveHeld ((s.eccFound ecc).rd .dbCtx ring) = false)
    ∧ ((s.eccFound ecc).flag .ctxClasspend ((s.eccFound ecc).rd .dbCtx ring) = false) ∧ (((s.eccFound ecc).takeWork ring).2 = some w) :=
  ⟨ringOn 1 [(0, 2#8), (9, 1#8), (0x100, 0x57#8), (0x101, 0x56#8), (0x102, 0x50#8), (0x103, 0x31#8), (0x104, 1#8), (0x106, 3#8), (0x107, 1#8), (0x108, 1#8)], [], 5, 48, [2#8] ++ zeros 8 ++ [1#8] ++ zeros 54, [0x57#8, 0x56#8, 0x50#8, 0x31#8, 1#8, 0#8, 3#8, 1#8, 1#8] ++ zeros 55, ⟨2, false, 0, 0x100, 0, 0⟩, by decide +kernel⟩

theorem witness_WeavePlansComplete_refused : ∃ (s : State) (ecc : List (Nat × EccError)) (ring : Nat) (b : List Byte) (w : WorkEntry) (st : Status),
    (((s.eccFound ecc).dvaRead ((s.eccFound ecc).rd .dbCtx ring) ((s.eccFound ecc).entryDva ring ((s.eccFound ecc).rd .dbHead ring)) 64).toOption = some b)
    ∧ (fieldAt b 0 1 % 16 = 2)
    ∧ ((s.eccFound ecc).planCheck ((s.eccFound ecc).rd .dbCtx ring) (fieldAt b 8 8) ((s.eccFound ecc).dvaRead ((s.eccFound ecc).rd .dbCtx ring) (fieldAt b 8 8) 64) = st)
    ∧ (st ≠ .ok) ∧ ((s.eccFound ecc).ringPending ring 1 = true ∧ (s.eccFound ecc).ringHasPlan ring = false)
    ∧ ((s.eccFound ecc).weaveHeld ((s.eccFound ecc).rd .dbCtx ring) = false)
    ∧ ((s.eccFound ecc).flag .ctxClasspend ((s.eccFound ecc).rd .dbCtx ring) = false) ∧ (((s.eccFound ecc).takeWork ring).2 = some w) :=
  ⟨ringOn 1 [(0, 2#8), (9, 1#8), (0x100, 0x57#8), (0x101, 0x56#8), (0x102, 0x50#8), (0x103, 0x31#8), (0x104, 1#8), (0x106, 3#8), (0x107, 1#8), (0x108, 0#8)], [], 5, [2#8] ++ zeros 8 ++ [1#8] ++ zeros 54, ⟨2, false, 0, 0x100, 0, 0⟩, .wvPlanFormat, by decide +kernel⟩

theorem witness_WeavePlansComplete_startNot : ∃ (s : State) (ecc : List (Nat × EccError)) (ring : Nat),
    ((s.eccFound ecc).ringPending ring 1 = false ∨ (s.eccFound ecc).ringHasPlan ring = true ∨ (s.eccFound ecc).weaveHeld ((s.eccFound ecc).rd .dbCtx ring) = true ∨ (s.eccFound ecc).flag .ctxClasspend ((s.eccFound ecc).rd .dbCtx ring) = true) :=
  ⟨State.reset, [], 5, by decide +kernel⟩

theorem witness_WeavePlansComplete_ends : ∃ (s : State) (eng : Nat) (plan : Nat) (idx : Nat) (p : Plan) (x : WvEntry),
    (s.plan (planIx eng plan) = some p) ∧ (p.inprog.find? (fun e => e.idx = idx) = some x) ∧ (x.status = .ok ∧ x.waiting = [] ∧ x.blocked = false) :=
  ⟨planOn (aPlan false [⟨0, 1, zeros 128, .ok, false, 0, false, []⟩] 1) [], 3, 15, 0, aPlan false [⟨0, 1, zeros 128, .ok, false, 0, false, []⟩] 1, ⟨0, 1, zeros 128, .ok, false, 0, false, []⟩, by decide +kernel⟩

theorem witness_WeavePlansComplete_entry : ∃ (s : State) (eng : Nat) (plan : Nat) (idx : Nat) (p : Plan) (x : WvEntry),
    (s.plan (planIx eng plan) = some p) ∧ (p.inprog.find? (fun e => e.idx = idx) = some x) ∧ (x.status = .ok ∧ x.waiting = [] ∧ x.blocked = false
    ∧ x.nonfin = false) ∧ (x.kind ≠ 5 ∧ x.kind ≠ 6) ∧ (wdSigen x.td = false) ∧ ((s.dvaWrite p.ctx (p.entryAt x.idx + 120) (zeros 4)).2 = .ok) :=
  ⟨planOn (aPlan false [⟨0, 1, zeros 128, .ok, false, 0, false, []⟩] 1) [], 3, 15, 0, aPlan false [⟨0, 1, zeros 128, .ok, false, 0, false, []⟩] 1, ⟨0, 1, zeros 128, .ok, false, 0, false, []⟩, by decide +kernel⟩

theorem witness_WeavePlansComplete_failed : ∃ (s : State) (eng : Nat) (plan : Nat) (idx : Nat) (p : Plan) (x : WvEntry),
    (s.plan (planIx eng plan) = some p) ∧ (p.inprog.find? (fun e => e.idx = idx) = some x) ∧ (x.status ≠ .ok) :=
  ⟨planOn (aPlan false [⟨0, 1, zeros 128, .fmtReserved, false, 0, false, []⟩] 1) [], 3, 15, 0, aPlan false [⟨0, 1, zeros 128, .fmtReserved, false, 0, false, []⟩] 1, ⟨0, 1, zeros 128, .fmtReserved, false, 0, false, []⟩, by decide +kernel⟩

theorem witness_WeavePlansComplete_waited : ∃ (s : State) (eng : Nat) (plan : Nat) (idx : Nat) (p : Plan) (x : WvEntry) (st : Status),
    (s.plan (planIx eng plan) = some p) ∧ (p.inprog.find? (fun e => e.idx = idx) = some x) ∧ (x.status = .ok ∧ x.waiting = [] ∧ x.blocked = true)
    ∧ (s.waitDone (.plan (eng % 4) (plan % 16)) = some st) :=
  ⟨(planOn (aPlan false [⟨0, 3, zeros 128, .ok, false, 0, true, []⟩] 1) []).finishWait (.plan 3 15) .ok, 3, 15, 0, aPlan false [⟨0, 3, zeros 128, .ok, false, 0, true, []⟩] 1, ⟨0, 3, zeros 128, .ok, false, 0, true, []⟩, .ok, by decide +kernel⟩

theorem witness_WeavePlansComplete_entryWaits : ∃ (s : State) (eng : Nat) (plan : Nat) (idx : Nat) (p : Plan) (x : WvEntry),
    (s.plan (planIx eng plan) = some p) ∧ (p.inprog.find? (fun e => e.idx = idx) = some x) ∧ (x.status = .ok) ∧ (x.waiting ≠ [] ∨ (x.blocked = true
    ∧ s.waitDone (.plan (eng % 4) (plan % 16)) = none)) :=
  ⟨planOn (aPlan false [⟨0, 1, zeros 128, .ok, false, 0, false, [(4, 0)]⟩] 1) [], 3, 15, 0, aPlan false [⟨0, 1, zeros 128, .ok, false, 0, false, [(4, 0)]⟩] 1, ⟨0, 1, zeros 128, .ok, false, 0, false, [(4, 0)]⟩, by decide +kernel⟩

theorem witness_WeavePlansComplete_reserved : ∃ (s : State) (eng : Nat) (plan : Nat) (idx : Nat) (p : Plan) (td : List Byte),
    (s.plan (planIx eng plan) = some p) ∧ (p.inprog.find? (fun e => e.idx = idx) = none)
    ∧ (((s.nextEntry (planIx eng plan)).bind (fun q => q.2.toOption)) = some td) ∧ (p.next = idx ∧ 9 ≤ wdKind td) :=
  ⟨planOn (aPlan false [] 0) [(0, 9#8)], 3, 15, 0, aPlan false [] 0, wdOf [(0, 9#8)], by decide +kernel⟩

theorem witness_WeavePlansComplete_unread : ∃ (s : State) (eng : Nat) (plan : Nat) (idx : Nat) (p : Plan) (st : Status),
    (s.plan (planIx eng plan) = some p) ∧ (p.inprog.find? (fun e => e.idx = idx) = none) ∧ ((s.nextEntry (planIx eng plan)).isSome = true)
    ∧ ((s.dvaRead p.ctx (p.entryAt p.next) 128).toOption = none) ∧ (statusOf (s.dvaRead p.ctx (p.entryAt p.next) 128) = st) ∧ (p.next = idx) :=
  ⟨(fun s : State => s.setPlan (planIx 3 15) (some { aPlan false [] 0 with dva := 0x400000 })) (planOn (aPlan false [] 0) []), 3, 15, 0, { aPlan false [] 0 with dva := 0x400000 }, .dvaUnmapped, by decide +kernel⟩

theorem witness_WeavePlansComplete_entryNot : ∃ (s : State) (eng : Nat) (plan : Nat) (idx : Nat), ((∀ p ∈ s.plan (planIx eng plan),
    p.inprog.find? (fun e => e.idx = idx) = none ∧ (p.next ≠ idx ∨ s.nextEntry (planIx eng plan) = none))) :=
  ⟨planOn (aPlan false [] 1) [], 3, 15, 4, fun p h => by revert p h; decide +kernel⟩

theorem witness_WeavePlansComplete_complete : ∃ (s : State) (eng : Nat) (plan : Nat) (p : Plan), (s.plan (planIx eng plan) = some p) ∧ (p.inprog = []
    ∧ p.fail = none ∧ wpCount p.hdr ≤ p.next) ∧ (s.weaveHeld p.ctx = false) ∧ (wpDonetally p.hdr = 0) :=
  ⟨planOn (aPlan false [] 1) [], 3, 15, aPlan false [] 1, by decide +kernel⟩

theorem witness_WeavePlansComplete_signalled : ∃ (s : State) (eng : Nat) (plan : Nat) (p : Plan), (s.plan (planIx eng plan) = some p) ∧ (p.inprog = []
    ∧ p.fail = none ∧ wpCount p.hdr ≤ p.next) ∧ (s.weaveHeld p.ctx = false) ∧ (wpDonetally p.hdr ≠ 0) :=
  ⟨(fun s : State => s.setPlan (planIx 3 15) (some { aPlan false [] 1 with hdr := ((aPlan false [] 1).hdr.set 24 1#8).set 26 1#8 })) (planOn (aPlan false [] 1) []), 3, 15, { aPlan false [] 1 with hdr := ((aPlan false [] 1).hdr.set 24 1#8).set 26 1#8 }, by decide +kernel⟩

theorem witness_WeavePlansComplete_planFailed : ∃ (s : State) (eng : Nat) (plan : Nat) (k : Nat) (p : Plan) (st : Status),
    (s.plan (planIx eng plan) = some p) ∧ (p.inprog = [] ∧ p.fail = some (st, k)) ∧ (s.weaveHeld p.ctx = false) :=
  ⟨(fun s : State => s.setPlan (planIx 3 15) (some { aPlan false [] 0 with fail := some (.dvaUnmapped, 0) })) (planOn (aPlan false [] 0) []), 3, 15, 0, { aPlan false [] 0 with fail := some (.dvaUnmapped, 0) }, .dvaUnmapped, by decide +kernel⟩

theorem witness_WeavePlansComplete_completeNot : ∃ (s : State) (eng : Nat) (plan : Nat), ((∀ p ∈ s.plan (planIx eng plan),
    p.inprog ≠ [] ∨ (p.fail = none ∧ p.next < wpCount p.hdr) ∨ s.weaveHeld p.ctx = true)) :=
  ⟨planOn (aPlan false [] 0) [], 3, 15, fun p h => by revert p h; decide +kernel⟩

theorem witness_WeaveEntriesComplete_notIssued : ∃ (s : State) (i : Instr) (k : Nat) (eng : Nat) (plan : Nat) (rem : RemoteRead) (ecc : List (Nat × EccError)),
    ((i,
    k) ∈ [(Instr.nop eng plan, 0), (Instr.copy eng plan rem ecc, 1), (Instr.accum eng plan ecc, 2), (Instr.weaveWait eng plan, 3), (Instr.weaveSignal eng plan, 4), (Instr.dispatch eng plan ecc, 5), (Instr.combine eng plan ecc, 6), (Instr.manifest eng plan ecc, 7), (Instr.load eng plan ecc, 8)])
    ∧ (s.overlay islHub = []) ∧ (s.entryOf (planIx eng plan) k = none) :=
  ⟨State.reset, .load 3 15 [], 8, 3, 15, .refused, [], by decide +kernel⟩

theorem witness_WeaveEntriesComplete_nop : ∃ (s : State) (eng : Nat) (plan : Nat) (p : Plan) (td : List Byte),
    (s.entryOf (planIx eng plan) 0 = some (p, td)) :=
  ⟨planOn (aPlan false [] 0) ([]), 3, 15, aPlan false [] 0, wdOf [], by decide +kernel⟩

theorem witness_WeaveEntriesComplete_nopDone : ∃ (s : State) (eng : Nat) (plan : Nat) (p : Plan) (td : List Byte),
    (s.entryOf (planIx eng plan) 0 = some (p, td)) ∧ (s.gradCheck p.ctx td = .ok) ∧ (wdSigen td = false)
    ∧ (((s.wr .wvCtx ((planIx eng plan) / 16) p.ctx).dvaWrite p.ctx (p.entryAt p.next + 120) (zeros 4)).2 = .ok) :=
  ⟨planOn (aPlan false [] 0) ([]), 3, 15, aPlan false [] 0, wdOf [], by decide +kernel⟩

theorem witness_WeaveEntriesComplete_moved : ∃ (s : State) (i : Instr) (k : Nat) (eng : Nat) (plan : Nat) (acc : Bool) (rem : RemoteRead) (ecc : List (Nat × EccError)) (p : Plan) (td : List Byte) (rows : List WvRow),
    ((i, k, acc) ∈ [(Instr.copy eng plan rem ecc, 1, false), (Instr.accum eng plan ecc, 2, true)]) ∧ (s.overlay islHub = [])
    ∧ (s.entryOf (planIx eng plan) k = some (p, td)) ∧ ((s.eccFound ecc).moveCheck p.ctx td acc = .ok) ∧ (wdNdst td ≤ 1 ∧ wdSrcrem td = false)
    ∧ ((s.eccFound ecc).destCheck p.ctx false (wdDest td) = .ok) ∧ (wdDst td % 16 = 0)
    ∧ (((s.eccFound ecc).readRows p.ctx (wdSfmt td) (wdE0 td) (srcRows td)).2.toOption = some rows) :=
  ⟨planOn (aPlan false [] 0) (oneElem 1#8), .copy 3 15 .refused [], 1, 3, 15, false, .refused, [], aPlan false [] 0, wdOf (oneElem 1#8), [⟨zeros 4, []⟩], by decide +kernel⟩

theorem witness_WeaveEntriesComplete_written : ∃ (s : State) (i : Instr) (k : Nat) (eng : Nat) (plan : Nat) (acc : Bool) (rem : RemoteRead) (ecc : List (Nat × EccError)) (p : Plan) (td : List Byte) (rows : List WvRow),
    ((i, k, acc) ∈ [(Instr.copy eng plan rem ecc, 1, false), (Instr.accum eng plan ecc, 2, true)]) ∧ (s.overlay islHub = [])
    ∧ (s.entryOf (planIx eng plan) k = some (p, td)) ∧ (acc = false) ∧ ((s.eccFound ecc).moveCheck p.ctx td acc = .ok) ∧ (wdNdst td ≤ 1
    ∧ wdSrcrem td = false) ∧ ((wdDest td).remote = false) ∧ ((s.eccFound ecc).destCheck p.ctx false (wdDest td) = .ok) ∧ (wdDst td % 16 = 0)
    ∧ (((s.eccFound ecc).readRows p.ctx (wdSfmt td) (wdE0 td) (srcRows td)).2.toOption = some rows) :=
  ⟨planOn (aPlan false [] 0) (oneElem 1#8), .copy 3 15 .refused [], 1, 3, 15, false, .refused, [], aPlan false [] 0, wdOf (oneElem 1#8), [⟨zeros 4, []⟩], by decide +kernel⟩

theorem witness_WeaveEntriesComplete_unread : ∃ (s : State) (i : Instr) (k : Nat) (eng : Nat) (plan : Nat) (acc : Bool) (rem : RemoteRead) (ecc : List (Nat × EccError)) (p : Plan) (td : List Byte),
    ((i, k, acc) ∈ [(Instr.copy eng plan rem ecc, 1, false), (Instr.accum eng plan ecc, 2, true)]) ∧ (s.overlay islHub = [])
    ∧ (s.entryOf (planIx eng plan) k = some (p, td)) ∧ ((s.eccFound ecc).moveCheck p.ctx td acc = .ok) ∧ (wdNdst td ≤ 1 ∧ wdSrcrem td = false)
    ∧ ((s.eccFound ecc).destCheck p.ctx false (wdDest td) = .ok) ∧ (wdDst td % 16 = 0)
    ∧ (((s.eccFound ecc).readRows p.ctx (wdSfmt td) (wdE0 td) (srcRows td)).2.toOption = none) :=
  ⟨planOn (aPlan false [] 0) (oneElem 1#8 ++ [(22, 0x20#8)]), .copy 3 15 .refused [], 1, 3, 15, false, .refused, [], aPlan false [] 0, wdOf (oneElem 1#8 ++ [(22, 0x20#8)]), by decide +kernel⟩

theorem witness_WeaveEntriesComplete_listed : ∃ (s : State) (i : Instr) (k : Nat) (eng : Nat) (plan : Nat) (acc : Bool) (rem : RemoteRead) (ecc : List (Nat × EccError)) (p : Plan) (td : List Byte) (ds : List WvDest),
    ((i, k, acc) ∈ [(Instr.copy eng plan rem ecc, 1, false), (Instr.accum eng plan ecc, 2, true)]) ∧ (s.overlay islHub = [])
    ∧ (s.entryOf (planIx eng plan) k = some (p, td)) ∧ ((s.eccFound ecc).moveCheck p.ctx td acc = .ok)
    ∧ (((s.eccFound ecc).wdDests p.ctx td).2.toOption = some ds) :=
  ⟨planOn (aPlan false [] 0) (oneElem 1#8), .copy 3 15 .refused [], 1, 3, 15, false, .refused, [], aPlan false [] 0, wdOf (oneElem 1#8), [wdDest (wdOf (oneElem 1#8))], by decide +kernel⟩

theorem witness_WeaveEntriesComplete_listBad : ∃ (s : State) (i : Instr) (k : Nat) (eng : Nat) (plan : Nat) (acc : Bool) (rem : RemoteRead) (ecc : List (Nat × EccError)) (p : Plan) (td : List Byte),
    ((i, k, acc) ∈ [(Instr.copy eng plan rem ecc, 1, false), (Instr.accum eng plan ecc, 2, true)]) ∧ (s.overlay islHub = [])
    ∧ (s.entryOf (planIx eng plan) k = some (p, td)) ∧ ((s.eccFound ecc).moveCheck p.ctx td acc = .ok)
    ∧ (((s.eccFound ecc).wdDests p.ctx td).2.toOption = none) :=
  ⟨planOn (aPlan false [] 0) (oneElem 1#8 ++ [(1, 0x44#8), (2, 0#8)]), .copy 3 15 .refused [], 1, 3, 15, false, .refused, [], aPlan false [] 0, wdOf (oneElem 1#8 ++ [(1, 0x44#8), (2, 0#8)]), by decide +kernel⟩

theorem witness_WeaveEntriesComplete_destBad : ∃ (s : State) (i : Instr) (k : Nat) (eng : Nat) (plan : Nat) (acc : Bool) (rem : RemoteRead) (ecc : List (Nat × EccError)) (p : Plan) (td : List Byte) (st : Status),
    ((i, k, acc) ∈ [(Instr.copy eng plan rem ecc, 1, false), (Instr.accum eng plan ecc, 2, true)]) ∧ (s.overlay islHub = [])
    ∧ (s.entryOf (planIx eng plan) k = some (p, td)) ∧ ((s.eccFound ecc).moveCheck p.ctx td acc = .ok) ∧ (wdNdst td ≤ 1 ∧ wdSrcrem td = false)
    ∧ ((s.eccFound ecc).destCheck p.ctx false (wdDest td) = st) ∧ (st ≠ .ok) :=
  ⟨planOn (aPlan false [] 0) ([(0, 1#8), (10, 5#8), (12, 1#8), (16, 1#8), (18, 1#8), (21, 0x30#8), (29, 0x20#8)]), .copy 3 15 .refused [], 1, 3, 15, false, .refused, [], aPlan false [] 0, wdOf ([(0, 1#8), (10, 5#8), (12, 1#8), (16, 1#8), (18, 1#8), (21, 0x30#8), (29, 0x20#8)]), .wvRemoteRefused, by decide +kernel⟩

theorem witness_WeaveEntriesComplete_checked : ∃ (s : State) (i : Instr) (k : Nat) (eng : Nat) (plan : Nat) (acc : Bool) (rem : RemoteRead) (ecc : List (Nat × EccError)) (p : Plan) (td : List Byte) (st : Status),
    ((i, k, acc) ∈ [(Instr.copy eng plan rem ecc, 1, false), (Instr.accum eng plan ecc, 2, true)]) ∧ (s.overlay islHub = [])
    ∧ (s.entryOf (planIx eng plan) k = some (p, td)) ∧ ((s.eccFound ecc).moveCheck p.ctx td acc = st) ∧ (st ≠ .ok) :=
  ⟨planOn (aPlan false [] 0) ([(0, 2#8)]), .accum 3 15 [], 2, 3, 15, true, .refused, [], aPlan false [] 0, wdOf ([(0, 2#8)]), .wvShape, by decide +kernel⟩

theorem witness_WeaveEntriesComplete_asked : ∃ (s : State) (eng : Nat) (plan : Nat) (ecc : List (Nat × EccError)) (p : Plan) (td : List Byte),
    (s.overlay islHub = []) ∧ (s.entryOf (planIx eng plan) 1 = some (p, td)) ∧ ((s.eccFound ecc).moveCheck p.ctx td false = .ok) ∧ (wdNdst td ≤ 1
    ∧ wdSrcrem td = true) ∧ ((s.eccFound ecc).destCheck p.ctx true (wdDest td) = .ok) ∧ (wdDst td % 16 = 0) :=
  ⟨planOn (aPlan false [] 0) ([(0, 1#8), (5, 0x40#8), (12, 1#8), (16, 1#8), (18, 1#8), (21, 0x30#8), (29, 0x20#8), (4, 9#8)]), 3, 15, [], aPlan false [] 0, wdOf ([(0, 1#8), (5, 0x40#8), (12, 1#8), (16, 1#8), (18, 1#8), (21, 0x30#8), (29, 0x20#8), (4, 9#8)]), by decide +kernel⟩

theorem witness_WeaveEntriesComplete_askedNone : ∃ (s : State) (eng : Nat) (plan : Nat) (rem : RemoteRead) (ecc : List (Nat × EccError)) (p : Plan) (td : List Byte),
    (s.overlay islHub = []) ∧ (s.entryOf (planIx eng plan) 1 = some (p, td)) ∧ ((s.eccFound ecc).moveCheck p.ctx td false = .ok) ∧ (wdNdst td ≤ 1
    ∧ wdSrcrem td = true) ∧ ((s.eccFound ecc).destCheck p.ctx true (wdDest td) = .ok) ∧ (wdDst td % 16 = 0) ∧ (readFailure rem ≠ .ok) :=
  ⟨planOn (aPlan false [] 0) ([(0, 1#8), (5, 0x40#8), (12, 1#8), (16, 1#8), (18, 1#8), (21, 0x30#8), (29, 0x20#8), (4, 9#8)]), 3, 15, .unmapped, [], aPlan false [] 0, wdOf ([(0, 1#8), (5, 0x40#8), (12, 1#8), (16, 1#8), (18, 1#8), (21, 0x30#8), (29, 0x20#8), (4, 9#8)]), by decide +kernel⟩

theorem witness_WeaveEntriesComplete_wait : ∃ (s : State) (eng : Nat) (plan : Nat) (e : Nat) (p : Plan) (td : List Byte),
    (s.entryOf (planIx eng plan) 3 = some (p, td)) ∧ (s.gradCheck p.ctx td = .ok)
    ∧ ((s.tallyXlate (bankOfIsland (islWeavin (eng % 4))) p.ctx (wdTallyid td)).2.toOption = some e) ∧ (s.tallyQueue (bitsAt e 0 20) = [])
    ∧ (wdTallyn td ≤ s.tallyVal (bitsAt e 0 20)) :=
  ⟨(planOn (aPlan false [] 0) ([(0, 3#8), (76, 1#8), (78, 5#8)])).setTallyVal 0 7, 3, 15, 0x100000, aPlan false [] 0, wdOf [(0, 3#8), (76, 1#8), (78, 5#8)], by decide +kernel⟩

theorem witness_WeaveEntriesComplete_waits : ∃ (s : State) (eng : Nat) (plan : Nat) (p : Plan) (td : List Byte),
    (s.entryOf (planIx eng plan) 3 = some (p, td)) ∧ (s.gradCheck p.ctx td = .ok) :=
  ⟨planOn (aPlan false [] 0) ([(0, 3#8), (76, 1#8), (78, 5#8)]), 3, 15, aPlan false [] 0, wdOf [(0, 3#8), (76, 1#8), (78, 5#8)], by decide +kernel⟩

theorem witness_WeaveEntriesComplete_signal : ∃ (s : State) (eng : Nat) (plan : Nat) (e : Nat) (p : Plan) (td : List Byte), (s.overlay islHub = [])
    ∧ (s.entryOf (planIx eng plan) 4 = some (p, td)) ∧ (s.gradCheck p.ctx td = .ok) ∧ ((wdDest td).remote = false)
    ∧ ((s.tallyXlate (bankOfIsland (islWeavin (eng % 4))) p.ctx (wdTallyid td)).2.toOption = some e) ∧ (0 < wdTallyn td)
    ∧ (s.tallyVal (bitsAt e 0 20) + wdTallyn td ≤ 0xFFFFFFFF) :=
  ⟨planOn (aPlan false [] 0) ([(0, 4#8), (76, 1#8), (78, 5#8)]), 3, 15, 0x100000, aPlan false [] 0, wdOf [(0, 4#8), (76, 1#8), (78, 5#8)], by decide +kernel⟩

theorem witness_WeaveEntriesComplete_signals : ∃ (s : State) (eng : Nat) (plan : Nat) (p : Plan) (td : List Byte), (s.overlay islHub = [])
    ∧ (s.entryOf (planIx eng plan) 4 = some (p, td)) ∧ (s.gradCheck p.ctx td = .ok) ∧ ((wdDest td).remote = false) :=
  ⟨planOn (aPlan false [] 0) ([(0, 4#8), (76, 1#8), (78, 5#8)]), 3, 15, aPlan false [] 0, wdOf [(0, 4#8), (76, 1#8), (78, 5#8)], by decide +kernel⟩

theorem witness_WeaveEntriesComplete_signalFar : ∃ (s : State) (eng : Nat) (plan : Nat) (p : Plan) (td : List Byte), (s.overlay islHub = [])
    ∧ (s.entryOf (planIx eng plan) 4 = some (p, td)) ∧ (s.gradCheck p.ctx td = .ok) ∧ ((wdDest td).remote = true)
    ∧ (s.destCheck p.ctx false (wdDest td) = .ok) :=
  ⟨planOn (aPlan false [] 0) ([(0, 4#8), (8, 9#8), (9, 0x40#8), (76, 1#8), (78, 5#8)]), 3, 15, aPlan false [] 0, wdOf [(0, 4#8), (8, 9#8), (9, 0x40#8), (76, 1#8), (78, 5#8)], by decide +kernel⟩

theorem witness_WeaveEntriesComplete_signalBad : ∃ (s : State) (eng : Nat) (plan : Nat) (p : Plan) (td : List Byte) (st : Status),
    (s.overlay islHub = []) ∧ (s.entryOf (planIx eng plan) 4 = some (p, td)) ∧ (s.gradCheck p.ctx td = .ok) ∧ ((wdDest td).remote = true)
    ∧ (s.destCheck p.ctx false (wdDest td) = st) ∧ (st ≠ .ok) :=
  ⟨(fun s : State => (s.wr .fltMembervalid 0 1).wr .fltMember 0 9) (planOn (aPlan false [] 0) ([(0, 4#8), (8, 9#8), (9, 0x40#8)])), 3, 15, aPlan false [] 0, wdOf [(0, 4#8), (8, 9#8), (9, 0x40#8)], .wvSelf, by decide +kernel⟩

theorem witness_WeaveEntriesComplete_rows : ∃ (s : State) (i : Instr) (k : Nat) (eng : Nat) (plan : Nat) (comb : Bool) (ecc : List (Nat × EccError)) (p : Plan) (td : List Byte),
    ((i, k, comb) ∈ [(Instr.dispatch eng plan ecc, 5, false), (Instr.combine eng plan ecc, 6, true)]) ∧ (s.overlay islHub = [])
    ∧ (s.entryOf (planIx eng plan) k = some (p, td)) ∧ (s.rowsCheck p.ctx td comb = .ok) :=
  ⟨planOn (aPlan false [] 0) (oneElem 6#8), .combine 3 15 [], 6, 3, 15, true, [], aPlan false [] 0, wdOf (oneElem 6#8), by decide +kernel⟩

theorem witness_WeaveEntriesComplete_rowsBad : ∃ (s : State) (i : Instr) (k : Nat) (eng : Nat) (plan : Nat) (comb : Bool) (ecc : List (Nat × EccError)) (p : Plan) (td : List Byte) (st : Status),
    ((i, k, comb) ∈ [(Instr.dispatch eng plan ecc, 5, false), (Instr.combine eng plan ecc, 6, true)]) ∧ (s.overlay islHub = [])
    ∧ (s.entryOf (planIx eng plan) k = some (p, td)) ∧ (s.rowsCheck p.ctx td comb = st) ∧ (st ≠ .ok) :=
  ⟨planOn (aPlan false [] 0) ([(0, 5#8)]), .dispatch 3 15 [], 5, 3, 15, false, [], aPlan false [] 0, wdOf ([(0, 5#8)]), .wvShape, by decide +kernel⟩

theorem witness_WeaveEntriesComplete_manifest : ∃ (s : State) (eng : Nat) (plan : Nat) (p : Plan) (td : List Byte),
    (s.entryOf (planIx eng plan) 7 = some (p, td)) ∧ (s.gradCheck p.ctx td = .ok) ∧ (wpWeights p.hdr = true) :=
  ⟨planOn (aPlan true [] 0) [(0, 7#8)], 3, 15, aPlan true [] 0, wdOf [(0, 7#8)], by decide +kernel⟩

theorem witness_WeaveEntriesComplete_load : ∃ (s : State) (eng : Nat) (plan : Nat) (p : Plan) (td : List Byte), (s.overlay islHub = [])
    ∧ (s.entryOf (planIx eng plan) 8 = some (p, td))
    ∧ (firstBad [s.gradCheck p.ctx td, refuseIf (!wpWeights p.hdr) .wvWeightsPlan, refuseIf (wdSrcrem td) .wvRemoteBoth, s.destCheck p.ctx false { wdDest td with remote := false }] = .ok) :=
  ⟨planOn (aPlan true [] 0) [(0, 8#8)], 3, 15, aPlan true [] 0, wdOf [(0, 8#8)], by decide +kernel⟩

theorem witness_WeaveEntriesComplete_loadBad : ∃ (s : State) (eng : Nat) (plan : Nat) (p : Plan) (td : List Byte) (st : Status),
    (s.overlay islHub = []) ∧ (s.entryOf (planIx eng plan) 8 = some (p, td))
    ∧ (firstBad [s.gradCheck p.ctx td, refuseIf (!wpWeights p.hdr) .wvWeightsPlan, refuseIf (wdSrcrem td) .wvRemoteBoth, s.destCheck p.ctx false { wdDest td with remote := false }] = st)
    ∧ (st ≠ .ok) :=
  ⟨planOn (aPlan false [] 0) ([(0, 8#8)]), 3, 15, aPlan false [] 0, wdOf [(0, 8#8)], .wvWeightsPlan, by decide +kernel⟩

theorem witness_WeaveEntriesComplete_noWeights : ∃ (s : State) (eng : Nat) (plan : Nat) (p : Plan) (td : List Byte),
    (s.entryOf (planIx eng plan) 7 = some (p, td)) ∧ (s.gradCheck p.ctx td = .ok) ∧ (wpWeights p.hdr = false) :=
  ⟨planOn (aPlan false [] 0) ([(0, 7#8)]), 3, 15, aPlan false [] 0, wdOf [(0, 7#8)], by decide +kernel⟩

theorem witness_WeaveEntriesComplete_gradClass : ∃ (s : State) (i : Instr) (k : Nat) (eng : Nat) (plan : Nat) (ecc : List (Nat × EccError)) (p : Plan) (td : List Byte),
    ((i, k) ∈ [(Instr.weaveWait eng plan, 3), (Instr.weaveSignal eng plan, 4), (Instr.manifest eng plan ecc, 7)]) ∧ (s.overlay islHub = [])
    ∧ (s.entryOf (planIx eng plan) k = some (p, td)) ∧ (wdGrad td = true) :=
  ⟨planOn (aPlan false [] 0) ([(0, 0x83#8)]), .weaveWait 3 15, 3, 3, 15, [], aPlan false [] 0, wdOf [(0, 0x83#8)], by decide +kernel⟩

theorem witness_TetherPortsComplete_light : ∃ (s : State) (p : Nat), (p < 2) ∧ (s.portState p = tpDark ∨ s.portState p = tpDown) :=
  ⟨State.reset, 1, by decide +kernel⟩

theorem witness_TetherPortsComplete_lightNot : ∃ (s : State) (p : Nat), (2 ≤ p ∨ (s.portState p ≠ tpDark ∧ s.portState p ≠ tpDown)) :=
  ⟨State.reset, 2, by decide +kernel⟩

theorem witness_TetherPortsComplete_lock : ∃ (s : State) (p : Nat), (p < 2) ∧ (s.portState p = tpTraining) :=
  ⟨after [(.tethPortstate1, 0, 1)], 1, by decide +kernel⟩

theorem witness_TetherPortsComplete_lockNot : ∃ (s : State) (p : Nat), (2 ≤ p ∨ s.portState p ≠ tpTraining) :=
  ⟨State.reset, 1, by decide +kernel⟩

theorem witness_TetherPortsComplete_down : ∃ (s : State) (p : Nat), (s.portUp p = true) ∧ ((s.port p).lastRx + 1000000 ≤ s.now) :=
  ⟨after [(.tethPortstate1, 0, 2), (.glbDevtime, 0, 1000000)], 1, by decide +kernel⟩

theorem witness_TetherPortsComplete_downNot : ∃ (s : State) (p : Nat), (s.portUp p = false ∨ s.now < (s.port p).lastRx + 1000000) :=
  ⟨after [(.tethPortstate1, 0, 2), (.glbDevtime, 0, 999999)], 1, by decide +kernel⟩

theorem witness_TetherPortsComplete_send : ∃ (s : State) (p : Nat), (s.portUp p = true) :=
  ⟨portOn 0 [], 0, by decide +kernel⟩

theorem witness_TetherPortsComplete_sendNot : ∃ (s : State) (p : Nat), (s.portUp p = false) :=
  ⟨State.reset, 0, by decide +kernel⟩

theorem witness_TetherPortsComplete_link : ∃ (s : State) (p : Nat) (b : List Byte), (s.portUp p = true) ∧ (tfFormed b tfLink = true ∧ tfLen b = 8)
    ∧ (tfCorrupt b = false) :=
  ⟨portOn 0 [], 0, tlinkOf, by decide +kernel⟩

theorem witness_TetherPortsComplete_linkNot : ∃ (s : State) (p : Nat) (b : List Byte), (s.portUp p = false ∨ (tfCorrupt b = false
    ∧ (tfFormed b tfLink = false ∨ tfLen b ≠ 8))) :=
  ⟨State.reset, 0, tlinkOf, by decide +kernel⟩

theorem witness_TetherPortsComplete_corrupt : ∃ (s : State) (p : Nat) (b : List Byte), (s.portUp p = true) ∧ (tfCorrupt b = true) :=
  ⟨portOn 0 [], 0, tframeOf 0 (zeros 8), by decide +kernel⟩

theorem witness_TetherPortsComplete_codeword : ∃ (s : State) (p : Nat), (s.portUp p = true) :=
  ⟨portOn 0 [], 0, by decide +kernel⟩

theorem witness_TetherPortsComplete_codewordOff : ∃ (s : State) (p : Nat), (s.portUp p = false) :=
  ⟨State.reset, 0, by decide +kernel⟩

theorem witness_TetherPortsComplete_replay : ∃ (s : State) (p : Nat), (s.portUp p = true) ∧ ((s.port p).sent ≠ [])
    ∧ ((s.port p).lastAck + 50000 ≤ s.now) :=
  ⟨(portOn 0 [(.glbDevtime, 0, 50000)]).setPort 0 { TetherPort.dark with sent := [⟨0, 5, zeros 32⟩] }, 0, by decide +kernel⟩

theorem witness_TetherPortsComplete_replayNot : ∃ (s : State) (p : Nat),
    (s.portUp p = false ∨ (s.port p).sent = [] ∨ s.now < (s.port p).lastAck + 50000) :=
  ⟨portOn 0 [], 0, by decide +kernel⟩

theorem witness_SessionsTimeAndClose_gap : ∃ (s : State) (n : Nat) (g : Nat), (s.isOpen n = true) ∧ ((s.sess n).gapAt = some g)
    ∧ (g + 100000000 ≤ s.now) :=
  ⟨(portOn 2 [(.glbDevtime, 0, 100000000)]).setSess 5 { Session.none with gapAt := some 0 }, 5, 0, by decide +kernel⟩

theorem witness_SessionsTimeAndClose_gapNot : ∃ (s : State) (n : Nat), (s.isOpen n = false ∨ (∀ g ∈ (s.sess n).gapAt, s.now < g + 100000000)) :=
  ⟨State.reset, 5, by decide +kernel⟩

theorem witness_SessionsTimeAndClose_rollover : ∃ (s : State) (n : Nat), (s.isOpen n = true) ∧ (2 ^ 40 ≤ (s.sess n).tx.count) :=
  ⟨(portOn 2 []).setSess 5 { Session.none with tx := ⟨0, 0, false, 2 ^ 40⟩ }, 5, by decide +kernel⟩

theorem witness_SessionsTimeAndClose_rolloverNot : ∃ (s : State) (n : Nat), (s.isOpen n = false ∨ (s.sess n).tx.count < 2 ^ 40) :=
  ⟨portOn 2 [], 5, by decide +kernel⟩

theorem witness_SessionsTimeAndClose_handshake : ∃ (s : State) (n : Nat) (h : Handshake), ((s.sess n).hs = some h) ∧ (h.at_ + 1000000000 ≤ s.now) :=
  ⟨(portOn 1 [(.glbDevtime, 0, 1000000000)]).setSess 5 { Session.none with hs := some ⟨0, [], [], 0, 0⟩ }, 5, ⟨0, [], [], 0, 0⟩, by decide +kernel⟩

theorem witness_SessionsTimeAndClose_handshakeNot : ∃ (s : State) (n : Nat), ((∀ h ∈ (s.sess n).hs, s.now < h.at_ + 1000000000)) :=
  ⟨State.reset, 5, by decide +kernel⟩

theorem witness_HandshakesComplete_opening : ∃ (s : State) (p : Nat) (b : List Byte) (m : List Byte), (s.linkNext p 1 b = true)
    ∧ (fragmentFormed ((b.drop 24).take (tfLen b)) = true) ∧ (fieldAt ((b.drop 24).take (tfLen b)) 0 1 = 1
    ∧ fieldAt ((b.drop 24).take (tfLen b)) 2 1 = 1) ∧ (m = ((b.drop 24).take (tfLen b)).drop 4) ∧ (m.length = 133 ∧ fieldAt m 1 3 = 0)
    ∧ (s.sec.entropyBad = false) ∧ (s.sec.sigNext < sigTotal) :=
  ⟨portOn 0 [], 0, tframeOf 1 (leBytes 4 0x10001 ++ zeros 133), zeros 133, by decide +kernel⟩

theorem witness_HandshakesComplete_spent : ∃ (s : State) (p : Nat) (b : List Byte) (m : List Byte), (s.linkNext p 1 b = true)
    ∧ (fragmentFormed ((b.drop 24).take (tfLen b)) = true) ∧ (fieldAt ((b.drop 24).take (tfLen b)) 0 1 = 1
    ∧ fieldAt ((b.drop 24).take (tfLen b)) 2 1 = 1) ∧ (m = ((b.drop 24).take (tfLen b)).drop 4) ∧ (m.length = 133 ∧ fieldAt m 1 3 = 0)
    ∧ (s.sec.entropyBad = false) ∧ (sigTotal ≤ s.sec.sigNext) :=
  ⟨(fun s : State => { s with sec := { s.sec with sigNext := sigTotal } }) (portOn 0 []), 0, tframeOf 1 (leBytes 4 0x10001 ++ zeros 133), zeros 133, by decide +kernel⟩

theorem witness_HandshakesComplete_ignored : ∃ (s : State) (p : Nat) (b : List Byte) (m : List Byte), (s.linkNext p 1 b = true)
    ∧ (fragmentFormed ((b.drop 24).take (tfLen b)) = true) ∧ (fieldAt ((b.drop 24).take (tfLen b)) 0 1 = 1
    ∧ fieldAt ((b.drop 24).take (tfLen b)) 2 1 = 1) ∧ (m = ((b.drop 24).take (tfLen b)).drop 4)
    ∧ (m.length ≠ 133 ∨ fieldAt m 1 3 ≠ 0 ∨ s.sec.entropyBad = true) :=
  ⟨portOn 0 [], 0, tframeOf 1 (leBytes 4 0x10001 ++ zeros 132), zeros 132, by decide +kernel⟩

theorem witness_HandshakesComplete_finish : ∃ (s : State) (p : Nat) (b : List Byte) (m : List Byte) (h : Handshake), (s.linkNext p 1 b = true)
    ∧ (fragmentFormed ((b.drop 24).take (tfLen b)) = true) ∧ (fieldAt ((b.drop 24).take (tfLen b)) 0 1 = 3
    ∧ fieldAt ((b.drop 24).take (tfLen b)) 2 1 = 1) ∧ (m = ((b.drop 24).take (tfLen b)).drop 4) ∧ ((s.sess (tfSession b)).hs = some h)
    ∧ (s.now < h.at_ + 1000000000) :=
  ⟨(portOn 1 [(.tsEnabled, 5, 1)]).setSess 5 { Session.none with hs := some ⟨1, [], [], 0, 0⟩ }, 0, tframeOf 1 (leBytes 4 0x10003), [], ⟨1, [], [], 0, 0⟩, by decide +kernel⟩

theorem witness_HandshakesComplete_late : ∃ (s : State) (p : Nat) (b : List Byte) (m : List Byte) (h : Handshake), (s.linkNext p 1 b = true)
    ∧ (fragmentFormed ((b.drop 24).take (tfLen b)) = true) ∧ (fieldAt ((b.drop 24).take (tfLen b)) 0 1 = 3
    ∧ fieldAt ((b.drop 24).take (tfLen b)) 2 1 = 1) ∧ (m = ((b.drop 24).take (tfLen b)).drop 4) ∧ ((s.sess (tfSession b)).hs = some h)
    ∧ (h.at_ + 1000000000 ≤ s.now) :=
  ⟨(portOn 1 [(.tsEnabled, 5, 1), (.glbDevtime, 0, 1000000000)]).setSess 5 { Session.none with hs := some ⟨1, [], [], 0, 0⟩ }, 0, tframeOf 1 (leBytes 4 0x10003), [], ⟨1, [], [], 0, 0⟩, by decide +kernel⟩

theorem witness_HandshakesComplete_unasked : ∃ (s : State) (p : Nat) (b : List Byte) (m : List Byte), (s.linkNext p 1 b = true)
    ∧ (fragmentFormed ((b.drop 24).take (tfLen b)) = true) ∧ (fieldAt ((b.drop 24).take (tfLen b)) 0 1 = 3
    ∧ fieldAt ((b.drop 24).take (tfLen b)) 2 1 = 1) ∧ (m = ((b.drop 24).take (tfLen b)).drop 4) ∧ ((s.sess (tfSession b)).hs = none) :=
  ⟨portOn 0 [], 0, tframeOf 1 (leBytes 4 0x10003), [], by decide +kernel⟩

theorem witness_HandshakesComplete_part : ∃ (s : State) (p : Nat) (b : List Byte) (i : Instr),
    (i ∈ [Instr.handshakeOpen p b false, Instr.handshakeFinish p b false]) ∧ (s.linkNext p 1 b = true)
    ∧ (fragmentFormed ((b.drop 24).take (tfLen b)) = true)
    ∧ (((List.range (((s.portReceive p 1 b false).1.sess (tfSession b)).withFragment ((b.drop 24).take (tfLen b))).2.1).filterMap (fun i => sget none (((s.portReceive p 1 b false).1.sess (tfSession b)).withFragment ((b.drop 24).take (tfLen b))).2.2 i)).length < (((s.portReceive p 1 b false).1.sess (tfSession b)).withFragment ((b.drop 24).take (tfLen b))).2.1) :=
  ⟨portOn 0 [], 0, tframeOf 1 (leBytes 4 0x20001 ++ zeros 100), .handshakeOpen 0 (tframeOf 1 (leBytes 4 0x20001 ++ zeros 100)) false, by decide +kernel⟩

theorem witness_HandshakesComplete_whole : ∃ (s : State) (p : Nat) (b : List Byte) (i : Instr),
    (i ∈ [Instr.handshakeOpen p b false, Instr.handshakeFinish p b false]) ∧ (s.linkNext p 1 b = true)
    ∧ (fragmentFormed ((b.drop 24).take (tfLen b)) = true)
    ∧ ((((s.portReceive p 1 b false).1.sess (tfSession b)).withFragment ((b.drop 24).take (tfLen b))).2.1 ≤ ((List.range (((s.portReceive p 1 b false).1.sess (tfSession b)).withFragment ((b.drop 24).take (tfLen b))).2.1).filterMap (fun i => sget none (((s.portReceive p 1 b false).1.sess (tfSession b)).withFragment ((b.drop 24).take (tfLen b))).2.2 i)).length) :=
  ⟨portOn 0 [], 0, tframeOf 1 (leBytes 4 0x10003), .handshakeFinish 0 (tframeOf 1 (leBytes 4 0x10003)) false, by decide +kernel⟩

theorem witness_HandshakesComplete_malformed : ∃ (s : State) (p : Nat) (b : List Byte) (i : Instr),
    (i ∈ [Instr.handshakeOpen p b false, Instr.handshakeFinish p b false]) ∧ (s.linkNext p 1 b = true)
    ∧ (fragmentFormed ((b.drop 24).take (tfLen b)) = false) :=
  ⟨portOn 0 [], 0, tframeOf 1 (leBytes 4 0x10002), .handshakeFinish 0 (tframeOf 1 (leBytes 4 0x10002)) false, by decide +kernel⟩

theorem witness_SessionFramesTakeEffect_key : ∃ (s : State) (p : Nat) (b : List Byte), (s.linkNext p 11 b = true) ∧ (s.counterNext b = true) :=
  ⟨portOn 2 [], 0, tframeOf 11 [], by decide +kernel⟩

theorem witness_SessionFramesTakeEffect_close : ∃ (s : State) (p : Nat) (b : List Byte), (s.linkNext p 10 b = true) ∧ (s.counterNext b = true) :=
  ⟨portOn 2 [], 0, tframeOf 10 [], by decide +kernel⟩

theorem witness_SessionFramesTakeEffect_attest : ∃ (s : State) (p : Nat) (b : List Byte), (s.linkNext p 8 b = true) ∧ (s.counterNext b = true)
    ∧ (s.sec.sigNext < sigTotal) :=
  ⟨portOn 2 [], 0, tframeOf 8 (zeros 48), by decide +kernel⟩

theorem witness_SessionFramesTakeEffect_request : ∃ (s : State) (p : Nat) (b : List Byte), (s.linkNext p 2 b = true) ∧ (s.counterNext b = true) :=
  ⟨portOn 2 [], 0, tframeOf 2 (zeros 4 ++ leBytes 4 1 ++ leBytes 4 1 ++ leBytes 4 8 ++ zeros 8), by decide +kernel⟩

theorem witness_SessionFramesTakeEffect_write : ∃ (s : State) (p : Nat) (b : List Byte) (ecc : List (Nat × EccError)),
    ((s.eccFound ecc).linkNext p 4 b = true) ∧ ((s.eccFound ecc).counterNext b = true) :=
  ⟨bulkOn, 0, tframeOf 4 (leBytes 4 0 ++ leBytes 4 4 ++ leBytes 8 16 ++ leBytes 4 0x12345678), [], by decide +kernel⟩

theorem witness_SessionFramesTakeEffect_read : ∃ (s : State) (p : Nat) (b : List Byte) (ecc : List (Nat × EccError)),
    ((s.eccFound ecc).linkNext p 5 b = true) ∧ ((s.eccFound ecc).counterNext b = true) :=
  ⟨bulkOn, 0, tframeOf 5 (leBytes 4 0 ++ leBytes 4 4 ++ leBytes 8 16), [], by decide +kernel⟩

theorem witness_SessionFramesTakeEffect_writeFails : ∃ (s : State) (p : Nat) (b : List Byte) (ecc : List (Nat × EccError)),
    ((s.eccFound ecc).linkNext p 4 b = true) ∧ ((s.eccFound ecc).counterNext b = true) :=
  ⟨bulkOn, 0, tframeOf 4 (leBytes 4 0), [], by decide +kernel⟩

theorem witness_SessionFramesTakeEffect_readFails : ∃ (s : State) (p : Nat) (b : List Byte) (ecc : List (Nat × EccError)),
    ((s.eccFound ecc).linkNext p 5 b = true) ∧ ((s.eccFound ecc).counterNext b = true) :=
  ⟨bulkOn, 0, tframeOf 5 (leBytes 4 0), [], by decide +kernel⟩

theorem witness_SessionFramesTakeEffect_spent : ∃ (s : State) (p : Nat) (b : List Byte), (s.linkNext p 8 b = true) ∧ (s.counterNext b = true)
    ∧ (sigTotal ≤ s.sec.sigNext) :=
  ⟨(fun s : State => { s with sec := { s.sec with sigNext := sigTotal } }) (portOn 2 []), 0, tframeOf 8 (zeros 48), by decide +kernel⟩

theorem witness_SessionFramesTakeEffect_listen : ∃ (s : State) (v : State) (i : Instr) (p : Nat) (ty : Nat) (b : List Byte) (bad : Bool) (ecc : List (Nat × EccError)),
    ((i, ty,
    v) ∈ [(Instr.tetherKeyUpdate p b bad, 11, s), (Instr.handshakeOpen p b bad, 1, s), (Instr.handshakeFinish p b bad, 1, s), (Instr.request p b bad, 2, s), (Instr.bulkWrite p b bad ecc, 4, s.eccFound ecc), (Instr.bulkRead p b bad ecc, 5, s.eccFound ecc), (Instr.attest p b bad, 8, s), (Instr.sessionClose p b bad, 10, s)])
    ∧ (p < 2) ∧ (v.portState p = tpListen) :=
  ⟨after [(.tethPortstate0, 0, 4)], after [(.tethPortstate0, 0, 4)], .request 0 (tframeOf 2 []) false, 0, 2, tframeOf 2 [], false, [], by decide +kernel⟩

theorem witness_SessionFramesTakeEffect_off : ∃ (s : State) (v : State) (i : Instr) (p : Nat) (ty : Nat) (b : List Byte) (bad : Bool) (ecc : List (Nat × EccError)),
    ((i, ty,
    v) ∈ [(Instr.tetherKeyUpdate p b bad, 11, s), (Instr.handshakeOpen p b bad, 1, s), (Instr.handshakeFinish p b bad, 1, s), (Instr.request p b bad, 2, s), (Instr.bulkWrite p b bad ecc, 4, s.eccFound ecc), (Instr.bulkRead p b bad ecc, 5, s.eccFound ecc), (Instr.attest p b bad, 8, s), (Instr.sessionClose p b bad, 10, s)])
    ∧ (v.portUp p = false) ∧ ((p < 2 → v.portState p ≠ tpListen)) :=
  ⟨State.reset, State.reset, .request 0 (tframeOf 2 []) false, 0, 2, tframeOf 2 [], false, [], by decide +kernel⟩

theorem witness_SessionFramesTakeEffect_untaken : ∃ (s : State) (v : State) (i : Instr) (p : Nat) (ty : Nat) (b : List Byte) (bad : Bool) (ecc : List (Nat × EccError)),
    ((i, ty,
    v) ∈ [(Instr.tetherKeyUpdate p b bad, 11, s), (Instr.handshakeOpen p b bad, 1, s), (Instr.handshakeFinish p b bad, 1, s), (Instr.request p b bad, 2, s), (Instr.bulkWrite p b bad ecc, 4, s.eccFound ecc), (Instr.bulkRead p b bad ecc, 5, s.eccFound ecc), (Instr.attest p b bad, 8, s), (Instr.sessionClose p b bad, 10, s)])
    ∧ (v.portUp p = true) ∧ (bad = true ∨ (tfCorrupt b = false ∧ (tfFormed b ty = false ∨ v.holdFull b = true ∨ (tfLseq b ≠ (v.port p).expect
    ∧ (tfLseq b + 2 ^ 32 - (v.port p).expect) % 2 ^ 32 < 2 ^ 31)))) :=
  ⟨portOn 2 [], portOn 2 [], .request 0 (tframeOf 2 []) true, 0, 2, tframeOf 2 [], true, [], by decide +kernel⟩

theorem witness_SessionFramesTakeEffect_corrupt : ∃ (s : State) (v : State) (i : Instr) (p : Nat) (ty : Nat) (b : List Byte) (bad : Bool) (ecc : List (Nat × EccError)),
    ((i, ty,
    v) ∈ [(Instr.tetherKeyUpdate p b bad, 11, s), (Instr.handshakeOpen p b bad, 1, s), (Instr.handshakeFinish p b bad, 1, s), (Instr.request p b bad, 2, s), (Instr.bulkWrite p b bad ecc, 4, s.eccFound ecc), (Instr.bulkRead p b bad ecc, 5, s.eccFound ecc), (Instr.attest p b bad, 8, s), (Instr.sessionClose p b bad, 10, s)])
    ∧ (v.portUp p = true) ∧ (bad = false ∧ tfCorrupt b = true) :=
  ⟨portOn 2 [], portOn 2 [], .request 0 (tframeOf 14 []) false, 0, 2, tframeOf 14 [], false, [], by decide +kernel⟩

theorem witness_SessionFramesTakeEffect_again : ∃ (s : State) (v : State) (i : Instr) (p : Nat) (ty : Nat) (b : List Byte) (bad : Bool) (ecc : List (Nat × EccError)),
    ((i, ty,
    v) ∈ [(Instr.tetherKeyUpdate p b bad, 11, s), (Instr.handshakeOpen p b bad, 1, s), (Instr.handshakeFinish p b bad, 1, s), (Instr.request p b bad, 2, s), (Instr.bulkWrite p b bad ecc, 4, s.eccFound ecc), (Instr.bulkRead p b bad ecc, 5, s.eccFound ecc), (Instr.attest p b bad, 8, s), (Instr.sessionClose p b bad, 10, s)])
    ∧ (v.portUp p = true) ∧ (bad = false ∧ tfCorrupt b = false ∧ tfFormed b ty = true ∧ v.holdFull b = false) ∧ (tfLseq b ≠ (v.port p).expect
    ∧ 2 ^ 31 ≤ (tfLseq b + 2 ^ 32 - (v.port p).expect) % 2 ^ 32) :=
  ⟨(portOn 2 []).setPort 0 { TetherPort.dark with expect := 1 }, (portOn 2 []).setPort 0 { TetherPort.dark with expect := 1 }, .request 0 (tframeOf 2 []) false, 0, 2, tframeOf 2 [], false, [], by decide +kernel⟩

theorem witness_SessionFramesTakeEffect_unopened : ∃ (s : State) (v : State) (i : Instr) (p : Nat) (ty : Nat) (b : List Byte) (bad : Bool) (ecc : List (Nat × EccError)),
    ((i, ty,
    v) ∈ [(Instr.tetherKeyUpdate p b bad, 11, s), (Instr.handshakeOpen p b bad, 1, s), (Instr.handshakeFinish p b bad, 1, s), (Instr.request p b bad, 2, s), (Instr.bulkWrite p b bad ecc, 4, s.eccFound ecc), (Instr.bulkRead p b bad ecc, 5, s.eccFound ecc), (Instr.attest p b bad, 8, s), (Instr.sessionClose p b bad, 10, s)])
    ∧ (bad = false) ∧ (ty ≠ 1) ∧ (v.linkNext p ty b = true) ∧ (v.isOpen (tfSession b) = false ∨ v.sessionKey b = none) :=
  ⟨portOn 0 [], portOn 0 [], .request 0 (tframeOf 2 []) false, 0, 2, tframeOf 2 [], false, [], by decide +kernel⟩

theorem witness_SettingsBurned_owner : ∃ (s : State) (b : List Byte), (s.rd .fuseOwnerused 0 < 8) ∧ (s.secCert.toOption = some b) ∧ ((∀ c < 64,
    s.rd .ctxState c = 0)) :=
  ⟨secOn [], zeros 372, by decide +kernel⟩

theorem witness_SettingsBurned_epoch : ∃ (s : State) (r : Nat × Nat), (s.maySec0 0 = true) ∧ (s.rd .fuseFwepoch 0 < 127) ∧ (s.sec.running = some r)
    ∧ (s.rd .fuseFwepoch 0 + 1 ≤ r.2) :=
  ⟨{ secOn [] with sec := { (secOn []).sec with running := some (0, 1) } }, (0, 1), by decide +kernel⟩

theorem witness_SettingsBurned_ceiling : ∃ (s : State), (s.maySec0 0 = true) ∧ (s.rd .fuseCeilused 0 < 4) ∧ (1000 ≤ fieldAt (s.secArgs 0) 0 2
    ∧ fieldAt (s.secArgs 0) 0 2 < s.rd .fuseCeiling 0) :=
  ⟨secOn [(.secArg, 0, 1000)], by decide +kernel⟩

theorem witness_SettingsBurned_load : ∃ (s : State) (h : List Byte) (sig : List Byte) (body : List Byte) (l : Nat), (s.maySec0 0 = true)
    ∧ ((s.secBytes 0 128).toOption = some h) ∧ ((s.secSigLen 128).toOption = some l) ∧ ((s.secBytes 128 l).toOption = some sig)
    ∧ ((s.secBytes (roundUp (128 + l) 64) (fieldAt h 8 8)).toOption = some body) ∧ (s.pow.resetting = none ∧ s.pow.warmWaits = none) :=
  ⟨steady (secOn []), zeros 128, zeros 104, [], 104, by decide +kernel⟩

theorem witness_SettingsBurned_rights : ∃ (s : State) (i : Instr) (n : Nat), (i ∈ [Instr.fwLoad n, Instr.fwEpoch n, Instr.powerLower n])
    ∧ (s.maySec0 n = false) :=
  ⟨State.reset, .fwLoad 3, 3, by decide +kernel⟩

theorem witness_SettingsBurned_ownerRights : ∃ (s : State) (n : Nat), (n ≠ 0) ∧ (s.sec.ownerClose = false) :=
  ⟨State.reset, 3, by decide +kernel⟩

theorem witness_SettingsBurned_ownerFails : ∃ (s : State) (st : Status), (s.sec.ownerClose = false) ∧ ((8 ≤ s.rd .fuseOwnerused 0
    ∧ st = .secBudget) ∨ (s.rd .fuseOwnerused 0 < 8 ∧ s.secCert.toOption = none ∧ st = statusOf s.secCert)) :=
  ⟨State.reset, .secState, by decide +kernel⟩

theorem witness_SettingsBurned_ownerBusy : ∃ (s : State) (b : List Byte), (s.sec.ownerClose = false) ∧ (s.rd .fuseOwnerused 0 < 8)
    ∧ (s.secCert.toOption = some b) ∧ ((∃ c < 64, s.rd .ctxState c ≠ 0)) :=
  ⟨secOn [(.ctxState, 0, 1)], zeros 372, by decide +kernel, by decide +kernel, by decide +kernel, 0, by decide +kernel⟩

theorem witness_SettingsBurned_epochFails : ∃ (s : State) (st : Status), (s.maySec0 0 = true) ∧ ((127 ≤ s.rd .fuseFwepoch 0
    ∧ st = .secBudget) ∨ (s.rd .fuseFwepoch 0 < 127 ∧ s.sec.running.all (fun r => r.2 < s.rd .fuseFwepoch 0 + 1) = true ∧ st = .secValue)) :=
  ⟨State.reset, .secValue, by decide +kernel⟩

theorem witness_SettingsBurned_ceilingFails : ∃ (s : State) (w : Nat) (st : Status), (s.maySec0 0 = true) ∧ (w = fieldAt (s.secArgs 0) 0 2)
    ∧ ((4 ≤ s.rd .fuseCeilused 0 ∧ st = .secBudget) ∨ (s.rd .fuseCeilused 0 < 4 ∧ s.rd .fuseCeiling 0 ≤ w
    ∧ st = .secRaise) ∨ (s.rd .fuseCeilused 0 < 4 ∧ w < s.rd .fuseCeiling 0 ∧ w < 1000 ∧ st = .secValue)) :=
  ⟨after [(.secArg, 0, 999)], 999, .secValue, by decide +kernel⟩

theorem witness_SettingsBurned_started : ∃ (s : State) (h : List Byte) (sig : List Byte) (body : List Byte) (l : Nat), (s.maySec0 0 = true)
    ∧ ((s.secBytes 0 128).toOption = some h) ∧ ((s.secSigLen 128).toOption = some l) ∧ ((s.secBytes 128 l).toOption = some sig)
    ∧ ((s.secBytes (roundUp (128 + l) 64) (fieldAt h 8 8)).toOption = some body) :=
  ⟨steady (secOn []), zeros 128, zeros 104, [], 104, by decide +kernel⟩

theorem witness_SettingsBurned_unloaded : ∃ (s : State) (st : Status), (s.maySec0 0 = true) ∧ ((s.secBytes 0 128).toOption = none)
    ∧ (st = statusOf (s.secBytes 0 128)) :=
  ⟨State.reset, .secState, by decide +kernel⟩

theorem witness_SettingsBurned_outside : ∃ (s : State) (h : List Byte) (l : Nat) (st : Status), (s.maySec0 0 = true)
    ∧ ((s.secBytes 0 128).toOption = some h) ∧ ((s.secSigLen 128).toOption = some l) ∧ (((s.secBytes 128 l).toOption = none
    ∧ st = statusOf (s.secBytes 128 l)) ∨ ((s.secBytes 128 l).toOption.isSome = true
    ∧ (s.secBytes (roundUp (128 + l) 64) (fieldAt h 8 8)).toOption = none ∧ st = statusOf (s.secBytes (roundUp (128 + l) 64) (fieldAt h 8 8)))) :=
  ⟨(fun s : State => { s with mem := { s.mem with near := [(0xE7, 0xFF#8)] } }) (steady (secOn [])), zeros 128, 104 + 0xFF000000, .secState, by decide +kernel⟩

theorem witness_KeysAndRights_add : ∃ (s : State) (b : List Byte), (s.maySec0 0 = true) ∧ (s.secCert.toOption = some b) ∧ (s.sec.pubs.length < 16) :=
  ⟨secOn [], zeros 372, by decide +kernel⟩

theorem witness_KeysAndRights_remove : ∃ (s : State), (s.maySec0 0 = true) ∧ (s.publisherBound ((s.secArgs 0).take 48) = false) :=
  ⟨secOn [], by decide +kernel⟩

theorem witness_KeysAndRights_psk : ∃ (s : State) (m : Nat) (w : List Byte), (s.maySec0 0 = true) ∧ (m = fieldAt (s.secArgs 0) 0 1 ∧ 1 ≤ m ∧ m < 64)
    ∧ (fieldAt (s.secArgs 0) 1 15 = 0) ∧ (w = (s.secArgs 0).drop 16 ∧ w.take 16 = zeros 15 ++ leBytes 1 m) :=
  ⟨secOn [(.secArg, 0, 5 + 5 * 2 ^ 248), (.tsState, 5, 2)], 5, leBytes 464 (5 * 2 ^ 120), by decide +kernel⟩

theorem witness_KeysAndRights_bind : ∃ (s : State) (m : Nat) (r : Nat), (s.maySec0 0 = true) ∧ (m = fieldAt (s.secArgs 0) 0 1 ∧ 1 ≤ m ∧ m < 64)
    ∧ (fieldAt (s.secArgs 0) 1 3 = 0) ∧ (r = fieldAt (s.secArgs 0) 4 4) :=
  ⟨secOn [(.secArg, 0, 5 + 13 * 2 ^ 32 + 7 * 2 ^ 64), (.tsState, 5, 2)], 5, 13, by decide +kernel⟩

theorem witness_KeysAndRights_install : ∃ (s : State) (n : Nat) (c : Nat) (k : Nat), (s.mayKeys n c = true) ∧ (c = fieldAt (s.secArgs n) 0 1 ∧ c < 64)
    ∧ (k = fieldAt (s.secArgs n) 1 1 ∧ k < 16) ∧ (fieldAt (s.secArgs n) 2 14 = 0) ∧ (s.keySlotBound c k = false) :=
  ⟨secOn [(.tsState, 9, 2), (.tsKeys, 9, 1), (.secArg, 9, 0xF00), (.ctxState, 0, 1), (.ctxOwner, 0, 9)], 9, 0, 15, by decide +kernel⟩

theorem witness_KeysAndRights_clear : ∃ (s : State) (n : Nat) (c : Nat) (k : Nat), (s.mayKeys n c = true) ∧ (c = fieldAt (s.secArgs n) 0 1 ∧ c < 64)
    ∧ (k = fieldAt (s.secArgs n) 1 1 ∧ k < 16) ∧ (s.keySlotBound c k = false) :=
  ⟨secOn [(.secArg, 0, 0xF00)], 0, 0, 15, by decide +kernel⟩

theorem witness_KeysAndRights_entropy : ∃ (s : State), (s.sec.entropyBad = false) :=
  ⟨State.reset, by decide +kernel⟩

theorem witness_KeysAndRights_ack : ∃ (s : State) (n : Nat), (s.isClaim n = false) :=
  ⟨State.reset, 63, by decide +kernel⟩

theorem witness_KeysAndRights_ackNot : ∃ (s : State) (r : Reader) (n : Nat), (r ≠ .session n ∨ s.isClaim n = true) :=
  ⟨State.reset, .session 0, 63, by decide +kernel⟩

theorem witness_KeysAndRights_entropyAgain : ∃ (s : State), (s.sec.entropyBad = true) :=
  ⟨(fun s : State => { s with sec := { s.sec with entropyBad := true } }) State.reset, by decide +kernel⟩

theorem witness_KeysAndRights_rights : ∃ (s : State) (i : Instr) (n : Nat) (may : Bool), ((i,
    may) ∈ [(Instr.pubAdd n, s.maySec0 n), (Instr.pubRemove n, s.maySec0 n), (Instr.pskSet n, s.maySec0 n), (Instr.bind n, s.maySec0 n), (Instr.keyInstall n, s.mayKeys n (fieldAt (s.secArgs n) 0 1)), (Instr.keyClear n, s.mayKeys n (fieldAt (s.secArgs n) 0 1))])
    ∧ (may = false) :=
  ⟨State.reset, .bind 3, 3, false, by decide +kernel⟩

theorem witness_KeysAndRights_addUnread : ∃ (s : State), (s.maySec0 0 = true) ∧ (s.secCert.toOption = none) :=
  ⟨State.reset, by decide +kernel⟩

theorem witness_KeysAndRights_addFull : ∃ (s : State) (b : List Byte), (s.maySec0 0 = true) ∧ (s.secCert.toOption = some b)
    ∧ (16 ≤ s.sec.pubs.length) :=
  ⟨(fun s : State => { s with sec := { s.sec with pubs := List.replicate 16 [] } }) (secOn []), zeros 372, by decide +kernel⟩

theorem witness_KeysAndRights_removeBound : ∃ (s : State), (s.maySec0 0 = true) ∧ (s.publisherBound ((s.secArgs 0).take 48) = true) :=
  ⟨(fun s : State => { s with weave := { s.weave with bound := [(0, some ⟨0, 128, 0⟩)] } }) (secOn []), by decide +kernel⟩

theorem witness_KeysAndRights_pskValue : ∃ (s : State) (m : Nat), (s.maySec0 0 = true) ∧ (m = fieldAt (s.secArgs 0) 0 1)
    ∧ (m = 0 ∨ 64 ≤ m ∨ fieldAt (s.secArgs 0) 1 15 ≠ 0) :=
  ⟨State.reset, 0, by decide +kernel⟩

theorem witness_KeysAndRights_pskLabel : ∃ (s : State) (m : Nat), (s.maySec0 0 = true) ∧ (m = fieldAt (s.secArgs 0) 0 1 ∧ 1 ≤ m ∧ m < 64)
    ∧ (fieldAt (s.secArgs 0) 1 15 = 0) ∧ (((s.secArgs 0).drop 16).take 16 ≠ zeros 15 ++ leBytes 1 m) :=
  ⟨after [(.secArg, 0, 5)], 5, by decide +kernel⟩

theorem witness_KeysAndRights_bindValue : ∃ (s : State) (m : Nat), (s.maySec0 0 = true) ∧ (m = fieldAt (s.secArgs 0) 0 1)
    ∧ (m = 0 ∨ 64 ≤ m ∨ fieldAt (s.secArgs 0) 1 3 ≠ 0) :=
  ⟨after [(.secArg, 0, 64)], 64, by decide +kernel⟩

theorem witness_KeysAndRights_keyValue : ∃ (s : State) (i : Instr) (n : Nat) (c : Nat) (k : Nat), (c = fieldAt (s.secArgs n) 0 1
    ∧ k = fieldAt (s.secArgs n) 1 1) ∧ (s.mayKeys n c = true) ∧ ((i = .keyInstall n
    ∧ fieldAt (s.secArgs n) 2 14 ≠ 0) ∨ ((i = .keyInstall n ∨ i = .keyClear n) ∧ (64 ≤ c ∨ 16 ≤ k))) :=
  ⟨after [(.secArg, 0, 0x1000)], .keyClear 0, 0, 0, 16, by decide +kernel⟩

theorem witness_KeysAndRights_keyBound : ∃ (s : State) (i : Instr) (n : Nat) (c : Nat) (k : Nat), (c = fieldAt (s.secArgs n) 0 1
    ∧ k = fieldAt (s.secArgs n) 1 1) ∧ (s.mayKeys n c = true) ∧ (c < 64 ∧ k < 16 ∧ s.keySlotBound c k = true) ∧ ((i = .keyInstall n
    ∧ fieldAt (s.secArgs n) 2 14 = 0) ∨ i = .keyClear n) :=
  ⟨(fun s : State => { s with weave := { s.weave with bound := [(3, some ⟨0, 128, 15⟩)] } }) (after [(.secArg, 0, 0xF00)]), .keyClear 0, 0, 0, 15, by decide +kernel⟩

theorem witness_MeteringInterfaceComplete_learn : ∃ (s : State) (r : Reader) (c : Nat) (n : Nat), (s.mayWriteCtx r c = true)
    ∧ (s.rd .mtrLearnpend c + n % 2 ^ 32 ≤ 2 ^ 32 - 1) :=
  ⟨after [(.mtrLearnpend, 63, 1)], .session 0, 63, 2 ^ 32 - 2, by decide +kernel⟩

theorem witness_MeteringInterfaceComplete_range : ∃ (s : State) (r : Reader) (c : Nat) (n : Nat), (s.mayWriteCtx r c = true)
    ∧ (2 ^ 32 - 1 < s.rd .mtrLearnpend c + n % 2 ^ 32) :=
  ⟨after [(.mtrLearnpend, 63, 2)], .session 0, 63, 2 ^ 32 - 2, by decide +kernel⟩

theorem witness_MeteringInterfaceComplete_rights : ∃ (s : State) (r : Reader) (c : Nat), (s.mayWriteCtx r c = false) :=
  ⟨State.reset, .session 5, 63, by decide +kernel⟩

theorem witness_MeteringInterfaceComplete_appear : ∃ (s : State), (s.cartOn = true) ∧ (s.cart.mayLight = true) ∧ (s.meter.carrierAt = none) :=
  ⟨cartOn aCart [], by decide +kernel⟩

theorem witness_MeteringInterfaceComplete_appearNot : ∃ (s : State), (s.cartOn = false ∨ s.cart.mayLight = false ∨ s.meter.carrierAt.isSome = true) :=
  ⟨State.reset, by decide +kernel⟩

theorem witness_MeteringInterfaceComplete_settled : ∃ (s : State) (a : Nat), (s.rd .mtrState 0 = 1) ∧ (s.meter.carrierAt = some a)
    ∧ (a + 100000000 ≤ s.now) :=
  ⟨{ after [(.mtrState, 0, 1), (.glbDevtime, 0, 100000000)] with meter := { State.reset.meter with carrierAt := some 0, invalid := true } }, 0, by decide +kernel⟩

theorem witness_MeteringInterfaceComplete_settledNot : ∃ (s : State), (s.rd .mtrState 0 ≠ 1 ∨ (∀ a ∈ s.meter.carrierAt, s.now < a + 100000000)) :=
  ⟨State.reset, by decide +kernel⟩

theorem witness_MeteringInterfaceComplete_loss : ∃ (s : State), (s.rd .mtrState 0 ≠ 0) :=
  ⟨after [(.mtrState, 0, 2), (.ctxState, 63, 1), (.ctxMetered, 63, 1)], by decide +kernel⟩

theorem witness_MeteringInterfaceComplete_lossAgain : ∃ (s : State), (s.rd .mtrState 0 = 0) :=
  ⟨State.reset, by decide +kernel⟩

theorem witness_MeteringInterfaceComplete_untaken : ∃ (s : State) (p : Nat) (b : List Byte) (bad : Bool), ((s.portReceive p 13 b bad).2 = false) :=
  ⟨State.reset, 0, tframeOf 13 [], false, by decide +kernel⟩

theorem witness_MeteringInterfaceComplete_taken : ∃ (s : State) (p : Nat) (b : List Byte), (s.linkNext p 13 b = true) :=
  ⟨{ portOn 0 [] with cart := aCart }, 0, tframeOf 13 (leBytes 4 0x10001 ++ zeros 32), by decide +kernel⟩

theorem witness_MeteringInterfaceComplete_relay : ∃ (s : State) (p : Nat) (b : List Byte), (s.linkNext p 13 b = true)
    ∧ (4 ≤ ((b.drop 24).take (tfLen b)).length ∧ 1 ≤ fieldAt ((b.drop 24).take (tfLen b)) 2 1 ∧ fieldAt ((b.drop 24).take (tfLen b)) 2 1 ≤ 8
    ∧ fieldAt ((b.drop 24).take (tfLen b)) 1 1 < fieldAt ((b.drop 24).take (tfLen b)) 2 1 ∧ fieldAt ((b.drop 24).take (tfLen b)) 3 1 = 0)
    ∧ (s.cart.held.all (·.whole) = true ∧ s.cart.held.length < 4) ∧ (fieldAt ((b.drop 24).take (tfLen b)) 2 1 ≠ 1 ∨ (s.cart.present = true
    ∧ (1 ≤ fieldAt ((b.drop 24).take (tfLen b)) 0 1 ∧ fieldAt ((b.drop 24).take (tfLen b)) 0 1 ≤ 6))) :=
  ⟨{ portOn 0 [] with cart := aCart }, 0, tframeOf 13 (leBytes 4 0x10001 ++ zeros 32), by decide +kernel⟩

theorem witness_MeteringInterfaceComplete_full : ∃ (s : State) (p : Nat) (b : List Byte), (s.linkNext p 13 b = true)
    ∧ (4 ≤ ((b.drop 24).take (tfLen b)).length ∧ 1 ≤ fieldAt ((b.drop 24).take (tfLen b)) 2 1 ∧ fieldAt ((b.drop 24).take (tfLen b)) 2 1 ≤ 8
    ∧ fieldAt ((b.drop 24).take (tfLen b)) 1 1 < fieldAt ((b.drop 24).take (tfLen b)) 2 1 ∧ fieldAt ((b.drop 24).take (tfLen b)) 3 1 = 0)
    ∧ (s.cart.present = true) ∧ (s.cart.held.all (fun r => r.whole && 1 ≤ fieldAt r.message 0 1 && fieldAt r.message 0 1 ≤ 6) = true)
    ∧ (4 ≤ s.cart.held.length) :=
  ⟨{ portOn 0 [] with cart := { aCart with held := List.replicate 4 ⟨[(0, leBytes 1 1 ++ zeros 47)], 1⟩ } }, 0, tframeOf 13 (leBytes 4 0x10001 ++ zeros 32), by decide +kernel⟩

theorem witness_MeteringInterfaceComplete_reserved : ∃ (s : State) (p : Nat) (b : List Byte), (s.linkNext p 13 b = true)
    ∧ (4 ≤ ((b.drop 24).take (tfLen b)).length ∧ 1 ≤ fieldAt ((b.drop 24).take (tfLen b)) 2 1 ∧ fieldAt ((b.drop 24).take (tfLen b)) 2 1 ≤ 8
    ∧ fieldAt ((b.drop 24).take (tfLen b)) 1 1 < fieldAt ((b.drop 24).take (tfLen b)) 2 1 ∧ fieldAt ((b.drop 24).take (tfLen b)) 3 1 = 0)
    ∧ (s.cart.held.all (·.whole) = true ∧ s.cart.held.length < 4) ∧ (fieldAt ((b.drop 24).take (tfLen b)) 2 1 = 1) ∧ (s.cart.present = true)
    ∧ (¬(1 ≤ fieldAt ((b.drop 24).take (tfLen b)) 0 1 ∧ fieldAt ((b.drop 24).take (tfLen b)) 0 1 ≤ 6)) :=
  ⟨{ portOn 0 [] with cart := aCart }, 0, tframeOf 13 (leBytes 4 0x10007 ++ zeros 32), by decide +kernel⟩

theorem witness_MeteringInterfaceComplete_nometer : ∃ (s : State) (p : Nat) (b : List Byte), (s.linkNext p 13 b = true)
    ∧ (4 ≤ ((b.drop 24).take (tfLen b)).length ∧ 1 ≤ fieldAt ((b.drop 24).take (tfLen b)) 2 1 ∧ fieldAt ((b.drop 24).take (tfLen b)) 2 1 ≤ 8
    ∧ fieldAt ((b.drop 24).take (tfLen b)) 1 1 < fieldAt ((b.drop 24).take (tfLen b)) 2 1 ∧ fieldAt ((b.drop 24).take (tfLen b)) 3 1 = 0)
    ∧ (s.cart.held.all (·.whole) = true ∧ s.cart.held.length < 4) ∧ (fieldAt ((b.drop 24).take (tfLen b)) 2 1 = 1) ∧ (s.cart.present = false) :=
  ⟨portOn 0 [], 0, tframeOf 13 (leBytes 4 0x10001 ++ zeros 32), by decide +kernel⟩

theorem witness_MeteringInterfaceComplete_malformed : ∃ (s : State) (p : Nat) (b : List Byte), (s.linkNext p 13 b = true)
    ∧ (¬(4 ≤ ((b.drop 24).take (tfLen b)).length ∧ 1 ≤ fieldAt ((b.drop 24).take (tfLen b)) 2 1 ∧ fieldAt ((b.drop 24).take (tfLen b)) 2 1 ≤ 8
    ∧ fieldAt ((b.drop 24).take (tfLen b)) 1 1 < fieldAt ((b.drop 24).take (tfLen b)) 2 1 ∧ fieldAt ((b.drop 24).take (tfLen b)) 3 1 = 0)) :=
  ⟨portOn 0 [], 0, tframeOf 13 (leBytes 4 1), by decide +kernel⟩

theorem witness_CartridgeRecords_known : ∃ (s : State) (b : List Byte) (x : MeterStream), (s.cartOn = true ∧ s.cart.linkLost = false)
    ∧ (b.length = 144 ∧ b.take 4 = [0x4B#8, 0x4D#8, 0x43#8, 0x31#8] ∧ fieldAt b 4 2 = 1 ∧ fieldAt b 136 4 = crc32c (b.take 136))
    ∧ (s.cart.streams.find? (fun x => decide (x.serial = (fieldAt b 8 6) ∧ x.boot = (fieldAt b 16 4) ∧ x.inst = (fieldAt b 20 4))) = some x)
    ∧ (x.closed = false ∧ bitAt (fieldAt b 7 1) 1 = false) ∧ (sget 0 s.cart.boots (fieldAt b 8 6) ≤ (fieldAt b 16 4))
    ∧ (regressAt 0 ((List.range 13).map (fun i => fieldAt b (32 + 8 * i) 8)) x.counts = none) :=
  ⟨cartOn { aCart with streams := [aStream], boots := [(7, 1)] } [], aCounterFrame 1 1, aStream, by decide +kernel, ⟨by decide +kernel, by decide +kernel, by decide +kernel, aCounterFrame_crc _ _⟩, by decide +kernel, by decide +kernel, by decide +kernel, by decide +kernel⟩

theorem witness_CartridgeRecords_closing : ∃ (s : State) (b : List Byte) (x : MeterStream), (s.cartOn = true ∧ s.cart.linkLost = false)
    ∧ (b.length = 144 ∧ b.take 4 = [0x4B#8, 0x4D#8, 0x43#8, 0x31#8] ∧ fieldAt b 4 2 = 1 ∧ fieldAt b 136 4 = crc32c (b.take 136))
    ∧ (s.cart.streams.find? (fun x => decide (x.serial = (fieldAt b 8 6) ∧ x.boot = (fieldAt b 16 4) ∧ x.inst = (fieldAt b 20 4))) = some x)
    ∧ (x.closed = false ∧ bitAt (fieldAt b 7 1) 1 = true) ∧ (sget 0 s.cart.boots (fieldAt b 8 6) ≤ (fieldAt b 16 4))
    ∧ (regressAt 0 ((List.range 13).map (fun i => fieldAt b (32 + 8 * i) 8)) x.counts = none) :=
  ⟨cartOn { aCart with streams := [aStream], boots := [(7, 1)] } [], aCounterFrame 1 3, aStream, by decide +kernel, ⟨by decide +kernel, by decide +kernel, by decide +kernel, aCounterFrame_crc _ _⟩, by decide +kernel, by decide +kernel, by decide +kernel, by decide +kernel⟩

theorem witness_CartridgeRecords_regress : ∃ (s : State) (b : List Byte) (x : MeterStream) (i : Nat), (s.cartOn = true ∧ s.cart.linkLost = false)
    ∧ (b.length = 144 ∧ b.take 4 = [0x4B#8, 0x4D#8, 0x43#8, 0x31#8] ∧ fieldAt b 4 2 = 1 ∧ fieldAt b 136 4 = crc32c (b.take 136))
    ∧ (s.cart.streams.find? (fun x => decide (x.serial = (fieldAt b 8 6) ∧ x.boot = (fieldAt b 16 4) ∧ x.inst = (fieldAt b 20 4))) = some x)
    ∧ (x.closed = false) ∧ (sget 0 s.cart.boots (fieldAt b 8 6) ≤ (fieldAt b 16 4))
    ∧ (regressAt 0 ((List.range 13).map (fun i => fieldAt b (32 + 8 * i) 8)) x.counts = some i) :=
  ⟨cartOn { aCart with streams := [{ aStream with counts := [1, 1, 2] }], boots := [(7, 1)] } [], aCounterFrame 1 1, { aStream with counts := [1, 1, 2] }, 2, by decide +kernel, ⟨by decide +kernel, by decide +kernel, by decide +kernel, aCounterFrame_crc _ _⟩, by decide +kernel, by decide +kernel, by decide +kernel, by decide +kernel⟩

theorem witness_CartridgeRecords_lowBoot : ∃ (s : State) (b : List Byte), (s.cartOn = true ∧ s.cart.linkLost = false) ∧ (b.length = 144
    ∧ b.take 4 = [0x4B#8, 0x4D#8, 0x43#8, 0x31#8] ∧ fieldAt b 4 2 = 1 ∧ fieldAt b 136 4 = crc32c (b.take 136))
    ∧ ((∀ x ∈ s.cart.streams.find? (fun x => decide (x.serial = (fieldAt b 8 6) ∧ x.boot = (fieldAt b 16 4) ∧ x.inst = (fieldAt b 20 4))),
    x.closed = false)) ∧ ((fieldAt b 16 4) < sget 0 s.cart.boots (fieldAt b 8 6)) :=
  ⟨cartOn { aCart with boots := [(7, 2)] } [], aCounterFrame 1 1, by decide +kernel, ⟨by decide +kernel, by decide +kernel, by decide +kernel, aCounterFrame_crc _ _⟩, by decide +kernel, by decide +kernel⟩

theorem witness_CartridgeRecords_closed : ∃ (s : State) (b : List Byte) (x : MeterStream), (s.cartOn = true ∧ s.cart.linkLost = false)
    ∧ (b.length = 144 ∧ b.take 4 = [0x4B#8, 0x4D#8, 0x43#8, 0x31#8] ∧ fieldAt b 4 2 = 1 ∧ fieldAt b 136 4 = crc32c (b.take 136))
    ∧ (s.cart.streams.find? (fun x => decide (x.serial = (fieldAt b 8 6) ∧ x.boot = (fieldAt b 16 4) ∧ x.inst = (fieldAt b 20 4))) = some x)
    ∧ (x.closed = true) :=
  ⟨cartOn { aCart with streams := [{ aStream with closed := true }], boots := [(7, 1)] } [], aCounterFrame 1 1, { aStream with closed := true }, by decide +kernel, ⟨by decide +kernel, by decide +kernel, by decide +kernel, aCounterFrame_crc _ _⟩, by decide +kernel, by decide +kernel⟩

theorem witness_CartridgeRecords_fresh : ∃ (s : State) (b : List Byte), (s.cartOn = true ∧ s.cart.linkLost = false) ∧ (b.length = 144
    ∧ b.take 4 = [0x4B#8, 0x4D#8, 0x43#8, 0x31#8] ∧ fieldAt b 4 2 = 1 ∧ fieldAt b 136 4 = crc32c (b.take 136))
    ∧ (s.cart.streams.find? (fun x => decide (x.serial = (fieldAt b 8 6) ∧ x.boot = (fieldAt b 16 4) ∧ x.inst = (fieldAt b 20 4))) = none)
    ∧ (sget 0 s.cart.boots (fieldAt b 8 6) ≤ (fieldAt b 16 4)) :=
  ⟨cartOn { aCart with boots := [(7, 1)], lastSerial := some 7 } [], aCounterFrame 1 1, by decide +kernel, ⟨by decide +kernel, by decide +kernel, by decide +kernel, aCounterFrame_crc _ _⟩, by decide +kernel, by decide +kernel⟩

theorem witness_CartridgeRecords_resumed : ∃ (s : State) (b : List Byte), (s.cartOn = true ∧ s.cart.linkLost = true) ∧ (b.length = 144
    ∧ b.take 4 = [0x4B#8, 0x4D#8, 0x43#8, 0x31#8] ∧ fieldAt b 4 2 = 1 ∧ fieldAt b 136 4 = crc32c (b.take 136)) :=
  ⟨cartOn { aCart with linkLost := true } [], aCounterFrame 1 1, by decide +kernel, ⟨by decide +kernel, by decide +kernel, by decide +kernel, aCounterFrame_crc _ _⟩⟩

theorem witness_CartridgeRecords_untaken : ∃ (s : State) (b : List Byte),
    (s.cartOn = false ∨ b.length ≠ 144 ∨ b.take 4 ≠ [0x4B#8, 0x4D#8, 0x43#8, 0x31#8] ∨ fieldAt b 4 2 ≠ 1 ∨ fieldAt b 136 4 ≠ crc32c (b.take 136)) :=
  ⟨cartOn aCart [], [], .inr (.inl (by decide))⟩

theorem witness_CartridgeRecords_interval : ∃ (s : State), (s.cartOn = true) :=
  ⟨cartOn { aCart with streams := [{ aStream with heard := true, gap := true }] } [], by decide +kernel⟩

theorem witness_CartridgeRecords_off : ∃ (s : State) (i : Instr) (a : Nat) (c : Nat),
    (i ∈ [Instr.intervalRecord a c, Instr.overcurrent a, Instr.selftestFail a, Instr.linkLost]) ∧ (s.cartOn = false) :=
  ⟨State.reset, .overcurrent 4, 4, 4, by decide +kernel⟩

theorem witness_CartridgeRecords_over : ∃ (s : State), (s.cartOn = true) :=
  ⟨cartOn aCart [], by decide +kernel⟩

theorem witness_CartridgeRecords_broken : ∃ (s : State), (s.cart.sealIntact = true) :=
  ⟨cartOn aCart [], by decide +kernel⟩

theorem witness_CartridgeRecords_brokenAgain : ∃ (s : State), (s.cart.sealIntact = false) :=
  ⟨cartOn { aCart with sealIntact := false } [], by decide +kernel⟩

theorem witness_CartridgeRecords_removed : ∃ (s : State), (s.cart.present = true) :=
  ⟨cartOn aCart [], by decide +kernel⟩

theorem witness_CartridgeRecords_removedAgain : ∃ (s : State), (s.cart.present = false) :=
  ⟨State.reset, by decide +kernel⟩

theorem witness_CartridgeRecords_inserted : ∃ (s : State), (s.cart.present = false) :=
  ⟨State.reset, by decide +kernel⟩

theorem witness_CartridgeRecords_insertedAgain : ∃ (s : State), (s.cart.present = true) :=
  ⟨cartOn aCart [], by decide +kernel⟩

theorem witness_CartridgeRecords_lost : ∃ (s : State), (s.cartOn = true ∧ s.cart.linkLost = false) :=
  ⟨cartOn { aCart with streams := [{ aStream with seq := 9 }] } [], by decide +kernel⟩

theorem witness_CartridgeRecords_lostAgain : ∃ (s : State), (s.cart.linkLost = true) :=
  ⟨cartOn { aCart with linkLost := true } [], by decide +kernel⟩

theorem witness_CartridgeRecords_selftest : ∃ (s : State), (s.cartOn = true) :=
  ⟨cartOn aCart [], by decide +kernel⟩

theorem witness_CartridgeReplies_identify : ∃ (s : State) (m : List Byte) (c : Cartridge), (s.cart.present = true) ∧ (s.cart.takeRequest 1 = some (m,
    c)) ∧ (0 < c.signatures) ∧ (48 ≤ m.length) :=
  ⟨cartOn (asked 1 (zeros 12)) [], leBytes 1 1 ++ zeros 35 ++ (zeros 12), aCart, by decide +kernel⟩

theorem witness_CartridgeReplies_spent : ∃ (s : State) (i : Instr) (kind : Nat) (e : Nat) (k : Nat) (m : List Byte) (c : Cartridge), ((i,
    kind) ∈ [(Instr.identify, 1), (Instr.readRecords, 2), (Instr.readLog, 3), (Instr.readNow e k, 4), (Instr.calibrate, 5), (Instr.timeSet, 6)])
    ∧ (s.cart.present = true) ∧ (s.cart.takeRequest kind = some (m, c)) ∧ (c.signatures = 0) ∧ (m.length < 48 ∨ kind ≤ 3) :=
  ⟨cartOn { asked 1 [] with signatures := 0 } [], .identify, 1, 0, 0, leBytes 1 1 ++ zeros 35, { aCart with signatures := 0 }, by decide +kernel⟩

theorem witness_CartridgeReplies_short : ∃ (s : State) (i : Instr) (kind : Nat) (e : Nat) (k : Nat) (m : List Byte) (c : Cartridge), ((i,
    kind) ∈ [(Instr.identify, 1), (Instr.readRecords, 2), (Instr.readLog, 3), (Instr.readNow e k, 4), (Instr.calibrate, 5), (Instr.timeSet, 6)])
    ∧ (s.cart.present = true) ∧ (s.cart.takeRequest kind = some (m, c)) ∧ (0 < c.signatures) ∧ (m.length < 48) :=
  ⟨cartOn (asked 6 []) [], .timeSet, 6, 0, 0, leBytes 1 6 ++ zeros 35, aCart, by decide +kernel⟩

theorem witness_CartridgeReplies_unasked : ∃ (s : State) (i : Instr) (kind : Nat) (e : Nat) (k : Nat), ((i,
    kind) ∈ [(Instr.identify, 1), (Instr.readRecords, 2), (Instr.readLog, 3), (Instr.readNow e k, 4), (Instr.calibrate, 5), (Instr.timeSet, 6)])
    ∧ (s.cart.present = false ∨ s.cart.takeRequest kind = none) :=
  ⟨State.reset, .readNow 1 2, 4, 1, 2, by decide +kernel⟩

theorem witness_CartridgeReplies_records : ∃ (s : State) (m : List Byte) (c : Cartridge), (s.cart.present = true) ∧ (s.cart.takeRequest 2 = some (m,
    c)) ∧ (0 < c.signatures) ∧ (48 ≤ m.length) :=
  ⟨cartOn { asked 2 (leBytes 8 1 ++ leBytes 4 32) with records := [(1, zeros 3)] } [], leBytes 1 2 ++ zeros 35 ++ (leBytes 8 1 ++ leBytes 4 32), { aCart with records := [(1, zeros 3)] }, by decide +kernel⟩

theorem witness_CartridgeReplies_log : ∃ (s : State) (m : List Byte) (c : Cartridge), (s.cart.present = true) ∧ (s.cart.takeRequest 3 = some (m, c))
    ∧ (0 < c.signatures) ∧ (48 ≤ m.length) :=
  ⟨cartOn { asked 3 (leBytes 8 1 ++ leBytes 4 128) with log := [(1, zeros 3)] } [], leBytes 1 3 ++ zeros 35 ++ (leBytes 8 1 ++ leBytes 4 128), { aCart with log := [(1, zeros 3)] }, by decide +kernel⟩

theorem witness_CartridgeReplies_now : ∃ (s : State) (m : List Byte) (c : Cartridge), (s.cart.present = true) ∧ (s.cart.takeRequest 4 = some (m, c))
    ∧ (0 < c.signatures) ∧ (48 ≤ m.length) :=
  ⟨cartOn (asked 4 (zeros 12)) [], leBytes 1 4 ++ zeros 35 ++ (zeros 12), aCart, by decide +kernel⟩

theorem witness_CartridgeReplies_calibrate : ∃ (s : State) (m : List Byte) (c : Cartridge), (s.cart.present = true) ∧ (s.cart.takeRequest 5 = some (m,
    c)) ∧ (0 < c.signatures) ∧ (48 ≤ m.length) :=
  ⟨cartOn (asked 5 (zeros 12 ++ leBytes 8 3 ++ leBytes 4 2 ++ zeros 24)) [], leBytes 1 5 ++ zeros 35 ++ (zeros 12 ++ leBytes 8 3 ++ leBytes 4 2 ++ zeros 24), aCart, by decide +kernel⟩

theorem witness_CartridgeReplies_time : ∃ (s : State) (m : List Byte) (c : Cartridge), (s.cart.present = true) ∧ (s.cart.takeRequest 6 = some (m, c))
    ∧ (0 < c.signatures) ∧ (48 ≤ m.length) :=
  ⟨cartOn (asked 6 (zeros 12 ++ leBytes 8 3 ++ leBytes 8 9060)) [], leBytes 1 6 ++ zeros 35 ++ (zeros 12 ++ leBytes 8 3 ++ leBytes 8 9060), aCart, by decide +kernel⟩

theorem witness_SidebandAnswers_entdaa : ∃ (s : State), (s.pow.on = true) :=
  ⟨State.reset, by decide +kernel⟩

theorem witness_SidebandAnswers_eid : ∃ (s : State), (s.pow.on = true) ∧ (s.rd .pwrState 0 = 0) :=
  ⟨State.reset, by decide +kernel⟩

theorem witness_SidebandAnswers_tid : ∃ (s : State), (s.pow.on = true) ∧ (s.rd .pwrState 0 = 0) :=
  ⟨State.reset, by decide +kernel⟩

theorem witness_SidebandAnswers_outside : ∃ (s : State), (s.pow.on = true) ∧ (s.rd .pwrState 0 = 0) :=
  ⟨State.reset, by decide +kernel⟩

theorem witness_SidebandAnswers_types : ∃ (s : State), (s.pow.on = true) ∧ (s.rd .pwrState 0 = 0) :=
  ⟨State.reset, by decide +kernel⟩

theorem witness_SidebandAnswers_commands : ∃ (s : State), (s.pow.on = true) ∧ (s.rd .pwrState 0 = 0) :=
  ⟨State.reset, by decide +kernel⟩

theorem witness_SidebandAnswers_version : ∃ (s : State), (s.pow.on = true) ∧ (s.rd .pwrState 0 = 0) :=
  ⟨State.reset, by decide +kernel⟩

theorem witness_SidebandAnswers_sensor : ∃ (s : State), (s.pow.on = true) ∧ (s.pow.heldOff = false) :=
  ⟨after [(.pwrState, 0, 2)], by decide +kernel⟩

theorem witness_SidebandAnswers_sensorOff : ∃ (s : State), (s.pow.on = true) ∧ (s.pow.heldOff = true) :=
  ⟨{ State.reset with pow := { PowerState.start with heldOff := true } }, by decide +kernel⟩

theorem witness_SidebandAnswers_pdr : ∃ (s : State), (s.pow.on = true) :=
  ⟨State.reset, by decide +kernel⟩

theorem witness_SidebandAnswers_fru : ∃ (s : State), (s.pow.on = true) :=
  ⟨cartOn aCart [], by decide +kernel⟩

theorem witness_SidebandAnswers_waits : ∃ (s : State) (i : Instr) (a : SidebandAct) (e : Nat), ((i,
    a) ∈ [(Instr.setEndpointId e, SidebandAct.setEid (e % 256)), (Instr.gettid true, .answer .success [Config.tid]), (Instr.gettid false, .answer .unsupportedCommand []), (Instr.getpldmtypes, .answer .success (leBytes 8 0x35))])
    ∧ (s.pow.on = true) ∧ (s.rd .pwrState 0 = 2) ∧ (bitAt (s.rd .pwrWakemask 0) 4 = true) :=
  ⟨after [(.pwrState, 0, 2)], .setEndpointId 300, .setEid 44, 300, by decide +kernel⟩

theorem witness_SidebandAnswers_held : ∃ (s : State) (i : Instr) (a : SidebandAct) (e : Nat), ((i,
    a) ∈ [(Instr.setEndpointId e, SidebandAct.setEid (e % 256)), (Instr.gettid true, .answer .success [Config.tid]), (Instr.gettid false, .answer .unsupportedCommand []), (Instr.getpldmtypes, .answer .success (leBytes 8 0x35))])
    ∧ (s.pow.on = true) ∧ (s.rd .pwrState 0 ≠ 0) ∧ (s.rd .pwrState 0 = 3 ∨ bitAt (s.rd .pwrWakemask 0) 4 = false) :=
  ⟨after [(.pwrState, 0, 3)], .setEndpointId 300, .setEid 44, 300, by decide +kernel⟩

theorem witness_SidebandAnswers_early : ∃ (s : State), (s.pow.on = true) ∧ (s.rd .pwrState 0 = 1) ∧ (bitAt (s.rd .pwrWakemask 0) 4 = true)
    ∧ (s.now < s.pow.enteredAt + 50000) :=
  ⟨after [(.pwrState, 0, 1)], by decide +kernel⟩

theorem witness_SidebandAnswers_unpowered : ∃ (s : State) (i : Instr) (a : Nat) (m : Nat) (b : Bool),
    (i ∈ [Instr.entdaa a, Instr.setEndpointId a, Instr.gettid b, Instr.getpldmtypes, Instr.getpldmcommands a, Instr.getpldmversion a, Instr.pldmSensorRead (1 + a % 9) m, Instr.pldmPdrRead (1 + a % 12), Instr.pldmFruRead])
    ∧ (s.pow.on = false) :=
  ⟨{ State.reset with pow := { PowerState.start with on := false } }, .pldmFruRead, 0, 0, false, by decide +kernel⟩

theorem witness_SidebandEffecters_confirm : ∃ (s : State) (v : Nat), (s.pow.on = true) ∧ (s.rd .pwrState 0 = 0) ∧ (v % 65536 = s.rd .fltFeedtag 0)
    ∧ (s.rd .fltFeedtag 0 ≠ 0xFFFF) :=
  ⟨after [(.fltFeedtag, 0, 7)], 7, by decide +kernel⟩

theorem witness_SidebandEffecters_refused : ∃ (s : State) (v : Nat), (s.pow.on = true) ∧ (s.rd .pwrState 0 = 0)
    ∧ ((v % 65536 ≠ s.rd .fltFeedtag 0 ∨ (s.rd .fltFeedtag 0 = 0xFFFF ∧ s.flag .fltFeedok 0 = false))) :=
  ⟨after [(.fltFeedtag, 0, 0xFFFF)], 0xFFFF, by decide +kernel⟩

theorem witness_SidebandEffecters_reset : ∃ (s : State), (s.pow.on = true ∧ s.pow.heldOff = false) ∧ (s.rd .pwrState 0 = 0)
    ∧ (s.pow.resetting ≠ some .module ∧ s.pow.resetting ≠ some .powerOn) :=
  ⟨powered [(.tsState, 63, 2)], by decide +kernel⟩

theorem witness_SidebandEffecters_again : ∃ (s : State), (s.pow.on = true ∧ s.pow.heldOff = false) ∧ (s.rd .pwrState 0 = 0)
    ∧ ((s.pow.resetting = some .module ∨ s.pow.resetting = some .powerOn)) :=
  ⟨State.reset, by decide +kernel⟩

theorem witness_SidebandEffecters_off : ∃ (s : State), (s.pow.on = true) :=
  ⟨after [(.pwrState, 0, 2), (.fuseCeiling, 0, 4000)], by decide +kernel⟩

theorem witness_SidebandEffecters_on : ∃ (s : State), (s.pow.on = true ∧ s.pow.heldOff = true) :=
  ⟨{ State.reset with pow := { PowerState.start with heldOff := true } }, by decide +kernel⟩

theorem witness_SidebandEffecters_hot : ∃ (s : State), (s.pow.on = true ∧ s.pow.heldOff = true) :=
  ⟨{ State.reset with pow := { PowerState.start with heldOff := true } }, by decide +kernel⟩

theorem witness_SidebandEffecters_already : ∃ (s : State), (s.pow.on = true ∧ s.pow.heldOff = false) ∧ (s.rd .pwrState 0 = 0) :=
  ⟨State.reset, by decide +kernel⟩

theorem witness_SidebandEffecters_image : ∃ (s : State), (s.pow.on = true ∧ s.pow.heldOff = false) ∧ (s.rd .pwrState 0 = 0) :=
  ⟨State.reset, by decide +kernel⟩

theorem witness_SidebandEffecters_activate : ∃ (s : State) (h : Nat) (e : Nat), (s.pow.on = true ∧ s.pow.heldOff = false) ∧ (s.rd .pwrState 0 = 0)
    ∧ (s.pow.resetting = none ∧ s.pow.warmWaits = none) ∧ (s.sec.staged = some (h, e)) ∧ (s.flightWork = false) :=
  ⟨{ powered [] with sec := { State.reset.sec with staged := some (5, 1) } }, 5, 1, by decide +kernel⟩

theorem witness_SidebandEffecters_noimage : ∃ (s : State), (s.pow.on = true ∧ s.pow.heldOff = false) ∧ (s.rd .pwrState 0 = 0)
    ∧ (s.sec.staged = none) :=
  ⟨State.reset, by decide +kernel⟩

theorem witness_SidebandEffecters_activateFences : ∃ (s : State), (s.pow.on = true ∧ s.pow.heldOff = false) ∧ (s.rd .pwrState 0 = 0)
    ∧ (s.pow.resetting = none ∧ s.pow.warmWaits = none) ∧ (s.sec.staged.isSome = true) ∧ (s.flightWork = true) :=
  ⟨{ powered [(.fltState, 0, fltMember), (.fhArm, 0, 1)] with sec := { State.reset.sec with staged := some (5, 1) } }, by decide +kernel⟩

theorem witness_SidebandEffecters_activateAgain : ∃ (s : State), (s.pow.on = true ∧ s.pow.heldOff = false) ∧ (s.rd .pwrState 0 = 0)
    ∧ (s.pow.resetting.isSome = true ∨ s.pow.warmWaits.isSome = true) ∧ (s.sec.staged.isSome = true) :=
  ⟨{ State.reset with sec := { State.reset.sec with staged := some (5, 1) } }, by decide +kernel⟩

theorem witness_SidebandEffecters_heldOff : ∃ (s : State) (i : Instr) (b : List Byte),
    (i ∈ [Instr.resetEffecter, Instr.pldmFirmwareUpdate b, Instr.firmwareUpdateActivate]) ∧ (s.pow.on = true ∧ s.pow.heldOff = true)
    ∧ (s.rd .pwrState 0 = 0) :=
  ⟨{ State.reset with pow := { PowerState.start with heldOff := true } }, .resetEffecter, [], by decide +kernel⟩

theorem witness_SidebandEffecters_waits : ∃ (s : State) (i : Instr) (a : SidebandAct) (v : Nat) (b : List Byte), ((i,
    a) ∈ [(Instr.feedTagConfirm v, SidebandAct.feedTag (v % 65536)), (Instr.resetEffecter, .reset), (Instr.pldmFirmwareUpdate b, .update b), (Instr.firmwareUpdateActivate, .activate)])
    ∧ (s.pow.on = true) ∧ (s.rd .pwrState 0 = 2) ∧ (bitAt (s.rd .pwrWakemask 0) 4 = true) :=
  ⟨after [(.pwrState, 0, 2)], .resetEffecter, .reset, 0, [], by decide +kernel⟩

theorem witness_SidebandEffecters_held : ∃ (s : State) (i : Instr) (a : SidebandAct) (v : Nat) (b : List Byte), ((i,
    a) ∈ [(Instr.feedTagConfirm v, SidebandAct.feedTag (v % 65536)), (Instr.resetEffecter, .reset), (Instr.pldmFirmwareUpdate b, .update b), (Instr.firmwareUpdateActivate, .activate)])
    ∧ (s.pow.on = true) ∧ (s.rd .pwrState 0 ≠ 0) ∧ (s.rd .pwrState 0 = 3 ∨ bitAt (s.rd .pwrWakemask 0) 4 = false) :=
  ⟨after [(.pwrState, 0, 3)], .feedTagConfirm 65537, .feedTag 1, 65537, [], by decide +kernel⟩

theorem witness_SidebandEffecters_unpowered : ∃ (s : State) (i : Instr) (v : Nat) (hot : Bool) (b : List Byte),
    (i ∈ [Instr.feedTagConfirm v, Instr.resetEffecter, Instr.powerEffecterOff, Instr.powerEffecterOn v hot, Instr.pldmFirmwareUpdate b, Instr.firmwareUpdateActivate])
    ∧ (s.pow.on = false) :=
  ⟨{ State.reset with pow := { PowerState.start with on := false } }, .resetEffecter, 0, false, [], by decide +kernel⟩

theorem witness_GondolaAccessesComplete_load : ∃ (s : State) (h : Nat) (dva : Nat) (c : Nat) (n : Nat) (ecc : List (Nat × EccError)) (ps : List (Place × Nat)) (b : List Byte),
    ((s.core (.hart h)).running = true ∧ (s.core (.hart h)).waitRd = none) ∧ (s.ctxOfHart h = some c)
    ∧ ((s.dvaPieces c dva (max 1 n) .read true).toOption = some ps) ∧ (ps.all (fun p => decide (p.1.target ≠ 2)) = true)
    ∧ (((s.eccFound ecc).readPieces ps).toOption = some b) :=
  ⟨hartOn 0x0F#8 [(8, 0xFE#8)], 0, 8, 0, 1, [], [(⟨0, 0x4000008, 0x1FFFF8⟩, 1)], [0xFE#8], by decide +kernel⟩

theorem witness_GondolaAccessesComplete_float : ∃ (s : State) (h : Nat) (dva : Nat) (c : Nat) (n : Nat) (ecc : List (Nat × EccError)) (ps : List (Place × Nat)) (b : List Byte),
    ((s.core (.hart h)).running = true ∧ (s.core (.hart h)).waitRd = none) ∧ (s.ctxOfHart h = some c)
    ∧ ((s.dvaPieces c dva (max 1 n) .read true).toOption = some ps) ∧ (ps.all (fun p => decide (p.1.target ≠ 2)) = true)
    ∧ (((s.eccFound ecc).readPieces ps).toOption = some b) :=
  ⟨hartOn 0x0F#8 [(8, 0xFE#8)], 0, 8, 0, 8, [], [(⟨0, 0x4000008, 0x1FFFF8⟩, 8)], 0xFE#8 :: zeros 7, by decide +kernel⟩

theorem witness_GondolaAccessesComplete_store : ∃ (s : State) (h : Nat) (dva : Nat) (c : Nat) (n : Nat) (v : Nat) (ecc : List (Nat × EccError)) (ps : List (Place × Nat)),
    ((s.core (.hart h)).running = true ∧ (s.core (.hart h)).waitRd = none) ∧ (s.ctxOfHart h = some c)
    ∧ ((s.dvaPieces c dva (max 1 n) .write true).toOption = some ps) ∧ (ps.all (fun p => decide (p.1.target ≠ 2)) = true)
    ∧ (((s.eccFound ecc).writePieces c ps (leBytes (max 1 n) v)).2 = .ok) :=
  ⟨hartOn 0x0F#8 [], 0, 8, 0, 4, 0x12345678, [], [(⟨0, 0x4000008, 0x1FFFF8⟩, 4)], by decide +kernel⟩

theorem witness_GondolaAccessesComplete_fetch : ∃ (s : State) (h : Nat) (dva : Nat) (c : Nat) (n : Nat) (ecc : List (Nat × EccError)) (ps : List (Place × Nat)) (b : List Byte),
    ((s.core (.hart h)).running = true ∧ (s.core (.hart h)).waitRd = none) ∧ (s.ctxOfHart h = some c)
    ∧ ((s.dvaPieces c dva (max 1 n) .exec true).toOption = some ps) ∧ (ps.all (fun p => decide (p.1.target ≠ 2)) = true)
    ∧ (((s.eccFound ecc).readPieces ps).toOption = some b) :=
  ⟨hartOn 0x1F#8 [(64, 0x13#8)], 0, 64, 0, 1, [], [(⟨0, 0x4000040, 0x1FFFC0⟩, 1)], [0x13#8], by decide +kernel⟩

theorem witness_GondolaAccessesComplete_time : ∃ (s : State) (h : Nat) (c : Nat), ((s.core (.hart h)).running = true
    ∧ (s.core (.hart h)).waitRd = none) ∧ (s.ctxOfHart h = some c) :=
  ⟨hartOn 0x0F#8 [], 0, 0, by decide +kernel⟩

theorem witness_GondolaAccessesComplete_idle : ∃ (s : State) (h : Nat),
    ((s.core (.hart h)).running = false ∨ (s.core (.hart h)).waitRd.isSome = true ∨ s.ctxOfHart h = none) :=
  ⟨State.reset, 63, by decide +kernel⟩

theorem witness_GondolaAccessesComplete_trap : ∃ (s : State) (h : Nat) (dva : Nat) (c : Nat) (a : HartAccess) (e : Status),
    ((s.core (.hart h)).running = true ∧ (s.core (.hart h)).waitRd = none) ∧ (s.ctxOfHart h = some c) ∧ ((∀ rd, a ≠ .time rd))
    ∧ ((s.dvaPieces c dva (hartSize a) (hartKind a) true).toOption = none) ∧ (e = statusOf (s.dvaPieces c dva (hartSize a) (hartKind a) true)) :=
  ⟨hartOn 0x0F#8 [], 0, 64, 0, .fetch 4, .dvaAccess, by decide +kernel, by decide +kernel, fun _ => HartAccess.noConfusion, by decide +kernel⟩

theorem witness_GondolaAccessesComplete_unread : ∃ (s : State) (h : Nat) (dva : Nat) (c : Nat) (n : Nat) (rd : Nat) (ecc : List (Nat × EccError)) (ps : List (Place × Nat)) (fl : Bool) (sg : Bool) (a : HartAccess) (e : Status),
    (a ∈ [HartAccess.load fl rd n sg, .fetch n]) ∧ ((s.core (.hart h)).running = true ∧ (s.core (.hart h)).waitRd = none) ∧ (s.ctxOfHart h = some c)
    ∧ ((s.dvaPieces c dva (max 1 n) (hartKind a) true).toOption = some ps) ∧ (ps.all (fun p => decide (p.1.target ≠ 2)) = true)
    ∧ (((s.eccFound ecc).readPieces ps).toOption = none) ∧ (e = statusOf ((s.eccFound ecc).readPieces ps)) :=
  ⟨(fun s : State => { s with mem := { s.mem with poison := [(0x40000, true)] } }) (hartOn 0x0F#8 []), 0, 8, 0, 1, 5, [], [(⟨0, 0x4000008, 0x1FFFF8⟩, 1)], false, true, .load false 5 1 true, .memUncorrectable, by decide +kernel⟩

theorem witness_GondolaAccessesComplete_unwritten : ∃ (s : State) (h : Nat) (dva : Nat) (c : Nat) (n : Nat) (v : Nat) (ecc : List (Nat × EccError)) (ps : List (Place × Nat)) (e : Status),
    ((s.core (.hart h)).running = true ∧ (s.core (.hart h)).waitRd = none) ∧ (s.ctxOfHart h = some c)
    ∧ ((s.dvaPieces c dva (max 1 n) .write true).toOption = some ps) ∧ (ps.all (fun p => decide (p.1.target ≠ 2)) = true)
    ∧ (((s.eccFound ecc).writePieces c ps (leBytes (max 1 n) v)).2 = e) ∧ (e ≠ .ok) :=
  ⟨(fun s : State => { s with mem := { s.mem with poison := [(0x40000, true)] } }) (hartOn 0x0F#8 []), 0, 8, 0, 4, 7, [], [(⟨0, 0x4000008, 0x1FFFF8⟩, 4)], .memPoisonWrite, by decide +kernel⟩

theorem witness_GondolaAccessesComplete_windowRead : ∃ (s : State) (h : Nat) (dva : Nat) (c : Nat) (p : Place × Nat),
    ((s.core (.hart h)).running = true ∧ (s.core (.hart h)).waitRd = none) ∧ (s.ctxOfHart h = some c)
    ∧ ((s.dvaPieces c dva 4 .read true).toOption = some [p]) ∧ (p.1.target = 2) ∧ (p.1.pa % 4 = 0) :=
  ⟨hartOn 0x8F#8 [], 0, 0x1000, 0, (⟨2, 0x1000, 0x1FF000⟩, 4), by decide +kernel⟩

theorem witness_GondolaAccessesComplete_windowWrite : ∃ (s : State) (h : Nat) (dva : Nat) (c : Nat) (p : Place × Nat),
    ((s.core (.hart h)).running = true ∧ (s.core (.hart h)).waitRd = none) ∧ (s.ctxOfHart h = some c)
    ∧ ((s.dvaPieces c dva 4 .write true).toOption = some [p]) ∧ (p.1.target = 2) ∧ (p.1.pa % 4 = 0) :=
  ⟨hartOn 0x8F#8 [], 0, 0x1000, 0, (⟨2, 0x1000, 0x1FF000⟩, 4), by decide +kernel⟩

theorem witness_GondolaAccessesComplete_window : ∃ (s : State) (h : Nat) (dva : Nat) (c : Nat) (rd : Nat) (p : Place × Nat),
    ((s.core (.hart h)).running = true ∧ (s.core (.hart h)).waitRd = none) ∧ (s.ctxOfHart h = some c)
    ∧ ((s.dvaPieces c dva 4 .read true).toOption = some [p]) ∧ (p.1.target = 2 ∧ p.1.pa % 4 = 0) ∧ (9 * 4096 ≤ p.1.pa % 0x800000
    ∧ p.1.pa % 0x800000 < 0x200000) ∧ (0 < rd % 32) :=
  ⟨hartOn 0x8F#8 [], 0, 0x9000, 0, 5, (⟨2, 0x9000, 0x1F7000⟩, 4), by decide +kernel⟩

theorem witness_GondolaAccessesComplete_size : ∃ (s : State) (h : Nat) (dva : Nat) (c : Nat) (a : HartAccess) (p : Place × Nat),
    ((s.core (.hart h)).running = true ∧ (s.core (.hart h)).waitRd = none) ∧ (s.ctxOfHart h = some c)
    ∧ ((s.dvaPieces c dva (hartSize a) (hartKind a) true).toOption = some [p]) ∧ (p.1.target = 2) ∧ ((∀ rd, a ≠ .time rd))
    ∧ (p.1.pa % 4 ≠ 0 ∨ hartSize a ≠ 4 ∨ hartKind a = .exec) :=
  ⟨hartOn 0x8F#8 [], 0, 0x1002, 0, .store 2 7, (⟨2, 0x1002, 0x1FEFFE⟩, 2), by decide +kernel, by decide +kernel, by decide +kernel, by decide +kernel, fun _ => HartAccess.noConfusion, by decide +kernel⟩

theorem witness_GondolaAccessesComplete_across : ∃ (s : State) (h : Nat) (dva : Nat) (c : Nat) (ps : List (Place × Nat)) (a : HartAccess),
    ((s.core (.hart h)).running = true ∧ (s.core (.hart h)).waitRd = none) ∧ (s.ctxOfHart h = some c) ∧ ((∀ rd, a ≠ .time rd))
    ∧ ((s.dvaPieces c dva (hartSize a) (hartKind a) true).toOption = some ps) ∧ (ps.length ≠ 1)
    ∧ (ps.any (fun p => decide (p.1.target = 2)) = true) :=
  ⟨(fun s : State => { s with mem := { s.mem with near := s.mem.near ++ [(0x240008, 0x8F#8)] } }) (hartOn 0x0F#8 []), 0, 0x1FFFFE, 0, [(⟨0, 0x41FFFFE, 2⟩, 2), (⟨2, 0, 0x200000⟩, 2)], .store 4 7, by decide +kernel, by decide +kernel, fun _ => HartAccess.noConfusion, by decide +kernel, by decide +kernel, by decide +kernel⟩

end Sys2Proof.Tests
end

section
/-!
PROOFS. The end of tiles (R88, R111): TILE_COMPLETE of the tile on a cluster's units, and the state that refutes O24.
-/
namespace Sys2Proof.Machine
open Sys2Proof

/-- R88: with no drain or completion outstanding, TILE_COMPLETE takes the ready tile off the units, shows the cluster idle in CLU_RUN, and then
completes the tile: what the completion does comes after CLU_RUN is cleared. -/
theorem exec_tileComplete_onUnits {s : State} {n : Nat} {x : Tile} {ecc : List (Nat × EccError)} (hcur : ((s.eccFound ecc).cluster n).cur = some x)
    (hready : x.stage = .ready) (htiles : ((s.eccFound ecc).cluster n).tiles = []) :
    exec (.tileComplete n ⟨none, ecc⟩) s = .next ((((s.eccFound ecc).setCur n none).wr .cluRun n 0).completeTile n x) := by
  change execTileComplete n ⟨none, ecc⟩ s = _
  simp [execTileComplete, takeTile, Cluster.draining, htiles, hcur, hready]

/-- A descriptor with SIGNAL(1) of virtual ID 1 at its completion: the three tally fields of word 15, every other field zero. -/
def signallingTd : List Byte := zeros 60 ++ leBytes 4 0x01010001 ++ zeros 128

/-- A tile of that descriptor whose work is done. -/
def signallingTile : Tile := (Tile.start 0 0 0 signallingTd false).finish

/-- Context 0 is RESIDENT, has a 2 MiB page at DVA 0, and its virtual ID 1 names physical tally 0. A KC.TWAIT of 1 into x5 holds the vector unit of
cluster 191 at that tally, and the tile on the cluster's units is ready and signals it. -/
def heldUnitState : State :=
  { State.reset.wr .ctxState 0 2 with
    mem := { State.reset.mem with near := [(0, 0x01#8), (2, 0x24#8), (0x200006, 0x10#8), (0x240000, 0x0F#8), (0x240003, 0x04#8)] }
    tly := { State.reset.tly with queues := [(0, [⟨.vector 191, 1⟩])] }
    vectors := [(191, { Core.idle with running := true, waitRd := some 5 })]
    clu := { State.reset.clu with clusters := [(191, { Cluster.idle with cur := some signallingTile })] } }

/-- The completion's signal serves the held unit's wait, and CLU_RUN of the cluster shows VECTOR after it. -/
theorem heldUnitState_completed_cluRun :
    ((((heldUnitState.eccFound []).setCur 191 none).wr .cluRun 191 0).completeTile 191 signallingTile).rd .cluRun 191 = 2 := by
  decide +kernel

/-- Refutes O24: TILE_COMPLETE need not leave CLU_RUN at 0. No hypothesis of its third clause keeps a KC.TWAIT from holding the cluster's own vector
unit; in `heldUnitState` the tile's completion signal (R88) serves that wait, and the unit that goes on shows VECTOR (R111, log entry 115) after the
command has cleared the field. -/
theorem not_tilesEnd : ¬ Obligations.TilesEnd := by
  unfold Obligations.TilesEnd
  rintro ⟨-, -, hcomplete, -⟩
  have hcur : ((heldUnitState.eccFound []).cluster 191).cur = some signallingTile := rfl
  have htiles : ((heldUnitState.eccFound []).cluster 191).tiles = [] := rfl
  obtain ⟨t, ht, -, -, hrun⟩ := hcomplete heldUnitState 191 signallingTile [] hcur rfl htiles
  rw [exec_tileComplete_onUnits hcur rfl htiles] at ht
  injection ht with ht
  rw [← ht, heldUnitState_completed_cluRun] at hrun
  exact absurd hrun (by decide)

end Sys2Proof.Machine
end

section
/-!
PROOFS. What reading memory leaves alone: finding errors (R279 to R287), reporting them to the flight (R317, R340), and counting and charging a read
(R373) change neither the clusters nor the bytes of near memory.
-/
namespace Sys2Proof.Machine
open Sys2Proof

/-- The clusters, and the bytes of near memory. -/
def State.cluNear (s : State) : ClusterState × List (Nat × BitVec 8) := (s.clu, s.mem.near)

theorem State.clu_of_cluNear {s t : State} (h : t.cluNear = s.cluNear) : t.clu = s.clu := congrArg Prod.fst h

theorem State.near_of_cluNear {s t : State} (h : t.cluNear = s.cluNear) : t.mem.near = s.mem.near := congrArg Prod.snd h

variable (s : State)

/-! ## Registers, events and frames to other members -/

@[simp] theorem State.wr_cluNear (r : Reg) (i v : Nat) : (s.wr r i v).cluNear = s.cluNear := rfl
@[simp] theorem State.bump_cluNear (r : Reg) (i n : Nat) : (s.bump r i n).cluNear = s.cluNear := rfl
@[simp] theorem State.setLink_cluNear (n : Nat) (l : SpanLink) : (s.setLink n l).cluNear = s.cluNear := rfl
@[simp] theorem State.emit_cluNear (o : Out) : (s.emit o).cluNear = s.cluNear := rfl
@[simp] theorem State.addFresh_cluNear (far : Bool) (u : Nat) : (s.addFresh far u).cluNear = s.cluNear := rfl
@[simp] theorem State.startReset_cluNear (c : Nat) : (s.startReset c).cluNear = s.cluNear := rfl

@[simp] theorem State.raise_cluNear (page : Nat) (st : Status) (ctx : Option Nat) (a b : Nat) : (s.raise page st ctx a b).cluNear = s.cluNear := by
  rw [s.raise_frame]; rfl

@[simp] theorem State.keelSpend_cluNear (n : Nat) (f : Frame) : (s.keelSpend n f).cluNear = s.cluNear := by
  unfold State.keelSpend; split <;> rfl

@[simp] theorem State.sendFrame_cluNear (n : Nat) (l : SpanLink) (f : Frame) : (s.sendFrame n l f).cluNear = s.cluNear := by
  simp [State.sendFrame]

theorem State.pumpN_cluNear (n fuel : Nat) (s : State) : (s.pumpN n fuel).cluNear = s.cluNear := by
  induction fuel generalizing s with
  | zero => rfl
  | succ fuel ih =>
    unfold State.pumpN
    split
    · rfl
    · split
      · rfl
      · rw [ih, State.sendFrame_cluNear]

@[simp] theorem State.pump_cluNear (n : Nat) : (s.pump n).cluNear = s.cluNear := by
  unfold State.pump; split
  · exact State.pumpN_cluNear n _ s
  · rfl

@[simp] theorem State.nextHop_cluNear (m : Nat) : (s.nextHop m).1.cluNear = s.cluNear := by
  unfold State.nextHop
  dsimp only
  split <;> rfl

@[simp] theorem State.route_cluNear (f : Frame) : (s.route f).cluNear = s.cluNear := by
  have h := s.nextHop_cluNear f.dst
  unfold State.route
  split
  · next e => rw [e] at h; simpa using h
  · next e => rw [e] at h; exact h

@[simp] theorem State.ledgerTo_cluNear (dst : Nat) (m : LedgerMsg) : (s.ledgerTo dst m).cluNear = s.cluNear := by
  unfold State.ledgerTo State.originate; split <;> simp

@[simp] theorem State.propose_cluNear (kind : Nat) (body : List Byte) : (s.propose kind body).cluNear = s.cluNear := by
  unfold State.propose; split
  · rfl
  · exact s.ledgerTo_cluNear _ _

@[simp] theorem State.declareFault_cluNear (reason : Status) : (s.declareFault reason).cluNear = s.cluNear := by
  unfold State.declareFault; split
  · exact State.propose_cluNear _ _ _
  · rfl

/-! ## Errors that reads find -/

@[simp] theorem State.losePage_cluNear (p : Nat) : (s.losePage p).cluNear = s.cluNear := by
  unfold State.losePage
  dsimp only
  split
  · rfl
  · split <;> rfl

@[simp] theorem State.losePageAt_cluNear (far : Bool) (pa : Nat) : (s.losePageAt far pa).cluNear = s.cluNear := by
  unfold State.losePageAt
  split
  dsimp only
  split
  · exact s.losePage_cluNear _
  · split
    · exact s.losePage_cluNear _
    · rfl

@[simp] theorem State.retireStart_cluNear (f : Nat) : (s.retireStart f).cluNear = s.cluNear := by
  unfold State.retireStart
  split
  · rfl
  · split
    · rfl
    · split
      · rfl
      · exact State.raise_cluNear _ _ _ _ _ _

@[simp] theorem State.fenceChannel_cluNear (c : Nat) : (s.fenceChannel c).cluNear = s.cluNear := by
  unfold State.fenceChannel; split <;> simp

@[simp] theorem State.correctedError_cluNear (pa : Nat) : (s.correctedError pa).cluNear = s.cluNear := by
  unfold State.correctedError; rw [State.retireStart_cluNear]; rfl

@[simp] theorem State.granuleBad_cluNear (pa : Nat) : (s.granuleBad pa).cluNear = s.cluNear := by
  unfold State.granuleBad
  dsimp only
  generalize hu : State.losePageAt _ false pa = u
  have hlost : u.cluNear = s.cluNear := by rw [← hu, State.losePageAt_cluNear]; rfl
  split
  · exact hlost
  · split
    · rw [State.fenceChannel_cluNear, State.retireStart_cluNear]; exact hlost
    · rw [State.retireStart_cluNear]; exact hlost

@[simp] theorem State.tableError_cluNear (pa : Nat) : (s.tableError pa).cluNear = s.cluNear := by
  unfold State.tableError; split
  · simp
  · split <;> simp

@[simp] theorem State.uncorrectableError_cluNear (pa : Nat) : (s.uncorrectableError pa).cluNear = s.cluNear := by
  simp [State.uncorrectableError]

@[simp] theorem State.cxlPoisonFound_cluNear (pa : Nat) : (s.cxlPoisonFound pa).cluNear = s.cluNear := by
  unfold State.cxlPoisonFound
  split
  · rfl
  · exact State.losePageAt_cluNear _ _ _

@[simp] theorem State.errorFound_cluNear (e : Nat × EccError) : (s.errorFound e).cluNear = s.cluNear := by
  obtain ⟨pa, e⟩ := e
  cases e with
  | cxl => simp [State.errorFound]
  | address =>
    simp only [State.errorFound]
    split
    · rw [State.addFresh_cluNear, State.uncorrectableError_cluNear]
    · rfl
  | symbols n =>
    simp only [State.errorFound]
    split
    · rfl
    · split
      · exact s.correctedError_cluNear pa
      · rw [State.addFresh_cluNear, State.uncorrectableError_cluNear]

/-- R279, R280: the errors that a command's reads find change no cluster and no byte of near memory. -/
@[simp] theorem State.eccFound_cluNear (errs : List (Nat × EccError)) : (s.eccFound errs).cluNear = s.cluNear :=
  foldl_keeps State.cluNear State.errorFound State.errorFound_cluNear errs _

theorem State.eccFound_clu (errs : List (Nat × EccError)) : (s.eccFound errs).clu = s.clu := State.clu_of_cluNear (s.eccFound_cluNear errs)

theorem State.eccFound_near (errs : List (Nat × EccError)) : (s.eccFound errs).mem.near = s.mem.near :=
  State.near_of_cluNear (s.eccFound_cluNear errs)

/-- R280, R287: so does poison that a read meets. -/
@[simp] theorem State.poisonMet_cluNear (ps : List (Place × Nat)) : (s.poisonMet ps).cluNear = s.cluNear := by
  refine foldl_keeps State.cluNear _ (fun u p => ?_) ps s
  split <;> split
  · split
    · rfl
    · exact u.cxlPoisonFound_cluNear _
  · rfl
  · split
    · rfl
    · exact u.uncorrectableError_cluNear _
  · rfl

/-! ## The counts and the charge of a read -/

/-- R373: a charge at a channel changes CTX_MEMBYTES, CTX_SPILLWAIT and the channel's bucket. -/
theorem State.chargeChannel_cluNear (ch c n : Nat) : (s.chargeChannel ch c n).cluNear = s.cluNear := by
  unfold State.chargeChannel
  dsimp only
  split <;> rfl

@[simp] theorem State.charge_cluNear (c pa n : Nat) : (s.charge c pa n).cluNear = s.cluNear :=
  foldl_keeps State.cluNear _ (fun u _ => u.chargeChannel_cluNear _ _ _) _ s

@[simp] theorem State.countRead_cluNear (ctx : Option Nat) (far : Bool) (pa n : Nat) : (s.countRead ctx far pa n).cluNear = s.cluNear := by
  have hbytes (l : List Nat) (f : State → Nat → Nat) (g : Nat → Nat) :
      (l.foldl (fun u x => u.bump .memRdbytes (f u x) (g x)) s).cluNear = s.cluNear :=
    foldl_keeps State.cluNear _ (fun u _ => u.bump_cluNear _ _ _) l s
  unfold State.countRead
  dsimp only
  split
  · rfl
  · cases ctx with
    | none => exact hbytes _ _ _
    | some c => rw [State.charge_cluNear]; exact hbytes _ _ _

@[simp] theorem State.countDvaRead_cluNear (ctx dva n : Nat) : (s.countDvaRead ctx dva n).cluNear = s.cluNear := by
  unfold State.countDvaRead
  split
  · rfl
  · exact foldl_keeps State.cluNear _ (fun u p => u.countRead_cluNear _ _ _ _) _ s

@[simp] theorem State.readDva_cluNear (ctx dva n : Nat) : (s.readDva ctx dva n).1.cluNear = s.cluNear := by
  unfold State.readDva
  split
  · exact s.countDvaRead_cluNear _ _ _
  · split
    · exact s.poisonMet_cluNear _
    · rfl
  · rfl

end Sys2Proof.Machine
end

section
/-!
PROOFS. Reads of memory by device virtual address: what their counts leave alone, and what a read depends on.
-/
namespace Sys2Proof.Machine
open Sys2Proof

/-! ## The registers of a read -/

/-- The register fields that a read counts and charges in (R373). -/
def readCounts : List Reg := [.memRdbytes, .cxlRdbytes, .ctxMembytes, .ctxSpillwait]

section
variable {q : Reg} (hq : ∀ r ∈ readCounts, q.ctorIdx ≠ r.ctorIdx) (j : Nat)
include hq

theorem State.bump_rd_of_readCounts {r : Reg} (hr : r ∈ readCounts) (s : State) (i n : Nat) : (s.bump r i n).rd q j = s.rd q j :=
  s.rd_bump_reg i j n (hq r hr)

theorem State.chargeChannel_rd (s : State) (ch c n : Nat) : (s.chargeChannel ch c n).rd q j = s.rd q j := by
  have hbytes := s.bump_rd_of_readCounts hq j (r := .ctxMembytes) (by simp [readCounts]) c (roundUp n 64)
  unfold State.chargeChannel
  dsimp only
  split
  · exact hbytes
  · exact (State.bump_rd_of_readCounts hq j (by simp [readCounts]) _ _ _).trans hbytes

theorem State.countRead_rd (s : State) (ctx : Option Nat) (far : Bool) (pa n : Nat) : (s.countRead ctx far pa n).rd q j = s.rd q j := by
  have hbytes (l : List Nat) (f : State → Nat → Nat) (g : Nat → Nat) :
      (l.foldl (fun u x => u.bump .memRdbytes (f u x) (g x)) s).rd q j = s.rd q j :=
    foldl_keeps (State.rd · q j) _ (fun u _ => u.bump_rd_of_readCounts hq j (by simp [readCounts]) _ _) l s
  unfold State.countRead
  dsimp only
  split
  · exact s.bump_rd_of_readCounts hq j (by simp [readCounts]) _ _
  · cases ctx with
    | none => exact hbytes _ _ _
    | some c =>
      exact (foldl_keeps (State.rd · q j) _ (fun u _ => u.chargeChannel_rd hq j _ _ _) _ _).trans (hbytes _ _ _)

/-- A read changes no register field but those that it counts and charges in. -/
theorem State.countDvaRead_rd (s : State) (ctx dva n : Nat) : (s.countDvaRead ctx dva n).rd q j = s.rd q j := by
  unfold State.countDvaRead
  split
  · rfl
  · exact foldl_keeps (State.rd · q j) _ (fun u p => u.countRead_rd hq j _ _ _ _) _ s

end

/-! ## What a read depends on -/

section
variable {s t : State} (hr : t.regs = s.regs) (hm : t.mem = s.mem)
include hr

theorem State.rd_congr (r : Reg) (i : Nat) : t.rd r i = s.rd r i := by rw [State.rd, hr]; rfl

include hm

theorem State.memRead_congr (far : Bool) (pa n : Nat) : t.memRead far pa n = s.memRead far pa n := by
  cases s; cases t; cases hr; cases hm; rfl

theorem State.translate_congr (ctx dva : Nat) (k : AccessKind) (g : Bool) : t.translate ctx dva k g = s.translate ctx dva k g := by
  cases s; cases t; cases hr; cases hm; rfl

theorem State.pieces_congr (ctx : Nat) (k : AccessKind) (g : Bool) (fuel dva n : Nat) : t.pieces ctx k g fuel dva n = s.pieces ctx k g fuel dva n := by
  induction fuel generalizing dva n with
  | zero => rfl
  | succ fuel ih => simp only [State.pieces, State.translate_congr hr hm, ih]

theorem State.readPieces_congr (ps : List (Place × Nat)) : t.readPieces ps = s.readPieces ps := by
  induction ps with
  | nil => rfl
  | cons p ps ih => simp only [State.readPieces, State.memRead_congr hr hm, ih]

/-- What a context reads depends on the registers and on memory alone. -/
theorem State.dvaRead_congr (ctx dva n : Nat) : t.dvaRead ctx dva n = s.dvaRead ctx dva n := by
  simp only [State.dvaRead, State.dvaPieces, State.pieces_congr hr hm, State.readPieces_congr hr hm]

end

/-! ## Taking an entry of a work ring (R370) -/

/-- An entry that is taken moves the ring's head past it, and leaves the clusters and near memory. -/
theorem State.takeWork_some {s : State} {r : Nat} {e : WorkEntry} (h : (s.takeWork r).2 = some e) :
    (s.takeWork r).1.cluNear = s.cluNear ∧ (s.takeWork r).1.rd .dbHead r = (s.rd .dbHead r + 1) % 2 ^ 32 := by
  unfold State.takeWork State.readEntry at h ⊢
  cases hb : s.dvaRead (s.rd .dbCtx r) (s.entryDva r (s.rd .dbHead r)) 64 with
  | error st => simp [hb] at h
  | ok b =>
    have hnear := s.countDvaRead_cluNear (s.rd .dbCtx r) (s.entryDva r (s.rd .dbHead r)) 64
    have hhead := s.countDvaRead_rd (q := .dbHead) (by decide) r (s.rd .dbCtx r) (s.entryDva r (s.rd .dbHead r)) 64
    simp only [hb] at h ⊢
    generalize s.countDvaRead (s.rd .dbCtx r) (s.entryDva r (s.rd .dbHead r)) 64 = u at h hnear hhead ⊢
    have htaken (v : State) (hv : v.cluNear = u.cluNear) (hd : v.rd .dbHead r = u.rd .dbHead r) :
        (v.wr .dbHead r (v.rd .dbHead r + 1)).cluNear = s.cluNear
        ∧ (v.wr .dbHead r (v.rd .dbHead r + 1)).rd .dbHead r = (s.rd .dbHead r + 1) % 2 ^ 32 :=
      ⟨hv.trans hnear, by rw [State.rd_wr_same, hd, hhead]; rfl⟩
    revert h
    split
    · exact fun _ => htaken u rfl rfl
    · split
      · exact fun h => nomatch h
      · split
        · exact fun h => nomatch h
        · exact fun _ => htaken (u.reserveSlot _) rfl rfl

end Sys2Proof.Machine
end

section
/-!
PROOFS. The slots of the clusters: what a slot and a cluster read as after each change of them (R83, R111), what readiness reads (R372), and what a
tile's start changes (R87, R114).
-/
namespace Sys2Proof.Machine
open Sys2Proof

/-! ## Clusters and slots -/

section
variable {s t : State} (h : t.clu = s.clu)
include h

theorem State.cluster_congr (n : Nat) : t.cluster n = s.cluster n := by rw [State.cluster, h]; rfl

theorem State.slot_congr (n k : Nat) : t.slot n k = s.slot n k := by rw [State.slot, State.cluster_congr h]; rfl

end

variable (s : State)

@[simp] theorem State.cluster_setCluster_same (n : Nat) (c : Cluster) : (s.setCluster n c).cluster n = c := sget_sput_same _ _ _ _

@[simp] theorem State.slot_setCur (n k : Nat) (x : Option Tile) : (s.setCur n x).slot n k = s.slot n k := by
  simp [State.slot, State.setCur]

@[simp] theorem State.cur_setCur (n : Nat) (x : Option Tile) : ((s.setCur n x).cluster n).cur = x := by
  simp [State.setCur]

@[simp] theorem State.slot_setSlot_same (n k : Nat) (x : Slot) : (s.setSlot n k x).slot n k = x := by
  simp [State.slot, State.setSlot]

theorem State.slot_setSlot_ne {n j k : Nat} (x : Slot) (h : j ≠ k) : (s.setSlot n k x).slot n j = s.slot n j := by
  simp only [State.slot, State.setSlot, State.cluster_setCluster_same, sget_sput_ne _ _ _ _ h]

@[simp] theorem State.cur_setSlot (n k : Nat) (x : Slot) : ((s.setSlot n k x).cluster n).cur = (s.cluster n).cur := by
  simp [State.setSlot]

@[simp] theorem State.tiles_setSlot (n k : Nat) (x : Slot) : ((s.setSlot n k x).cluster n).tiles = (s.cluster n).tiles := by
  simp [State.setSlot]

@[simp] theorem State.slot_modSlot_same (n k : Nat) (f : Slot → Slot) : (s.modSlot n k f).slot n k = f (s.slot n k) :=
  s.slot_setSlot_same n k _

@[simp] theorem State.cur_modSlot (n k : Nat) (f : Slot → Slot) : ((s.modSlot n k f).cluster n).cur = (s.cluster n).cur :=
  s.cur_setSlot n k _

@[simp] theorem State.slot_setSlotShown_same (n k : Nat) (f : Slot → Slot) : (s.setSlotShown n k f).slot n k = f (s.slot n k) :=
  s.slot_modSlot_same n k f

@[simp] theorem State.setSlotShown_waiting (n k : Nat) (f : Slot → Slot) : (s.setSlotShown n k f).clu.waiting = s.clu.waiting := rfl

@[simp] theorem State.setSlotShown_lastRing (n k : Nat) (f : Slot → Slot) : (s.setSlotShown n k f).clu.lastRing = s.clu.lastRing := rfl

theorem State.setSlotShown_frame (n k : Nat) (f : Slot → Slot) :
    s.setSlotShown n k f = { s with regs := (s.setSlotShown n k f).regs, clu := (s.setSlotShown n k f).clu } := rfl

@[simp] theorem State.modSlot_near (n k : Nat) (f : Slot → Slot) : (s.modSlot n k f).mem.near = s.mem.near := rfl

@[simp] theorem State.setCur_near (n : Nat) (x : Option Tile) : (s.setCur n x).mem.near = s.mem.near := rfl

/-- R383: with no epoch being adopted by an island, it acts on the state as it is. -/
theorem State.under_of_overlay_nil {s : State} {isl : Nat} (h : s.overlay isl = []) (f : State → Result) : s.under isl f = f s := by
  simp [State.under, h]

/-! ## Readiness (R372) -/

/-- R372: what a change of a slot's virtual time and readiness keeps, readiness keeps. -/
theorem State.readyTime_keeps {γ : Type} (g : State → γ) (n : Nat)
    (hg : ∀ u k v r, g (u.setSlot n k { u.slot n k with v := v, wasReady := r }) = g u) : g (s.readyTime n) = g s := by
  unfold State.readyTime
  refine foldl_keeps g _ (fun u k => ?_) _ s
  rw [apply_ite g]
  exact ite_eq_left_iff.2 (fun _ => hg u k _ _)

@[simp] theorem State.readyTime_regs (n : Nat) : (s.readyTime n).regs = s.regs := s.readyTime_keeps State.regs n (fun _ _ _ _ => rfl)
@[simp] theorem State.readyTime_mem (n : Nat) : (s.readyTime n).mem = s.mem := s.readyTime_keeps State.mem n (fun _ _ _ _ => rfl)

@[simp] theorem State.readyTime_cur (n : Nat) : ((s.readyTime n).cluster n).cur = (s.cluster n).cur :=
  s.readyTime_keeps (fun u => (u.cluster n).cur) n (fun u _ _ _ => u.cur_setSlot n _ _)

@[simp] theorem State.readyTime_tiles (n : Nat) : ((s.readyTime n).cluster n).tiles = (s.cluster n).tiles :=
  s.readyTime_keeps (fun u => (u.cluster n).tiles) n (fun u _ _ _ => u.tiles_setSlot n _ _)

theorem State.readyTime_slot {γ : Type} (f : Slot → γ) (hf : ∀ x v r, f { x with v := v, wasReady := r } = f x) (n j : Nat) :
    f ((s.readyTime n).slot n j) = f (s.slot n j) := by
  refine s.readyTime_keeps (fun u => f (u.slot n j)) n (fun u k v r => ?_)
  by_cases h : j = k
  · subst h; simp only [State.slot_setSlot_same, hf]
  · simp only [u.slot_setSlot_ne _ h]

@[simp] theorem State.readyTime_task (n j : Nat) : ((s.readyTime n).slot n j).task = (s.slot n j).task :=
  s.readyTime_slot Slot.task (fun _ _ _ => rfl) n j
@[simp] theorem State.readyTime_queue (n j : Nat) : ((s.readyTime n).slot n j).queue = (s.slot n j).queue :=
  s.readyTime_slot Slot.queue (fun _ _ _ => rfl) n j
@[simp] theorem State.readyTime_tally (n j : Nat) : ((s.readyTime n).slot n j).tally = (s.slot n j).tally :=
  s.readyTime_slot Slot.tally (fun _ _ _ => rfl) n j
@[simp] theorem State.readyTime_half (n j : Nat) : ((s.readyTime n).slot n j).half = (s.slot n j).half :=
  s.readyTime_slot Slot.half (fun _ _ _ => rfl) n j

@[simp] theorem State.readyTime_rd (n : Nat) (r : Reg) (i : Nat) : (s.readyTime n).rd r i = s.rd r i := State.rd_congr (s.readyTime_regs n) r i

@[simp] theorem State.readyTime_tdAt (n c dva : Nat) : (s.readyTime n).tdAt c dva = s.tdAt c dva :=
  State.dvaRead_congr (s.readyTime_regs n) (s.readyTime_mem n) c dva 192

@[simp] theorem State.readyTime_stopped (n c : Nat) : (s.readyTime n).stopped c = s.stopped c := by
  simp [State.stopped, State.fhHolds, State.flag]

@[simp] theorem State.readyTime_deferCheck (n c : Nat) (td : List Byte) : (s.readyTime n).deferCheck c td = s.deferCheck c td := by
  simp [State.deferCheck, State.isLearn]

@[simp] theorem State.readyTime_drainWait (n k c : Nat) (td : List Byte) : (s.readyTime n).drainWait n k c td = s.drainWait n k c td := by
  simp [State.drainWait, State.accRegion, State.drainRegion, State.accSlice, State.isLearn]

@[simp] theorem State.readyTime_mustWait (n k c : Nat) (td : List Byte) : (s.readyTime n).mustWait n k c td = s.mustWait n k c td := by
  simp [State.mustWait]

@[simp] theorem State.readyTime_queueWaits (n k c dva : Nat) : (s.readyTime n).queueWaits n k c dva = s.queueWaits n k c dva := by
  simp [State.queueWaits]

/-! ## What stands next (R114, R115) -/

section
variable {s : State} {n k d : Nat} {q : List Nat} {tk : Task} {td : List Byte}

/-- A slot without a task has nothing next. -/
theorem State.nextTile_of_no_task (h : (s.slot n k).task = none) : s.nextTile n k = .none := by
  simp [State.nextTile, h]

/-- A slot without a task runs nothing of its queue. -/
theorem State.deferReady_of_no_task (h : (s.slot n k).task = none) : s.deferReady n k = false := by
  simp [State.deferReady, h]

/-- R114: with nothing queued, the chain's next descriptor is the slot's next tile: one to be deferred, or one that need not wait. -/
theorem State.nextTile_chain (htask : (s.slot n k).task = some tk) (hstop : s.stopped tk.ctx = false) (htally : (s.slot n k).tally = none)
    (hended : tk.ended = false) (hqueue : (s.slot n k).queue = []) (htd : s.tdAt tk.ctx tk.next = .ok td)
    (hwait : tdDefer td = false → s.mustWait n k tk.ctx td = false) : s.nextTile n k = .chain tk (.ok td) := by
  simpa [State.nextTile, htask, hstop, htally, hended, hqueue, htd] using hwait

/-- R115: a chain whose last descriptor has been reached and has not completed forces no queued entry. -/
theorem State.nextTile_of_ended (htask : (s.slot n k).task = some tk) (hended : tk.ended = true) (hlast : tk.lastDone = false) :
    (s.nextTile n k).ready = false := by
  simp only [State.nextTile, htask, hended, hlast]
  split
  · rfl
  · cases (s.slot n k).queue <;> simp [NextTile.ready]

/-- R114: the head of a queue runs where its context works and no drain holds it back. -/
theorem State.deferReady_of_queue (htask : (s.slot n k).task = some tk) (hqueue : (s.slot n k).queue = d :: q)
    (hstop : s.stopped tk.ctx = false) (hwait : s.queueWaits n k tk.ctx d = false) : s.deferReady n k = true := by
  simp [State.deferReady, htask, hqueue, hstop, hwait]

/-- R372: of slots of which one alone qualifies, the weighted issue takes that one. -/
theorem State.leastV_unique (s : State) (n : Nat) {p : Nat → Bool} (hk : k < 8) (hp : p k = true) (hother : ∀ j < 8, j ≠ k → p j = false) :
    s.leastV n ((List.range 8).filter p) = some k := by
  have hone : (List.range 8).filter p = (List.range 8).filter (· == k) := by
    refine List.filter_congr (fun j hj => ?_)
    by_cases h : j = k
    · simp [h, hp]
    · simp [h, hother j (List.mem_range.1 hj) h]
  have hself : ∀ i < 8, (List.range 8).filter (· == i) = [i] := by decide
  rw [hone, hself k hk]
  rfl

end

/-! ## The start of a tile (R86, R87, R107) -/

@[simp] theorem State.predicate_cluNear (t : Tile) : (s.predicate t).1.cluNear = s.cluNear := by
  have h := s.readDva_cluNear t.ctx (tdAux t.td + 4 * tdExpert t.td) 4
  unfold State.predicate
  split
  · rfl
  · split
    · next e => rw [e] at h; exact h
    · next e =>
      rw [e] at h
      dsimp only
      split <;> exact h

/-- A TALLY tile that starts holds its task slot, and every other tile, or one that its check refuses, the cluster's units. -/
theorem State.startTile_cases (n k c dva : Nat) (td : List Byte) (deferred : Bool) : ∃ (u : State) (x : Tile), u.cluNear = s.cluNear
    ∧ (s.startTile n k c dva td deferred = u.modSlot n k (fun y => { y with tally := some x })
      ∨ s.startTile n k c dva td deferred = u.setCur n (some x)
      ∨ s.startTile n k c dva td deferred = (u.setCur n (some x)).cluRun n (runMode (tdKind td)) c) := by
  have hread := s.countDvaRead_cluNear c dva 192
  unfold State.startTile
  dsimp only
  split
  · split
    · exact ⟨_, _, hread, .inl rfl⟩
    · split
      · exact ⟨_, _, hread, .inr (.inr rfl)⟩
      · exact ⟨_, _, (State.predicate_cluNear _ _).trans hread, .inr (.inr rfl)⟩
  · exact ⟨_, _, hread, .inr (.inl rfl)⟩

/-- A tile that starts at a slot stands on the cluster's units or holds the slot; the slot's task and its queue stay, and near memory. -/
theorem State.startTile_effect (n k c dva : Nat) (td : List Byte) (deferred : Bool) {t : State} (ht : t = s.startTile n k c dva td deferred) :
    (t.slot n k).task = (s.slot n k).task ∧ (t.slot n k).queue = (s.slot n k).queue
    ∧ ((t.cluster n).cur.isSome ∨ (t.slot n k).tally.isSome) ∧ t.mem.near = s.mem.near := by
  obtain ⟨u, x, hu, hstart⟩ := s.startTile_cases n k c dva td deferred
  have hslot := State.slot_congr (State.clu_of_cluNear hu) n k
  have hnear := State.near_of_cluNear hu
  have hunits : ((u.setCur n (some x)).slot n k).task = (s.slot n k).task ∧ ((u.setCur n (some x)).slot n k).queue = (s.slot n k).queue
      ∧ (((u.setCur n (some x)).cluster n).cur.isSome ∨ ((u.setCur n (some x)).slot n k).tally.isSome)
      ∧ (u.setCur n (some x)).mem.near = s.mem.near := by
    simp [hslot, hnear]
  rw [ht]
  rcases hstart with h | h | h
  · simp [h, hslot, hnear]
  · rw [h]; exact hunits
  · rw [h]; exact hunits

end Sys2Proof.Machine
end

section
/-!
PROOFS. O22: tasks are taken and placed (R82, R83, R370), and tiles start at tile boundaries (R113, R114).
-/
namespace Sys2Proof.Machine
open Sys2Proof

/-- A read whose bytes are known succeeded. -/
theorem eq_ok_of_toOption {α : Type} {x : Except Status α} {a : α} (h : x.toOption = some a) : x = .ok a := by
  cases x with
  | error e => simp [Except.toOption] at h
  | ok b => simpa [Except.toOption] using h

/-! ## Tasks -/

/-- R82, R370: the task that the TASK entry at the head of a ring makes. -/
def entryTask (c ring : Nat) (e : WorkEntry) : Task := ⟨c, ring, e.dva, e.complete, e.cring, e.tag, e.ptr, 0, 0, false, false, none, e.ptr, false⟩

/-- A waiting task joins the tail of its context's list. -/
def State.addWaiting (s : State) (c : Nat) (x : Waiting) : State :=
  { s with clu := { s.clu with waiting := sput [] s.clu.waiting c (sget [] s.clu.waiting c ++ [x]) } }

theorem exec_taskEntryTake {s : State} {ring : Nat} {ecc : List (Nat × EccError)} {e : WorkEntry} (hpending : s.ringPending ring 0 = true)
    (hres : s.rd .ctxState (s.rd .dbCtx ring) = 2) (hrun : sget 0 s.ctxRunning (s.rd .dbCtx ring) ≠ 4)
    (hserves : s.serves (s.rd .dbCtx ring) = true) (hstop : s.stopped (s.rd .dbCtx ring) = false)
    (hentry : ((s.eccFound ecc).takeWork ring).2 = some e) (hkind : e.kind = 1) (halign : e.ptr % 64 = 0) :
    exec (.taskEntryTake ring ecc) s
      = .next (((s.eccFound ecc).takeWork ring).1.addWaiting (s.rd .dbCtx ring) ⟨ring, entryTask (s.rd .dbCtx ring) ring e⟩) := by
  change execTaskEntryTake ring ecc s = _
  unfold execTaskEntryTake
  generalize (s.eccFound ecc).takeWork ring = taken at hentry ⊢
  obtain ⟨u, o⟩ := taken
  obtain rfl : o = some e := hentry
  simp [hpending, hres, hrun, hserves, hstop, hkind, halign, State.addWaiting, entryTask]

/-- R83: a context's mask holds an unfenced cluster: the context will be told the next time that it holds none. -/
def State.maskFound (s : State) (c : Nat) : State := { s with clu := { s.clu with maskEmpty := sput false s.clu.maskEmpty c false } }

theorem State.tellMaskEmpty_of_clusters {s : State} {c : Nat} (h : s.effClusters c ≠ 0) : s.tellMaskEmpty c = s.maskFound c := by
  simp [State.tellMaskEmpty, State.maskFound, h]

/-- R83: a task of a ring leaves the waiting list of its context, which then holds w. -/
def State.taskTaken (s : State) (c ring : Nat) (w : List Waiting) : State :=
  { s with clu := { s.clu with waiting := sput [] s.clu.waiting c w, lastRing := sput 0 s.clu.lastRing c ring } }

/-- R83: the only ring with a waiting task is the next in turn. -/
theorem ringTurn_singleton (last : Nat) (x : Waiting) : ringTurn last [x] = some x.ring := by
  have hrings : (([x].map (·.ring)).eraseDups.mergeSort (· ≤ ·)) = [x.ring] := by
    simp [List.eraseDups_cons]
  unfold ringTurn
  simp only [hrings, List.head?_cons]
  split
  · next h => rw [← List.mem_singleton.1 (List.mem_of_find?_eq_some h)]
  · rfl

theorem exec_taskPlace {s : State} {c n : Nat} {x : Waiting} (hwait : sget [] s.clu.waiting c = [x]) (hstop : s.stopped c = false)
    (hrun : sget 0 s.ctxRunning c ≠ 4) (hlanes : s.flag .ctxLanesok c = true) (hmask : s.effClusters c ≠ 0) (hplace : s.placeFor c = some n) :
    exec (.taskPlace c) s = .next (((s.maskFound c).taskTaken c x.ring []).setSlotShown n (s.rd .ctxSlot c)
      (fun y => { y with task := some x.task })) := by
  have hlanes' : (s.maskFound c).flag .ctxLanesok c = true := hlanes
  have hplace' : (s.maskFound c).placeFor c = some n := hplace
  change execTaskPlace c s = _
  unfold execTaskPlace
  simp [hwait, hstop, hrun, State.tellMaskEmpty_of_clusters hmask, hlanes', hplace', ringTurn_singleton]
  rfl

/-! ## Tile boundaries -/

section
variable {s : State} {n k : Nat} {ecc : List (Nat × EccError)} {tk : Task} {td : List Byte}

/-- R114: at a boundary where one slot alone has a chain tile next, the descriptor enters the deferred queue or starts. -/
theorem exec_tileBoundary (hover : s.overlay (islCluster n) = []) (hbound : s.atBoundary n = true) (hk : k < 8)
    (htask : ((s.eccFound ecc).slot n k).task = some tk) (hother : ∀ j < 8, j ≠ k → ((s.eccFound ecc).slot n j).task = none)
    (hended : tk.ended = false) (htally : ((s.eccFound ecc).slot n k).tally = none) (hqueue : ((s.eccFound ecc).slot n k).queue = [])
    (hstop : (s.eccFound ecc).stopped tk.ctx = false) (htd : (s.eccFound ecc).tdAt tk.ctx tk.next = .ok td)
    (hwait : tdDefer td = false → (s.eccFound ecc).mustWait n k tk.ctx td = false) :
    exec (.tileBoundary n ecc) s = .next (if tdDefer td ∧ (s.eccFound ecc).deferCheck tk.ctx td = .ok
      then ((s.eccFound ecc).readyTime n).enqueue n k tk td
      else (((s.eccFound ecc).readyTime n).modSlot n k (fun x => { x with task := some (tk.advance td) })).startTile n k tk.ctx tk.next td false) := by
  have hnext : ((s.eccFound ecc).readyTime n).nextTile n k = .chain tk (.ok td) :=
    State.nextTile_chain (by simpa using htask) (by simpa using hstop) (by simpa using htally) hended (by simpa using hqueue) (by simpa using htd)
      (by simpa using hwait)
  have hleast : ((s.eccFound ecc).readyTime n).leastV n ((List.range 8).filter (fun j => (((s.eccFound ecc).readyTime n).nextTile n j).ready))
      = some k := by
    refine State.leastV_unique _ n hk (by rw [hnext]; rfl) (fun j hj hne => ?_)
    rw [State.nextTile_of_no_task (by simpa using hother j hj hne)]; rfl
  change execTileBoundary n ecc s = _
  unfold execTileBoundary
  rw [State.under_of_overlay_nil hover]
  simp only [hbound, hleast, hnext, State.readyTime_deferCheck, Bool.not_true, Bool.false_eq_true, if_false]
  exact (apply_ite Host.Outcome.next _ _ _).symm

/-- R113: the slot's queue takes the descriptor at its end, and the chain moves past it; the cluster's units stay. -/
theorem State.enqueue_effect (s : State) (n k : Nat) (tk : Task) (td : List Byte) {t : State} (ht : t = s.enqueue n k tk td) :
    (t.slot n k).task = some (tk.advance td) ∧ (t.slot n k).queue = (s.slot n k).queue ++ [tk.next]
    ∧ (t.cluster n).cur = (s.cluster n).cur ∧ t.mem.near = s.mem.near := by
  subst ht
  simp [State.enqueue]

/-- R114, R115: the head of the queue that starts leaves it; the slot's task stays. -/
theorem State.startDeferred_effect (s : State) {n k d : Nat} {q : List Nat} (c : Nat) (hqueue : (s.slot n k).queue = d :: q) {t : State}
    (ht : t = s.startDeferred n k c d false) : (t.slot n k).queue = q ∧ (t.slot n k).task = (s.slot n k).task
    ∧ ((t.cluster n).cur.isSome ∨ (t.slot n k).tally.isSome) ∧ t.mem.near = s.mem.near := by
  subst ht
  simp only [State.startDeferred, Bool.false_eq_true, if_false]
  split
  · obtain ⟨htask, hrest, hruns, hnear⟩ := State.startTile_effect (s.modSlot n k (fun x => { x with queue := x.queue.tail })) n k c d _ true rfl
    exact ⟨by rw [hrest]; simp [hqueue], by rw [htask]; simp, hruns, hnear⟩
  · simp [hqueue]

/-- R114: at a boundary with no chain tile ready, where one slot alone has a queue that may run, its head starts. -/
theorem exec_deferredTileRun {d : Nat} {q : List Nat} (hover : s.overlay (islCluster n) = []) (hbound : s.atBoundary n = true) (hk : k < 8)
    (htask : (s.slot n k).task = some tk) (hother : ∀ j < 8, j ≠ k → (s.slot n j).task = none) (hended : tk.ended = true)
    (hlast : tk.lastDone = false) (hqueue : (s.slot n k).queue = d :: q)
    (hstop : (s.eccFound ecc).stopped tk.ctx = false) (hwait : (s.eccFound ecc).queueWaits n k tk.ctx d = false) :
    exec (.deferredTileRun n ecc) s = .next (((s.eccFound ecc).readyTime n).startDeferred n k tk.ctx d false) := by
  have hslot (j : Nat) : (s.eccFound ecc).slot n j = s.slot n j := State.slot_congr (s.eccFound_clu ecc) n j
  have hidle : (List.range 8).any (fun j => (s.nextTile n j).ready) = false := by
    refine List.any_eq_false.2 (fun j hj => ?_)
    by_cases hne : j = k
    · subst hne; simp [State.nextTile_of_ended htask hended hlast]
    · simp [State.nextTile_of_no_task (hother j (List.mem_range.1 hj) hne), NextTile.ready]
  have hleast : ((s.eccFound ecc).readyTime n).leastV n ((List.range 8).filter (((s.eccFound ecc).readyTime n).deferReady n)) = some k := by
    refine State.leastV_unique _ n hk ?_ (fun j hj hne => ?_)
    · exact State.deferReady_of_queue (tk := tk) (d := d) (q := q) (by simpa [hslot] using htask) (by simpa [hslot] using hqueue)
        (by simpa using hstop) (by simpa using hwait)
    · exact State.deferReady_of_no_task (by simpa [hslot] using hother j hj hne)
  have hhead : (((s.eccFound ecc).readyTime n).slot n k).queue = d :: q := by simpa [hslot] using hqueue
  have hctx : ((s.eccFound ecc).readyTime n).taskCtx n k = tk.ctx := by simp [State.taskCtx, hslot, htask]
  change execDeferredTileRun n ecc s = _
  unfold execDeferredTileRun
  rw [State.under_of_overlay_nil hover]
  simp [hbound, hidle, hleast, hhead, hctx]

end

/-! ## The obligation -/

/-- Settles O22. Each clause runs its command by the lemma about it above; no read changes the clusters or near memory, and readiness (R372) changes
only virtual times, so what stands next after them is what the hypotheses say. -/
theorem tasksAndTilesStart : Obligations.TasksAndTilesStart := by
  unfold Obligations.TasksAndTilesStart
  refine ⟨?take, ?place, ?start, ?deferred, ?enqueued⟩
  case take =>
    intro s ring ecc e hpending hres hrun hserves hstop hentry hkind halign
    obtain ⟨hkept, hhead⟩ := State.takeWork_some hentry
    have hclu := State.clu_of_cluNear hkept
    refine ⟨_, exec_taskEntryTake hpending hres hrun hserves hstop hentry hkind halign, ?_, hhead, ?_,
      (State.near_of_cluNear hkept).trans (s.eccFound_near ecc)⟩
    · simp [State.addWaiting, entryTask, hclu]
    · simp [State.addWaiting, hclu]
  case place =>
    intro s c n x hwait hstop hrun hlanes hmask hplace
    exact ⟨_, exec_taskPlace hwait hstop hrun hlanes hmask hplace, by simp, by simp [State.taskTaken], by simp [State.taskTaken],
      State.setSlotShown_frame _ _ _ _⟩
  case start =>
    rintro s n k ecc tk td hover hbound hk htask hother ⟨hended, htally, hqueue⟩ hstop htd hwait hdefer
    refine ⟨_, exec_tileBoundary hover hbound hk htask hother hended htally hqueue hstop (eq_ok_of_toOption htd) (fun _ => hwait), ?_⟩
    rw [if_neg (by simp [hdefer])]
    obtain ⟨htask', -, hruns, hnear⟩ := State.startTile_effect (((s.eccFound ecc).readyTime n).modSlot n k
      (fun x => { x with task := some (tk.advance td) })) n k tk.ctx tk.next td false rfl
    exact ⟨by rw [htask']; simp, hruns, by rw [hnear]; simp [s.eccFound_near ecc]⟩
  case deferred =>
    rintro s n k ecc tk d q hover hbound hk htask hother ⟨hended, hlast, -⟩ - hqueue hstop hwait
    have hslot := State.slot_congr (s.eccFound_clu ecc) n k
    obtain ⟨hrest, htask', hruns, hnear⟩ := State.startDeferred_effect ((s.eccFound ecc).readyTime n) (n := n) (k := k) (d := d) (q := q) tk.ctx
      (by simpa [hslot] using hqueue) rfl
    exact ⟨_, exec_deferredTileRun hover hbound hk htask hother hended hlast hqueue hstop hwait, hrest,
      by rw [htask']; simpa [hslot] using htask, hruns, by rw [hnear]; simp [s.eccFound_near ecc]⟩
  case enqueued =>
    rintro s n k ecc tk td hover hbound hk htask hother ⟨hended, htally, hqueue⟩ hstop htd hdefer hcheck
    refine ⟨_, exec_tileBoundary hover hbound hk htask hother hended htally hqueue hstop (eq_ok_of_toOption htd)
      (fun h => absurd h (by simp [hdefer])), ?_⟩
    rw [if_pos ⟨hdefer, hcheck⟩]
    obtain ⟨htask', hrest, hcur, hnear⟩ := State.enqueue_effect ((s.eccFound ecc).readyTime n) n k tk td rfl
    exact ⟨htask', by rw [hrest]; simp [hqueue], by rw [hcur]; simp, by rw [hnear]; simp [s.eccFound_near ecc]⟩

end Sys2Proof.Machine
end

section
/-!
PROOFS. An instruction of a vector program (R109): the registers of a vector unit, what the program's reads leave alone, and how an instruction
that completes and one that ends the tile are done.
-/
namespace Sys2Proof.Machine
open Sys2Proof

/-! ## The registers of a vector unit -/

@[simp] theorem State.core_setCore_same (s : State) (k : CoreId) (c : Core) : (s.setCore k c).core k = c := by
  cases k <;> exact sget_sput_same _ _ _ _

@[simp] theorem State.setCore_cluNear (s : State) (k : CoreId) (c : Core) : (s.setCore k c).cluNear = s.cluNear := by
  cases k <;> rfl

theorem State.core_vector_congr {s t : State} (h : t.vectors = s.vectors) (n : Nat) : t.core (.vector n) = s.core (.vector n) :=
  congrArg (sget Core.idle · n) h

@[simp] theorem State.chargeTile_vectors (s : State) (n : Nat) (x : Tile) : (s.chargeTile n x).vectors = s.vectors := by
  unfold State.chargeTile
  dsimp only
  split <;> rfl

/-- R109: no register of the unit survives the program. -/
@[simp] theorem State.core_vecEnd (s : State) (n : Nat) (x : Tile) (st : Status) (info : Nat) :
    (s.vecEnd n x st info).core (.vector n) = Core.idle := by
  have hidle := (s.withdrawWait (.vector n)).core_setCore_same (.vector n) Core.idle
  exact (State.core_vector_congr (State.chargeTile_vectors _ _ _) n).trans hidle

@[simp] theorem Core.writeElems_cycles (c : Core) (w v : Nat) (xs : List Nat) : (c.writeElems w v xs).cycles = c.cycles :=
  foldl_keeps Core.cycles (fun c (p : Nat × Nat) => c.setElem w v (c.vstart + p.2) p.1) (fun _ _ => rfl) xs.zipIdx c

@[simp] theorem Core.nextInstr_cycles (c : Core) (cyc : Nat) : (c.nextInstr cyc).cycles = c.cycles + cyc := rfl

/-! ## One instruction -/

section
variable {s u : State} {n : Nat} {x : Tile} {f : Tile → Core → State} (hx : s.vecTile n = some x) (hw : (s.core (.vector n)).waitRd = none)
include hx hw

/-- R85: in a program that is not held, an instruction is done where it leaves the unit at no more than 262,144 cycles. -/
theorem State.vecInstr_within (hf : f x (s.core (.vector n)) = u) (hcyc : (u.core (.vector n)).cycles ≤ 262144) : s.vecInstr n f = u := by
  simp [State.vecInstr, State.vecWithin, hx, hw, hf, Nat.not_lt.2 hcyc]

/-- An instruction that completes leaves the unit's new registers. -/
theorem State.vecInstr_completes {c : Core} (hf : f x (s.core (.vector n)) = u.setCore (.vector n) c) (hcyc : c.cycles ≤ 262144) :
    s.vecInstr n f = u.setCore (.vector n) c :=
  State.vecInstr_within hx hw hf (by simpa using hcyc)

/-- An instruction that ends the tile ends it however many cycles it has had. -/
theorem State.vecInstr_ends {y : Tile} {st : Status} {info : Nat} (hf : f x (s.core (.vector n)) = u.vecEnd n y st info) :
    s.vecInstr n f = u.vecEnd n y st info :=
  State.vecInstr_within hx hw hf (by simp [Core.idle])

end

/-! ## The reads of a vector program -/

/-- R109: a vector program's read changes neither the clusters nor near memory. -/
@[simp] theorem State.vecRead_cluNear (s : State) (n : Nat) (x : Tile) (a len : Nat) : (s.vecRead n x a len).1.cluNear = s.cluNear := by
  unfold State.vecRead
  split
  · rfl
  · split
    · rfl
    · exact s.readDva_cluNear _ _ _

theorem State.keptRead_cluNear (n : Nat) (x : Tile) (l : List (Nat × Nat)) (s : State) : (s.keptRead n x l).1.cluNear = s.cluNear := by
  induction l generalizing s with
  | nil => rfl
  | cons p l ih =>
    have hread := s.vecRead_cluNear n x (p.1 % 2 ^ 64) p.2
    simp only [State.keptRead]
    split
    · next e => rw [e] at hread; exact hread
    · next u _ e =>
      rw [e] at hread
      have hrest := (ih u).trans hread
      split
      · next e => rw [e] at hrest; exact hrest
      · exact hrest

/-- R124: reading kept items changes neither the clusters nor near memory. -/
@[simp] theorem State.keptItems_cluNear (n : Nat) (x : Tile) (d a : Nat) (ks : List Nat) (s : State) :
    (s.keptItems n x d a ks).1.cluNear = s.cluNear := by
  induction ks generalizing s with
  | nil => rfl
  | cons k ks ih =>
    have hread := State.keptRead_cluNear n x (keptBytes d a k) s
    simp only [State.keptItems]
    split
    · next e => rw [e] at hread; exact hread
    · next u _ e =>
      rw [e] at hread
      have hrest := (ih u).trans hread
      split
      · next e => rw [e] at hrest; exact hrest
      · exact hrest

end Sys2Proof.Machine
end

section
/-!
PROOFS. O25: the derivative instructions (R122 to R124) and the random-bits instructions (R211) of a vector program, one lemma for each way that each
of them can go.
-/
namespace Sys2Proof.Machine
open Sys2Proof

/-- A read that gave no bytes failed with its status. -/
theorem eq_error_of_toOption {α : Type} {r : Except Status α} (h : r.toOption = none) : r = .error (statusOf r) := by
  cases r with
  | error e => rfl
  | ok a => simp [Except.toOption] at h

/-! ## The elements of an instruction -/

/-- R109: the elements that an instruction works on: vstart to vl - 1. -/
def Core.active (c : Core) : List Nat := (List.range (c.vl - c.vstart)).map (· + c.vstart)

/-- R124: the kept items of a plain code: one for each element. -/
def Core.plainItems (c : Core) (rs2 : Nat) : List Nat := c.active.map (· + c.readX rs2)

/-- R124: the kept items of a gated code: g and u of each element. -/
def Core.gatedItems (c : Core) (rs2 : Nat) : List Nat := (c.active.map (fun e => [2 * (c.readX rs2 + e), 2 * (c.readX rs2 + e) + 1])).flatten

/-- R124: KC.VDACT's registers after it: dx of each element in the group at vd. -/
def Core.plainDone (c : Core) (d vd vs2 : Nat) (ys : List Nat) : Core :=
  (c.writeElems 32 vd ((c.active.zip ys).map (fun p => derivative d (c.elem 32 vs2 p.1) p.2))).nextInstr (dactCycles d (c.vl - c.vstart))

/-- R124: dg and du of each element. -/
def Core.gatedPairs (c : Core) (d vs2 : Nat) (ys : List Nat) : List (Nat × Nat) :=
  c.active.zipIdx.map (fun p => gatedDerivative d (c.elem 32 vs2 p.1) (ys.getD (2 * p.2) 0) (ys.getD (2 * p.2 + 1) 0))

/-- R124: KC.VDACTG's registers after it: dg in the group at vd and du in the group at vd + LMUL. -/
def Core.gatedDone (c : Core) (d vd vs2 : Nat) (ys : List Nat) : Core :=
  ((c.writeElems 32 vd ((c.gatedPairs d vs2 ys).map (·.1))).writeElems 32 (vd + c.lmul) ((c.gatedPairs d vs2 ys).map (·.2))).nextInstr
    (dactCycles d (c.vl - c.vstart))

/-- R210, R211: the registers after a random-bits instruction: the upper half of each element's lane, mapped, in the group at vd. -/
def State.randomDone (s : State) (n ctx vd sew : Nat) (f : Nat → Nat) (c : Core) : Core :=
  (c.writeElems sew vd ((s.chosorList ctx (islCluster n) (genCluster n) 256 c.vstart (c.vl - c.vstart)).map
    (fun o => f (o / 2 ^ 32 * 2 ^ 32)))).nextInstr (ceilDiv (c.vl - c.vstart) 256)

section
variable {s u : State} {n : Nat} {x : Tile} {c : Core} (hx : s.vecTile n = some x) (hw : (s.core (.vector n)).waitRd = none)
  (hc : s.core (.vector n) = c)
include hx hw hc

/-! ## KC.DACTCFG (R123) -/

section
variable {rs1 : Nat} (cyc : Nat) (hsew : c.sew = 32)
include hsew

theorem exec_kcDactcfg_keeps {cyc : Nat} {b : List Byte} (hread : s.vecRead n x (c.readX rs1) 16 = (u, .ok b)) (hok : ddOk (leNat b) = true)
    (hcyc : c.cycles + cyc ≤ 262144) :
    exec (.kcDactcfg n rs1 cyc) s = .next (u.setCore (.vector n) { c.nextInstr cyc with dact := some (leNat b) }) :=
  congrArg Host.Outcome.next (State.vecInstr_completes hx hw (by simp [hc, hsew, hread, hok]) (by simpa using hcyc))

theorem exec_kcDactcfg_bad {b : List Byte} (hread : s.vecRead n x (c.readX rs1) 16 = (u, .ok b)) (hbad : ddOk (leNat b) = false) :
    exec (.kcDactcfg n rs1 cyc) s = .next (u.vecEnd n x .cluVecFault Status.lrnDactConfig.code) :=
  congrArg Host.Outcome.next (State.vecInstr_ends hx hw (by simp [hc, hsew, hread, hbad]))

theorem exec_kcDactcfg_unread {e : Status} (hread : s.vecRead n x (c.readX rs1) 16 = (u, .error e)) :
    exec (.kcDactcfg n rs1 cyc) s = .next (u.vecEnd n x e 0) :=
  congrArg Host.Outcome.next (State.vecInstr_ends hx hw (by simp [hc, hsew, hread]))

end

/-! ## KC.VDACT and KC.VDACTG (R124) -/

section
variable {vd rs1 vs2 rs2 d : Nat} {ys : List Nat}

theorem exec_kcVdact_completes (hd : c.dact = some d) (hgroup : groupOk c [vd, vs2] = true) (hplain : actGated (ddAct d) = false)
    (hread : s.keptItems n x d (c.readX rs1) (c.plainItems rs2) = (u, .ok ys)) (hcyc : c.cycles + dactCycles d (c.vl - c.vstart) ≤ 262144) :
    exec (.kcVdact n vd rs1 vs2 rs2) s = .next (u.setCore (.vector n) (c.plainDone d vd vs2 ys)) := by
  refine congrArg Host.Outcome.next (State.vecInstr_completes hx hw ?_ (by simpa [Core.plainDone] using hcyc))
  simp only [Core.plainItems, Core.active] at hread
  simp only [hc, hd, hgroup, hplain, hread, Bool.not_true, Bool.false_eq_true, if_false, List.length_map, List.length_range]
  rfl

theorem exec_kcVdactg_completes (hd : c.dact = some d) (hgroup : groupOk c [vd, vs2] = true) (hpair : vd + 2 * c.lmul ≤ 32)
    (hgated : actGated (ddAct d) = true) (hread : s.keptItems n x d (c.readX rs1) (c.gatedItems rs2) = (u, .ok ys))
    (hcyc : c.cycles + dactCycles d (c.vl - c.vstart) ≤ 262144) :
    exec (.kcVdactg n vd rs1 vs2 rs2) s = .next (u.setCore (.vector n) (c.gatedDone d vd vs2 ys)) := by
  refine congrArg Host.Outcome.next (State.vecInstr_completes hx hw ?_ (by simpa [Core.gatedDone] using hcyc))
  simp only [Core.gatedItems, Core.active] at hread
  simp only [hc, hd, hgroup, Nat.not_lt.2 hpair, hgated, hread, Bool.not_true, Bool.false_eq_true, or_self, if_false, List.length_map,
    List.length_range]
  rfl

/-- With no descriptor that KC.VDACT can use, it ends the tile with LRN_DACT_CONFIG. -/
theorem exec_kcVdact_config (hd : ∀ d, c.dact = some d → actGated (ddAct d) = true) (hgroup : groupOk c [vd, vs2] = true) :
    exec (.kcVdact n vd rs1 vs2 rs2) s = .next (s.vecEnd n x .cluVecFault Status.lrnDactConfig.code) := by
  refine congrArg Host.Outcome.next (State.vecInstr_ends hx hw ?_)
  cases h : c.dact with
  | none => simp [hc, h, hgroup]
  | some d => simp [hc, h, hgroup, hd d h]

/-- With no descriptor that KC.VDACTG can use, it ends the tile with LRN_DACT_CONFIG. -/
theorem exec_kcVdactg_config (hd : ∀ d, c.dact = some d → vd + 2 * c.lmul ≤ 32 ∧ actGated (ddAct d) = false)
    (hgroup : groupOk c [vd, vs2] = true) :
    exec (.kcVdactg n vd rs1 vs2 rs2) s = .next (s.vecEnd n x .cluVecFault Status.lrnDactConfig.code) := by
  refine congrArg Host.Outcome.next (State.vecInstr_ends hx hw ?_)
  cases h : c.dact with
  | none => simp [hc, h, hgroup]
  | some d =>
    obtain ⟨hpair, hplain⟩ := hd d h
    simp [hc, h, hgroup, Nat.not_lt.2 hpair, hplain]

/-- R122: KC.VDACT with a register group out of place is illegal. -/
theorem exec_kcVdact_illegal (hgroup : groupOk c [vd, vs2] = false) :
    exec (.kcVdact n vd rs1 vs2 rs2) s = .next (s.vecEnd n x .cluVecFault 0) := by
  refine congrArg Host.Outcome.next (State.vecInstr_ends hx hw ?_)
  cases h : c.dact <;> simp [hc, h, hgroup]

/-- R122: so is KC.VDACTG, also where only its second group does not fit. -/
theorem exec_kcVdactg_illegal (hgroup : groupOk c [vd, vs2] = false ∨ c.dact.isSome ∧ 32 < vd + 2 * c.lmul) :
    exec (.kcVdactg n vd rs1 vs2 rs2) s = .next (s.vecEnd n x .cluVecFault 0) := by
  refine congrArg Host.Outcome.next (State.vecInstr_ends hx hw ?_)
  rcases hgroup with hgroup | ⟨hd, hpair⟩
  · cases h : c.dact <;> simp [hc, h, hgroup]
  · obtain ⟨d, hd⟩ := Option.isSome_iff_exists.1 hd
    simp [hc, hd, hpair]

end

/-! ## Random bits (R211) -/

section
variable {vd sew : Nat} (f : Nat → Nat)

theorem State.vecRandom_completes (hsew : c.sew = sew) (hgroup : c.lmul ≠ 0 ∧ vd % c.lmul = 0)
    (hcyc : c.cycles + ceilDiv (c.vl - c.vstart) 256 ≤ 262144) :
    s.vecRandom n vd sew f
      = (s.chosorTaken (islCluster n) 256 (c.vstart + (c.vl - c.vstart))).setCore (.vector n) (s.randomDone n x.ctx vd sew f c) :=
  State.vecInstr_completes hx hw (by simp [hc, hsew, hgroup, State.randomDone]) (by simpa [State.randomDone] using hcyc)

theorem State.vecRandom_illegal (hbad : c.sew ≠ sew ∨ c.lmul = 0 ∨ vd % c.lmul ≠ 0) : s.vecRandom n vd sew f = s.vecEnd n x .cluVecFault 0 :=
  State.vecInstr_ends hx hw (by rw [hc, if_pos hbad])

end

end

/-! ## The obligation -/

/-- What a completed instruction shows: the unit's new registers, and the clusters and near memory as its reads left them. -/
theorem State.setCore_completed {s u : State} (h : u.cluNear = s.cluNear) (n : Nat) (c : Core) :
    (u.setCore (.vector n) c).core (.vector n) = c ∧ (u.setCore (.vector n) c).mem.near = s.mem.near ∧ (u.setCore (.vector n) c).clu = s.clu :=
  have hkept := (u.setCore_cluNear (.vector n) c).trans h
  ⟨u.core_setCore_same _ c, State.near_of_cluNear hkept, State.clu_of_cluNear hkept⟩

/-- Settles O25. Each clause is the lemma about its instruction's outcome above; a completed instruction's registers stand as they were set, and
reading a descriptor or kept items changes neither the clusters nor near memory. -/
theorem vectorInstructionsComplete : Obligations.VectorInstructionsComplete := by
  unfold Obligations.VectorInstructionsComplete
  refine ⟨?keeps, ?vdact, ?vdactg, ?vrandb, ?vrandf, ?vrando, ?vrandh, ?bad, ?unread, ?vdactUnkept, ?vdactgUnkept, ?vdactGroups, ?vdactgGroups,
    ?vdactGated, ?vdactgPlain, ?vdactgPair, ?vrandbIllegal, ?vrandfIllegal, ?vrandoIllegal, ?vrandhIllegal⟩
  case keeps =>
    intro s n rs1 cyc x b hx hw hsew hread hok hcyc
    exact ⟨_, exec_kcDactcfg_keeps hx hw rfl hsew (Prod.ext rfl (eq_ok_of_toOption hread)) hok hcyc, rfl,
      State.setCore_completed (s.vecRead_cluNear ..) n _⟩
  case vdact =>
    intro s n vd rs1 vs2 rs2 d x ys hx hw hd hgroup hplain hread hcyc
    exact ⟨_, exec_kcVdact_completes hx hw rfl hd hgroup hplain (Prod.ext rfl (eq_ok_of_toOption hread)) hcyc, rfl,
      State.setCore_completed (s.keptItems_cluNear ..) n _⟩
  case vdactg =>
    intro s n vd rs1 vs2 rs2 d x ys hx hw hd hgroup hpair hgated hread hcyc
    exact ⟨_, exec_kcVdactg_completes hx hw rfl hd hgroup hpair hgated (Prod.ext rfl (eq_ok_of_toOption hread)) hcyc, rfl,
      State.setCore_completed (s.keptItems_cluNear ..) n _⟩
  case vrandb | vrandf | vrando | vrandh =>
    intro s n vd x hx hw hsew hgroup hcyc
    exact ⟨_, congrArg Host.Outcome.next (State.vecRandom_completes hx hw rfl _ hsew hgroup hcyc), State.core_setCore_same .., rfl⟩
  case bad =>
    intro s n rs1 cyc x b hx hw hsew hread hbad
    exact ⟨_, exec_kcDactcfg_bad hx hw rfl cyc hsew (Prod.ext rfl (eq_ok_of_toOption hread)) hbad, rfl⟩
  case unread =>
    rintro s n rs1 cyc x e hx hw hsew hread rfl
    exact ⟨_, exec_kcDactcfg_unread hx hw rfl cyc hsew (Prod.ext rfl (eq_error_of_toOption hread)), rfl⟩
  case vdactUnkept =>
    intro s n vd rs1 vs2 rs2 x hx hw hd hgroup
    exact ⟨_, exec_kcVdact_config hx hw rfl (by simp [hd]) hgroup, rfl⟩
  case vdactgUnkept =>
    intro s n vd rs1 vs2 rs2 x hx hw hd hgroup
    exact ⟨_, exec_kcVdactg_config hx hw rfl (by simp [hd]) hgroup, rfl⟩
  case vdactGroups =>
    intro s n vd rs1 vs2 rs2 x hx hw hgroup
    exact ⟨_, exec_kcVdact_illegal hx hw rfl hgroup, rfl⟩
  case vdactgGroups =>
    intro s n vd rs1 vs2 rs2 x hx hw hgroup
    exact ⟨_, exec_kcVdactg_illegal hx hw rfl (.inl hgroup), rfl⟩
  case vdactGated =>
    intro s n vd rs1 vs2 rs2 d x hx hw hd hgroup hgated
    exact ⟨_, exec_kcVdact_config hx hw rfl (by simp [hd, hgated]) hgroup, rfl⟩
  case vdactgPlain =>
    intro s n vd rs1 vs2 rs2 d x hx hw hd hgroup hpair hplain
    exact ⟨_, exec_kcVdactg_config hx hw rfl (by simp [hd, hpair, hplain]) hgroup, rfl⟩
  case vdactgPair =>
    intro s n vd rs1 vs2 rs2 d x hx hw hd hpair
    exact ⟨_, exec_kcVdactg_illegal hx hw rfl (.inr ⟨by simp [hd], hpair⟩), rfl⟩
  case vrandbIllegal | vrandfIllegal | vrandoIllegal | vrandhIllegal =>
    intro s n vd x hx hw hbad
    exact ⟨_, congrArg Host.Outcome.next (State.vecRandom_illegal hx hw rfl _ hbad), rfl⟩

end Sys2Proof.Machine
end

section
/-!
PROOFS. The pages of the key-value pools: what a write of a page's memory, a change of its references and pins (R188, R190), an allocation, a write
of a page list (R180) and a copy (R198) leave alone.
-/
namespace Sys2Proof.Machine
open Sys2Proof

/-- The register fields in which work on pages counts: the bytes read and written, and the pages free and held. -/
def pageCounts : List Reg :=
  [.memRdbytes, .cxlRdbytes, .memWrbytes, .memRmw, .cxlWrbytes, .kvNearfree, .kvFarfree, .kvHeld, .kvFarheld]

/-- A field of those. -/
def Reg.countsPages (q : Reg) : Bool := pageCounts.any (fun r => r.ctorIdx == q.ctorIdx)

/-- What work on pages leaves alone: the allocator's state but for the copies that are pending (R191), the sequencer's state, and every register field
but those counts. -/
def State.offPages (s : State) : KvState × SeqState × (Reg → Nat → Nat) :=
  ({ s.kv with cow := [] }, s.seq, fun q i => if q.countsPages then 0 else s.rd q i)

section
variable {s t : State} (h : t.offPages = s.offPages)
include h

theorem State.moves_of_offPages : t.kv.moves = s.kv.moves := congrArg (fun p => p.1.moves) h

theorem State.pageLost_of_offPages (p : Nat) : t.pageLost p = s.pageLost p := by
  have hlost : t.kv.lost = s.kv.lost := congrArg (fun x => x.1.lost) h
  simp only [State.pageLost, hlost]

theorem State.seqAt_of_offPages (i : Nat) : t.seqAt i = s.seqAt i := by
  have hseq : t.seq = s.seq := congrArg (fun x => x.2.1) h
  simp only [State.seqAt, hseq]

theorem State.rd_of_offPages {q : Reg} (hq : q.countsPages = false) (i : Nat) : t.rd q i = s.rd q i := by
  have hcounts := congrFun (congrFun (congrArg (·.2.2) h) q) i
  simpa [State.offPages, hq] using hcounts

end

variable (s : State)

/-! ## Memory -/

theorem State.wr_offPages {r : Reg} (hr : r.countsPages = true) (i v : Nat) : (s.wr r i v).offPages = s.offPages := by
  unfold State.offPages
  refine congrArg (Prod.mk _ <| Prod.mk _ ·) (funext fun q => funext fun j => ?_)
  split
  · rfl
  · next hq => exact s.rd_wr_reg i j v (fun e => hq (by rw [Reg.countsPages, e]; exact hr))

theorem State.bump_offPages {r : Reg} (hr : r.countsPages = true) (i n : Nat) : (s.bump r i n).offPages = s.offPages :=
  s.wr_offPages hr i _

theorem State.writeGranule_offPages (pa : Nat) (bs : List Byte) : (s.writeGranule pa bs).1.offPages = s.offPages := by
  unfold State.writeGranule
  dsimp only
  split
  · rfl
  · split
    · exact State.bump_offPages _ rfl _ _
    · split
      · rfl
      · exact (State.bump_offPages _ rfl _ _).trans (State.bump_offPages _ rfl _ _)

theorem State.writeNear_offPages (pa : Nat) (bs : List Byte) : (s.writeNear pa bs).1.offPages = s.offPages := by
  unfold State.writeNear
  refine foldl_keeps (fun a : State × Status => a.1.offPages) _ (fun a g => ?_) _ (s, Status.ok)
  exact a.1.writeGranule_offPages _ _

@[simp] theorem State.memWrite_offPages (far : Bool) (pa : Nat) (bs : List Byte) : (s.memWrite far pa bs).1.offPages = s.offPages := by
  unfold State.memWrite
  split
  · split
    · split
      · rfl
      · exact State.bump_offPages _ rfl _ _
    · rfl
  · split
    · rfl
    · exact s.writeNear_offPages pa bs

@[simp] theorem State.countRead_none_offPages (far : Bool) (pa n : Nat) : (s.countRead none far pa n).offPages = s.offPages := by
  unfold State.countRead
  split
  · exact s.bump_offPages rfl _ _
  · exact foldl_keeps State.offPages _ (fun u _ => u.bump_offPages rfl _ _) _ s

@[simp] theorem State.pageStore_offPages (p a : Nat) (bs : List Byte) : (s.pageStore p a bs).offPages = s.offPages :=
  s.memWrite_offPages _ a bs

@[simp] theorem State.kmSet_offPages (p o n v : Nat) : (s.kmSet p o n v).offPages = s.offPages := s.pageStore_offPages p _ _

/-! ## References and pins -/

@[simp] theorem State.freePage_offPages (p : Nat) : (s.freePage p).offPages = s.offPages := by
  unfold State.freePage
  dsimp only
  generalize hu : (s.kmSet p 8 2 _).kmSet p 10 1 _ = u
  have hrecord : u.offPages = s.offPages := by rw [← hu]; simp
  generalize hv : (if pageFar p = true then _ else _ : State) = v
  have hheld : v.offPages = s.offPages := by
    rw [← hv]
    split
    · exact (State.wr_offPages _ rfl _ _).trans hrecord
    · exact (State.wr_offPages _ rfl _ _).trans hrecord
  split
  · exact hheld
  · split
    · exact (v.bump_offPages rfl _ _).trans hheld
    · exact (v.bump_offPages rfl _ _).trans hheld

@[simp] theorem State.maybeFree_offPages (p : Nat) : (s.maybeFree p).offPages = s.offPages := by
  unfold State.maybeFree
  split
  · exact s.freePage_offPages p
  · rfl

@[simp] theorem State.refDrop_offPages (p : Nat) : (s.refDrop p).offPages = s.offPages := by simp [State.refDrop]

@[simp] theorem State.unpinPage_offPages (p : Nat) : (s.unpinPage p).offPages = s.offPages := by simp [State.unpinPage]

/-! ## Allocation and lists -/

@[simp] theorem State.pickPage_offPages (far : Bool) : (s.pickPage far).1.offPages = s.offPages := by
  unfold State.pickPage
  dsimp only
  generalize (if far = true then s.rd .kvFarpages 0 else s.rd .kvNearpages 0) = n
  split
  · rfl
  · rfl

@[simp] theorem State.initPage_offPages (p fmt kind ctx layer run seq : Nat) :
    (s.initPage p fmt kind ctx layer run seq).offPages = s.offPages := by
  simp [State.initPage]

@[simp] theorem State.allocPage_offPages (far : Bool) (fmt kind ctx layer run seq : Nat) :
    (s.allocPage far fmt kind ctx layer run seq).1.offPages = s.offPages := by
  have hpick := s.pickPage_offPages far
  unfold State.allocPage
  split
  · next e => rw [e] at hpick; exact hpick
  · next u p e =>
    rw [e] at hpick
    have hinit := (u.initPage_offPages p fmt kind ctx layer run seq).trans hpick
    dsimp only
    generalize hv : (if far = true then _ else _ : State) = v
    have htaken : v.offPages = s.offPages := by
      rw [← hv]
      split
      · exact (State.bump_offPages _ rfl _ _).trans ((State.wr_offPages _ rfl _ _).trans hinit)
      · exact (State.bump_offPages _ rfl _ _).trans ((State.wr_offPages _ rfl _ _).trans hinit)
    split
    · exact htaken
    · exact htaken

@[simp] theorem State.setListSlot_offPages (p i e : Nat) : (s.setListSlot p i e).offPages = s.offPages := s.pageStore_offPages p _ _

@[simp] theorem State.setRunEntry_offPages (ctx head v e : Nat) : (s.setRunEntry ctx head v e).offPages = s.offPages := by
  have halloc := s.allocPage_offPages false 0 2 ctx 0 0 0
  unfold State.setRunEntry
  dsimp only
  split
  · exact s.setListSlot_offPages _ _ _
  · split
    · next e => rw [e] at halloc; exact halloc
    · next e => rw [e] at halloc; simpa using halloc

@[simp] theorem State.dropList_offPages (head : Nat) : (s.dropList head).offPages = s.offPages := by
  have hdrop (l : List Nat) (u : State) : (l.foldl (fun u p => u.refDrop p) u).offPages = u.offPages :=
    foldl_keeps State.offPages _ State.refDrop_offPages l u
  unfold State.dropList
  rw [State.refDrop_offPages, hdrop, hdrop]

/-! ## The copy of a page -/

/-- R198: a copy writes pages, and moves the mark of a copy that is pending. -/
@[simp] theorem State.copyPage_offPages (m : KvMove) : (s.copyPage m).1.offPages = s.offPages := by
  unfold State.copyPage
  dsimp only
  split
  · rfl
  · rfl
  · next data rec_ _ _ =>
    generalize hu : (s.countRead none _ _ _).countRead none _ _ _ = u
    have hread : u.offPages = s.offPages := by rw [← hu]; simp
    have hdata := (u.memWrite_offPages (pageFar m.dst) (u.pageData m.dst) data).trans hread
    split
    · next v e =>
      rw [e] at hdata
      have hrecord := (v.memWrite_offPages (pageFar m.dst) (v.pageMeta m.dst + 10) rec_).trans hdata
      split
      · next e => rw [e] at hrecord; exact hrecord
      · exact hrecord
    · exact hdata

end Sys2Proof.Machine
end

section
/-!
PROOFS. What an error met by a read leaves alone: poison in a page (R280, R287), with the events, the reset or the fault of the module that may follow
it (R317, R340, R375), changes no part of the state but those named here.
-/
namespace Sys2Proof.Machine
open Sys2Proof

/-- The state with every part cleared that the report of an error may change: registers, memory, events, lost pages, a context's reset, the health
monitor, the flight, and the frames to other members. -/
def State.offErrors (s : State) : State :=
  { s with
    regs := [], mem := State.reset.mem, events := State.reset.events, kv := { s.kv with lost := [] }, span := State.reset.span
    flt := State.reset.flt, health := State.reset.health, fh := State.reset.fh, ctxRunning := [], keelEvents := [], out := [] }

theorem State.moves_of_offErrors {s t : State} (h : t.offErrors = s.offErrors) : t.kv.moves = s.kv.moves := congrArg (fun x => x.kv.moves) h

variable (s : State)

/-! ## Events and frames to other members -/

@[simp] theorem State.wr_offErrors (r : Reg) (i v : Nat) : (s.wr r i v).offErrors = s.offErrors := rfl
@[simp] theorem State.bump_offErrors (r : Reg) (i n : Nat) : (s.bump r i n).offErrors = s.offErrors := rfl
@[simp] theorem State.setLink_offErrors (n : Nat) (l : SpanLink) : (s.setLink n l).offErrors = s.offErrors := rfl
@[simp] theorem State.emit_offErrors (o : Out) : (s.emit o).offErrors = s.offErrors := rfl
@[simp] theorem State.startReset_offErrors (c : Nat) : (s.startReset c).offErrors = s.offErrors := rfl

@[simp] theorem State.raise_offErrors (page : Nat) (st : Status) (ctx : Option Nat) (a b : Nat) :
    (s.raise page st ctx a b).offErrors = s.offErrors := by
  rw [s.raise_frame]; rfl

@[simp] theorem State.keelSpend_offErrors (n : Nat) (f : Frame) : (s.keelSpend n f).offErrors = s.offErrors := by
  unfold State.keelSpend; split <;> rfl

@[simp] theorem State.sendFrame_offErrors (n : Nat) (l : SpanLink) (f : Frame) : (s.sendFrame n l f).offErrors = s.offErrors := by
  simp [State.sendFrame]

theorem State.pumpN_offErrors (n fuel : Nat) (s : State) : (s.pumpN n fuel).offErrors = s.offErrors := by
  induction fuel generalizing s with
  | zero => rfl
  | succ fuel ih =>
    unfold State.pumpN
    split
    · rfl
    · split
      · rfl
      · rw [ih, State.sendFrame_offErrors]

@[simp] theorem State.pump_offErrors (n : Nat) : (s.pump n).offErrors = s.offErrors := by
  unfold State.pump
  split
  · exact State.pumpN_offErrors n _ s
  · rfl

@[simp] theorem State.nextHop_offErrors (m : Nat) : (s.nextHop m).1.offErrors = s.offErrors := by
  unfold State.nextHop
  dsimp only
  split <;> rfl

@[simp] theorem State.route_offErrors (f : Frame) : (s.route f).offErrors = s.offErrors := by
  have hhop := s.nextHop_offErrors f.dst
  unfold State.route
  split
  · next e => rw [e] at hhop; simpa using hhop
  · next e => rw [e] at hhop; exact hhop

@[simp] theorem State.propose_offErrors (kind : Nat) (body : List Byte) : (s.propose kind body).offErrors = s.offErrors := by
  unfold State.propose
  split
  · rfl
  · unfold State.ledgerTo State.originate
    split <;> simp

@[simp] theorem State.declareFault_offErrors (reason : Status) : (s.declareFault reason).offErrors = s.offErrors := by
  unfold State.declareFault
  split
  · exact State.propose_offErrors _ _ _
  · rfl

/-! ## What the memory does about an error -/

@[simp] theorem State.losePage_offErrors (p : Nat) : (s.losePage p).offErrors = s.offErrors := by
  unfold State.losePage
  dsimp only
  split
  · rfl
  · split <;> rfl

@[simp] theorem State.losePageAt_offErrors (far : Bool) (pa : Nat) : (s.losePageAt far pa).offErrors = s.offErrors := by
  unfold State.losePageAt
  split
  dsimp only
  split
  · exact s.losePage_offErrors _
  · split
    · exact s.losePage_offErrors _
    · rfl

@[simp] theorem State.retireStart_offErrors (f : Nat) : (s.retireStart f).offErrors = s.offErrors := by
  unfold State.retireStart
  split
  · rfl
  · split
    · rfl
    · split
      · rfl
      · exact State.raise_offErrors _ _ _ _ _ _

@[simp] theorem State.fenceChannel_offErrors (c : Nat) : (s.fenceChannel c).offErrors = s.offErrors := by
  unfold State.fenceChannel
  split <;> simp

@[simp] theorem State.granuleBad_offErrors (pa : Nat) : (s.granuleBad pa).offErrors = s.offErrors := by
  unfold State.granuleBad
  dsimp only
  generalize hu : State.losePageAt _ false pa = u
  have hlost : u.offErrors = s.offErrors := by rw [← hu, State.losePageAt_offErrors]; rfl
  split
  · exact hlost
  · split
    · rw [State.fenceChannel_offErrors, State.retireStart_offErrors]; exact hlost
    · rw [State.retireStart_offErrors]; exact hlost

@[simp] theorem State.tableError_offErrors (pa : Nat) : (s.tableError pa).offErrors = s.offErrors := by
  unfold State.tableError
  split
  · simp
  · split <;> simp

@[simp] theorem State.uncorrectableError_offErrors (pa : Nat) : (s.uncorrectableError pa).offErrors = s.offErrors := by
  simp [State.uncorrectableError]

@[simp] theorem State.cxlPoisonFound_offErrors (pa : Nat) : (s.cxlPoisonFound pa).offErrors = s.offErrors := by
  unfold State.cxlPoisonFound
  split
  · rfl
  · exact State.losePageAt_offErrors _ _ _

@[simp] theorem State.poisonMet_offErrors (ps : List (Place × Nat)) : (s.poisonMet ps).offErrors = s.offErrors := by
  refine foldl_keeps State.offErrors _ (fun u p => ?_) ps s
  split <;> split
  · split
    · rfl
    · exact u.cxlPoisonFound_offErrors _
  · rfl
  · split
    · rfl
    · exact u.uncorrectableError_offErrors _
  · rfl

@[simp] theorem State.pagePoison_offErrors (p : Nat) : (s.pagePoison p).offErrors = s.offErrors := s.poisonMet_offErrors _

/-! ## Lost pages -/

/-- R199: a page that becomes lost is lost. -/
@[simp] theorem State.pageLost_losePage (p : Nat) : (s.losePage p).pageLost p = true := by
  unfold State.losePage
  split
  · assumption
  · dsimp only
    exact sget_sput_same false _ p true

end Sys2Proof.Machine
end

section
/-!
PROOFS. O35: KV_PFXREL (R192, R194), COW_WAIT (R191), and the ends of spills and fills (R198, R199), one lemma for each way that each of them can go.
-/
namespace Sys2Proof.Machine
open Sys2Proof

/-! ## The release of a handle -/

/-- R194: the state in which slot k has been released and KV_PFXSTATUS shows it. -/
def State.pfxReleased (s : State) (c k : Nat) : State := (s.pfxRelease c k).wr .kvPfxstatus c 0

/-- R194: a context that leads a group tells its members which handle is released. -/
def State.tellRelease (s : State) (c v : Nat) : State :=
  if s.seqLead c then (s.groupMembers c).foldl (fun s g => s.emit (.prefixChange g c v false 0)) s else s

section
variable (s : State) (c v k : Nat)

theorem State.pfxReleased_pfx : (s.pfxReleased c k).pfx c k = { s.pfx c k with live := false } := sget_sput_same PfxSlot.none _ _ _

theorem State.pfxReleased_kvPfxstatus : (s.pfxReleased c k).rd .kvPfxstatus c = 0 := State.rd_wr_same _ _ _ _

theorem State.pfxReleased_kvPfxlive :
    (s.pfxReleased c k).rd .kvPfxlive c = (s.rd .kvPfxlive c - 1) % 2 ^ Reg.kvPfxlive.info.width :=
  (State.rd_wr_reg _ _ _ _ (by decide)).trans (State.rd_wr_same _ _ _ _)

/-- A release changes no register field but the two that show it and the counts of its pages. -/
theorem State.pfxReleased_rd {q : Reg} (hq : q.countsPages = false) (hlive : q.ctorIdx ≠ Reg.kvPfxlive.ctorIdx)
    (hstatus : q.ctorIdx ≠ Reg.kvPfxstatus.ctorIdx) (i : Nat) : (s.pfxReleased c k).rd q i = s.rd q i :=
  calc (s.pfxReleased c k).rd q i
    _ = (s.pfxRelease c k).rd q i := State.rd_wr_reg _ _ _ _ hstatus
    _ = (s.dropList (s.pfx c k).head).rd q i := State.rd_wr_reg _ _ _ _ hlive
    _ = s.rd q i := State.rd_of_offPages (s.dropList_offPages _) hq i

theorem State.pfxReleased_seqLead : (s.pfxReleased c k).seqLead c = s.seqLead c := by
  simp only [State.seqLead, State.ctxLive, s.pfxReleased_rd c k (q := .ctxState) rfl (by decide) (by decide),
    s.pfxReleased_rd c k (q := .ctxClass) rfl (by decide) (by decide), s.pfxReleased_rd c k (q := .seqRole) rfl (by decide) (by decide)]

/-- Telling a group changes only what leaves the module. -/
theorem State.tellRelease_frame : s.tellRelease c v = { s with out := (s.tellRelease c v).out } := by
  have hrest : { s.tellRelease c v with out := [] } = { s with out := [] } := by
    unfold State.tellRelease
    split
    · exact foldl_keeps (fun u : State => { u with out := [] }) (fun u g => u.emit (.prefixChange g c v false 0)) (fun _ _ => rfl) _ s
    · rfl
  exact congrArg (fun u : State => { u with out := (s.tellRelease c v).out }) hrest

theorem State.tellRelease_alone {s : State} {c : Nat} (h : s.seqLead c = false) (v : Nat) : s.tellRelease c v = s := by
  simp [State.tellRelease, h]

end

section
variable {s : State} {c v k : Nat}

/-- R192: a live handle names the slot of its low ten bits. -/
theorem State.slot_of_pfxLive (h : s.pfxLive c v = some k) : v % 1024 = k := by
  unfold State.pfxLive at h
  dsimp only at h
  split at h
  · exact Option.some.inj h
  · cases h

/-- R192: a handle whose slot is not live is stale. -/
theorem State.pfxLive_eq_none (h : (s.pfx c (v % 1024)).live = false) : s.pfxLive c v = none := by simp [State.pfxLive, h]

end

/-! ## KV_PFXREL -/

section
variable {s : State} {rdr : Reader} {c : Nat} {ecc : List (Nat × EccError)}

theorem exec_kvPfxrel_rights (hw : (s.eccFound ecc).mayWriteCtx rdr c = false) (v : Nat) :
    exec (.kvPfxrel rdr c ⟨v, ecc⟩) s = .next ((s.eccFound ecc).reply rdr .sesRights 0) := by
  change execKvPfxrel rdr c ⟨v, ecc⟩ s = _
  simp [execKvPfxrel, hw]

variable (hw : (s.eccFound ecc).mayWriteCtx rdr c = true) {v : Nat}
include hw

theorem exec_kvPfxrel_stale (hv : (s.eccFound ecc).pfxLive c v = none) :
    exec (.kvPfxrel rdr c ⟨v, ecc⟩) s = .next (((s.eccFound ecc).wr .kvPfxstatus c Status.kvPfxInvalid.code).reply rdr .ok 0) := by
  change execKvPfxrel rdr c ⟨v, ecc⟩ s = _
  simp [execKvPfxrel, hw, hv]

theorem exec_kvPfxrel_releases {k : Nat} (hv : (s.eccFound ecc).pfxLive c v = some k) :
    exec (.kvPfxrel rdr c ⟨v, ecc⟩) s = .next ((((s.eccFound ecc).pfxReleased c k).tellRelease c v).reply rdr .ok 0) := by
  change execKvPfxrel rdr c ⟨v, ecc⟩ s = _
  simp only [execKvPfxrel, hw, hv]
  rfl

end

/-! ## The end of a spill or fill -/

/-- R198: the count of the fills, or of the spills. -/
def moveCount (fill : Bool) : Reg := if fill then .kvFills else .kvSpills

/-- R199: the run of a sequence is lost. -/
def State.loseRun (s : State) (idx : Nat) : State := s.setSeq idx { s.seqAt idx with lost := true }

theorem State.loseRun_lost (s : State) (idx : Nat) : ((s.loseRun idx).seqAt idx).lost = true := by
  rw [State.loseRun, State.seqAt, State.setSeq, sget_sput_same]

theorem moveCount_not_countsPages (fill : Bool) : (moveCount fill).countsPages = false := by cases fill <;> rfl

theorem moveCount_ne_not (fill : Bool) : (moveCount (!fill)).ctorIdx ≠ (moveCount fill).ctorIdx := by cases fill <;> decide

section
variable {s : State} {fill : Bool} {idx entry : Nat}

theorem State.endMove_none (h : s.kv.moves.find? (fun m => m.idx = idx ∧ m.entry = entry ∧ m.fill = fill) = none) :
    s.endMove fill idx entry = s := by
  simp only [State.endMove, h]

variable {m : KvMove} (hm : s.kv.moves.find? (fun m => m.idx = idx ∧ m.entry = entry ∧ m.fill = fill) = some m)
include hm

/-- R198: a copy that is made is counted after work on pages alone; the context may then be due a boundary. -/
theorem State.endMove_copied (hok : ((s.moveOver idx entry).copyPage m).2 = .ok) :
    ∃ (u : State) (c : Nat) (x : StepState), u.offPages = (s.moveOver idx entry).offPages
      ∧ s.endMove fill idx entry = (u.bump (moveCount fill) 0 1).setStep c x := by
  have hcopy := (s.moveOver idx entry).copyPage_offPages m
  generalize hp : (s.moveOver idx entry).copyPage m = p at hok hcopy
  obtain ⟨u, e⟩ := p
  obtain rfl : e = .ok := hok
  unfold State.moveOver at hp
  simp only [State.endMove, hm, hp]
  refine ⟨_, _, _, ?pages, rfl⟩
  simpa using hcopy

/-- R199, log entry 103: a copy that is not made drops the page it was to write; where the content of its source is lost, the page is lost, and so is
the sequence's run. -/
theorem State.endMove_failed (hbad : ((s.moveOver idx entry).copyPage m).2 ≠ .ok) {u : State}
    (hu : ((s.moveOver idx entry).copyPage m).1 = u) :
    s.endMove fill idx entry =
      if u.pageGone m.src then ((((u.pagePoison m.src).losePage m.src).unpinPage m.src).refDrop m.dst).loseRun idx
      else (u.unpinPage m.src).refDrop m.dst := by
  generalize hp : (s.moveOver idx entry).copyPage m = p at hbad hu
  obtain ⟨w, e⟩ := p
  obtain rfl : w = u := hu
  unfold State.moveOver at hp
  simp only [State.endMove, hm, hp]
  split
  · next h => rw [if_neg (by simpa using h)]
  · next h => rw [if_pos (by simpa using h)]; rfl

end

/-! ## The obligation -/

section
variable {s : State} {fill : Bool} {idx entry : Nat} {m : KvMove}
  (hm : s.kv.moves.find? (fun m => m.idx = idx ∧ m.entry = entry ∧ m.fill = fill) = some m)
include hm

theorem State.endMove_copied_counts (hok : ((s.moveOver idx entry).copyPage m).2 = .ok) :
    (s.endMove fill idx entry).kv.moves = (s.moveOver idx entry).kv.moves
      ∧ (s.endMove fill idx entry).rd (moveCount fill) 0 = (s.rd (moveCount fill) 0 + 1) % 2 ^ (moveCount fill).info.width
      ∧ (s.endMove fill idx entry).rd (moveCount (!fill)) 0 = s.rd (moveCount (!fill)) 0 := by
  obtain ⟨u, c, x, hu, hend⟩ := State.endMove_copied hm hok
  rw [hend]
  refine ⟨(State.moves_of_offPages hu :), ?counted, ?other⟩
  case counted =>
    rw [State.setStep_rd, State.rd_bump_same, State.rd_of_offPages hu (moveCount_not_countsPages _)]
    rfl
  case other =>
    rw [State.setStep_rd, State.rd_bump_reg _ _ _ _ (moveCount_ne_not _), State.rd_of_offPages hu (moveCount_not_countsPages _)]
    rfl

theorem State.endMove_stays (hbad : ((s.moveOver idx entry).copyPage m).2 ≠ .ok)
    (hgone : ((s.moveOver idx entry).copyPage m).1.pageGone m.src = false) :
    s.endMove fill idx entry = (((s.moveOver idx entry).copyPage m).1.unpinPage m.src).refDrop m.dst
      ∧ (s.endMove fill idx entry).seqAt idx = s.seqAt idx := by
  have hend : s.endMove fill idx entry = (((s.moveOver idx entry).copyPage m).1.unpinPage m.src).refDrop m.dst := by
    rw [State.endMove_failed hm hbad rfl, hgone]; rfl
  have hpages : (s.endMove fill idx entry).offPages = (s.moveOver idx entry).offPages := by simp [hend]
  exact ⟨hend, State.seqAt_of_offPages hpages idx⟩

theorem State.endMove_lost (hbad : ((s.moveOver idx entry).copyPage m).2 ≠ .ok)
    (hgone : ((s.moveOver idx entry).copyPage m).1.pageGone m.src = true) :
    ((s.endMove fill idx entry).seqAt idx).lost = true ∧ (s.endMove fill idx entry).pageLost m.src = true
      ∧ (s.endMove fill idx entry).kv.moves = (s.moveOver idx entry).kv.moves := by
  rw [State.endMove_failed hm hbad rfl, if_pos hgone]
  generalize hu : ((s.moveOver idx entry).copyPage m).1 = u
  have hcopy : u.kv.moves = (s.moveOver idx entry).kv.moves := by
    rw [← hu]; exact State.moves_of_offPages (State.copyPage_offPages _ m)
  generalize hw : (u.pagePoison m.src).losePage m.src = w
  have hlost : w.pageLost m.src = true := by rw [← hw]; exact State.pageLost_losePage _ _
  have hmoves : w.kv.moves = u.kv.moves := State.moves_of_offErrors (by simp [← hw])
  have hback : ((w.unpinPage m.src).refDrop m.dst).offPages = w.offPages := by simp
  refine ⟨State.loseRun_lost _ _, ?_, ?_⟩
  · exact (State.pageLost_of_offPages hback m.src).trans hlost
  · exact (State.moves_of_offPages hback).trans (hmoves.trans hcopy)

end

/-- What the release of a live handle leaves, whatever its context tells a group. -/
theorem State.pfxReleased_told {s : State} {c v k : Nat} (hv : s.pfxLive c v = some k) {t : State}
    (ht : t = (s.pfxReleased c k).tellRelease c v) :
    t.pfx c k = { s.pfx c k with live := false } ∧ t.pfxLive c v = none ∧ t.rd .kvPfxstatus c = 0
      ∧ t.rd .kvPfxlive c = (s.rd .kvPfxlive c - 1) % 2 ^ Reg.kvPfxlive.info.width := by
  rw [State.tellRelease_frame] at ht
  have hslot : t.pfx c k = { s.pfx c k with live := false } := by rw [ht]; exact s.pfxReleased_pfx c k
  have hstale : t.pfxLive c v = none := State.pfxLive_eq_none (by rw [State.slot_of_pfxLive hv, hslot])
  refine ⟨hslot, hstale, ?_, ?_⟩
  · rw [ht]; exact s.pfxReleased_kvPfxstatus c k
  · rw [ht]; exact s.pfxReleased_kvPfxlive c k

/-- Settles O35. A release drops a page list and clears one slot; the end of a copy works on pages, and what work on pages and the report of their
errors leave alone gives the rest. -/
theorem keyValueCommandsComplete : Obligations.KeyValueCommandsComplete := by
  unfold Obligations.KeyValueCommandsComplete
  refine ⟨?releases, ?spilled, ?filled, ?cowWait, ?releasesAlone, ?stale, ?rights, ?spillStays, ?spillLost, ?spillNone, ?fillStays, ?fillLost,
    ?fillNone⟩
  case releases =>
    intro s rdr c v k ecc hw hv
    obtain ⟨hslot, hstale, hstatus, hlive⟩ := State.pfxReleased_told hv rfl
    exact ⟨_, exec_kvPfxrel_releases hw hv, hslot, hstale, hstatus, hlive, rfl⟩
  case spilled =>
    intro s idx entry m ecc hm hok
    exact ⟨_, rfl, State.endMove_copied_counts hm hok⟩
  case filled =>
    intro s idx entry m ecc hm hok
    exact ⟨_, rfl, State.endMove_copied_counts hm hok⟩
  case cowWait => exact fun s n => ⟨s, rfl, rfl⟩
  case releasesAlone =>
    intro s rdr c v k ecc hw hv halone
    refine ⟨_, exec_kvPfxrel_releases hw hv, ?_⟩
    rw [State.tellRelease_alone ((State.pfxReleased_seqLead _ c k).trans halone) v]
    rfl
  case stale => exact fun s rdr c v ecc hw hv => ⟨_, exec_kvPfxrel_stale hw hv, rfl⟩
  case rights => exact fun s rdr c v ecc hw => ⟨_, exec_kvPfxrel_rights hw v, rfl⟩
  case spillStays | fillStays =>
    intro s idx entry m ecc hm hbad hgone
    exact ⟨_, rfl, State.endMove_stays hm hbad hgone⟩
  case spillLost | fillLost =>
    intro s idx entry m ecc hm hbad hgone
    exact ⟨_, rfl, State.endMove_lost hm hbad hgone⟩
  case spillNone | fillNone => exact fun s idx entry ecc hnone => ⟨_, rfl, State.endMove_none hnone⟩

end Sys2Proof.Machine
end

section
/-!
PROOFS. The register fields that stand while poison met by a read is reported (R280, R286, R287): a proposal counts the bytes sent (R301), the memory
counts its errors, loses pages and may fence a channel, and an event counts on its page (R473).
-/
namespace Sys2Proof.Machine
open Sys2Proof

/-! ## Proposals to the flight (R317, R340) -/

section
variable {q : Reg} (hq : q.ctorIdx ≠ Reg.spnTxbytes.ctorIdx) (j : Nat)
include hq

theorem State.sendFrame_rd (s : State) (n : Nat) (l : SpanLink) (f : Frame) : (s.sendFrame n l f).rd q j = s.rd q j := by
  have hspend : (s.keelSpend n f).rd q j = s.rd q j := by unfold State.keelSpend; split <;> rfl
  exact (State.rd_bump_reg _ _ _ _ hq).trans hspend

theorem State.pumpN_rd (n fuel : Nat) (s : State) : (s.pumpN n fuel).rd q j = s.rd q j := by
  induction fuel generalizing s with
  | zero => rfl
  | succ fuel ih =>
    unfold State.pumpN
    split
    · rfl
    · split
      · rfl
      · rw [ih, State.sendFrame_rd hq]

theorem State.route_rd (s : State) (f : Frame) : (s.route f).rd q j = s.rd q j := by
  have hhop : (s.nextHop f.dst).1.rd q j = s.rd q j := by unfold State.nextHop; dsimp only; split <;> rfl
  unfold State.route
  split
  · next e =>
    rw [e] at hhop
    unfold State.pump
    split
    · exact (State.pumpN_rd hq j _ _ _).trans hhop
    · exact hhop
  · next e => rw [e] at hhop; exact hhop

theorem State.propose_rd (s : State) (kind : Nat) (body : List Byte) : (s.propose kind body).rd q j = s.rd q j := by
  unfold State.propose State.ledgerTo
  split
  · rfl
  · split
    · rfl
    · exact s.route_rd hq j _

/-- R340: the module's own fault changes no register field but the count of bytes sent. -/
theorem State.declareFault_rd (s : State) (reason : Status) : (s.declareFault reason).rd q j = s.rd q j := by
  unfold State.declareFault
  split
  · exact State.propose_rd hq j _ _ _
  · rfl

end

/-! ## Poison (R280, R286, R287) -/

/-- The register fields that a report of poison counts and shows in. -/
def poisonRegs : List Reg :=
  [.spnTxbytes, .evtPending, .evtCount, .ctxEvtlost, .ctxState, .memState, .fenced, .memUe, .memPoisoned, .memRetireFullf, .cxlPoison,
    .kvNearfree, .kvFarfree, .kvLostpages]

section
variable {q : Reg} (hq : ∀ r ∈ poisonRegs, q.ctorIdx ≠ r.ctorIdx) (j : Nat) (s : State)
include hq

theorem State.wr_rd_of_poisonRegs {r : Reg} (hr : r ∈ poisonRegs) (i v : Nat) : (s.wr r i v).rd q j = s.rd q j :=
  s.rd_wr_reg i j v (hq r hr)

theorem State.raise_rd_of_poisonRegs (page : Nat) (st : Status) (ctx : Option Nat) (a b : Nat) :
    (s.raise page st ctx a b).rd q j = s.rd q j :=
  s.raise_rd_reg page st ctx a b q j (hq .evtPending (by simp [poisonRegs])) (hq .evtCount (by simp [poisonRegs]))
    (hq .ctxEvtlost (by simp [poisonRegs]))

theorem State.declareFault_rd_of_poisonRegs (reason : Status) : (s.declareFault reason).rd q j = s.rd q j :=
  s.declareFault_rd (hq .spnTxbytes (by simp [poisonRegs])) j reason

theorem State.losePage_rd (p : Nat) : (s.losePage p).rd q j = s.rd q j := by
  unfold State.losePage
  split
  · rfl
  · refine (State.wr_rd_of_poisonRegs hq j _ (r := .kvLostpages) (by simp [poisonRegs]) _ _).trans ?_
    dsimp only
    split
    · exact s.wr_rd_of_poisonRegs hq j (by split <;> simp [poisonRegs]) _ _
    · rfl

theorem State.losePageAt_rd (far : Bool) (pa : Nat) : (s.losePageAt far pa).rd q j = s.rd q j := by
  unfold State.losePageAt
  split
  dsimp only
  split
  · exact s.losePage_rd hq j _
  · split
    · exact s.losePage_rd hq j _
    · rfl

theorem State.retireStart_rd (f : Nat) : (s.retireStart f).rd q j = s.rd q j := by
  unfold State.retireStart
  split
  · rfl
  · split
    · rfl
    · split
      · rfl
      · exact (State.raise_rd_of_poisonRegs hq j _ _ _ _ _ _).trans (State.wr_rd_of_poisonRegs hq j _ (by simp [poisonRegs]) _ _)

theorem State.fenceChannel_rd (c : Nat) : (s.fenceChannel c).rd q j = s.rd q j := by
  unfold State.fenceChannel
  split
  · rfl
  · rw [State.declareFault_rd_of_poisonRegs hq, State.wr_rd_of_poisonRegs hq _ _ (by simp [poisonRegs]),
      State.wr_rd_of_poisonRegs hq _ _ (by simp [poisonRegs])]

theorem State.granuleBad_rd (pa : Nat) : (s.granuleBad pa).rd q j = s.rd q j := by
  unfold State.granuleBad
  dsimp only
  generalize hu : State.losePageAt _ false pa = u
  have hlost : u.rd q j = s.rd q j := by
    rw [← hu]
    exact (State.losePageAt_rd hq j _ _ _).trans (s.wr_rd_of_poisonRegs hq j (r := .memUe) (by simp [poisonRegs]) _ _)
  split
  · exact hlost
  · generalize hv : State.retireStart _ (pa / 2 ^ 21) = v
    have hretire : v.rd q j = s.rd q j := by
      rw [← hv, State.retireStart_rd hq]
      exact (u.wr_rd_of_poisonRegs hq j (r := .memPoisoned) (by simp [poisonRegs]) _ _).trans hlost
    split
    · exact (v.fenceChannel_rd hq j _).trans hretire
    · exact hretire

theorem State.startReset_rd (c : Nat) : (s.startReset c).rd q j = s.rd q j :=
  s.wr_rd_of_poisonRegs hq j (r := .ctxState) (by simp [poisonRegs]) c 3

theorem State.tableError_rd (pa : Nat) : (s.tableError pa).rd q j = s.rd q j := by
  unfold State.tableError
  split
  · rw [State.startReset_rd hq, State.raise_rd_of_poisonRegs hq]
  · split
    · exact s.declareFault_rd_of_poisonRegs hq j _
    · rfl

theorem State.uncorrectableError_rd (pa : Nat) : (s.uncorrectableError pa).rd q j = s.rd q j :=
  (State.tableError_rd hq j _ pa).trans (s.granuleBad_rd hq j pa)

theorem State.cxlPoisonFound_rd (pa : Nat) : (s.cxlPoisonFound pa).rd q j = s.rd q j := by
  unfold State.cxlPoisonFound
  split
  · rfl
  · exact (State.losePageAt_rd hq j _ _ _).trans (s.wr_rd_of_poisonRegs hq j (r := .cxlPoison) (by simp [poisonRegs]) _ _)

/-- R280, R287: poison that a read meets changes no register field but those of its report. -/
theorem State.poisonMet_rd (ps : List (Place × Nat)) : (s.poisonMet ps).rd q j = s.rd q j := by
  refine foldl_keeps (State.rd · q j) _ (fun u p => ?_) ps s
  split <;> split
  · split
    · rfl
    · exact u.cxlPoisonFound_rd hq j _
  · rfl
  · split
    · rfl
    · exact u.uncorrectableError_rd hq j _
  · rfl

/-- A read changes no register field but those that it counts and charges in and those of a report of poison. -/
theorem State.readDva_rd (hcounts : ∀ r ∈ readCounts, q.ctorIdx ≠ r.ctorIdx) (ctx dva n : Nat) : (s.readDva ctx dva n).1.rd q j = s.rd q j := by
  unfold State.readDva
  split
  · exact s.countDvaRead_rd hcounts j ctx dva n
  · split
    · exact s.poisonMet_rd hq j _
    · rfl
  · rfl

end

end Sys2Proof.Machine
end

section
/-!
PROOFS. What the operations of a sampler unit do (R213 to R222): a pass over a row, the draw of its token, the merge of a row's shards.
-/
namespace Sys2Proof.Machine
open Sys2Proof

/-! ## Contexts' steps -/

@[simp] theorem State.setStep_step (s : State) (c : Nat) (x : StepState) : (s.setStep c x).step_ c = x := sget_sput_same _ _ _ _

theorem State.setStep_step_ne (s : State) {c d : Nat} (x : StepState) (h : d ≠ c) : (s.setStep c x).step_ d = s.step_ d :=
  sget_sput_ne _ _ _ _ h

theorem State.step_of_seq {s t : State} (h : t.seq = s.seq) (c : Nat) : t.step_ c = s.step_ c := by rw [State.step_, h]; rfl

theorem State.seq_of_offErrors {s t : State} (h : t.offErrors = s.offErrors) : t.seq = s.seq := congrArg (·.seq) h

theorem State.tly_of_offErrors {s t : State} (h : t.offErrors = s.offErrors) : t.tly = s.tly := congrArg (·.tly) h

/-- R222: a unit whose messages have been taken waits no more. -/
theorem State.takeWait_waitDone (s : State) (a : Agent) : (s.takeWait a).waitDone a = none := by
  simp [State.waitDone, State.takeWait]

/-! ## Reads -/

section
variable (s : State) (c : Nat)

@[simp] theorem State.chargeChannel_offErrors (ch n : Nat) : (s.chargeChannel ch c n).offErrors = s.offErrors := by
  unfold State.chargeChannel
  dsimp only
  split <;> rfl

@[simp] theorem State.countRead_offErrors (far : Bool) (pa n : Nat) : (s.countRead (some c) far pa n).offErrors = s.offErrors := by
  unfold State.countRead
  split
  · rfl
  · refine (foldl_keeps State.offErrors _ (fun u _ => u.chargeChannel_offErrors c _ _) _ _).trans ?_
    exact foldl_keeps State.offErrors _ (fun u _ => u.bump_offErrors _ _ _) _ s

/-- A read counts, is charged, and reports the poison that it meets; nothing else of the state changes. -/
@[simp] theorem State.readDva_offErrors (dva n : Nat) : (s.readDva c dva n).1.offErrors = s.offErrors := by
  unfold State.readDva State.countDvaRead
  split
  · split
    · rfl
    · exact foldl_keeps State.offErrors _ (fun u _ => u.countRead_offErrors c _ _ _) _ s
  · split
    · exact s.poisonMet_offErrors _
    · rfl
  · rfl

end

/-! ## A pass over a row (R213, R215, R216) -/

section
variable (s : State) (u c : Nat)

theorem State.raise_smpCtx (page : Nat) (st : Status) (ctx : Option Nat) (a b : Nat) (j : Nat) :
    (s.raise page st ctx a b).rd .smpCtx j = s.rd .smpCtx j :=
  s.raise_rd_reg page st ctx a b .smpCtx j (by decide) (by decide) (by decide)

theorem State.readDva_smpCtx (dva n j : Nat) : (s.readDva c dva n).1.rd .smpCtx j = s.rd .smpCtx j :=
  s.readDva_rd (by decide) j (by decide) c dva n

theorem State.rowParam_smpCtx (k j : Nat) : (s.rowParam u c k).1.rd .smpCtx j = s.rd .smpCtx j := by
  have hread : (s.readParam c k).1.rd .smpCtx j = s.rd .smpCtx j := by
    have h := s.readDva_smpCtx c (s.rd .smpParambase c + 16 * k) 16 j
    unfold State.readParam
    split
    · next e => rw [e] at h; exact h
    · next e => rw [e] at h; exact h
  unfold State.rowParam
  split
  · next e => rw [e] at hread; exact hread
  · next e =>
    rw [e] at hread
    exact (State.raise_smpCtx _ _ _ _ _ _ _).trans ((State.rd_bump_reg _ _ _ _ (by decide)).trans hread)

theorem State.rowPass_smpCtx (row kc : Nat) (p : SampParam) (toplp : Bool) (j : Nat) :
    (s.rowPass u c row kc p toplp).1.rd .smpCtx j = s.rd .smpCtx j := by
  have hread : (s.rowLogits c row).1.rd .smpCtx j = s.rd .smpCtx j := by
    have h := s.readDva_smpCtx c (s.rd .smpLogitbase c + row * s.rd .smpLogitstride c)
      ((if s.flag .smpLogitfmt c then 2 else 4) * s.rd .smpVoclen c) j
    unfold State.rowLogits
    dsimp only
    split
    · next e => rw [e] at h; exact h
    · next e => rw [e] at h; exact h
  unfold State.rowPass
  split
  · next e => rw [e] at hread; exact (State.raise_smpCtx _ _ _ _ _ _ _).trans hread
  · next v xs e =>
    rw [e] at hread
    have hlogits : (v.bump .smpLogits u xs.length).rd .smpCtx j = s.rd .smpCtx j := (State.rd_bump_reg _ _ _ _ (by decide)).trans hread
    dsimp only
    generalize hw : (if xs.any f32IsNan = true then _ else _ : State) = w
    have hnan : w.rd .smpCtx j = s.rd .smpCtx j := by
      rw [← hw]
      split
      · exact (State.rd_bump_reg _ _ _ _ (by decide)).trans hlogits
      · exact hlogits
    split
    · exact hnan
    · exact hnan

/-- The pass over a row is of that row. -/
theorem State.rowPass_row (row kc : Nat) (p : SampParam) (toplp : Bool) : (s.rowPass u c row kc p toplp).2.row = row := by
  unfold State.rowPass
  split
  · rfl
  · rfl

/-- R216: after a unit's pass over a row SMP_CTX of the unit names the row's context. -/
theorem State.rowRun_smpCtx (ecc : List (Nat × EccError)) (row idx : Nat) : (s.rowRun ecc u c row idx).1.rd .smpCtx u = c % 64 :=
  (State.rowPass_smpCtx _ _ _ _ _ _ _ _).trans ((State.rowParam_smpCtx _ _ _ _ _).trans (State.rd_wr_same _ _ _ _))

/-! ## The draw of a row's token (R217 to R219) -/

/-- A draw takes an output, counts and may report an empty row; of the sequencer's state it changes the results of the context's step alone, which gain
one of the row. -/
theorem State.rowDraw_result (r : RowPass) :
    ∃ (w : State) (x : RowResult), w.seq = s.seq ∧ w.tly = s.tly ∧ (∀ j, w.rd .smpCtx j = s.rd .smpCtx j) ∧ x.row = r.row
      ∧ s.rowDraw u c r = w.setStep c { s.step_ c with results := (s.step_ c).results ++ [x] } := by
  unfold State.rowDraw
  dsimp only
  generalize chooseToken r _ = ch
  generalize hv : (if r.empty = true then _ else _ : State) = v
  have hempty : v.seq = s.seq ∧ v.tly = s.tly ∧ ∀ j, v.rd .smpCtx j = s.rd .smpCtx j := by
    rw [← hv]
    split
    · refine ⟨?_, ?_, fun j => ?_⟩
      · rw [State.raise_frame]; rfl
      · rw [State.raise_frame]; rfl
      · exact (State.raise_smpCtx _ _ _ _ _ _ _).trans (State.rd_bump_reg _ _ _ _ (by decide))
    · exact ⟨rfl, rfl, fun _ => rfl⟩
  generalize hw : State.bump _ .smpCtxrows c 1 = w
  have hcounted : w.seq = v.seq ∧ w.tly = v.tly ∧ ∀ j, w.rd .smpCtx j = v.rd .smpCtx j := by
    rw [← hw]
    split
    · exact ⟨rfl, rfl, fun j => by repeat rw [State.rd_bump_reg _ _ _ _ (by decide)]⟩
    · exact ⟨rfl, rfl, fun j => by repeat rw [State.rd_bump_reg _ _ _ _ (by decide)]⟩
  obtain ⟨hseq, htly, hctx⟩ := hempty
  obtain ⟨hseq', htly', hctx'⟩ := hcounted
  have hstep : w.step_ c = s.step_ c := State.step_of_seq (hseq'.trans hseq) c
  exact ⟨w, _, hseq'.trans hseq, htly'.trans htly, fun j => (hctx' j).trans (hctx j), rfl, by rw [hstep]⟩

theorem State.rowDraw_results (r : RowPass) :
    ((s.rowDraw u c r).step_ c).results.map (·.row) = (s.step_ c).results.map (·.row) ++ [r.row] := by
  obtain ⟨w, x, -, -, -, hrow, hdraw⟩ := s.rowDraw_result u c r
  simp [hdraw, hrow]

theorem State.rowDraw_table (r : RowPass) : (s.rowDraw u c r).seq.table = s.seq.table := by
  obtain ⟨w, x, hseq, -, -, -, hdraw⟩ := s.rowDraw_result u c r
  rw [hdraw, ← hseq]; rfl

theorem State.rowDraw_tly (r : RowPass) : (s.rowDraw u c r).tly = s.tly := by
  obtain ⟨w, x, -, htly, -, -, hdraw⟩ := s.rowDraw_result u c r
  rw [hdraw]; exact htly

theorem State.rowDraw_smpCtx (r : RowPass) (j : Nat) : (s.rowDraw u c r).rd .smpCtx j = s.rd .smpCtx j := by
  obtain ⟨w, x, -, -, hctx, -, hdraw⟩ := s.rowDraw_result u c r
  rw [hdraw]; exact hctx j

theorem State.rowDraw_step_ne (r : RowPass) {d : Nat} (h : d ≠ c) : (s.rowDraw u c r).step_ d = s.step_ d := by
  obtain ⟨w, x, hseq, -, -, -, hdraw⟩ := s.rowDraw_result u c r
  rw [hdraw, State.setStep_step_ne _ _ h, State.step_of_seq hseq]

/-! ## The merge of a row's shards (R222) -/

/-- Reading a row's messages reads memory and reports those excluded. -/
theorem State.rowMessages_offErrors (step : Nat) (own : RowPass) : (s.rowMessages u c step own).1.offErrors = s.offErrors := by
  unfold State.rowMessages
  refine foldl_keeps (fun a : State × List RowPass => a.1.offErrors) _ (fun a k => ?_) _ (s, [])
  dsimp only
  split
  · exact a.1.readDva_offErrors _ _ _
  · exact (State.raise_offErrors _ _ _ _ _ _).trans (a.1.readDva_offErrors _ _ _)

/-- R222: unit u merges a row over every shard and draws its token. -/
def State.rowMerge (step : Nat) (r : RowPass) : State :=
  (s.rowMessages u c step r).1.rowDraw u c (mergePasses r (s.rowMessages u c step r).2)

theorem State.rowMerge_results (step : Nat) (r : RowPass) :
    ((s.rowMerge u c step r).step_ c).results.map (·.row) = (s.step_ c).results.map (·.row) ++ [r.row] := by
  rw [State.rowMerge, State.rowDraw_results, State.step_of_seq (State.seq_of_offErrors (s.rowMessages_offErrors u c step r))]
  rfl

theorem State.rowMerge_tly (step : Nat) (r : RowPass) : (s.rowMerge u c step r).tly = s.tly :=
  (State.rowDraw_tly _ _ _ _).trans (State.tly_of_offErrors (s.rowMessages_offErrors u c step r))

theorem State.rowMerge_step_ne (step : Nat) (r : RowPass) {d : Nat} (h : d ≠ c) : (s.rowMerge u c step r).step_ d = s.step_ d :=
  (State.rowDraw_step_ne _ _ _ _ h).trans (State.step_of_seq (State.seq_of_offErrors (s.rowMessages_offErrors u c step r)) d)

/-- R222: the merges of a step's rows, in the order of their passes. -/
def State.mergeRows (step : Nat) (l : List RowPass) : State := l.foldl (fun s r => s.rowMerge u c step r) s

theorem State.mergeRows_results (step : Nat) (l : List RowPass) (s : State) :
    ((s.mergeRows u c step l).step_ c).results.map (·.row) = (s.step_ c).results.map (·.row) ++ l.map (·.row) := by
  induction l generalizing s with
  | nil => simp [State.mergeRows]
  | cons r l ih =>
    change (((s.rowMerge u c step r).mergeRows u c step l).step_ c).results.map (·.row) = _
    rw [ih, State.rowMerge_results, List.map_cons, List.append_assoc, List.singleton_append]

theorem State.mergeRows_tly (step : Nat) (l : List RowPass) : (s.mergeRows u c step l).tly = s.tly :=
  foldl_keeps State.tly _ (fun v r => v.rowMerge_tly u c step r) l s

theorem State.mergeRows_step_ne (step : Nat) (l : List RowPass) {d : Nat} (h : d ≠ c) : (s.mergeRows u c step l).step_ d = s.step_ d :=
  foldl_keeps (State.step_ · d) _ (fun v r => v.rowMerge_step_ne u c step r h) l s

end

end Sys2Proof.Machine
end

section
/-!
PROOFS. O36: SAMPLER_ROW (R213, R216), SAMPLER_MERGE (R222) and SMP_FENCE_REQ (R214, R223), one lemma for each way that each of them can go.
-/
namespace Sys2Proof.Machine
open Sys2Proof

/-! ## SAMPLER_ROW -/

/-- R213, log entry 118: unit u may take a row, which stands in entry e of its context's step. -/
def State.takesRow (s : State) (u c row : Nat) (e : StepEntry) : Prop :=
  (s.step_ c).rowEntry row = some e ∧ s.unitFree u c = true ∧ (s.step_ c).stage = .sampling ∧ (s.step_ c).results.any (·.row = row) = false
    ∧ (s.step_ c).passes.any (·.row = row) = false ∧ s.rd .ctxState c = 2

/-- R221: the state in which a FOLLOWER has counted its row, which gets no token here. -/
def State.rowCounted (s : State) (u c row : Nat) : State :=
  ((s.bump .smpRows u 1).bump .smpCtxrows c 1).setStep c { s.step_ c with results := (s.step_ c).results ++ [⟨row, 0, 0, []⟩] }

/-- R221: the message with which a FOLLOWER sends a row's candidates to the LEAD. -/
def State.rowSent (s : State) (c row num : Nat) (r : RowPass) : Out :=
  .remote (s.rd .seqLeadmbr c) c
    (s.rd .smpMergebase c + (row * s.rd .seqGroupsize c + s.rd .smpTpindex c - 1) * (64 + 8 * s.rd .smpKmax c))
    (mergeMessage num (s.rd .smpTpindex c) r) (s.rd .smpMergetally c) 1

/-- R222: the state in which the LEAD of a group has kept a row's pass, for its unit w to merge. -/
def State.passKept (s : State) (c w : Nat) (r : RowPass) : State :=
  s.setStep c { s.step_ c with passes := (s.step_ c).passes ++ [r], mergeUnit := some w }

section
variable {s : State} {u c row : Nat}

theorem exec_samplerRow_untaken (h : (s.step_ c).rowEntry row = none ∨ s.unitFree u c = false ∨ (s.step_ c).stage ≠ .sampling
      ∨ (s.step_ c).results.any (·.row = row) = true ∨ (s.step_ c).passes.any (·.row = row) = true ∨ s.rd .ctxState c ≠ 2)
    (ecc : List (Nat × EccError)) : exec (.samplerRow u c row ecc) s = .next s := by
  change execSamplerRow u c row ecc s = _
  unfold execSamplerRow
  dsimp only
  cases hrow : (s.step_ c).rowEntry row with
  | none => rfl
  | some e =>
    rw [hrow] at h
    exact if_pos (by simpa using h)

variable {e : StepEntry} (h : s.takesRow u c row e) {ecc : List (Nat × EccError)} {w : State} {r : RowPass}
  (hw : (s.rowRun ecc u c row e.idx).1 = w) (hr : (s.rowRun ecc u c row e.idx).2 = r)
include h hw hr

/-- A row that is taken is passed over; what becomes of the pass is its context's role. -/
theorem exec_samplerRow_taken :
    exec (.samplerRow u c row ecc) s = .next (
      if w.rd .seqRole c = 2 then
        ((w.rowCounted u c row).emit ((w.rowCounted u c row).rowSent c row (w.step_ c).num r)).sendReport c
      else if 0 < w.rd .seqGroupsize c then
        if (w.step_ c).mergeUnit.isSome then w.passKept c ((w.step_ c).mergeUnit.getD u) r
        else (w.passKept c ((w.step_ c).mergeUnit.getD u) r).mergeWait u c
      else w.rowDraw u c r) := by
  obtain ⟨hrow, hfree, hstage, hresult, hpass, hctx⟩ := h
  change execSamplerRow u c row ecc s = _
  unfold execSamplerRow
  dsimp only
  rw [hrow]
  refine (if_neg (by simp [hfree, hstage, hresult, hpass, hctx])).trans ?_
  unfold State.rowRun at hw hr
  dsimp only at hw hr
  rw [hw, hr]
  split
  · rfl
  · split
    · rfl
    · rfl

theorem exec_samplerRow_alone (hrole : w.rd .seqRole c ≠ 2) (hgroup : w.rd .seqGroupsize c = 0) :
    exec (.samplerRow u c row ecc) s = .next (w.rowDraw u c r) := by
  rw [exec_samplerRow_taken h hw hr, if_neg hrole, if_neg (by omega)]

theorem exec_samplerRow_lead (hrole : w.rd .seqRole c ≠ 2) (hgroup : 0 < w.rd .seqGroupsize c) (hfirst : (w.step_ c).mergeUnit = none) :
    exec (.samplerRow u c row ecc) s = .next ((w.passKept c u r).mergeWait u c) := by
  rw [exec_samplerRow_taken h hw hr, if_neg hrole, if_pos hgroup, hfirst]; rfl

theorem exec_samplerRow_leadMore (hrole : w.rd .seqRole c ≠ 2) (hgroup : 0 < w.rd .seqGroupsize c) {v : Nat}
    (hmerge : (w.step_ c).mergeUnit = some v) : exec (.samplerRow u c row ecc) s = .next (w.passKept c v r) := by
  rw [exec_samplerRow_taken h hw hr, if_neg hrole, if_pos hgroup, hmerge]; rfl

theorem exec_samplerRow_follower (hrole : w.rd .seqRole c = 2) :
    exec (.samplerRow u c row ecc) s =
      .next (((w.rowCounted u c row).emit ((w.rowCounted u c row).rowSent c row (w.step_ c).num r)).sendReport c) := by
  rw [exec_samplerRow_taken h hw hr, if_pos hrole]

end

/-- Where a unit already merges, keeping a pass changes the passes alone. -/
theorem State.passKept_merging {s : State} {c w : Nat} (h : (s.step_ c).mergeUnit = some w) (r : RowPass) :
    s.passKept c w r = s.setStep c { s.step_ c with passes := (s.step_ c).passes ++ [r] } := by
  rw [State.passKept, ← h]

section
variable (s : State) (u c row : Nat)

/-- The count of a FOLLOWER's row changes none of the fields that place its message. -/
theorem State.rowCounted_rowSent (num : Nat) (r : RowPass) : (s.rowCounted u c row).rowSent c row num r = s.rowSent c row num r := by
  have hrd (q : Reg) (h : q.ctorIdx ≠ Reg.smpRows.ctorIdx) (h' : q.ctorIdx ≠ Reg.smpCtxrows.ctorIdx) : (s.rowCounted u c row).rd q c = s.rd q c :=
    (State.rd_bump_reg _ _ _ _ h').trans (State.rd_bump_reg _ _ _ _ h)
  unfold State.rowSent
  rw [hrd .seqLeadmbr (by decide) (by decide), hrd .smpMergebase (by decide) (by decide), hrd .seqGroupsize (by decide) (by decide),
    hrd .smpTpindex (by decide) (by decide), hrd .smpKmax (by decide) (by decide), hrd .smpMergetally (by decide) (by decide)]

theorem State.rowCounted_smpRows : (s.rowCounted u c row).rd .smpRows u = (s.rd .smpRows u + 1) % 2 ^ Reg.smpRows.info.width :=
  (State.rd_bump_reg _ _ _ _ (by decide)).trans (State.rd_bump_same _ _ _ _)

/-- R167: a report changes only what leaves the module, and leaves after what left before. -/
theorem State.sendReport_frame : ∃ l, s.sendReport c = { s with out := s.out ++ l } := by
  unfold State.sendReport
  dsimp only
  split
  · exact ⟨_, rfl⟩
  · exact ⟨[], by rw [List.append_nil]⟩

end

/-! ## SAMPLER_MERGE -/

section
variable {s : State} {c : Nat}

theorem exec_samplerMerge_waits (h : (s.step_ c).mergeUnit = none ∨ (s.step_ c).passes.length < (s.step_ c).rows ∨ (s.step_ c).stage ≠ .sampling)
    (ecc : List (Nat × EccError)) : exec (.samplerMerge c ecc) s = .next s := by
  change execSamplerMerge c ecc s = _
  unfold execSamplerMerge
  dsimp only
  cases hmerge : (s.step_ c).mergeUnit with
  | none => rfl
  | some u =>
    rw [hmerge] at h
    exact if_pos (.inr (by simpa using h))

variable {u : Nat} (hmerge : (s.step_ c).mergeUnit = some u)
include hmerge

theorem exec_samplerMerge_messages (hin : s.messagesIn u c = false) (ecc : List (Nat × EccError)) : exec (.samplerMerge c ecc) s = .next s := by
  change execSamplerMerge c ecc s = _
  unfold execSamplerMerge
  dsimp only
  rw [hmerge]
  exact if_pos (.inl (by rw [hin]; rfl))

/-- R222: with the messages come and every row's own pass made, the rows are merged, and the merge ends. -/
theorem exec_samplerMerge_merges (hin : s.messagesIn u c = true) (hrows : (s.step_ c).rows ≤ (s.step_ c).passes.length)
    (hstage : (s.step_ c).stage = .sampling) (ecc : List (Nat × EccError)) {w : State}
    (hw : (((s.eccFound ecc).takeWait (.sampler u)).wr .smpRun u 0).mergeRows u c (s.step_ c).num (s.step_ c).passes = w) :
    exec (.samplerMerge c ecc) s =
      .next (w.setStep c { w.step_ c with merged := true, mergeUnit := none, passes := [], counted := true }) := by
  change execSamplerMerge c ecc s = _
  unfold execSamplerMerge
  dsimp only
  rw [hmerge]
  refine (if_neg (by simp [hin, hstage, hrows])).trans ?_
  rw [← hw]
  rfl

end

/-! ## SMP_FENCE_REQ -/

section
variable (s : State) (u : Nat)

/-- R214: handing a unit's rows to other units changes no register field but SMP_RUN of the unit. -/
theorem State.handAgain_rd {q : Reg} (hq : q.ctorIdx ≠ Reg.smpRun.ctorIdx) (j : Nat) : (s.handAgain u).rd q j = s.rd q j := by
  unfold State.handAgain
  dsimp only
  rw [State.rd_wr_reg _ _ _ _ hq, State.takeWait_rd, State.withdrawWait_rd]
  refine foldl_keeps (State.rd · q j) _ (fun v c => ?_) _ s
  split
  · rfl
  · rfl

theorem State.handAgain_smpRun : (s.handAgain u).rd .smpRun u = 0 := State.rd_wr_same _ _ _ _

variable {s}

/-- R214: a unit that is fenced shows it, with the reason, hands its rows again, and no field of these changes with what follows. -/
theorem State.fenceSampler_shows (hopen : s.flag .smpFenced u = false) (reason : Nat) :
    (s.fenceSampler u reason).rd .smpFenced u = 1 ∧ (s.fenceSampler u reason).rd .smpFencereason u = reason % 4
      ∧ (s.fenceSampler u reason).rd .fenced (smpPage u) = 1 ∧ (s.fenceSampler u reason).rd .smpRun u = 0 := by
  generalize ht : s.fenceSampler u reason = t
  unfold State.fenceSampler at ht
  rw [if_neg (by simp [hopen])] at ht
  dsimp only at ht
  generalize hw : State.handAgain _ u = w at ht
  have hfollows (q : Reg) (j : Nat) (hsent : q.ctorIdx ≠ Reg.spnTxbytes.ctorIdx) (hpending : q.ctorIdx ≠ Reg.evtPending.ctorIdx)
      (hcount : q.ctorIdx ≠ Reg.evtCount.ctorIdx) (hlost : q.ctorIdx ≠ Reg.ctxEvtlost.ctorIdx) : t.rd q j = w.rd q j := by
    rw [← ht]
    split
    · refine (State.declareFault_rd hsent j _ _).trans (foldl_keeps (State.rd · q j) _ (fun v c => ?_) _ w)
      split
      · exact State.raise_rd_reg _ _ _ _ _ _ _ _ hpending hcount hlost
      · rfl
    · rfl
  rw [hfollows .smpFenced u (by decide) (by decide) (by decide) (by decide), hfollows .smpFencereason u (by decide) (by decide) (by decide) (by decide),
    hfollows .fenced _ (by decide) (by decide) (by decide) (by decide), hfollows .smpRun u (by decide) (by decide) (by decide) (by decide), ← hw]
  refine ⟨?fenced, ?reason, ?page, State.handAgain_smpRun _ u⟩
  case fenced =>
    rw [State.handAgain_rd _ u (by decide), State.rd_wr_reg _ _ _ _ (by decide), State.rd_wr_reg _ _ _ _ (by decide), State.rd_wr_same]
    rfl
  case reason =>
    rw [State.handAgain_rd _ u (by decide), State.rd_wr_reg _ _ _ _ (by decide), State.rd_wr_same]
    rfl
  case page =>
    rw [State.handAgain_rd _ u (by decide), State.rd_wr_same]
    rfl

variable {u} (hu : u < 6)
include hu

theorem exec_smpFenceReq_rights {rdr : Reader} (hrdr : rdr ≠ .session 0) (v : Nat) :
    exec (.smpFenceReq rdr u v) s = .next (s.reply rdr .sesRights 0) := by
  change execSmpFenceReq rdr u v s = _
  rw [execSmpFenceReq, if_neg (by omega), if_pos hrdr]

theorem exec_smpFenceReq_session (v : Nat) :
    exec (.smpFenceReq (.session 0) u v) s = .next ((if v % 2 = 1 then s.fenceSampler u 2 else s).reply (.session 0) .ok 0) := by
  change execSmpFenceReq (.session 0) u v s = _
  rw [execSmpFenceReq, if_neg (by omega), if_neg (fun h => h rfl)]

theorem exec_smpFenceReq_fences {v : Nat} (hv : v % 2 = 1) :
    exec (.smpFenceReq (.session 0) u v) s = .next ((s.fenceSampler u 2).reply (.session 0) .ok 0) := by
  rw [exec_smpFenceReq_session hu, if_pos hv]

theorem exec_smpFenceReq_stays {v : Nat} (h : v % 2 = 0 ∨ s.flag .smpFenced u = true) :
    exec (.smpFenceReq (.session 0) u v) s = .next (s.reply (.session 0) .ok 0) := by
  rw [exec_smpFenceReq_session hu]
  rcases h with hzero | hfenced
  · rw [if_neg (by omega)]
  · rw [State.fenceSampler, if_pos hfenced, ite_self]

end

/-! ## The obligation -/

/-- What a merge leaves: the step merged with a result of every row, the unit's wait taken, and the other contexts' steps as they were. -/
theorem State.mergeRows_ended (s : State) (u c step : Nat) (l : List RowPass) {w t : State}
    (hw : ((s.takeWait (.sampler u)).wr .smpRun u 0).mergeRows u c step l = w)
    (ht : w.setStep c { w.step_ c with merged := true, mergeUnit := none, passes := [], counted := true } = t) :
    (t.step_ c).merged = true ∧ (t.step_ c).mergeUnit = none ∧ (t.step_ c).passes = [] ∧ (t.step_ c).counted = true
      ∧ (t.step_ c).results.map (·.row) = (s.step_ c).results.map (·.row) ++ l.map (·.row)
      ∧ t.waitDone (.sampler u) = none ∧ ∀ d, d ≠ c → t.step_ d = s.step_ d := by
  have hstep : t.step_ c = { w.step_ c with merged := true, mergeUnit := none, passes := [], counted := true } := by rw [← ht, State.setStep_step]
  have htly : t.tly = (s.takeWait (.sampler u)).tly := by rw [← ht, ← hw]; exact State.mergeRows_tly _ _ _ _ _
  have hresults : (w.step_ c).results.map (·.row) = (s.step_ c).results.map (·.row) ++ l.map (·.row) := by
    rw [← hw]; exact State.mergeRows_results _ _ _ _ _
  refine ⟨by rw [hstep], by rw [hstep], by rw [hstep], by rw [hstep], by rw [hstep]; exact hresults, ?wait, fun d hd => ?other⟩
  case wait =>
    rw [State.waitDone, htly]
    exact s.takeWait_waitDone (.sampler u)
  case other =>
    rw [← ht, State.setStep_step_ne _ _ hd, ← hw]
    exact State.mergeRows_step_ne _ _ _ _ _ hd

/-- Settles O36. A row that is taken is passed over, and its context's role decides between a draw, a pass kept and a message sent; a merge is a draw
for each row over what its messages hold; and reads, events and the module's own fault leave alone the sampler fields that the statement names. -/
theorem samplersComplete : Obligations.SamplersComplete := by
  unfold Obligations.SamplersComplete
  refine ⟨?alone, ?merges, ?fences, ?lead, ?leadMore, ?follower, ?untaken, ?waits, ?messages, ?stays, ?rights⟩
  case alone =>
    intro s u c row e ecc hrow hfree hstage hresult hpass hctx hrole hgroup
    refine ⟨_, exec_samplerRow_alone ⟨hrow, hfree, hstage, hresult, hpass, hctx⟩ rfl rfl hrole hgroup, rfl, ?_, ?_, State.rowDraw_table _ _ _ _⟩
    · rw [State.rowDraw_results]
      exact congrArg (_ ++ [·]) (State.rowPass_row _ _ _ _ _ _ _)
    · exact (State.rowDraw_smpCtx _ _ _ _ _).trans (s.rowRun_smpCtx u c ecc row e.idx)
  case merges =>
    intro s c u ecc hmerge hin hrows hstage
    exact ⟨_, exec_samplerMerge_merges hmerge hin hrows hstage ecc rfl, State.mergeRows_ended _ _ _ _ _ rfl rfl⟩
  case fences =>
    intro s u v hu hv hopen
    obtain ⟨hfenced, hreason, hpage, hrun⟩ := State.fenceSampler_shows u hopen 2
    exact ⟨_, exec_smpFenceReq_fences hu hv, hfenced, hreason, hpage, hrun, rfl⟩
  case lead =>
    intro s u c row e ecc hrow hfree hstage hresult hpass hctx hrole hgroup hfirst
    exact ⟨_, exec_samplerRow_lead ⟨hrow, hfree, hstage, hresult, hpass, hctx⟩ rfl rfl hrole hgroup hfirst, rfl⟩
  case leadMore =>
    intro s u c row e ecc w hrow hfree hstage hresult hpass hctx hrole hgroup hmerge
    exact ⟨_, exec_samplerRow_leadMore ⟨hrow, hfree, hstage, hresult, hpass, hctx⟩ rfl rfl hrole hgroup hmerge, State.passKept_merging hmerge _⟩
  case follower =>
    intro s u c row e ecc hrow hfree hstage hresult hpass hctx hrole
    generalize hw : (s.rowRun ecc u c row e.idx).1 = w at hrole ⊢
    generalize hr : (s.rowRun ecc u c row e.idx).2 = r
    have hexec := exec_samplerRow_follower ⟨hrow, hfree, hstage, hresult, hpass, hctx⟩ hw hr hrole
    obtain ⟨l, hreport⟩ := ((w.rowCounted u c row).emit ((w.rowCounted u c row).rowSent c row (w.step_ c).num r)).sendReport_frame c
    rw [hreport, State.rowCounted_rowSent] at hexec
    refine ⟨_, hexec, ?result, ?sent, w.rowCounted_smpRows u c row⟩
    case result => exact congrArg StepState.results (State.setStep_step _ c _)
    case sent => exact List.take_left' List.length_append
  case untaken => exact fun s u c row ecc h => ⟨_, exec_samplerRow_untaken h ecc, rfl⟩
  case waits => exact fun s c ecc h => ⟨_, exec_samplerMerge_waits h ecc, rfl⟩
  case messages => exact fun s c u ecc hmerge hin => ⟨_, exec_samplerMerge_messages hmerge hin ecc, rfl⟩
  case stays => exact fun s u v hu h => ⟨_, exec_smpFenceReq_stays hu h, rfl⟩
  case rights => exact fun s rdr u v hu hrdr => ⟨_, exec_smpFenceReq_rights hu hrdr v, rfl⟩

end Sys2Proof.Machine
end

section
/-!
PROOFS. The operations of a tally bank (R254 to R257, R512): what the completion of a wait leaves alone, what a bank's SIGNAL, WAIT, TAKE, SET and
READ give and leave for an ID that it translates, and for one that it does not.
-/
namespace Sys2Proof.Machine
open Sys2Proof

/-! ## Processors -/

theorem State.core_setCore_ne (s : State) {j k : CoreId} (c : Core) (h : j ≠ k) : (s.setCore k c).core j = s.core j := by
  cases k <;> cases j
  case vector.vector => exact sget_sput_ne _ _ _ _ (fun e => h (congrArg CoreId.vector e))
  case hart.hart => exact sget_sput_ne _ _ _ _ (fun e => h (congrArg CoreId.hart e))
  all_goals rfl

@[simp] theorem State.setCore_tly (s : State) (k : CoreId) (c : Core) : (s.setCore k c).tly = s.tly := by cases k <;> rfl
@[simp] theorem State.setCore_mem (s : State) (k : CoreId) (c : Core) : (s.setCore k c).mem = s.mem := by cases k <;> rfl

/-! ## The completion of a wait (R264, R265) -/

/-- The state with the parts cleared that the completion of a wait may change: registers, processors, and the completed waits. -/
def State.offWaits (s : State) : State := { s with regs := [], vectors := [], harts := [], tly := { s.tly with done := [] } }

/-- A wait that completes finds a processor that it does not hold, lets go on the processor that it holds, or joins the completed waits. -/
theorem State.finishWait_cases (s : State) (a : Agent) (st : Status) : s.finishWait a st = s
    ∨ (∃ k c, (s.core k).waitRd.isSome ∧ s.finishWait a st = (s.setCore k c).showHeld false k)
    ∨ s.finishWait a st = { s with tly := { s.tly with done := s.tly.done ++ [(a, st)] } } := by
  cases a with
  | vector c =>
    simp only [State.finishWait]
    split
    · exact .inl rfl
    · next h => exact .inr (.inl ⟨.vector c, _, by rw [h]; rfl, rfl⟩)
  | hart h =>
    simp only [State.finishWait]
    split
    · exact .inl rfl
    · next e => exact .inr (.inl ⟨.hart h, _, by rw [e]; rfl, rfl⟩)
  | taskSlot | plan | sampler | sequencer => exact .inr (.inr rfl)

@[simp] theorem State.finishWait_offWaits (s : State) (a : Agent) (st : Status) : (s.finishWait a st).offWaits = s.offWaits := by
  obtain h | ⟨k, c, -, h⟩ | h := s.finishWait_cases a st
  · rw [h]
  · rw [h]; cases k <;> rfl
  · rw [h]; rfl

/-- A processor that no wait holds stays as it is. -/
theorem State.finishWait_core {s : State} {k : CoreId} (hfree : (s.core k).waitRd = none) (a : Agent) (st : Status) :
    (s.finishWait a st).core k = s.core k := by
  obtain h | ⟨j, c, hheld, h⟩ | h := s.finishWait_cases a st
  · rw [h]
  · have hne : k ≠ j := by rintro rfl; simp [hfree] at hheld
    rw [h, ← s.core_setCore_ne c hne]
    cases j <;> rfl
  · rw [h]; rfl

/-! ## What an operation makes of a tally -/

/-- State t is s with value v at tally p: no other value, no queue and no memory has changed, and no processor that a wait does not hold. -/
structure Revalued (s t : State) (p v : Nat) : Prop where
  val : t.tallyVal p = v
  other : ∀ q, q ≠ p → t.tallyVal q = s.tallyVal q
  queues : t.tly.queues = s.tly.queues
  retry : t.tly.retry = s.tly.retry
  mem : t.mem = s.mem
  core : ∀ k, (s.core k).waitRd = none → t.core k = s.core k

/-- State t is s with tally p at value v and then its queue served (R257): no other tally and no memory has changed, and no processor that a wait does
not hold. -/
structure Served (s t : State) (p v : Nat) : Prop where
  val : t.tallyVal p = (serveQueue v (s.tallyQueue p)).1
  queue : t.tallyQueue p = (serveQueue v (s.tallyQueue p)).2.1
  mem : t.mem = s.mem
  other : ∀ q, q ≠ p → t.tallyVal q = s.tallyVal q ∧ t.tallyQueue q = s.tallyQueue q
  core : ∀ k, (s.core k).waitRd = none → t.core k = s.core k

section
variable {s t : State} {p v : Nat}

theorem Revalued.tallyQueue (h : Revalued s t p v) (q : Nat) : t.tallyQueue q = s.tallyQueue q := congrArg (sget [] · q) h.queues

/-- The completion of a wait changes no tally. -/
theorem Revalued.finishWait (h : Revalued s t p v) (a : Agent) (st : Status) : Revalued s (t.finishWait a st) p v := by
  have hoff := t.finishWait_offWaits a st
  have hvals : (t.finishWait a st).tly.vals = t.tly.vals := congrArg (·.tly.vals) hoff
  exact {
    val := (congrArg (sget 0 · p) hvals).trans h.val
    other := fun q hq => (congrArg (sget 0 · q) hvals).trans (h.other q hq)
    queues := Eq.trans (congrArg (·.tly.queues) hoff) h.queues
    retry := Eq.trans (congrArg (·.tly.retry) hoff) h.retry
    mem := Eq.trans (congrArg (·.mem) hoff) h.mem
    core := fun k hk => by
      have hcore := h.core k hk
      rw [State.finishWait_core (by rw [hcore, hk]), hcore] }

/-- R257: waiters are served one after the other, at a bank. -/
def State.serveWaiters (s : State) (bank : Nat) (d : List Waiter) : State :=
  d.foldl (fun u w => (u.finishWait w.agent .ok).bump .tlyWaits bank 1) s

theorem State.tallyServe_eq {s : State} {p v : Nat} {q d : List Waiter} (h : serveQueue (s.tallyVal p) (s.tallyQueue p) = (v, q, d)) :
    s.tallyServe p = ((s.setTallyVal p v).setTallyQueue p q).serveWaiters (bankOf p) d := by rw [State.tallyServe, h]; rfl

@[simp] theorem State.serveWaiters_offWaits (s : State) (bank : Nat) (d : List Waiter) : (s.serveWaiters bank d).offWaits = s.offWaits :=
  foldl_keeps State.offWaits (fun u (w : Waiter) => (u.finishWait w.agent .ok).bump .tlyWaits bank 1)
    (fun u w => u.finishWait_offWaits w.agent .ok) d s

theorem State.serveWaiters_core {k : CoreId} (bank : Nat) (d : List Waiter) (s : State) (hfree : (s.core k).waitRd = none) :
    (s.serveWaiters bank d).core k = s.core k := by
  induction d generalizing s with
  | nil => rfl
  | cons w d ih =>
    have hcore : ((s.finishWait w.agent .ok).bump .tlyWaits bank 1).core k = s.core k := State.finishWait_core hfree w.agent .ok
    exact (ih _ (by rw [hcore, hfree])).trans hcore

/-- R255, R257: the service of the queue of a tally that has a new value. -/
theorem Revalued.tallyServe (h : Revalued s t p v) : Served s (t.tallyServe p) p v := by
  generalize hr : serveQueue v (s.tallyQueue p) = r
  obtain ⟨v', q', d⟩ := r
  rw [State.tallyServe_eq (by rw [h.val, h.tallyQueue, hr])]
  generalize hw : (t.setTallyVal p v').setTallyQueue p q' = w
  have hoff := w.serveWaiters_offWaits (bankOf p) d
  have hvals : (w.serveWaiters (bankOf p) d).tly.vals = w.tly.vals := congrArg (·.tly.vals) hoff
  have hqueues : (w.serveWaiters (bankOf p) d).tly.queues = w.tly.queues := congrArg (·.tly.queues) hoff
  have hmem : (w.serveWaiters (bankOf p) d).mem = w.mem := congrArg (·.mem) hoff
  refine ⟨?val, ?queue, ?mem, fun q hq => ⟨?otherVal, ?otherQueue⟩, fun k hk => ?core⟩
  case val => rw [State.tallyVal, hvals, hr, ← hw]; exact sget_sput_same _ _ _ _
  case queue => rw [State.tallyQueue, hqueues, hr, ← hw]; exact sget_sput_same _ _ _ _
  case mem => rw [hmem, ← hw]; exact h.mem
  case otherVal => rw [State.tallyVal, hvals, ← h.other q hq, ← hw]; exact sget_sput_ne _ _ _ _ hq
  case otherQueue => rw [State.tallyQueue, hqueues, ← h.tallyQueue q, ← hw]; exact sget_sput_ne _ _ _ _ hq
  case core =>
    have hcore : w.core k = s.core k := by rw [← hw]; exact h.core k hk
    rw [State.serveWaiters_core _ _ _ (by rw [hcore, hk]), hcore]

end

/-! ## The operations, for an ID that the bank translates -/

@[simp] theorem State.cacheUse_tallyVal (s : State) (bank ctx vid e p : Nat) : (s.cacheUse bank ctx vid e).tallyVal p = s.tallyVal p := rfl

theorem State.cacheUse_revalued (s : State) (bank ctx vid e p v : Nat) : Revalued s ((s.cacheUse bank ctx vid e).setTallyVal p v) p v where
  val := sget_sput_same _ _ _ _
  other _ hq := sget_sput_ne _ _ _ _ hq
  queues := rfl
  retry := rfl
  mem := rfl
  core _ _ := rfl

section
variable {s : State} {bank ctx vid e : Nat} (hentry : s.tallyEntry bank ctx vid = .ok e)
include hentry

theorem State.tallyXlate_ok : s.tallyXlate bank ctx vid = (s.cacheUse bank ctx vid e, .ok e) := by rw [State.tallyXlate, hentry]

/-- R255: a SIGNAL that its tally can take adds n and serves the queue. -/
theorem State.tallySignal_adds {n : Nat} {foreign : Bool} (hn : 0 < n) (hallowed : foreign = true → bitAt e 21 = true)
    (hfits : s.tallyVal (bitsAt e 0 20) + n ≤ 0xFFFFFFFF) : ∃ t, s.tallySignal bank ctx vid n foreign = (t, .ok)
    ∧ Served s t (bitsAt e 0 20) (s.tallyVal (bitsAt e 0 20) + n) := by
  have hset := s.cacheUse_revalued bank ctx vid e (bitsAt e 0 20) (s.tallyVal (bitsAt e 0 20) + n)
  unfold State.tallySignal
  rw [State.tallyXlate_ok hentry]
  dsimp only
  rw [if_neg (Nat.ne_of_gt hn), if_neg (by simpa using hallowed), State.cacheUse_tallyVal, if_neg (Nat.not_lt.2 hfits)]
  refine ⟨_, rfl, Revalued.tallyServe ?_⟩
  split
  · exact { hset with }
  · exact { hset with }

/-- R255: a SIGNAL beyond 0xFFFFFFFF fails. -/
theorem State.tallySignal_overflow {n : Nat} {foreign : Bool} (hn : 0 < n) (hallowed : foreign = true → bitAt e 21 = true)
    (hover : 0xFFFFFFFF < s.tallyVal (bitsAt e 0 20) + n) : s.tallySignal bank ctx vid n foreign
      = ((s.cacheUse bank ctx vid e).bump .tlyErrors (bankOf (bitsAt e 0 20)) 1, .tallyOverflow) := by
  unfold State.tallySignal
  rw [State.tallyXlate_ok hentry]
  dsimp only
  rw [if_neg (Nat.ne_of_gt hn), if_neg (by simpa using hallowed)]
  exact if_pos hover

/-- R262: a signal made for another context is refused where the entry does not allow it. -/
theorem State.tallySignal_foreign {n : Nat} (hn : 0 < n) (hrefused : bitAt e 21 = false) : s.tallySignal bank ctx vid n true
    = (((s.cacheUse bank ctx vid e).bump .tlyRefused (bankOf (bitsAt e 0 20)) 1).bump .tlyErrors (bankOf (bitsAt e 0 20)) 1, .tallyForeign) := by
  unfold State.tallySignal
  rw [State.tallyXlate_ok hentry]
  dsimp only
  rw [if_neg (Nat.ne_of_gt hn), if_pos (by simp [hrefused])]

theorem State.tallySignal_zero (foreign : Bool) : s.tallySignal bank ctx vid 0 foreign = (s.cacheUse bank ctx vid e, .ok) := by
  rw [State.tallySignal, State.tallyXlate_ok hentry]
  rfl

/-- R255, R257: with no waiter queued, a WAIT that the value covers subtracts n and completes. -/
theorem State.tallyWait_completes {n : Nat} (a : Agent) (hqueue : s.tallyQueue (bitsAt e 0 20) = []) (hcovered : n ≤ s.tallyVal (bitsAt e 0 20)) :
    ∃ t, s.tallyWait bank ctx vid n a = (t, .ok true) ∧ Revalued s t (bitsAt e 0 20) (s.tallyVal (bitsAt e 0 20) - n) := by
  unfold State.tallyWait
  rw [State.tallyXlate_ok hentry]
  dsimp only
  split
  · next hn =>
    subst hn
    exact ⟨_, rfl, ⟨rfl, fun _ _ => rfl, rfl, rfl, rfl, fun _ _ => rfl⟩⟩
  · rw [if_pos ⟨List.isEmpty_iff.2 hqueue, hcovered⟩]
    exact ⟨_, rfl, { s.cacheUse_revalued bank ctx vid e _ _ with }⟩

theorem State.tallyWait_zero (a : Agent) : s.tallyWait bank ctx vid 0 a = (s.cacheUse bank ctx vid e, .ok true) := by
  rw [State.tallyWait, State.tallyXlate_ok hentry]
  rfl

/-- R257: a WAIT behind a waiter, or one that the value does not cover, joins the tail of the queue. -/
theorem State.tallyWait_queues {n : Nat} (a : Agent) (hn : 0 < n)
    (hwaits : s.tallyQueue (bitsAt e 0 20) ≠ [] ∨ s.tallyVal (bitsAt e 0 20) < n) : s.tallyWait bank ctx vid n a
    = ((s.cacheUse bank ctx vid e).setTallyQueue (bitsAt e 0 20) (s.tallyQueue (bitsAt e 0 20) ++ [⟨a, n⟩]), .ok false) := by
  unfold State.tallyWait
  rw [State.tallyXlate_ok hentry]
  dsimp only
  rw [if_neg (Nat.ne_of_gt hn)]
  refine if_neg ?_
  rintro ⟨hempty, hcovered⟩
  exact hwaits.elim (fun h => h (List.isEmpty_iff.1 hempty)) (Nat.not_lt.2 hcovered)

/-- R255: a TAKE that the value covers subtracts n. -/
theorem State.tallyTake_subtracts {n : Nat} (hcovered : n ≤ s.tallyVal (bitsAt e 0 20)) : s.tallyTake bank ctx vid n
    = ((s.cacheUse bank ctx vid e).setTallyVal (bitsAt e 0 20) (s.tallyVal (bitsAt e 0 20) - n), .ok) := by
  unfold State.tallyTake
  rw [State.tallyXlate_ok hentry]
  exact if_neg (Nat.not_lt.2 hcovered)

/-- R255: a TAKE of more than the value fails. -/
theorem State.tallyTake_underflow {n : Nat} (hshort : s.tallyVal (bitsAt e 0 20) < n) : s.tallyTake bank ctx vid n
    = ((s.cacheUse bank ctx vid e).bump .tlyErrors (bankOf (bitsAt e 0 20)) 1, .tallyUnderflow) := by
  unfold State.tallyTake
  rw [State.tallyXlate_ok hentry]
  exact if_pos hshort

/-- R255: SET makes the value v and serves the queue. -/
theorem State.tallySet_serves (v : Nat) : ∃ t, s.tallySet bank ctx vid v = (t, .ok) ∧ Served s t (bitsAt e 0 20) v := by
  unfold State.tallySet
  rw [State.tallyXlate_ok hentry]
  exact ⟨_, rfl, (s.cacheUse_revalued bank ctx vid e _ v).tallyServe⟩

theorem State.tallyRead_value : s.tallyRead bank ctx vid = (s.cacheUse bank ctx vid e, .ok (s.tallyVal (bitsAt e 0 20))) := by
  rw [State.tallyRead, State.tallyXlate_ok hentry]
  rfl

end

/-! ## The operations, for an ID that does not translate (R512) -/

section
variable {s : State} {bank ctx vid : Nat} {st : Status} (hfail : s.tallyEntry bank ctx vid = .error st)
include hfail

theorem State.tallyXlate_error : s.tallyXlate bank ctx vid = (s.bump .tlyErrors bank 1, .error st) := by rw [State.tallyXlate, hfail]

theorem State.tallySignal_error (n : Nat) (foreign : Bool) : s.tallySignal bank ctx vid n foreign = (s.bump .tlyErrors bank 1, st) := by
  rw [State.tallySignal, State.tallyXlate_error hfail]

theorem State.tallyWait_error (n : Nat) (a : Agent) : s.tallyWait bank ctx vid n a = (s.bump .tlyErrors bank 1, .error st) := by
  rw [State.tallyWait, State.tallyXlate_error hfail]

theorem State.tallyTake_error (n : Nat) : s.tallyTake bank ctx vid n = (s.bump .tlyErrors bank 1, st) := by
  rw [State.tallyTake, State.tallyXlate_error hfail]

theorem State.tallyRead_error : s.tallyRead bank ctx vid = (s.bump .tlyErrors bank 1, .error st) := by
  rw [State.tallyRead, State.tallyXlate_error hfail]

end

end Sys2Proof.Machine
end

section
/-!
PROOFS. O20: the commands TALLY_SIGNAL, TALLY_WAIT, TALLY_TAKE and TALLY_READ of an island's translating bank, and TLY_SET (R255 to R262, R512).
-/
namespace Sys2Proof.Machine
open Sys2Proof

/-! ## A command ends with the answer of its bank's operation -/

section
variable {s t : State} {isl ctx vid n : Nat}

theorem exec_tallySignal {foreign : Bool} {st : Status} (h : s.tallySignal (bankOfIsland isl) ctx vid n foreign = (t, st)) :
    exec (.tallySignal isl ctx vid n foreign) s = .next (t.replyAgent st 0) := by
  change execTallySignal isl ctx vid n foreign s = _
  rw [execTallySignal, h]

theorem exec_tallyWait_completed {a : Agent} (h : s.tallyWait (bankOfIsland isl) ctx vid n a = (t, .ok true)) :
    exec (.tallyWait isl ctx vid n a) s = .next ((t.finishWait a .ok).replyAgent .ok 1) := by
  change execTallyWait isl ctx vid n a s = _
  rw [execTallyWait, h]

theorem exec_tallyWait_queued {a : Agent} (h : s.tallyWait (bankOfIsland isl) ctx vid n a = (t, .ok false)) :
    exec (.tallyWait isl ctx vid n a) s = .next (t.replyAgent .ok 0) := by
  change execTallyWait isl ctx vid n a s = _
  rw [execTallyWait, h]

theorem exec_tallyWait_failed {a : Agent} {st : Status} (h : s.tallyWait (bankOfIsland isl) ctx vid n a = (t, .error st)) :
    exec (.tallyWait isl ctx vid n a) s = .next (t.replyAgent st 0) := by
  change execTallyWait isl ctx vid n a s = _
  rw [execTallyWait, h]

theorem exec_tallyTake {st : Status} (h : s.tallyTake (bankOfIsland isl) ctx vid n = (t, st)) :
    exec (.tallyTake isl ctx vid n) s = .next (t.replyAgent st 0) := by
  change execTallyTake isl ctx vid n s = _
  rw [execTallyTake, h]

theorem exec_tallyRead_value {v : Nat} (h : s.tallyRead (bankOfIsland isl) ctx vid = (t, .ok v)) :
    exec (.tallyRead isl ctx vid) s = .next (t.replyAgent .ok v) := by
  change execTallyRead isl ctx vid s = _
  rw [execTallyRead, h]

theorem exec_tallyRead_failed {st : Status} (h : s.tallyRead (bankOfIsland isl) ctx vid = (t, .error st)) :
    exec (.tallyRead isl ctx vid) s = .next (t.replyAgent st 0) := by
  change execTallyRead isl ctx vid s = _
  rw [execTallyRead, h]

theorem exec_tlySet {rdr : Reader} {st : Status} (hgate : s.tlyGate rdr true = .ok)
    (h : s.tallySet 0 (s.rd .tlyCmdctx rdr.num) (s.rd .tlyCmdvid rdr.num) (s.rd .tlyCmdarg rdr.num) = (t, st)) :
    exec (.tlySet rdr) s = .next (t.tlyEnd rdr st) := by
  change execTlySet rdr s = _
  simp only [execTlySet, hgate, h]

@[simp] theorem State.tlyEnd_tly (s : State) (rdr : Reader) (st : Status) : (s.tlyEnd rdr st).tly = s.tly := rfl

/-- R273: a command's end touches the issuer's copy of TLY_CMDSTATUS alone among the register fields. -/
theorem State.tlyEnd_rd_ne (s : State) (rdr : Reader) (st : Status) {q : Reg} {j : Nat} (h : q.key j ≠ Reg.tlyCmdstatus.key rdr.num) :
    (s.tlyEnd rdr st).rd q j = s.rd q j :=
  s.rd_wr_ne st.code h

theorem State.tlyEnd_rd (s : State) (rdr : Reader) (st : Status) {q : Reg} (h : q.ctorIdx ≠ Reg.tlyCmdstatus.ctorIdx) (j : Nat) :
    (s.tlyEnd rdr st).rd q j = s.rd q j :=
  s.rd_wr_reg rdr.num j st.code h

/-- R273: the command's status stands in the issuer's copy of TLY_CMDSTATUS. -/
theorem State.tlyEnd_ok_status (s : State) (rdr : Reader) : (s.tlyEnd rdr .ok).rd .tlyCmdstatus rdr.num = 0 :=
  s.rd_wr_same .tlyCmdstatus rdr.num Status.ok.code

end

/-! ## The obligation -/

/-- Settles O20. Each clause runs its command by the lemma about its bank's operation; the service of a queue touches the tally's own value and queue
alone, because the completion of a wait changes registers, processors and the completed waits only. -/
theorem tallyOperations : Obligations.TallyOperations := by
  unfold Obligations.TallyOperations
  refine ⟨?signal, ?overflow, ?waitCompletes, ?waitQueues, ?take, ?underflow, ?set, ?read, ?signalZero, ?takeZero, ?waitZero, ?untranslated, ?foreign⟩
  case signal =>
    intro s isl ctx vid n e foreign hentry hn hallowed hfits
    obtain ⟨t, hsignal, hserved⟩ := State.tallySignal_adds (eq_ok_of_toOption hentry) hn hallowed hfits
    exact ⟨_, exec_tallySignal hsignal, hserved.val, hserved.queue, rfl, hserved.mem, hserved.other⟩
  case overflow =>
    intro s isl ctx vid n e foreign hentry hn hallowed hover
    exact ⟨_, exec_tallySignal (State.tallySignal_overflow (eq_ok_of_toOption hentry) hn hallowed hover), rfl, rfl, rfl⟩
  case waitCompletes =>
    intro s isl ctx vid n e a hentry hqueue hcovered
    obtain ⟨t, hwait, hset⟩ := State.tallyWait_completes (eq_ok_of_toOption hentry) a hqueue hcovered
    have hdone := hset.finishWait a .ok
    exact ⟨_, exec_tallyWait_completed hwait, hdone.val, (hdone.tallyQueue _).trans hqueue, rfl, hdone.mem,
      fun p hp => ⟨hdone.other p hp, hdone.tallyQueue p⟩⟩
  case waitQueues =>
    intro s isl ctx vid n e a hentry hn hwaits
    exact ⟨_, exec_tallyWait_queued (State.tallyWait_queues (eq_ok_of_toOption hentry) a hn hwaits), sget_sput_same _ _ _ _, rfl, rfl, rfl,
      fun p hp => sget_sput_ne _ _ _ _ hp⟩
  case take =>
    intro s isl ctx vid n e hentry hcovered
    exact ⟨_, exec_tallyTake (State.tallyTake_subtracts (eq_ok_of_toOption hentry) hcovered), sget_sput_same _ _ _ _, rfl, rfl, rfl,
      fun p hp => sget_sput_ne _ _ _ _ hp⟩
  case underflow =>
    intro s isl ctx vid n e hentry hshort
    exact ⟨_, exec_tallyTake (State.tallyTake_underflow (eq_ok_of_toOption hentry) hshort), rfl, rfl, rfl⟩
  case set =>
    intro s e hgate hentry
    obtain ⟨t, hset, hserved⟩ := State.tallySet_serves (eq_ok_of_toOption hentry) (s.rd .tlyCmdarg 0)
    exact ⟨_, exec_tlySet hgate hset, hserved.val, hserved.queue, t.tlyEnd_ok_status (.session 0), rfl, hserved.mem, hserved.other⟩
  case read =>
    intro s isl ctx vid e hentry
    exact ⟨_, exec_tallyRead_value (State.tallyRead_value (eq_ok_of_toOption hentry)), rfl, rfl, rfl, rfl⟩
  case signalZero =>
    intro s isl ctx vid e hentry
    exact ⟨_, exec_tallySignal (State.tallySignal_zero (eq_ok_of_toOption hentry) false), rfl, rfl, rfl⟩
  case takeZero =>
    intro s isl ctx vid e hentry
    have hset := s.cacheUse_revalued (bankOfIsland isl) ctx vid e (bitsAt e 0 20) (s.tallyVal (bitsAt e 0 20))
    refine ⟨_, exec_tallyTake (State.tallyTake_subtracts (eq_ok_of_toOption hentry) (Nat.zero_le _)), rfl, fun p => ?_, rfl, rfl⟩
    by_cases hp : p = bitsAt e 0 20
    · rw [hp]; exact hset.val
    · exact hset.other p hp
  case waitZero =>
    intro s isl ctx vid e a hentry
    have hoff := (s.cacheUse (bankOfIsland isl) ctx vid e).finishWait_offWaits a .ok
    exact ⟨_, exec_tallyWait_completed (State.tallyWait_zero (eq_ok_of_toOption hentry) a), rfl, congrArg (·.tly.vals) hoff,
      congrArg (·.tly.queues) hoff, congrArg (·.mem) hoff⟩
  case untranslated =>
    intro s isl ctx vid n a st hfail
    exact ⟨_, exec_tallySignal (State.tallySignal_error hfail n false), exec_tallyWait_failed (State.tallyWait_error hfail n a),
      exec_tallyTake (State.tallyTake_error hfail n), exec_tallyRead_failed (State.tallyRead_error hfail), rfl, rfl,
      fun r i h => s.rd_bump_ne 1 (fun e => h (List.mem_singleton.2 e))⟩
  case foreign =>
    intro s isl ctx vid n e hentry hn hrefused
    refine ⟨_, exec_tallySignal (State.tallySignal_foreign (eq_ok_of_toOption hentry) hn hrefused), rfl, ?_, rfl, rfl⟩
    rw [State.replyAgent_rd, State.rd_bump_reg _ _ _ _ (by decide), State.rd_bump_same]
    rfl

end Sys2Proof.Machine
end

section
/-!
PROOFS. O21: the tally command registers (R261, R273), one lemma for each way that each command can go, and the retry of failed waits (R263).
-/
namespace Sys2Proof.Machine
open Sys2Proof

/-! ## Writes of translation entries -/

@[simp] theorem State.writeGranule_tly (s : State) (pa : Nat) (bs : List Byte) : (s.writeGranule pa bs).1.tly = s.tly := by
  unfold State.writeGranule
  dsimp only
  split
  · rfl
  · split
    · rfl
    · split <;> rfl

theorem State.memWrite_tly (s : State) (pa : Nat) (bs : List Byte) : (s.memWrite false pa bs).1.tly = s.tly := by
  rw [State.memWrite, if_neg (by decide)]
  split
  · rfl
  · unfold State.writeNear
    refine foldl_keeps (fun a : State × Status => a.1.tly) _ (fun a g => ?_) _ (s, Status.ok)
    exact a.1.writeGranule_tly _ _

@[simp] theorem State.writeTt_tly (s : State) (ctx vid e : Nat) : (s.writeTt ctx vid e).tly = s.tly := by
  rw [State.writeTt, stateOf, State.memWrite_tly]

section
variable {q : Reg} (hbytes : q.ctorIdx ≠ Reg.memWrbytes.ctorIdx) (hrmw : q.ctorIdx ≠ Reg.memRmw.ctorIdx) (j : Nat)
include hbytes hrmw

/-- A write of near memory changes no register field but the counts of its channels. -/
theorem State.memWrite_rd (s : State) (pa : Nat) (bs : List Byte) : (s.memWrite false pa bs).1.rd q j = s.rd q j := by
  rw [State.memWrite, if_neg (by decide)]
  split
  · rfl
  · exact s.writeNear_rd pa bs hbytes hrmw j

theorem State.writeTt_rd (s : State) (ctx vid e : Nat) : (s.writeTt ctx vid e).rd q j = s.rd q j := by
  rw [State.writeTt, stateOf, State.memWrite_rd hbytes hrmw]

end

/-! ## MAP and UNMAP (R261) -/

theorem tlyMapOne_queues (ctx vid foreign : Nat) (s : State) (pk : Nat × Nat) : (tlyMapOne ctx vid foreign s pk).tly.queues = s.tly.queues := by
  rw [tlyMapOne, State.writeTt_tly]

theorem tlyMapOne_free (ctx vid foreign : Nat) (s : State) (pk : Nat × Nat) (b : Nat) :
    (tlyMapOne ctx vid foreign s pk).rd .tlyFree b = s.rd .tlyFree b := by
  rw [tlyMapOne, State.writeTt_rd (by decide) (by decide)]
  rfl

@[simp] theorem State.tlyMapRange_queues (s : State) (ctx vid n bank foreign : Nat) :
    (s.tlyMapRange ctx vid n bank foreign).tly.queues = s.tly.queues :=
  foldl_keeps (fun u : State => u.tly.queues) (tlyMapOne ctx vid foreign) (tlyMapOne_queues ctx vid foreign) _ s

/-- R261: a MAP takes its count from its bank's free tallies. -/
theorem State.tlyMapRange_free (s : State) (ctx vid n foreign : Nat) {bank : Nat} (hfree : s.rd .tlyFree bank ≤ 2 ^ 18) :
    (s.tlyMapRange ctx vid n bank foreign).rd .tlyFree bank = s.rd .tlyFree bank - n := by
  have hwidth : s.rd .tlyFree bank - n < 2 ^ Reg.tlyFree.info.width := Nat.lt_of_le_of_lt (Nat.sub_le _ _) (Nat.lt_of_le_of_lt hfree (by decide))
  have hkept (l : List (Nat × Nat)) : (l.foldl (tlyMapOne ctx vid foreign) s).rd .tlyFree bank = s.rd .tlyFree bank :=
    foldl_keeps (fun u : State => u.rd .tlyFree bank) (tlyMapOne ctx vid foreign) (fun u pk => tlyMapOne_free ctx vid foreign u pk bank) l s
  unfold State.tlyMapRange
  dsimp only
  rw [State.rd_wr_same, hkept, Nat.mod_eq_of_lt hwidth]

/-- R261: an ID that UNMAP takes away gives its tally back to its bank, with value 0; no queue changes. -/
theorem State.tlyUnmapOne_frees {s : State} {ctx vid e : Nat} (hentry : s.ttEntry ctx vid = .ok e) :
    (s.tlyUnmapOne ctx vid).tallyVal (bitsAt e 0 20) = 0 ∧ sget none (s.tlyUnmapOne ctx vid).tly.owner (bitsAt e 0 20) = none
    ∧ (s.tlyUnmapOne ctx vid).tly.queues = s.tly.queues := by
  rw [State.tlyUnmapOne, hentry]
  simp only [State.tallyVal, State.writeTt_tly]
  exact ⟨sget_sdrop_same _ _ _, sget_sdrop_same _ _ _, rfl⟩

/-- R260, R261: one mapped ID with no waiter passes the checks of UNMAP. -/
theorem State.tlyUnmapCheck_one {s : State} {ctx vid e : Nat} (hentry : s.ttEntry ctx vid = .ok e) (hvid : vid < 65536)
    (hqueue : s.tallyQueue (bitsAt e 0 20) = []) : s.tlyUnmapCheck ctx vid 1 = .ok := by
  have hrange : ¬ 65536 < vid + 1 := by omega
  simp [State.tlyUnmapCheck, hentry, hqueue, hrange]

/-! ## How the commands go -/

section
variable {s : State} {rdr : Reader}

section
variable {st : Status} (hgate : s.tlyGate rdr false = st) (hfail : st ≠ .ok)
include hgate hfail

/-- R273: a command whose issuer or context fails a check ends with the check's status. -/
theorem exec_tlyMap_gate : exec (.tlyMap rdr) s = .next (s.tlyEnd rdr st) := by
  change execTlyMap rdr s = _
  simp only [execTlyMap, hgate]

theorem exec_tlyUnmap_gate : exec (.tlyUnmap rdr) s = .next (s.tlyEnd rdr st) := by
  change execTlyUnmap rdr s = _
  simp only [execTlyUnmap, hgate]

theorem exec_tlySignal_gate : exec (.tlySignal rdr) s = .next (s.tlyEnd rdr st) := by
  change execTlySignal rdr s = _
  simp only [execTlySignal, hgate]

theorem exec_tlyRead_gate : exec (.tlyRead rdr) s = .next (s.tlyEnd rdr st) := by
  change execTlyRead rdr s = _
  simp only [execTlyRead, hgate]

end

theorem exec_tlySet_gate {st : Status} (hgate : s.tlyGate rdr true = st) (hfail : st ≠ .ok) : exec (.tlySet rdr) s = .next (s.tlyEnd rdr st) := by
  change execTlySet rdr s = _
  simp only [execTlySet, hgate]

variable (hgate : s.tlyGate rdr false = .ok)
include hgate

theorem exec_tlySignal {t : State} {st : Status}
    (h : s.tallySignal 0 (s.rd .tlyCmdctx rdr.num) (s.rd .tlyCmdvid rdr.num) (s.rd .tlyCmdarg rdr.num) false = (t, st)) :
    exec (.tlySignal rdr) s = .next (t.tlyEnd rdr st) := by
  change execTlySignal rdr s = _
  simp only [execTlySignal, hgate, h]

theorem exec_tlyRead_value {t : State} {v : Nat} (h : s.tallyRead 0 (s.rd .tlyCmdctx rdr.num) (s.rd .tlyCmdvid rdr.num) = (t, .ok v)) :
    exec (.tlyRead rdr) s = .next ((t.wr .tlyCmdvalue rdr.num v).tlyEnd rdr .ok) := by
  change execTlyRead rdr s = _
  simp only [execTlyRead, hgate, h]

theorem exec_tlyMap_maps (hcheck : s.tlyMapCheck (s.rd .tlyCmdctx rdr.num) (s.rd .tlyCmdvid rdr.num) (s.rd .tlyCmdarg rdr.num)
    (s.rd .tlyCmdbank rdr.num) = .ok) : exec (.tlyMap rdr) s = .next ((s.tlyMapRange (s.rd .tlyCmdctx rdr.num) (s.rd .tlyCmdvid rdr.num)
      (s.rd .tlyCmdarg rdr.num) (s.mapBank (s.rd .tlyCmdbank rdr.num)) (s.rd .tlyCmdforeign rdr.num)).tlyEnd rdr .ok) := by
  change execTlyMap rdr s = _
  simp only [execTlyMap, hgate, hcheck]

theorem exec_tlyMap_fails {st : Status} (hcheck : s.tlyMapCheck (s.rd .tlyCmdctx rdr.num) (s.rd .tlyCmdvid rdr.num) (s.rd .tlyCmdarg rdr.num)
    (s.rd .tlyCmdbank rdr.num) = st) (hfail : st ≠ .ok) : exec (.tlyMap rdr) s = .next (s.tlyEnd rdr st) := by
  change execTlyMap rdr s = _
  simp only [execTlyMap, hgate, hcheck]

theorem exec_tlyUnmap_one (harg : s.rd .tlyCmdarg rdr.num = 1)
    (hcheck : s.tlyUnmapCheck (s.rd .tlyCmdctx rdr.num) (s.rd .tlyCmdvid rdr.num) 1 = .ok) :
    exec (.tlyUnmap rdr) s = .next ((s.tlyUnmapOne (s.rd .tlyCmdctx rdr.num) (s.rd .tlyCmdvid rdr.num)).tlyEnd rdr .ok) := by
  change execTlyUnmap rdr s = _
  simp only [execTlyUnmap, hgate, harg, hcheck]
  rfl

theorem exec_tlyUnmap_fails {st : Status}
    (hcheck : s.tlyUnmapCheck (s.rd .tlyCmdctx rdr.num) (s.rd .tlyCmdvid rdr.num) (s.rd .tlyCmdarg rdr.num) = st) (hfail : st ≠ .ok) :
    exec (.tlyUnmap rdr) s = .next (s.tlyEnd rdr st) := by
  change execTlyUnmap rdr s = _
  simp only [execTlyUnmap, hgate, hcheck]

end

/-! ## The retry of failed waits (R263) -/

/-- R263: the wait r is no longer kept. -/
def State.dropRetry (s : State) (r : RetryWait) : State := { s with tly := { s.tly with retry := s.tly.retry.erase r } }

theorem State.dropRetry_tallyEntry (s : State) (r : RetryWait) (bank ctx vid : Nat) :
    (s.dropRetry r).tallyEntry bank ctx vid = s.tallyEntry bank ctx vid := by
  have hlive : (s.dropRetry r).ctxLive ctx = s.ctxLive ctx := rfl
  have haddr : (s.dropRetry r).ttAddr ctx vid = s.ttAddr ctx vid := by simp only [State.ttAddr, State.rd_congr (s := s) (t := s.dropRetry r) rfl]
  have hread (pa : Nat) : (s.dropRetry r).memRead false pa 4 = s.memRead false pa 4 := State.memRead_congr rfl rfl false pa 4
  have hcaches : (s.dropRetry r).tly.caches = s.tly.caches := rfl
  simp only [State.tallyEntry, State.ttEntry, hlive, haddr, hread, hcaches]

theorem exec_tallyWaitRetry_again {s t : State} {r : RetryWait} (hkept : s.tly.retry = [r]) (hdue : r.since + 1000000 ≤ s.now)
    (hwait : (s.dropRetry r).tallyWait r.bank r.ctx r.vid r.n r.agent = (t, .ok true)) :
    exec (.tallyWaitRetry r.agent) s = .next (t.finishWait r.agent .ok) := by
  have hfind : s.tly.retry.find? (fun x => x.agent = r.agent) = some r := by simp [hkept]
  change execTallyWaitRetry r.agent s = _
  simp only [execTallyWaitRetry, hfind]
  rw [if_neg (Nat.not_lt.2 hdue)]
  change Host.Outcome.next ((s.dropRetry r).agentWait _ _ _ _ _ _) = _
  rw [State.agentWait, hwait]

theorem exec_tallyWaitRetry_early {s : State} {r : RetryWait} (hkept : s.tly.retry = [r]) (hearly : s.now < r.since + 1000000) (a : Agent) :
    exec (.tallyWaitRetry a) s = .next s := by
  change execTallyWaitRetry a s = _
  unfold execTallyWaitRetry
  split
  · rfl
  · next x hx =>
    obtain rfl : x = r := List.mem_singleton.1 (hkept ▸ List.mem_of_find?_eq_some hx)
    exact if_pos hearly

/-! ## The obligation -/

/-- Settles O21. A command that passes its checks ends with OK after what the bank's operation, MAP or UNMAP does; one that fails a check ends with
its status at once; a retry is the bank's WAIT in the state that keeps the wait no longer. -/
theorem tallyCommandsComplete : Obligations.TallyCommandsComplete := by
  unfold Obligations.TallyCommandsComplete
  refine ⟨?signal, ?read, ?map, ?unmap, ?retry, ?early, ?gate, ?setGate, ?mapCheck, ?unmapCheck⟩
  case signal =>
    intro s rdr e hgate hentry hn hfits
    obtain ⟨t, hsignal, hserved⟩ := State.tallySignal_adds (foreign := false) (eq_ok_of_toOption hentry) hn nofun hfits
    exact ⟨_, exec_tlySignal hgate hsignal, hserved.val, t.tlyEnd_ok_status rdr, rfl, hserved.mem⟩
  case read =>
    intro s rdr e hgate hentry hval
    refine ⟨_, exec_tlyRead_value hgate (State.tallyRead_value (eq_ok_of_toOption hentry)), ?_, State.tlyEnd_ok_status _ rdr, rfl, rfl, rfl,
      fun r i h => ?_⟩
    · rw [State.tlyEnd_rd _ _ _ (by decide), State.rd_wr_same]
      exact Nat.mod_eq_of_lt hval
    · simp only [List.mem_cons, List.not_mem_nil, or_false, not_or] at h
      obtain ⟨hvalue, hstatus⟩ := h
      rw [State.tlyEnd_rd_ne _ _ _ hstatus, State.rd_wr_ne _ _ hvalue]
      rfl
  case map =>
    rintro s rdr b hgate hcheck rfl hfree
    exact ⟨_, exec_tlyMap_maps hgate hcheck, (State.tlyEnd_rd _ _ _ (by decide) _).trans (State.tlyMapRange_free _ _ _ _ _ hfree),
      State.tlyEnd_ok_status _ rdr, rfl, by rw [State.tlyEnd_tly, State.tlyMapRange_queues]⟩
  case unmap =>
    intro s rdr e hgate harg hentry hvid hqueue
    have hok := eq_ok_of_toOption hentry
    obtain ⟨hval, howner, hqueues⟩ := State.tlyUnmapOne_frees hok
    refine ⟨_, exec_tlyUnmap_one hgate harg (State.tlyUnmapCheck_one hok hvid hqueue), ?_, ?_, State.tlyEnd_ok_status _ rdr, rfl, ?_⟩
    · rw [State.tallyVal, State.tlyEnd_tly]; exact hval
    · rw [State.tlyEnd_tly, howner]
    · rw [State.tlyEnd_tly, hqueues]
  case retry =>
    rintro s a r e hkept rfl hdue hentry hqueue hn hcovered
    obtain ⟨t, hwait, hset⟩ := State.tallyWait_completes ((s.dropRetry_tallyEntry r _ _ _).trans (eq_ok_of_toOption hentry)) r.agent hqueue hcovered
    have hdone := hset.finishWait r.agent .ok
    exact ⟨_, exec_tallyWaitRetry_again hkept hdue hwait, hdone.retry.trans (by simp [State.dropRetry, hkept]), hdone.val, hdone.mem⟩
  case early => exact fun s a r hkept hearly => ⟨s, exec_tallyWaitRetry_early hkept hearly a, rfl⟩
  case gate =>
    exact fun s rdr st hgate hfail => ⟨_, exec_tlyMap_gate hgate hfail, exec_tlyUnmap_gate hgate hfail, exec_tlySignal_gate hgate hfail,
      exec_tlyRead_gate hgate hfail, rfl⟩
  case setGate => exact fun s rdr st hgate hfail => ⟨_, exec_tlySet_gate hgate hfail, rfl⟩
  case mapCheck => exact fun s rdr st hgate hcheck hfail => ⟨_, exec_tlyMap_fails hgate hcheck hfail, rfl⟩
  case unmapCheck => exact fun s rdr st hgate hcheck hfail => ⟨_, exec_tlyUnmap_fails hgate hcheck hfail, rfl⟩

end Sys2Proof.Machine
end

section
/-!
PROOFS. O26: KC.TSIGNAL, KC.TWAIT, KC.TTAKE and KC.TREAD of a processor that is not held (R259, R264, R265), and the withdrawal of a hart's wait.
-/
namespace Sys2Proof.Machine
open Sys2Proof

/-! ## Going on after a tally instruction -/

/-- R264: the registers of a processor that goes on at the next instruction, one cycle later, with a result in rd. -/
def Core.wentOn (c : Core) (rd v : Nat) : Core := { c with pc := c.pc + 4, cycles := c.cycles + 1 }.writeX rd v

@[simp] theorem Core.writeX_cycles (c : Core) (r v : Nat) : (c.writeX r v).cycles = c.cycles := by
  unfold Core.writeX
  split <;> rfl

@[simp] theorem Core.wentOn_cycles (c : Core) (rd v : Nat) : (c.wentOn rd v).cycles = c.cycles + 1 := Core.writeX_cycles _ _ _

@[simp] theorem State.instrResult_core (s : State) (k : CoreId) (rd v : Nat) : (s.instrResult k rd v).core k = (s.core k).wentOn rd v :=
  s.core_setCore_same k _

@[simp] theorem State.instrResult_tly (s : State) (k : CoreId) (rd v : Nat) : (s.instrResult k rd v).tly = s.tly := s.setCore_tly k _

@[simp] theorem State.instrResult_mem (s : State) (k : CoreId) (rd v : Nat) : (s.instrResult k rd v).mem = s.mem := s.setCore_mem k _

/-- What an instruction with a result shows, after an operation that leaves its processor alone. -/
theorem State.instrResult_shows {s t : State} {k : CoreId} (hcore : t.core k = s.core k) (rd v : Nat) :
    (t.instrResult k rd v).core k = (s.core k).wentOn rd v ∧ (t.instrResult k rd v).tly = t.tly ∧ (t.instrResult k rd v).mem = t.mem :=
  ⟨by rw [State.instrResult_core, hcore], State.instrResult_tly .., State.instrResult_mem ..⟩

/-- What it shows after an operation that changes no tally. -/
theorem State.instrResult_keeps {s t : State} {k : CoreId} (hcore : t.core k = s.core k) (htly : t.tly = { s.tly with caches := t.tly.caches })
    (hmem : t.mem = s.mem) (rd v : Nat) : (t.instrResult k rd v).core k = (s.core k).wentOn rd v
    ∧ (t.instrResult k rd v).tly = { s.tly with caches := (t.instrResult k rd v).tly.caches } ∧ (t.instrResult k rd v).mem = s.mem := by
  obtain ⟨hcore', htly', hmem'⟩ := State.instrResult_shows hcore rd v
  exact ⟨hcore', by rw [htly']; exact htly, hmem'.trans hmem⟩

theorem State.instrResult_tallyVal (s : State) (k : CoreId) (rd v p : Nat) : (s.instrResult k rd v).tallyVal p = s.tallyVal p := by
  rw [State.tallyVal, State.instrResult_tly]
  rfl

theorem State.instrResult_tallyQueue (s : State) (k : CoreId) (rd v p : Nat) : (s.instrResult k rd v).tallyQueue p = s.tallyQueue p := by
  rw [State.tallyQueue, State.instrResult_tly]
  rfl

/-- What it shows after an operation that gives a tally a new value. -/
theorem Revalued.instrResult {s t : State} {p v : Nat} (h : Revalued s t p v) {k : CoreId} (hfree : (s.core k).waitRd = none) (rd w : Nat) :
    (t.instrResult k rd w).tallyVal p = v ∧ (∀ q, q ≠ p → (t.instrResult k rd w).tallyVal q = s.tallyVal q)
    ∧ (t.instrResult k rd w).tly.queues = s.tly.queues ∧ (t.instrResult k rd w).core k = (s.core k).wentOn rd w
    ∧ (t.instrResult k rd w).mem = s.mem := by
  obtain ⟨hcore, htly, hmem⟩ := State.instrResult_shows (h.core k hfree) rd w
  exact ⟨(State.instrResult_tallyVal ..).trans h.val, fun q hq => (State.instrResult_tallyVal ..).trans (h.other q hq), by rw [htly, h.queues], hcore,
    hmem.trans h.mem⟩

/-- What it shows after an operation that serves a tally's queue. -/
theorem Served.instrResult {s t : State} {p v : Nat} (h : Served s t p v) {k : CoreId} (hfree : (s.core k).waitRd = none) (rd w : Nat) :
    (t.instrResult k rd w).tallyVal p = (serveQueue v (s.tallyQueue p)).1 ∧ (t.instrResult k rd w).tallyQueue p = (serveQueue v (s.tallyQueue p)).2.1
    ∧ (t.instrResult k rd w).core k = (s.core k).wentOn rd w ∧ (t.instrResult k rd w).mem = s.mem
    ∧ ∀ q, q ≠ p → (t.instrResult k rd w).tallyVal q = s.tallyVal q ∧ (t.instrResult k rd w).tallyQueue q = s.tallyQueue q := by
  obtain ⟨hcore, -, hmem⟩ := State.instrResult_shows (h.core k hfree) rd w
  simp only [State.instrResult_tallyVal, State.instrResult_tallyQueue]
  exact ⟨h.val, h.queue, hcore, hmem.trans h.mem, h.other⟩

/-! ## Held by a wait (R265) -/

/-- R265: the state in which a KC.TWAIT into rd holds the processor. -/
def State.heldAt (t : State) (k : CoreId) (rd : Nat) : State := (t.setCore k { t.core k with waitRd := some rd, waitAt := t.now }).showHeld true k

@[simp] theorem State.heldAt_core (t : State) (k : CoreId) (rd : Nat) :
    (t.heldAt k rd).core k = { t.core k with waitRd := some rd, waitAt := t.now } := by
  cases k <;> exact sget_sput_same _ _ _ _

@[simp] theorem State.heldAt_tly (t : State) (k : CoreId) (rd : Nat) : (t.heldAt k rd).tly = t.tly := by cases k <;> rfl

@[simp] theorem State.heldAt_mem (t : State) (k : CoreId) (rd : Nat) : (t.heldAt k rd).mem = t.mem := by cases k <;> rfl

/-- A vector unit that is held shows WAITING. -/
theorem State.heldAt_cluRun (t : State) (n rd : Nat) : (t.heldAt (.vector n) rd).rd .cluRun n = 3 := State.rd_wr_same _ .cluRun n 3

/-! ## A tally instruction of a processor that is not held -/

/-- R85: what leaves a vector unit at no more than 262,144 cycles is done. -/
theorem State.vecWithin_of_mayRun {s u : State} {n : Nat} (x : Tile) (h : u.mayRun (.vector n) 0 = true) : s.vecWithin n x u = u :=
  if_neg (Nat.not_lt.2 (of_decide_eq_true h))

/-- R109: a vector unit that runs for a context has its tile. -/
theorem State.vecTile_of_coreCtx {s : State} {n ctx : Nat} (h : s.coreCtx (.vector n) = some ctx) : ∃ x, s.vecTile n = some x ∧ x.ctx = ctx :=
  Option.map_eq_some_iff.1 h

section
variable {s u t : State} {k : CoreId} {rs1 rs2 ctx : Nat} {f : Nat → Nat → Nat → State} (hctx : s.coreCtx k = some ctx)
  (hfree : (s.core k).waitRd = none)
include hctx hfree

/-- R85, R264: an instruction that leaves the processor within its cycles is done. -/
theorem State.tallyInstr_within (hrun : u.mayRun k 0 = true) (hf : f ctx ((s.core k).readX rs1 % 65536) ((s.core k).readX rs2 % 2 ^ 32) = u) :
    s.tallyInstr k rs1 rs2 f = u := by
  unfold State.tallyInstr
  rw [hctx]
  simp only [hfree, Option.isSome_none, Bool.false_eq_true, if_false, hf]
  cases k with
  | hart h => rfl
  | vector n =>
    obtain ⟨x, hx, -⟩ := State.vecTile_of_coreCtx hctx
    simp only [hx]
    exact State.vecWithin_of_mayRun x hrun

/-- An instruction with a result goes on where one cycle more is allowed. -/
theorem State.tallyInstr_result {rd v : Nat} (hrun : s.mayRun k 1 = true) (hcore : t.core k = s.core k)
    (hf : f ctx ((s.core k).readX rs1 % 65536) ((s.core k).readX rs2 % 2 ^ 32) = t.instrResult k rd v) :
    s.tallyInstr k rs1 rs2 f = t.instrResult k rd v := by
  refine State.tallyInstr_within hctx hfree ?_ hf
  cases k with
  | hart h => rfl
  | vector n =>
    refine decide_eq_true ?_
    rw [State.instrResult_core, hcore, Core.wentOn_cycles]
    exact of_decide_eq_true hrun

section
variable {rd : Nat} {st : Status} (hrun : s.mayRun k 1 = true)
include hrun

theorem exec_kcTsignal (hopen : s.signalHeld k = false)
    (h : s.tallySignal (coreBank k) ctx ((s.core k).readX rs1 % 65536) ((s.core k).readX rs2 % 2 ^ 32) false = (t, st))
    (hcore : t.core k = s.core k) :
    exec (.kcTsignal k rd rs1 rs2) s = .next (t.instrResult k rd st.code) :=
  congrArg Host.Outcome.next (State.tallyInstr_result hctx hfree hrun hcore (by simp only [hopen, Bool.false_eq_true, if_false, h]))

theorem exec_kcTwait_completes
    (h : s.tallyWait (coreBank k) ctx ((s.core k).readX rs1 % 65536) ((s.core k).readX rs2 % 2 ^ 32) (coreAgent k) = (t, .ok true))
    (hcore : t.core k = s.core k) :
    exec (.kcTwait k rd rs1 rs2) s = .next (t.instrResult k rd 0) :=
  congrArg Host.Outcome.next (State.tallyInstr_result hctx hfree hrun hcore (by simp only [h]))

theorem exec_kcTwait_fails
    (h : s.tallyWait (coreBank k) ctx ((s.core k).readX rs1 % 65536) ((s.core k).readX rs2 % 2 ^ 32) (coreAgent k) = (t, .error st))
    (hcore : t.core k = s.core k) :
    exec (.kcTwait k rd rs1 rs2) s = .next (t.instrResult k rd st.code) :=
  congrArg Host.Outcome.next (State.tallyInstr_result hctx hfree hrun hcore (by simp only [h]))

theorem exec_kcTtake (h : s.tallyTake (coreBank k) ctx ((s.core k).readX rs1 % 65536) ((s.core k).readX rs2 % 2 ^ 32) = (t, st))
    (hcore : t.core k = s.core k) :
    exec (.kcTtake k rd rs1 rs2) s = .next (t.instrResult k rd st.code) :=
  congrArg Host.Outcome.next (State.tallyInstr_result hctx hfree hrun hcore (by simp only [h]))

theorem exec_kcTread_value {v : Nat} (h : s.tallyRead (coreBank k) ctx ((s.core k).readX rs1 % 65536) = (t, .ok v))
    (hcore : t.core k = s.core k) :
    exec (.kcTread k rd rs1) s = .next (t.instrResult k rd v) :=
  congrArg Host.Outcome.next (State.tallyInstr_result hctx hfree hrun hcore (by simp only [h]))

theorem exec_kcTread_fails (h : s.tallyRead (coreBank k) ctx ((s.core k).readX rs1 % 65536) = (t, .error st))
    (hcore : t.core k = s.core k) :
    exec (.kcTread k rd rs1) s = .next (t.instrResult k rd (2 ^ 63 + st.code)) :=
  congrArg Host.Outcome.next (State.tallyInstr_result hctx hfree hrun hcore (by simp only [h]))

end

/-- R265: a WAIT that is queued holds the processor. -/
theorem exec_kcTwait_holds {rd : Nat} (hrun : s.mayRun k 0 = true)
    (h : s.tallyWait (coreBank k) ctx ((s.core k).readX rs1 % 65536) ((s.core k).readX rs2 % 2 ^ 32) (coreAgent k) = (t, .ok false))
    (hcore : t.core k = s.core k) :
    exec (.kcTwait k rd rs1 rs2) s = .next (t.heldAt k rd) := by
  refine congrArg Host.Outcome.next (State.tallyInstr_within hctx hfree ?_ (by simp only [h]; rfl))
  cases k with
  | hart h => rfl
  | vector n =>
    refine decide_eq_true ?_
    rw [State.heldAt_core, hcore]
    exact of_decide_eq_true hrun

end

/-- R29, R259: with tile outputs still to write, the KC.TSIGNAL of a vector unit does not start. -/
theorem exec_kcTsignal_waits {s : State} {n : Nat} (rd rs1 rs2 : Nat) (hdrains : (s.cluster n).draining = true)
    (hrun : s.mayRun (.vector n) 0 = true) : exec (.kcTsignal (.vector n) rd rs1 rs2) s = .next s := by
  refine congrArg Host.Outcome.next ?_
  cases hctx : s.coreCtx (.vector n) with
  | none => simp only [State.tallyInstr, hctx]
  | some ctx =>
    cases hheld : (s.core (.vector n)).waitRd with
    | some _ => simp only [State.tallyInstr, hctx, hheld, Option.isSome_some, if_true]
    | none => exact State.tallyInstr_within hctx hheld hrun (if_pos hdrains)

/-! ## The withdrawal of a hart's wait (R265) -/

theorem exec_twaitWithdraw {s : State} {h : Nat} (cause handler : Nat) (hrun : (s.core (.hart h)).running = true)
    (hheld : (s.core (.hart h)).waitRd.isSome = true) : exec (.twaitWithdraw h cause handler) s
      = .next ((s.withdrawWait (.hart h)).setCore (.hart h) { s.core (.hart h) with
        waitRd := none, trap := some (cause, (s.core (.hart h)).pc, 0), pc := handler % 2 ^ 64, interrupt := false }) :=
  if_pos ⟨hrun, hheld⟩

/-- An agent whose wait is withdrawn stands in no queue. -/
theorem State.withdrawWait_queues (s : State) (a : Agent) : (s.withdrawWait a).tly.queues.all (fun q => q.2.all (fun w => w.agent ≠ a)) = true := by
  simp only [List.all_eq_true]
  intro q hq w hw
  obtain ⟨x, -, hx⟩ := List.mem_filterMap.1 hq
  dsimp only at hx
  split at hx
  · exact nomatch hx
  · obtain rfl := Option.some.inj hx
    exact (List.mem_filter.1 hw).2

/-! ## The obligation -/

/-- Settles O26. Each instruction is the operation of the processor's bank; serving a queue lets go on other processors only, so the processor goes on
from the registers that it had. -/
theorem tallyInstructionsComplete : Obligations.TallyInstructionsComplete := by
  unfold Obligations.TallyInstructionsComplete
  refine ⟨?signal, ?wait, ?held, ?take, ?read, ?withdraw, ?signalFails, ?waitFails, ?takeFails, ?readFails, ?underflow, ?overflow, ?waits⟩
  case signal =>
    intro s k rd rs1 rs2 ctx e hctx hfree hentry hopen hrun hn hfits
    obtain ⟨t, hsignal, hserved⟩ := State.tallySignal_adds (foreign := false) (eq_ok_of_toOption hentry) hn nofun hfits
    exact ⟨_, exec_kcTsignal hctx hfree hrun hopen hsignal (hserved.core k hfree), hserved.instrResult hfree rd _⟩
  case wait =>
    intro s k rd rs1 rs2 ctx e hctx hfree hentry hrun hqueue hcovered
    obtain ⟨t, hwait, hset⟩ := State.tallyWait_completes (eq_ok_of_toOption hentry) (coreAgent k) hqueue hcovered
    obtain ⟨hval, hother, hqueues, hcore, hmem⟩ := hset.instrResult hfree rd 0
    exact ⟨_, exec_kcTwait_completes hctx hfree hrun hwait (hset.core k hfree), hval, hqueues, hcore, hmem, hother⟩
  case held =>
    intro s k rd rs1 rs2 ctx e hctx hfree hentry hrun hn hwaits
    refine ⟨_, exec_kcTwait_holds hctx hfree hrun (State.tallyWait_queues (eq_ok_of_toOption hentry) (coreAgent k) hn hwaits) rfl, ?_, ?_, ?_, ?_, ?_,
      fun p hp => ?_⟩
    · rw [State.heldAt_core]; rfl
    · rw [State.tallyQueue, State.heldAt_tly]; exact sget_sput_same _ _ _ _
    · rw [State.heldAt_tly]; rfl
    · rintro n rfl -; exact State.heldAt_cluRun _ n rd
    · rw [State.heldAt_mem]; rfl
    · rw [State.tallyQueue, State.heldAt_tly]; exact sget_sput_ne _ _ _ _ hp
  case take =>
    intro s k rd rs1 rs2 ctx e hctx hfree hentry hrun hcovered
    have hset := s.cacheUse_revalued (coreBank k) ctx ((s.core k).readX rs1 % 65536) e (bitsAt e 0 20)
      (s.tallyVal (bitsAt e 0 20) - (s.core k).readX rs2 % 2 ^ 32)
    obtain ⟨hval, hother, hqueues, hcore, hmem⟩ := hset.instrResult hfree rd Status.ok.code
    exact ⟨_, exec_kcTtake hctx hfree hrun (State.tallyTake_subtracts (eq_ok_of_toOption hentry) hcovered) rfl, hval, hcore, hqueues, hmem, hother⟩
  case read =>
    intro s k rd rs1 ctx e hctx hfree hentry hrun
    obtain ⟨hcore, htly, -⟩ := State.instrResult_keeps (s := s) (t := s.cacheUse (coreBank k) ctx ((s.core k).readX rs1 % 65536) e) (k := k) rfl rfl rfl
      rd (s.tallyVal (bitsAt e 0 20))
    exact ⟨_, exec_kcTread_value hctx hfree hrun (State.tallyRead_value (eq_ok_of_toOption hentry)) rfl, hcore, htly, by cases k <;> rfl⟩
  case withdraw =>
    intro s h cause handler hrun hheld hhandler
    refine ⟨_, exec_twaitWithdraw cause handler hrun hheld, ?_, s.withdrawWait_queues (.hart h), rfl, rfl⟩
    rw [State.core_setCore_same, Nat.mod_eq_of_lt hhandler]
  case signalFails =>
    rintro s k rd rs1 rs2 ctx st hctx hfree hentry rfl hrun hopen
    exact ⟨_, exec_kcTsignal hctx hfree hrun hopen (State.tallySignal_error (eq_error_of_toOption hentry) _ false) rfl,
      State.instrResult_shows rfl rd _⟩
  case waitFails =>
    rintro s k rd rs1 rs2 ctx st hctx hfree hentry rfl hrun
    exact ⟨_, exec_kcTwait_fails hctx hfree hrun (State.tallyWait_error (eq_error_of_toOption hentry) _ (coreAgent k)) rfl,
      State.instrResult_shows rfl rd _⟩
  case takeFails =>
    rintro s k rd rs1 rs2 ctx st hctx hfree hentry rfl hrun
    exact ⟨_, exec_kcTtake hctx hfree hrun (State.tallyTake_error (eq_error_of_toOption hentry) _) rfl,
      State.instrResult_shows rfl rd _⟩
  case readFails =>
    rintro s k rd rs1 ctx st hctx hfree hentry rfl hrun
    exact ⟨_, exec_kcTread_fails hctx hfree hrun (State.tallyRead_error (eq_error_of_toOption hentry)) rfl,
      State.instrResult_shows rfl rd _⟩
  case underflow =>
    intro s k rd rs1 rs2 ctx e hctx hfree hentry hrun hshort
    exact ⟨_, exec_kcTtake hctx hfree hrun (State.tallyTake_underflow (eq_ok_of_toOption hentry) hshort) rfl,
      State.instrResult_keeps rfl rfl rfl rd _⟩
  case overflow =>
    intro s k rd rs1 rs2 ctx e hctx hfree hentry hopen hrun hover hn
    exact ⟨_, exec_kcTsignal hctx hfree hrun hopen (State.tallySignal_overflow (eq_ok_of_toOption hentry) hn nofun hover) rfl,
      State.instrResult_keeps rfl rfl rfl rd _⟩
  case waits => exact fun s n rd rs1 rs2 hdrains hrun => ⟨s, exec_kcTsignal_waits rd rs1 rs2 hdrains hrun, rfl⟩

end Sys2Proof.Machine
end
